-- ==== Sys2Proof/Word.lean ====
section
/-!
DEFINITION. The word types of the module: every multi-byte value is little-endian (R12) and every register is 32 or 64
bits wide (R16).
-/

namespace Sys2Proof

/-- One byte of memory. -/
abbrev Byte := BitVec 8

/-- A 32-bit register or FP32 pattern. -/
abbrev Word32 := BitVec 32

/-- A 64-bit register or scalar register of a core. -/
abbrev Word64 := BitVec 64

/-- A 128-bit sequencer command word (R138). -/
abbrev Word128 := BitVec 128

end Sys2Proof
end

