-- ==== Sys2Proof/Syntax.lean ====
section
/-!
DEFINITION. The commands of the block: one constructor per row of the opcode table, in the table's order, with the
operands the row's rules give it: which die, core, engine, port or slot it concerns, what a message carries, and what the
environment shows at an event (a parity error, a sample, a reply of the twin).
-/

namespace Sys2Proof

/-- A die of the module (Table 0.2). -/
inductive Die where
  /-- C-die 0 to 63. -/
  | c (n : Fin 64)
  /-- M-die 0 to 11. -/
  | m (n : Fin 12)
  /-- X0 to X3. -/
  | x (n : Fin 4)
deriving DecidableEq, Repr

/-- The die code of the register space (Table 17.1). -/
def Die.code : Die → Nat
  | .c n => n.val
  | .m n => 0x40 + n.val
  | .x n => 0x50 + n.val

/-- A core: its C-die and its number there (R4). -/
structure CoreId where
  die : Fin 64
  core : Fin 16
deriving DecidableEq, Repr

/-- The core's number in the module, 16 per C-die. -/
def CoreId.ix (c : CoreId) : Nat := c.die.val * 16 + c.core.val

/-- A parity error met while a command is fetched or its registers are read (Table 5.8, causes 0x0A and 0x0B). -/
inductive Parity where
  | none | command | scalar
deriving DecidableEq, Repr

/-- Who makes a register access or sends a message, with the half-lease epoch a control core's write carries (R391). -/
inductive Writer where
  /-- A control core: its half (east or not), its number 0 to 15, and the epoch its write carries. -/
  | cc (east : Bool) (core : Fin 16) (epoch : BitVec 64)
  /-- The management protocol, served by the half in charge (R447). -/
  | mgmt
  /-- A REG_WR flit of the twin module of the board (R344). -/
  | twin
  /-- A REG_WR flit of another node (R344). -/
  | node (n : BitVec 8)
  /-- A unit of the module itself on the die with this code (a Press, Rennet, Vat or Teasel engine; R181). -/
  | unit (d : Die)
deriving DecidableEq, Repr

/-- Where a register access goes: an offset of the register space, of this module or, `far`, of the twin (R163). -/
structure RegPlace where
  far : Bool
  off : BitVec 32
deriving DecidableEq, Repr

/-- Width of a register access in bytes (R16). -/
inductive Width where
  | w4
  | w8
  | other (n : Nat)
deriving DecidableEq, Repr

/-- The width of a 64-bit or a 32-bit register. -/
def Width.of (wide : Bool) : Width := if wide then .w8 else .w4

/-- Bytes of a width. -/
def Width.bytes : Width → Nat
  | .w4 => 4
  | .w8 => 8
  | .other n => n

/-- A handshake channel whose watchdog can expire (R99, R131, R160, R189, R249, R279, R318, R360). -/
inductive Chan where
  | arrFeed (c : CoreId) (a : Fin 4) (row : Fin 4096)
  | arrLoad (c : CoreId) (a : Fin 4) (row : Fin 4096)
  | arrDrain (c : CoreId) (a : Fin 4) (row : Fin 4096)
  | vecRead (c : CoreId) (row : Fin 4096) (op : Fin 16)
  | vecWrite (c : CoreId) (row : Fin 4096) (op : Fin 16)
  | seqFetch (c : CoreId)
  | teasel (c : CoreId)
  | dma (d : Die) (ch : Fin 32)
  | rennet (m : Fin 12) (e : Fin 4)
  | press (m : Fin 12) (e : Fin 8)
  | vat (x : Fin 4)
deriving DecidableEq, Repr

/-- The die whose handshake watchdog setting a channel uses (R99, R392). -/
def Chan.die : Chan → Die
  | .arrFeed c _ _ | .arrLoad c _ _ | .arrDrain c _ _ | .vecRead c _ _ | .vecWrite c _ _ | .seqFetch c | .teasel c => .c c.die
  | .dma d _ => d
  | .rennet m _ => .m m
  | .press m _ => .m m
  | .vat x => .x x

/-- What a local tick of a die finds, beyond what the state already shows. What waits (R94, R113, R233, Table 9.11,
Table 10.8, R400): `arrHold` a load beat that the feeder has sent and the array holds, `teaBank` a capture of an array that waits
on scratchpad banks, `channel` a handshake that was requested before the tick and has not been acknowledged since (R99). What the hardware meets by
itself: `reread` the next `n` reads of a block that the M-die serves mismatch (R173), `nodeParity` a parity error in the node state of
a semaphore or context, `itemLost` a Hoop item that cannot be delivered (Table 7.8), `fec` a codeword of a port with the errors given
(R324). -/
inductive Stall where
  | arrFeed (core : Fin 16) (a : Fin 4)
  | arrDrain (core : Fin 16) (a : Fin 4)
  | arrHold (core : Fin 16) (a : Fin 4)
  | teaBank (core : Fin 16) (a : Fin 4)
  | channel (ch : Chan)
  | vecPort (core : Fin 16)
  | rennetMem (e : Fin 4)
  | pressMem (e : Fin 8)
  | guard
  | reread (addr : BitVec 44) (n : Fin 5)
  | nodeParity (index : Fin 4096)
  | itemLost (index : Fin 4096)
  | fec (p : Fin 9) (data : List (BitVec 8)) (noise : List (Fin 544 × BitVec 10))
deriving DecidableEq, Repr

/-- What the twin answers to a management access to its memory (R163, R343, R447). -/
inductive Remote where
  /-- The access touches only this module. -/
  | none
  /-- The twin delivered the source bytes and accepted the writes. -/
  | ok (data : List (BitVec 8))
  /-- The twin delivered a read error. -/
  | readError
  /-- The twin refused the write. -/
  | writeRefused
deriving DecidableEq, Repr

/-- How a Vetch frame reaches this module over the synchronisation lane of a port (Table 11.4): its sequence, the ACK
and NAK it carries, and its nodes. -/
structure FRx where
  port : Fin 36
  seq : BitVec 8
  ack : Option (BitVec 8)
  nak : Bool
  dst : BitVec 8
  src : BitVec 8
deriving DecidableEq, Repr

/-- Where a Vetch message comes from: a unit of this module, or a frame from another module. -/
inductive VSrc where
  | here
  | lane (r : FRx)
deriving DecidableEq, Repr

/-- The body of a Vetch frame (Tables 7.1 and 11.5). -/
inductive Frame where
  | signal (die : BitVec 8) (sem : Fin 4096) (n : BitVec 16)
  | arrive (ctx : Fin 256) (gen : BitVec 32) (ready : BitVec 16) (flags : BitVec 8)
  | complete (ctx : Fin 256) (gen : BitVec 32)
  | advance (epoch : BitVec 64) (commits aborts : BitVec 16) (flags : BitVec 8)
  | abort (slot : Fin 16) (inst : BitVec 32)
deriving DecidableEq, Repr

/-- The header of a flit that arrives on a port (Table 11.2): sequence, acknowledgement, hops, nodes and tag. -/
structure Rx where
  port : Fin 36
  seq : BitVec 32
  ack : Option (BitVec 32)
  hops : Fin 16
  dst : BitVec 8
  src : BitVec 8
  tag : BitVec 12
deriving DecidableEq, Repr

/-- The payload of COLL_COUNT (R347). -/
structure CollCount where
  inst : BitVec 64
  count : BitVec 64
  op : BitVec 8
  fmt : BitVec 8
  ofmt : BitVec 8
  flags : BitVec 8
  p : BitVec 16
  n : BitVec 64
deriving DecidableEq, Repr

/-- A parity error of an array (Table 3.9, causes 0x01 to 0x03). -/
inductive ArrParity where
  | bank | store | column
deriving DecidableEq, Repr

/-- A parity error of a vector engine (Table 4.9, causes 0x01 to 0x03). -/
inductive VecParity where
  | cache | lane | reduction
deriving DecidableEq, Repr

/-- A parity error of a Rennet engine (Table 9.11, causes 0x01 and 0x07). -/
inductive RnParity where
  | block | cells
deriving DecidableEq, Repr

/-- An SRAM access: a read of bytes, or a write. -/
inductive SramAcc where
  | read (n : Fin 65)
  | write (data : List (BitVec 8))
deriving DecidableEq, Repr

/-- Boundary-scan instructions (R434, R464). -/
inductive ScanIr where
  | bypass | idcode | sample | extest | other
deriving DecidableEq, Repr

/-- What start-up finds outside the state: straps, and what each step of Table 14.1 meets; `flashOk`: the flash controller
and the device's parameters, `badSlots`: slots whose reading meets a read error. -/
structure Boot where
  twinB : Bool
  east : Bool
  trimOk : Bool
  diesAnswer : Bool
  steppingsOk : Bool
  flashOk : Bool
  badSlots : List (Fin 2)
  badChannels : List (Fin 12 × Fin 24)
  zeroOk : Bool
  selfTestOk : Bool
deriving DecidableEq, Repr

/-- A TLS ClientHello as R444 and R445 judge it. -/
structure Hello where
  group : Bool
  mldsa : Bool
  rawKey : Bool
  suite : Bool
  key : BitVec 256
  proven : Bool
deriving DecidableEq, Repr

/-- The session and identifier of a management request (R446). -/
structure Req where
  session : Fin 8
  id : BitVec 64
deriving DecidableEq, Repr

/-- What a job image gives that no record of Table 14.4 carries: the kind of job, its root and modules, the modules of each
barrier context, the module's holder group, the modules of each replica and of each tensor group, the X-dies whose Vat runs
collectives, the queue table, decode parameters, the token region with the first stage's semaphore, the cave slots the twin
reports, and COMMIT and AGREED in the headers of this module's slots there. -/
structure JobExtra where
  generation : Bool
  root : BitVec 8
  nodes : List (BitVec 8)
  contexts : List (Fin 256 × List (BitVec 8))
  holders : List (BitVec 8)
  replicas : List (List (BitVec 8))
  tensors : List (List (BitVec 8))
  vatDies : List (Fin 4)
  queues : List (BitVec 256)
  maxRows : Option (BitVec 16)
  decWait : Option (BitVec 16)
  cachePool : BitVec 64
  cacheBase : BitVec 44
  tokenBase : BitVec 44
  tokenLen : BitVec 44
  tokenSem : Option (Die × Fin 4096)
  cacheBytes : BitVec 32
  interval : BitVec 16
  rootLag : BitVec 16
  twinHost : Option (List (BitVec 64))
  twinSlots : Option ((BitVec 64 × BitVec 64) × (BitVec 64 × BitVec 64))
deriving DecidableEq, Repr

/-- Who makes a tier or SRAM access that has a row of its own. -/
inductive Requester where
  | core (c : CoreId)
  | dma (d : Die)
  | cc (east : Bool)
  | press (m : Fin 12) (e : Fin 8)
  | rennet (m : Fin 12) (e : Fin 4)
  | vat (x : Fin 4)
  | twin
  | mgmt
deriving DecidableEq, Repr

/-- The commands: one constructor per row of the opcode table, in its order. -/
inductive Instr where
  /-- RESET_RELEASE (R415). -/
  | resetRelease (b : Boot)
  /-- RESET_N_LOW (R469). -/
  | resetNLow
  /-- POWER_INPUT_OUT_OF_RANGE (R469). -/
  | powerInputOutOfRange (main : Bool)
  /-- THERM_TRIP (R476). -/
  | thermTrip (d : Die)
  /-- LOCAL_TICK (R9). -/
  | localTick (d : Die) (st : List Stall)
  /-- POWER_SAMPLE (R471). -/
  | powerSample (watts decivolts : BitVec 16)
  /-- THERMAL_SAMPLE (R471). -/
  | thermalSample (readings : List (Die × BitVec 16)) (failed : Option (Die × Fin 4))
  /-- REGISTER_WRITE (R16); a control core may write a register of the twin (R163). -/
  | registerWrite (w : Writer) (addr : RegPlace) (width : Width) (v : BitVec 64)
  /-- DIE_LEASE_WRITE (R391). -/
  | dieLeaseWrite (w : Writer) (d : Die) (v : BitVec 64)
  /-- SEQ_CTRL_GO (R137). -/
  | seqCtrlGo (w : Writer) (c : CoreId)
  /-- SCL_NOP (R144). -/
  | sclNop (c : CoreId) (p : Parity)
  /-- SCL_LI (R144). -/
  | sclLi (c : CoreId) (p : Parity)
  /-- SCL_ALU (R144). -/
  | sclAlu (c : CoreId) (p : Parity)
  /-- SCL_ALUI (R144). -/
  | sclAlui (c : CoreId) (p : Parity)
  /-- SCL_LD (R145). -/
  | sclLd (c : CoreId) (p : Parity)
  /-- SCL_ST (R145). -/
  | sclSt (c : CoreId) (p : Parity)
  /-- SCL_GETID (R144). -/
  | sclGetid (c : CoreId) (p : Parity)
  /-- SCL_HALT (R142). -/
  | sclHalt (c : CoreId) (p : Parity)
  /-- BR_J (R144). -/
  | brJ (c : CoreId) (p : Parity)
  /-- BR_CMP (R144). -/
  | brCmp (c : CoreId) (p : Parity)
  /-- BR_SUM (R144). -/
  | brSum (c : CoreId) (p : Parity)
  /-- BR_DEC (R144). -/
  | brDec (c : CoreId) (p : Parity)
  /-- BR_CALL (R144). -/
  | brCall (c : CoreId) (p : Parity)
  /-- BR_RET (R144). -/
  | brRet (c : CoreId) (p : Parity)
  /-- SYN_SIG (R154). -/
  | synSig (c : CoreId) (p : Parity)
  /-- SYN_WAIT (R197). -/
  | synWait (c : CoreId) (p : Parity)
  /-- SYN_BAR (R205). -/
  | synBar (c : CoreId) (p : Parity)
  /-- SYN_FENCE (R154). -/
  | synFence (c : CoreId) (p : Parity)
  /-- SYN_EPOCH (R154). -/
  | synEpoch (c : CoreId) (p : Parity)
  /-- HOOP_STAGE (R214). -/
  | hoopStage (c : CoreId) (p : Parity)
  /-- HOOP_READY (R215). -/
  | hoopReady (c : CoreId) (p : Parity)
  /-- HOOP_WAIT (R220). -/
  | hoopWait (c : CoreId) (p : Parity)
  /-- DMA_SUB (R152). -/
  | dmaSub (c : CoreId) (p : Parity)
  /-- DMA_CLOAD (R153). -/
  | dmaCload (c : CoreId) (p : Parity) (n : Nat)
  /-- MAT_PASS (R147). -/
  | matPass (c : CoreId) (p : Parity)
  /-- PASS_START (R73). -/
  | passStart (c : CoreId) (a part : Fin 4)
  /-- LOAD_BEAT_RELEASE (R77). -/
  | loadBeatRelease (c : CoreId) (a part : Fin 4)
  /-- PASS_COMPLETE (R90). -/
  | passComplete (c : CoreId) (a part : Fin 4) (flt : Option (ArrParity × Fin 4096))
  /-- VEC_RUN (R149). -/
  | vecRun (c : CoreId) (p : Parity)
  /-- VEC_LDS (R150). -/
  | vecLds (c : CoreId) (p : Parity)
  /-- VEC_LDC (R150). -/
  | vecLdc (c : CoreId) (p : Parity)
  /-- VEC_FILL (R149). -/
  | vecFill (c : CoreId) (p : Parity)
  /-- VEC_COMMAND_START (R116). -/
  | vecCommandStart (c : CoreId)
  /-- VEC_COMMAND_COMPLETE (R128). -/
  | vecCommandComplete (c : CoreId) (flt : Option (VecParity × Fin 4096 × Fin 16))
  /-- VEC_STOP_AT_ROW (R129): the row that is being processed when the request takes effect. -/
  | vecStopAtRow (c : CoreId) (row : Fin 4096)
  /-- TEA_SET (R250). -/
  | teaSet (c : CoreId) (p : Parity)
  /-- TEA_SET_BLK (R229). -/
  | teaSetBlk (c : CoreId) (p : Parity)
  /-- TEA_FLUSH (R240). -/
  | teaFlush (c : CoreId) (p : Parity)
  /-- TEASEL_CAPTURE (R231). -/
  | teaselCapture (c : CoreId) (a part : Fin 4) (parity : Bool)
  /-- TEASEL_UPDATE (R235). -/
  | teaselUpdate (c : CoreId) (parity : Bool)
  /-- TEASEL_UPDATE_COMPLETE (R237). -/
  | teaselUpdateComplete (c : CoreId) (parity : Bool)
  /-- FLUSH_COMPLETE (R242). -/
  | flushComplete (c : CoreId) (parity : Bool)
  /-- DMA_CH_SUBMIT (R182). -/
  | dmaChSubmit (w : Writer) (d : Die) (ch : Fin 32) (v : BitVec 64)
  /-- DMA_DESCRIPTOR_START (R188). -/
  | dmaDescriptorStart (d : Die) (ch : Fin 32)
  /-- DMA_BURST_COMPLETE (R187); `bad`: tier addresses whose block's next reads mismatch their sidecar, with how many (R173). -/
  | dmaBurstComplete (d : Die) (ch : Fin 32) (bad : List (BitVec 44 × Fin 5))
  /-- DMA_DESCRIPTOR_COMPLETE (R188). -/
  | dmaDescriptorComplete (d : Die) (ch : Fin 32)
  /-- DMA_PROGRESS_TIMEOUT (R189). -/
  | dmaProgressTimeout (d : Die) (ch : Fin 32)
  /-- TIER_READ (R173). -/
  | tierRead (r : Requester) (addr : BitVec 44) (bad : Fin 5)
  /-- TIER_WRITE (R172). -/
  | tierWrite (r : Requester) (addr : BitVec 44) (data : List (BitVec 8))
  /-- SRAM_ACCESS (R180). -/
  | sramAccess (r : Requester) (addr : BitVec 44) (acc : SramAcc) (err : Fin 3)
  /-- MC_RETIRE (R176). -/
  | mcRetire (w : Writer) (m : Fin 12) (v : BitVec 32)
  /-- MIGRATION_LINE_COPY (R177). -/
  | migrationLineCopy (m : Fin 12) (slow : Bool)
  /-- SIGNAL (R197). -/
  | signal (src : VSrc) (d : Die) (sem : Fin 4096) (n : BitVec 16)
  /-- VETCH_SIGNAL (R200). -/
  | vetchSignal (w : Writer) (d : Die) (v : BitVec 64)
  /-- VETCH_ARRIVE (R205). -/
  | vetchArrive (w : Writer) (d : Die) (v : BitVec 32)
  /-- ARRIVE (R204). -/
  | arrive (src : VSrc) (d : Die) (ctx : Fin 256) (gen : BitVec 32) (ready : BitVec 16) (flags : BitVec 8)
  /-- COMPLETE (R204). -/
  | complete (src : VSrc) (d : Die) (ctx : Fin 256) (gen : BitVec 32)
  /-- ADVANCE (R210). -/
  | advance (src : VSrc) (d : Die) (epoch : BitVec 64) (commits aborts : BitVec 16) (flags : BitVec 8)
  /-- ABORT (R217). -/
  | abort (src : VSrc) (h : Fin 16) (inst : BitVec 32)
  /-- AUTO_ARRIVAL (R203). -/
  | autoArrival (d : Die)
  /-- AUTO_ARRIVAL_GATE_TIMEOUT (R203). -/
  | autoArrivalGateTimeout (d : Die)
  /-- SEMAPHORE_WAIT_TIMEOUT (R155). -/
  | semaphoreWaitTimeout (c : CoreId)
  /-- BARRIER_WAIT_TIMEOUT (R155). -/
  | barrierWaitTimeout (c : CoreId)
  /-- HOOP_OPEN (R213). -/
  | hoopOpen (w : Writer) (h : Fin 16) (v : BitVec 32)
  /-- HOOP_ABORT (R217). -/
  | hoopAbort (w : Writer) (h : Fin 16) (v : BitVec 32)
  /-- HOOP_STG_STAGE (R214). -/
  | hoopStgStage (w : Writer) (win : Fin 16) (v : BitVec 32)
  /-- HOOP_STG_READY (R215). -/
  | hoopStgReady (w : Writer) (win : Fin 16) (v : BitVec 32)
  /-- HOOP_TIMEOUT (R217). -/
  | hoopTimeout (h : Fin 16)
  /-- REFRESH (R255). -/
  | refresh (m : Fin 12) (e : Fin 4)
  /-- INTAKE_COMPLETE (R258). -/
  | intakeComplete (m : Fin 12) (e : Fin 4) (flt : Option RnParity)
  /-- RENNET_JOB_COMPLETE (R259). -/
  | rennetJobComplete (m : Fin 12) (e : Fin 4) (flt : Option RnParity)
  /-- RENNET_TRIGGER_TIMEOUT (R279). -/
  | rennetTriggerTimeout (m : Fin 12) (e : Fin 4)
  /-- UPDATE_START (R296). -/
  | updateStart (m : Fin 12) (e : Fin 8)
  /-- DIR_CHUNK (R284). -/
  | dirChunk (m : Fin 12) (e : Fin 8)
  /-- DIR_RING_WAIT_TIMEOUT (R318). -/
  | dirRingWaitTimeout (m : Fin 12) (e : Fin 8)
  /-- PRESS_TILE (R293). -/
  | pressTile (m : Fin 12) (e : Fin 8) (parity : Bool)
  /-- UPDATE_FINISHED (R296). -/
  | updateFinished (m : Fin 12) (e : Fin 8)
  /-- PRESS_ARRIVAL (R297). -/
  | pressArrival (m : Fin 12) (e : Fin 8)
  /-- SHARD_GATE_PASS (R380). -/
  | shardGatePass (m : Fin 12) (e : Fin 8)
  /-- RESTART_REDERIVE (R408). -/
  | restartRederive (m : Fin 12) (e : Fin 8)
  /-- SORREL_MODULE_DIGEST (R313). -/
  | sorrelModuleDigest
  /-- SORREL_TIMEOUT (R314). -/
  | sorrelTimeout
  /-- PORT_ENABLE (R326). -/
  | portEnable (w : Writer) (p : Fin 36) (v : BitVec 32)
  /-- PORT_TRAINED (R326). -/
  | portTrained (p : Fin 36) (lanes node : BitVec 8) (port : BitVec 6)
  /-- TRAINING_TIMEOUT (R326). -/
  | trainingTimeout (p : Fin 36)
  /-- LANE_LOCK_LOSS (R327). -/
  | laneLockLoss (p : Fin 36) (lanes : BitVec 8)
  /-- REPLAY_TIMEOUT (R332). -/
  | replayTimeout (p : Fin 36) (sync : Bool)
  /-- LINKCTL (R330). -/
  | linkctl (p : Fin 36) (ack nak : Option (BitVec 32)) (credits : List (BitVec 16))
  /-- WR (R343). -/
  | wr (r : Rx) (addr : BitVec 44) (data : List (BitVec 8))
  /-- RD_REQ (R343). -/
  | rdReq (r : Rx) (addr : BitVec 44) (lm1 : BitVec 8)
  /-- RD_RESP (R343). -/
  | rdResp (r : Rx) (err : Bool) (data : List (BitVec 8))
  /-- WR_ACK (R343). -/
  | wrAck (r : Rx) (err : Bool)
  /-- REG_WR (R344). -/
  | regWr (r : Rx) (off : BitVec 32) (width : Width) (v : BitVec 64)
  /-- VETCH (R336). -/
  | vetch (r : Rx) (fseq : BitVec 8) (fack : Option (BitVec 8)) (f : Frame)
  /-- HALF_LEASE_RENEWAL (R390). -/
  | halfLeaseRenewal (fromEast : Bool) (epoch : BitVec 64)
  /-- LEASE_RENEW (R389). -/
  | leaseRenew
  /-- LEASE_TAKEOVER (R390). -/
  | leaseTakeover (board : Bool)
  /-- VAT_SUBMIT (R345). -/
  | vatSubmit (w : Writer) (x : Fin 4) (v : BitVec 64)
  /-- COLLECTIVE_START (R346). -/
  | collectiveStart (x : Fin 4)
  /-- COLL_COUNT (R347). -/
  | collCount (r : Rx) (cid : BitVec 12) (b : CollCount)
  /-- COLL_CREDIT (R353). -/
  | collCredit (r : Rx) (cid : BitVec 12) (chunk : BitVec 16) (final : Bool)
  /-- COLL_DATA (R353). -/
  | collData (r : Rx) (cid : BitVec 12) (chunk : BitVec 16) (idx : BitVec 8) (data : List (BitVec 8))
  /-- COLL_END (R359). -/
  | collEnd (r : Rx) (cid : BitVec 12) (chunk : BitVec 16) (crc count : BitVec 32)
  /-- COLL_RESEND (R359). -/
  | collResend (r : Rx) (cid : BitVec 12) (chunk : BitVec 16)
  /-- CHUNK_REDUCE (R349). -/
  | chunkReduce (x : Fin 4) (cid : BitVec 12) (chunk : BitVec 16)
  /-- COLLECTIVE_COMPLETE (R358). -/
  | collectiveComplete (x : Fin 4) (cid : BitVec 12)
  /-- VAT_PROGRESS_TIMEOUT (R360). -/
  | vatProgressTimeout (x : Fin 4)
  /-- VAT_TRIGGER_TIMEOUT (R360). -/
  | vatTriggerTimeout (x : Fin 4)
  /-- HANDSHAKE_WATCHDOG_EXPIRY (R99). -/
  | handshakeWatchdogExpiry (ch : Chan)
  /-- MODULE_STOP (R395). -/
  | moduleStop
  /-- SEQ_STOPPED (R157). -/
  | seqStopped (c : CoreId)
  /-- STOP_TIMEOUT (R395). -/
  | stopTimeout
  /-- JOB_WATCHDOG_EXPIRY (R393). -/
  | jobWatchdogExpiry
  /-- CAVE_CHUNK (R401). -/
  | caveChunk (m : Fin 12) (accepted : Bool)
  /-- CAVE_COMMIT (R402). -/
  | caveCommit (accepted : Bool)
  /-- CAVE_AGREED (R404). -/
  | caveAgreed (accepted : Bool)
  /-- CAVE_PROGRESS_TIMEOUT (R406). -/
  | caveProgressTimeout
  /-- TWIN_FENCE (R388). -/
  | twinFence (w : Writer) (v : BitVec 32)
  /-- YIELD (R412). -/
  | yield (w : Writer)
  /-- RELOAD_WATCHER (R432). -/
  | reloadWatcher (w : Writer)
  /-- RAISE_FLOOR (R423). -/
  | raiseFloor (w : Writer)
  /-- ATT_GO (R430). -/
  | attGo (w : Writer) (v : BitVec 32)
  /-- ATTEST_REPORT_DONE (R430). -/
  | attestReportDone (accepted : Bool)
  /-- SCAN_TEST_ENTRY (R434). -/
  | scanTestEntry (ir : ScanIr)
  /-- CC_CACHE_INVALIDATE (R439). -/
  | ccCacheInvalidate (w : Writer) (east : Bool) (addr : BitVec 44)
  /-- CC_CACHE_CLEAN (R439). -/
  | ccCacheClean (w : Writer) (east : Bool) (addr : BitVec 44)
  /-- CC_CACHE_CLEAN_INVALIDATE (R439). -/
  | ccCacheCleanInvalidate (w : Writer) (east : Bool) (addr : BitVec 44)
  /-- MGMT_CONNECT (R444). -/
  | mgmtConnect (h : Hello)
  /-- STATUS (R447). -/
  | status (q : Req)
  /-- REG_READ (R447). -/
  | regRead (q : Req) (offs : List (BitVec 64))
  /-- REG_WRITE (R447). -/
  | regWrite (q : Req) (writes : List (BitVec 64 × BitVec 64))
  /-- JOB_LOAD (R425). -/
  | jobLoad (q : Req) (image : List (BitVec 8)) (x : JobExtra)
  /-- JOB_START (R447). -/
  | jobStart (q : Req)
  /-- JOB_STOP (R447). -/
  | jobStop (q : Req)
  /-- JOB_UNLOAD (R449). -/
  | jobUnload (q : Req)
  /-- TOKENS (R450). -/
  | tokens (q : Req) (step off : BitVec 64) (toks : List (BitVec 32))
  /-- GEN_REQUEST (R383). -/
  | genRequest (q : Req) (seed : BitVec 64) (maxNew : BitVec 32) (prompt : List (BitVec 32))
  /-- DECODE_WAIT_EXPIRY (R29). -/
  | decodeWaitExpiry
  /-- GEN_CANCEL (R447). -/
  | genCancel (q : Req) (target : BitVec 64)
  /-- TELE_SUB (R447). -/
  | teleSub (q : Req) (period : BitVec 64) (offs : List (BitVec 64))
  /-- TELEMETRY (R447). -/
  | telemetry (session : Fin 8)
  /-- FW_BEGIN (R418). -/
  | fwBegin (q : Req) (slot : BitVec 8) (len : BitVec 32)
  /-- FW_DATA (R418). -/
  | fwData (q : Req) (off : BitVec 32) (data : List (BitVec 8))
  /-- FW_COMMIT (R418). -/
  | fwCommit (q : Req)
  /-- ATTEST (R429). -/
  | attest (q : Req) (nonce : BitVec 256)
  /-- TEST_NONCE (R447). -/
  | testNonce (q : Req)
  /-- TEST_ENTER (R434). -/
  | testEnter (q : Req) (sig : List (BitVec 8))
  /-- MEM_READ (R447). -/
  | memRead (q : Req) (addr : BitVec 64) (len : BitVec 32) (r : Remote)
  /-- MEM_WRITE (R447). -/
  | memWrite (q : Req) (addr : BitVec 64) (data : List (BitVec 8)) (r : Remote)
  /-- RESET (R447). -/
  | reset (q : Req) (force : Bool)
  /-- RIND_LEASE_OUT_LATCH (R453). -/
  | rindLeaseOutLatch
  /-- RIND_LEASE_IN (R456). -/
  | rindLeaseIn (v : BitVec 16)
  /-- RIND_WRITE (R453). -/
  | rindWrite (a : BitVec 6) (v : BitVec 16)
  /-- FENCE_TWIN (R457). -/
  | fenceTwin (key : BitVec 12)
  /-- UNFENCE_TWIN (R457). -/
  | unfenceTwin (key : BitVec 12)
  /-- FENCE_FABRIC (R457). -/
  | fenceFabric (key : BitVec 12)
  /-- UNFENCE_FABRIC (R457). -/
  | unfenceFabric (key : BitVec 12)
  /-- STOP_JOB (R457). -/
  | stopJob (key : BitVec 12)
  /-- POWER_INPUT_IN_RANGE (R468). -/
  | powerInputInRange (main : Bool)
  /-- SYNC_LANE_LOSS (R336). -/
  | syncLaneLoss (p : Fin 36)
  /-- SYNC_LANE_RETRAINED (R336). -/
  | syncLaneRetrained (p : Fin 36)
  /-- DAMAGED_FLIT_OR_FRAME (R332). -/
  | damagedFlitOrFrame (p : Fin 36) (frame : Bool) (reserved : Bool)
  /-- IDLE_FRAME (R335). -/
  | idleFrame (p : Fin 36) (ack : Option (BitVec 8)) (nak : Bool)
  /-- RESERVED_OPCODE (R143). -/
  | reservedOpcode (c : CoreId) (p : Parity)
  /-- MALFORMED (R446). -/
  | malformed (q : Req) (typ : BitVec 16)
  /-- MGMT_LINK_UP (R442). -/
  | mgmtLinkUp
  /-- MGMT_LINK_DOWN (R442). -/
  | mgmtLinkDown
  /-- SESSION_CLOSE (R444). -/
  | sessionClose (session : Fin 8)
  /-- DECODE_BATCH_COMPLETE (R29). -/
  | decodeBatchComplete (toks : List (BitVec 32 × Bool))
deriving DecidableEq, Repr

end Sys2Proof
end

