-- ==== Sys2Proof/Decode.lean ====
section
/-!
DEFINITION. Words of the opcode table: no row of it gives bits (a command of this block is a register access, a message or
an event, not a word), so no word spells a command.
-/

namespace Sys2Proof

/-- The command that a word of `nbits` bits spells by the table's bits: none, since no row gives bits. [DESIGN CHOICE, log entry 32] -/
def decodeTableWord (_nbits _w : Nat) : Option Instr := none

end Sys2Proof
end

