-- ==== Sys2Proof/Machine/Bits.lean ====
section
/-!
DEFINITION. Bit fields, sign extension, byte order (R12) and the two CRCs of the module, over natural numbers.
-/

namespace Sys2Proof.Machine

/-- Bits [lo+w-1 : lo] of `v`. -/
def bits (v lo w : Nat) : Nat := v / 2 ^ lo % 2 ^ w

/-- Bit `i` of `v`. -/
def bit (v i : Nat) : Bool := v / 2 ^ i % 2 == 1

/-- `v` with bits [lo+w-1 : lo] replaced by `x` (cut to `w` bits). -/
def setBits (v lo w x : Nat) : Nat :=
  (v - bits v lo w * 2 ^ lo) + (x % 2 ^ w) * 2 ^ lo

/-- 1 for true, 0 for false. -/
def b2n (b : Bool) : Nat := if b then 1 else 0

/-- `v` with bit `i` set to `b`. -/
def setBit (v i : Nat) (b : Bool) : Nat := setBits v i 1 (b2n b)

/-- The `w`-bit pattern `v` read as a two's-complement integer. -/
def toSigned (w v : Nat) : Int :=
  let u := v % 2 ^ w
  if u < 2 ^ (w - 1) then (u : Int) else (u : Int) - (2 ^ w : Nat)

/-- The `w`-bit two's-complement pattern of `i` (wrapping). -/
def ofSigned (w : Nat) (i : Int) : Nat := (i % (2 ^ w : Nat)).toNat

/-- Sign-extend a `w`-bit pattern to `w'` bits. -/
def signExt (w w' v : Nat) : Nat := ofSigned w' (toSigned w v)

/-- The `n` bytes of `v`, least significant first (R12). -/
def leBytes : Nat → Nat → List Nat
  | 0, _ => []
  | n + 1, v => (v % 256) :: leBytes n (v / 256)

/-- The value of a little-endian list of bytes (R12). -/
def ofLeBytes : List Nat → Nat
  | [] => 0
  | b :: bs => b % 256 + 256 * ofLeBytes bs

/-- Round `n` up to a multiple of `k` (`k` not zero). -/
def alignUp (n k : Nat) : Nat := (n + (k - 1)) / k * k

/-- Ceiling division. -/
def ceilDiv (n k : Nat) : Nat := (n + (k - 1)) / k

/-- One bit of a reflected CRC with polynomial `poly`. -/
def crcBit (poly c : Nat) : Nat :=
  if c % 2 = 1 then (c / 2) ^^^ poly else c / 2

/-- One byte of a reflected CRC. -/
def crcByte (poly c b : Nat) : Nat :=
  let x0 := c ^^^ (b % 256)
  let x1 := crcBit poly x0
  let x2 := crcBit poly x1
  let x3 := crcBit poly x2
  let x4 := crcBit poly x3
  let x5 := crcBit poly x4
  let x6 := crcBit poly x5
  let x7 := crcBit poly x6
  crcBit poly x7

/-- A reflected CRC over bytes from state `c`. -/
def crcFold (poly : Nat) : Nat → List Nat → Nat
  | c, [] => c
  | c, b :: bs => crcFold poly (crcByte poly c b) bs

/-- The first `n` elements of `l`, padded with `d`. -/
def takePad {α : Type} (d : α) : Nat → List α → List α
  | 0, _ => []
  | n + 1, [] => d :: takePad d n []
  | n + 1, x :: xs => x :: takePad d n xs

/-- `l` with element `i` replaced by `x` (unchanged past its end). -/
def setAt {α : Type} : List α → Nat → α → List α
  | [], _, _ => []
  | _ :: ys, 0, x => x :: ys
  | y :: ys, i + 1, x => y :: setAt ys i x

/-- Element `i` of `l`, `d` past its end. -/
def nth {α : Type} (d : α) (l : List α) (i : Nat) : α := (l[i]?).getD d

/-- Split `l` into pieces of `n` (the last may be shorter), at most `fuel` of them. -/
def chunks {α : Type} (n : Nat) : Nat → List α → List (List α)
  | 0, _ => []
  | _ + 1, [] => []
  | fuel + 1, l => l.take n :: chunks n fuel (l.drop n)

/-- Number of set bits among the low `n` of `v`. -/
def popCount : Nat → Nat → Nat
  | 0, _ => 0
  | n + 1, v => v % 2 + popCount n (v / 2)

/-- The largest `r` with `r * r ≤ n`, found bit by bit from bit `k`. -/
def isqrtAux (n : Nat) : Nat → Nat → Nat
  | 0, r => r
  | k + 1, r =>
    let c := r + 2 ^ k
    if c * c ≤ n then isqrtAux n k c else isqrtAux n k r

/-- Integer square root. -/
def isqrt (n : Nat) : Nat := isqrtAux n (Nat.log2 n / 2 + 1) 0

end Sys2Proof.Machine
end

