-- ==== Sys2Proof/Machine/Float.lean ====
section
/-!
DEFINITION. The number formats of chapter 2: floating-point values, rounding, overflow, subnormals, flags, conversions,
and the two accumulation procedures of the matrix arrays (R30 to R59). A pattern is a natural number below two to the
width of its format; every function answers the result pattern and the flags it raises.
-/

namespace Sys2Proof.Machine

/-- The floating-point formats of Table 2.1. -/
inductive Fp where
  | fp32 | fp16 | bf16 | e5m2 | e4m3
deriving DecidableEq, Repr

/-- Width of the exponent field (Table 2.1). -/
def Fp.eb : Fp → Nat
  | .fp32 => 8 | .fp16 => 5 | .bf16 => 8 | .e5m2 => 5 | .e4m3 => 4

/-- Width of the fraction field (Table 2.1). -/
def Fp.fb : Fp → Nat
  | .fp32 => 23 | .fp16 => 10 | .bf16 => 7 | .e5m2 => 2 | .e4m3 => 3

/-- Exponent bias (Table 2.1). -/
def Fp.bias : Fp → Nat
  | .fp32 => 127 | .fp16 => 15 | .bf16 => 127 | .e5m2 => 15 | .e4m3 => 7

/-- Width of the format in bits. -/
def Fp.width (f : Fp) : Nat := 1 + f.eb + f.fb

/-- The pattern of the largest finite value (Table 2.1). -/
def Fp.maxFinite : Fp → Nat
  | .fp32 => 0x7F7FFFFF | .fp16 => 0x7BFF | .bf16 => 0x7F7F | .e5m2 => 0x7B | .e4m3 => 0x7E

/-- The canonical NaN of the format (R32). -/
def Fp.canonNan : Fp → Nat
  | .fp32 => 0x7FC00000 | .fp16 => 0x7E00 | .bf16 => 0x7FC0 | .e5m2 => 0x7E | .e4m3 => 0x7F

/-- Whether the format has infinities (all but E4M3, Table 2.1). -/
def Fp.hasInf : Fp → Bool
  | .e4m3 => false
  | _ => true

/-- Exponent of the smallest normal value. -/
def Fp.emin (f : Fp) : Int := 1 - (f.bias : Int)

/-- The pattern `mag` with sign `neg`. -/
def Fp.signed (f : Fp) (neg : Bool) (mag : Nat) : Nat := mag + b2n neg * 2 ^ (f.eb + f.fb)

/-- Positive or negative infinity; the canonical NaN in E4M3 (R51, R52). -/
def Fp.infPat (f : Fp) (neg : Bool) : Nat :=
  if f.hasInf then f.signed neg ((2 ^ f.eb - 1) * 2 ^ f.fb) else f.canonNan

/-- What a pattern stands for: a NaN (signalling or quiet, R31), an infinity, or the finite value ±m·2^e. -/
inductive FVal where
  | nan (signalling : Bool)
  | inf (neg : Bool)
  | fin (neg : Bool) (m : Nat) (e : Int)
deriving DecidableEq, Repr

/-- Decode a pattern (R30, R31). -/
def Fp.unpack (f : Fp) (x : Nat) : FVal :=
  let frac := bits x 0 f.fb
  let ex := bits x f.fb f.eb
  let neg := bit x (f.eb + f.fb)
  if f.hasInf && ex == 2 ^ f.eb - 1 then
    if frac == 0 then .inf neg else .nan (!bit x (f.fb - 1))
  else if !f.hasInf && ex == 2 ^ f.eb - 1 && frac == 2 ^ f.fb - 1 then .nan false
  else if ex == 0 then .fin neg frac (f.emin - f.fb)
  else .fin neg (2 ^ f.fb + frac) ((ex : Int) - f.bias - f.fb)

/-- Whether the pattern is a non-zero subnormal. -/
def Fp.isSubnormal (f : Fp) (x : Nat) : Bool := bits x f.fb f.eb == 0 && bits x 0 f.fb != 0

/-- Whether the pattern is a NaN. -/
def Fp.isNan (f : Fp) (x : Nat) : Bool :=
  match f.unpack x with
  | .nan _ => true
  | _ => false

/-- Whether the pattern is an infinity or a NaN. -/
def Fp.nonFinite (f : Fp) (x : Nat) : Bool :=
  match f.unpack x with
  | .fin _ _ _ => false
  | _ => true

/-- Rounding modes of ARITH_CTRL.RM (R48). -/
inductive RMode where
  | rne | rtz | rup | rdn
deriving DecidableEq, Repr

/-- The rounding mode a field value selects (Table 2.9). -/
def RMode.ofField : Nat → RMode
  | 0 => .rne
  | 1 => .rtz
  | 2 => .rup
  | _ => .rdn

/-- The arithmetic rules in force: ARITH_CTRL (R62) and whether the module is in normal service (R54, R55). -/
structure Arith where
  strict : Bool
  rm : RMode
  ftz : Bool
  normal : Bool
deriving DecidableEq, Repr

/-- The rounding mode in force: RNE in fast mode (R48). -/
def Arith.mode (a : Arith) : RMode := if a.strict then a.rm else .rne

/-- Whether subnormals of the format are flushed (Table 2.6). -/
def Arith.flushes (a : Arith) (f : Fp) : Bool := if a.normal then a.ftz else f == .fp32

/-- Invalid operation (Table 2.10). -/
def flNVF : Nat := 1
/-- Overflow (Table 2.10). -/
def flOVF : Nat := 2
/-- Underflow (Table 2.10). -/
def flUNF : Nat := 4
/-- Subnormal flushed (Table 2.10). -/
def flFLUSH : Nat := 8
/-- Saturation (Table 2.10). -/
def flSAT : Nat := 16
/-- Permutation out of bounds (Table 2.10). -/
def flOOB : Nat := 32
/-- Empty reduction (Table 2.10). -/
def flEMPTY : Nat := 64
/-- Pivot floor (Table 2.10). -/
def flPIVF : Nat := 128
/-- Non-finite gradient (Table 2.10). -/
def flNONFIN : Nat := 256

/-- The flag `f` when `c` holds. -/
def flagIf (c : Bool) (f : Nat) : Nat := if c then f else 0

/-- An input under the subnormal rules (R54, R55) and the signalling-NaN rule (R33). -/
def fin (a : Arith) (f : Fp) (x : Nat) : FVal × Nat :=
  match f.unpack x with
  | .nan sg => (.nan sg, flagIf sg flNVF)
  | .inf n => (.inf n, 0)
  | .fin n m e =>
    if a.flushes f && f.isSubnormal x then (.fin n 0 e, flFLUSH) else (.fin n m e, 0)

/-- Round the magnitude `m`·2^e to an integer count of units 2^u. -/
def roundUnits (rm : RMode) (neg : Bool) (m : Nat) (e u : Int) : Nat × Bool :=
  if u ≤ e then (m * 2 ^ (e - u).toNat, true)
  else
    let k := (u - e).toNat
    let q := m / 2 ^ k
    let r := m % 2 ^ k
    let up : Bool :=
      match rm with
      | .rne => decide (2 ^ k < 2 * r) || (2 * r == 2 ^ k && q % 2 == 1)
      | .rtz => false
      | .rup => !neg && r != 0
      | .rdn => neg && r != 0
    (q + b2n up, r == 0)

/-- The pattern of the magnitude `n`·2^u, exactly representable in `f` (subnormal when it is below the smallest
normal and `u` is the subnormal unit). -/
def Fp.pack (f : Fp) (neg : Bool) (n : Nat) (u : Int) : Nat :=
  if n = 0 then f.signed neg 0
  else
    let l := Nat.log2 n
    let ex : Int := (l : Int) + u
    if ex < f.emin then f.signed neg (n * 2 ^ (u - (f.emin - f.fb)).toNat)
    else
      let frac := if l ≤ f.fb then n * 2 ^ (f.fb - l) else n / 2 ^ (l - f.fb)
      f.signed neg ((ex + f.bias).toNat * 2 ^ f.fb + (frac - 2 ^ f.fb))

/-- The overflow result of R51 under the mode in force. -/
def overflowPat (a : Arith) (f : Fp) (neg : Bool) : Nat :=
  if !a.strict then f.signed neg f.maxFinite
  else
    match a.rm with
    | .rne => f.infPat neg
    | .rtz => f.signed neg f.maxFinite
    | .rup => if neg then f.signed neg f.maxFinite else f.infPat neg
    | .rdn => if neg then f.infPat neg else f.signed neg f.maxFinite

/-- Whether the magnitude `n`·2^u exceeds the largest finite value of `f`. -/
def Fp.exceeds (f : Fp) (n : Nat) (u : Int) : Bool :=
  match f.unpack f.maxFinite with
  | .fin _ m e => if e ≤ u then decide (m < n * 2 ^ (u - e).toNat) else decide (m * 2 ^ (e - u).toNat < n)
  | _ => false

/-- Round the finite value ±m·2^e to `f` under an explicit rounding mode: overflow (R51), tiny results (R53), flush
(R54, R55). A zero keeps the sign given. -/
def roundWith (a : Arith) (rm : RMode) (f : Fp) (neg : Bool) (m : Nat) (e : Int) : Nat × Nat :=
  if m = 0 then (f.signed neg 0, 0)
  else
    let lead : Int := (Nat.log2 m : Int) + e
    let u := lead - f.fb
    let (n, exact) := roundUnits rm neg m e u
    if f.exceeds n u then (overflowPat a f neg, flOVF)
    else if (Nat.log2 n : Int) + u < f.emin then
      if a.flushes f then (f.signed neg 0, flUNF ||| flFLUSH)
      else
        let us := f.emin - f.fb
        let (n', exact') := roundUnits rm neg m e us
        (f.pack neg n' us, flagIf (!exact') flUNF)
    else
      let _ := exact
      (f.pack neg n u, 0)

/-- Round a finite value under the mode in force (R48). -/
def roundFin (a : Arith) (f : Fp) (neg : Bool) (m : Nat) (e : Int) : Nat × Nat :=
  roundWith a a.mode f neg m e

/-- The result pattern of a value that needs no rounding choice of its own: NaN, infinity, or a finite value. -/
def deliver (a : Arith) (f : Fp) : FVal → Nat × Nat
  | .nan _ => (f.canonNan, 0)
  | .inf n => (f.infPat n, flagIf (!f.hasInf) flNVF)
  | .fin n m e => roundFin a f n m e

/-- The signed integer of a sign and a magnitude. -/
def sgnInt (neg : Bool) (m : Nat) : Int := if neg then -(m : Int) else (m : Int)

/-- The exact sum of two finite terms, as a signed integer and its exponent. -/
def exactAdd (n1 : Bool) (m1 : Nat) (e1 : Int) (n2 : Bool) (m2 : Nat) (e2 : Int) : Int × Int :=
  let e := if e1 ≤ e2 then e1 else e2
  (sgnInt n1 (m1 * 2 ^ (e1 - e).toNat) + sgnInt n2 (m2 * 2 ^ (e2 - e).toNat), e)

/-- The exact sum of two values with the zero rule of R49: the flags are those of ∞ − ∞. -/
def sumVal (a : Arith) : FVal → FVal → FVal × Nat
  | .nan _, _ => (.nan false, 0)
  | _, .nan _ => (.nan false, 0)
  | .inf n, .inf n' => if n == n' then (.inf n, 0) else (.nan false, flNVF)
  | .inf n, .fin _ _ _ => (.inf n, 0)
  | .fin _ _ _, .inf n => (.inf n, 0)
  | .fin n1 m1 e1, .fin n2 m2 e2 =>
    let (t, e) := exactAdd n1 m1 e1 n2 m2 e2
    if t = 0 then
      (.fin (if m1 = 0 && m2 = 0 && n1 == n2 then n1 else a.mode == .rdn) 0 e, 0)
    else (.fin (decide (t < 0)) t.natAbs e, 0)

/-- The exact product of two values (R39); 0 × ∞ is invalid. -/
def mulVal : FVal → FVal → FVal × Nat
  | .nan _, _ => (.nan false, 0)
  | _, .nan _ => (.nan false, 0)
  | .inf n, .inf n' => (.inf (n != n'), 0)
  | .inf n, .fin n' m _ => if m = 0 then (.nan false, flNVF) else (.inf (n != n'), 0)
  | .fin n m _, .inf n' => if m = 0 then (.nan false, flNVF) else (.inf (n != n'), 0)
  | .fin n m e, .fin n' m' e' => (.fin (n != n') (m * m') (e + e'), 0)

/-- Negate a value (a bit move: NaNs are unchanged, R32). -/
def FVal.neg : FVal → FVal
  | .nan s => .nan s
  | .inf n => .inf (!n)
  | .fin n m e => .fin (!n) m e

/-- Sum of two `f` patterns, rounded once. -/
def fadd (a : Arith) (f : Fp) (x y : Nat) : Nat × Nat :=
  let (vx, fx) := fin a f x
  let (vy, fy) := fin a f y
  let (v, fv) := sumVal a vx vy
  let (r, fr) := deliver a f v
  (r, fx ||| fy ||| fv ||| fr)

/-- Difference of two `f` patterns, rounded once. -/
def fsub (a : Arith) (f : Fp) (x y : Nat) : Nat × Nat :=
  let (vx, fx) := fin a f x
  let (vy, fy) := fin a f y
  let (v, fv) := sumVal a vx vy.neg
  let (r, fr) := deliver a f v
  (r, fx ||| fy ||| fv ||| fr)

/-- Product of two `f` patterns, rounded once. -/
def fmul (a : Arith) (f : Fp) (x y : Nat) : Nat × Nat :=
  let (vx, fx) := fin a f x
  let (vy, fy) := fin a f y
  let (v, fv) := mulVal vx vy
  let (r, fr) := deliver a f v
  (r, fx ||| fy ||| fv ||| fr)

/-- x·y + z rounded once (IEEE 754-2019 fusedMultiplyAdd; 0 × ∞ sets NVF whatever z holds, R42). -/
def ffma (a : Arith) (f : Fp) (x y z : Nat) : Nat × Nat :=
  let (vx, fx) := fin a f x
  let (vy, fy) := fin a f y
  let (vz, fz) := fin a f z
  let (p, fp) := mulVal vx vy
  let (v, fv) := sumVal a p vz
  let (r, fr) := deliver a f v
  (r, fx ||| fy ||| fz ||| fp ||| fv ||| fr)

/-- The exact quotient of two finite non-zero values, with a sticky last bit when it does not terminate within 66
bits. -/
def divFin (n1 : Bool) (m1 : Nat) (e1 : Int) (n2 : Bool) (m2 : Nat) (e2 : Int) : FVal :=
  let k := 66 + Nat.log2 m2
  let q := m1 * 2 ^ k / m2
  let r := m1 * 2 ^ k % m2
  .fin (n1 != n2) (2 * q + b2n (r != 0)) (e1 - e2 - k - 1)

/-- Quotient of two values: 0/0 and ∞/∞ are invalid; a non-zero value over zero is an infinity. -/
def divVal : FVal → FVal → FVal × Nat
  | .nan _, _ => (.nan false, 0)
  | _, .nan _ => (.nan false, 0)
  | .inf _, .inf _ => (.nan false, flNVF)
  | .inf n, .fin n' _ _ => (.inf (n != n'), 0)
  | .fin n _ _, .inf n' => (.fin (n != n') 0 0, 0)
  | .fin n m e, .fin n' m' e' =>
    if m' = 0 then if m = 0 then (.nan false, flNVF) else (.inf (n != n'), 0)
    else if m = 0 then (.fin (n != n') 0 0, 0)
    else (divFin n m e n' m' e', 0)

/-- Quotient of two `f` patterns, rounded once. -/
def fdiv (a : Arith) (f : Fp) (x y : Nat) : Nat × Nat :=
  let (vx, fx) := fin a f x
  let (vy, fy) := fin a f y
  let (v, fv) := divVal vx vy
  let (r, fr) := deliver a f v
  (r, fx ||| fy ||| fv ||| fr)

/-- Square root of a value; of a negative value it is invalid, of −0 it is −0. -/
def sqrtVal : FVal → FVal × Nat
  | .nan _ => (.nan false, 0)
  | .inf true => (.nan false, flNVF)
  | .inf false => (.inf false, 0)
  | .fin n m e =>
    if m = 0 then (.fin n 0 0, 0)
    else if n then (.nan false, flNVF)
    else
      let k : Nat := 130 + (if (e % 2 : Int) = 0 then 0 else 1)
      let mm := m * 2 ^ k
      let r := isqrt mm
      (.fin false (2 * r + b2n (r * r != mm)) ((e - k) / 2 - 1), 0)

/-- Square root of an `f` pattern, rounded once. -/
def fsqrt (a : Arith) (f : Fp) (x : Nat) : Nat × Nat :=
  let (vx, fx) := fin a f x
  let (v, fv) := sqrtVal vx
  let (r, fr) := deliver a f v
  (r, fx ||| fv ||| fr)

/-- Conversion between floating-point formats (Table 2.7, R52, R57). -/
def fconv (a : Arith) (src dst : Fp) (x : Nat) : Nat × Nat :=
  let (v, fx) := fin a src x
  match v with
  | .inf n => (dst.infPat n, fx ||| flagIf (!dst.hasInf) flNVF)
  | _ =>
    let (r, fr) := deliver a dst v
    (r, fx ||| fr)

/-- Stochastic rounding of a finite magnitude with the 16-bit random value `v` (R50): the count of units `q` and whether
the value was exact. -/
def stochUnits (m : Nat) (e u : Int) (v : Nat) : Nat × Bool :=
  if u ≤ e then (m * 2 ^ (e - u).toNat, true)
  else
    let k := (u - e).toNat
    let q := m / 2 ^ k
    let r := m % 2 ^ k
    let f16 := r * 2 ^ 16 / 2 ^ k
    (q + b2n (decide (2 ^ 16 ≤ f16 + v % 2 ^ 16)), r == 0)

/-- Conversion with stochastic rounding, used only by Press re-derivation (R50). -/
def fconvStoch (a : Arith) (src dst : Fp) (x v : Nat) : Nat × Nat :=
  let (val, fx) := fin a src x
  match val with
  | .inf n => (dst.infPat n, fx ||| flagIf (!dst.hasInf) flNVF)
  | .nan _ => (dst.canonNan, fx)
  | .fin neg m e =>
    if m = 0 then (dst.signed neg 0, fx)
    else
      let lead : Int := (Nat.log2 m : Int) + e
      let u := (if lead < dst.emin then dst.emin else lead) - dst.fb
      let (n, exact) := stochUnits m e u v
      if dst.exceeds n u then
        ((if a.strict then dst.infPat neg else dst.signed neg dst.maxFinite), fx ||| flOVF)
      else if n = 0 || decide ((Nat.log2 n : Int) + u < dst.emin) then
        if a.flushes dst then (dst.signed neg 0, fx ||| flUNF ||| flFLUSH)
        else (dst.pack neg n u, fx ||| flagIf (!exact) flUNF)
      else (dst.pack neg n u, fx)

/-- The nearest integer to a finite value under a rounding mode. -/
def roundToInt (rm : RMode) (neg : Bool) (m : Nat) (e : Int) : Int :=
  sgnInt neg (roundUnits rm neg m e 0).1

/-- Clamp an integer to `w` bits two's complement; the Bool says whether it was outside. -/
def clampSigned (w : Nat) (i : Int) : Int × Bool :=
  let lo : Int := -(2 ^ (w - 1) : Nat)
  let hi : Int := (2 ^ (w - 1) : Nat) - 1
  if i < lo then (lo, true) else if hi < i then (hi, true) else (i, false)

/-- Floating point to an integer of `w` bits (Table 2.7), rounded under `rm`. -/
def fToIntWith (a : Arith) (rm : RMode) (f : Fp) (w x : Nat) : Nat × Nat :=
  let (v, fx) := fin a f x
  match v with
  | .nan _ => (0, fx ||| flNVF)
  | .inf n => (ofSigned w (if n then -(2 ^ (w - 1) : Nat) else (2 ^ (w - 1) : Nat) - 1), fx ||| flNVF)
  | .fin n m e =>
    let (i, out) := clampSigned w (roundToInt rm n m e)
    (ofSigned w i, fx ||| flagIf out flNVF)

/-- Floating point to an integer under the mode in force. -/
def fToInt (a : Arith) (f : Fp) (w x : Nat) : Nat × Nat := fToIntWith a a.mode f w x

/-- An integer of `w` bits to floating point (Table 2.7). -/
def intToF (a : Arith) (w : Nat) (f : Fp) (x : Nat) : Nat × Nat :=
  let i := toSigned w x
  roundFin a f (decide (i < 0)) i.natAbs 0

/-- INT32 to INT8: out of range gives the range end and SAT (Table 2.7). -/
def int32To8 (x : Nat) : Nat × Nat :=
  let (i, out) := clampSigned 8 (toSigned 32 x)
  (ofSigned 8 i, flagIf out flSAT)

/-- Round an exact value m·2^e to a count of 2^-30, ties to even, clamped to Q2.30 (R37). -/
def toQ230 (neg : Bool) (m : Nat) (e : Int) : Int × Nat :=
  let (i, out) := clampSigned 32 (sgnInt neg (roundUnits .rne neg m e (-30)).1)
  (i, flagIf out flSAT)

/-- FP32 to Q2.30 (Table 2.7, R56: the subnormal rules do not apply). -/
def fp32ToQ230 (x : Nat) : Int × Nat :=
  match Fp.fp32.unpack x with
  | .nan _ => (0, flNVF ||| flSAT)
  | .inf n => (if n then -(2 ^ 31 : Nat) else (2 ^ 31 : Nat) - 1, flSAT)
  | .fin n m e => toQ230 n m e

/-- Q2.30 to FP32, RNE (Table 2.7); never subnormal, so no flag. -/
def q230ToFp32 (i : Int) : Nat :=
  (roundWith ⟨false, .rne, false, true⟩ .rne .fp32 (decide (i < 0)) i.natAbs (-30)).1

/-- The exact value ±m·2^e, not zero, that a term of a fast group contributes in units of 2^u (magnitude truncated). -/
def truncUnits (neg : Bool) (m : Nat) (e u : Int) : Int :=
  sgnInt neg (if u ≤ e then m * 2 ^ (e - u).toNat else m / 2 ^ (u - e).toNat)

/-- The largest leading exponent among finite non-zero terms. -/
def maxLead : List FVal → Option Int
  | [] => none
  | .fin _ m e :: ts =>
    if m = 0 then maxLead ts
    else
      let l : Int := (Nat.log2 m : Int) + e
      match maxLead ts with
      | none => some l
      | some r => some (if r ≤ l then l else r)
  | _ :: ts => maxLead ts

/-- Sum of the terms in units of 2^u. -/
def sumTrunc (u : Int) : List FVal → Int
  | [] => 0
  | .fin n m e :: ts => (if m = 0 then 0 else truncUnits n m e u) + sumTrunc u ts
  | _ :: ts => sumTrunc u ts

/-- Whether a value is a NaN. -/
def FVal.isNan : FVal → Bool
  | .nan _ => true
  | _ => false

/-- Whether a value is an infinity of the given sign. -/
def FVal.isInf (n : Bool) : FVal → Bool
  | .inf n' => n == n'
  | _ => false

/-- Whether a value is a negative zero. -/
def FVal.isNegZero : FVal → Bool
  | .fin n m _ => n && m == 0
  | _ => false

/-- One group of a fast-mode pass combined with the accumulator (R41). -/
def fastGroup (a : Arith) (acc : Nat) (products : List FVal) : Nat × Nat :=
  let (va, fa) := fin a .fp32 acc
  let ts := va :: products
  if ts.any FVal.isNan then (Fp.fp32.canonNan, fa)
  else if ts.any (FVal.isInf false) && ts.any (FVal.isInf true) then (Fp.fp32.canonNan, fa ||| flNVF)
  else if ts.any (FVal.isInf false) then (Fp.fp32.infPat false, fa)
  else if ts.any (FVal.isInf true) then (Fp.fp32.infPat true, fa)
  else
    match maxLead ts with
    | none => (Fp.fp32.signed (ts.all FVal.isNegZero) 0, fa)
    | some e =>
      let u := e - 73
      let t := sumTrunc u ts
      let (r, fr) := roundWith { a with strict := false } .rne .fp32 (decide (t < 0)) t.natAbs u
      (r, fa ||| fr)

/-- The exact product of two operands of a pass, with its flags (R39, R33). -/
def product (a : Arith) (f g : Fp) (x y : Nat) : FVal × Nat :=
  let (vx, fx) := fin a f x
  let (vy, fy) := fin a g y
  let (p, fp) := mulVal vx vy
  (p, fx ||| fy ||| fp)

/-- One strict-mode term: a fused multiply-add with the FP32 accumulator (R42). -/
def strictTerm (a : Arith) (f g : Fp) (acc x y : Nat) : Nat × Nat :=
  let (p, fp) := product a f g x y
  let (va, fa) := fin a .fp32 acc
  let (v, fv) := sumVal a p va
  let (r, fr) := deliver a .fp32 v
  (r, fp ||| fa ||| fv ||| fr)

/-- Every strict-mode term of a list in increasing k order. -/
def strictFold (a : Arith) (f g : Fp) : Nat → List (Nat × Nat) → Nat × Nat
  | acc, [] => (acc, 0)
  | acc, (x, y) :: ts =>
    let (r, fl) := strictTerm a f g acc x y
    let (r', fl') := strictFold a f g r ts
    (r', fl ||| fl')

/-- A group of operand pairs applied to the accumulator in the mode in force (R40 to R42). -/
def groupStep (a : Arith) (f g : Fp) (acc : Nat) (terms : List (Nat × Nat)) : Nat × Nat :=
  if a.strict then strictFold a f g acc terms
  else
    let ps := terms.map fun t => product a f g t.1 t.2
    let (r, fl) := fastGroup a acc (ps.map Prod.fst)
    (r, ps.foldl (fun z p => z ||| p.2) fl)

/-- The order of two finite values or infinities: none when one is a NaN. -/
def cmpVal : FVal → FVal → Option Ordering
  | .nan _, _ => none
  | _, .nan _ => none
  | .inf n, .inf n' => some (if n == n' then .eq else if n then .lt else .gt)
  | .inf n, .fin _ _ _ => some (if n then .lt else .gt)
  | .fin _ _ _, .inf n => some (if n then .gt else .lt)
  | .fin n1 m1 e1, .fin n2 m2 e2 =>
    let t := (exactAdd n1 m1 e1 (!n2) m2 e2).1
    some (if t < 0 then .lt else if t = 0 then .eq else .gt)

end Sys2Proof.Machine
end

