-- ==== Sys2Proof/Machine/Operands.lean ====
section
/-!
DEFINITION. Operand forms: the fields of sequencer command words (Tables 5.3 to 5.7), address pairs (R146), stream
descriptors (Table 4.4), chain operation words (Table 4.2) and DMA descriptors (Table 6.3), read from the stored words.
-/

namespace Sys2Proof.Machine

/-- Bits [lo+w-1 : lo] of a command word. -/
def cf (x : BitVec 128) (lo w : Nat) : Nat := bits x.toNat lo w

/-- Opcode of a command word (R143). -/
def opcodeOf (x : BitVec 128) : Nat := cf x 120 8

/-- The floating-point format of an SFMT, TFMT or DFMT code (Table 5.4). -/
def matFmt : Nat → Option Fp
  | 0 => some .fp32
  | 1 => some .fp16
  | 2 => some .bf16
  | 3 => some .e4m3
  | 4 => some .e5m2
  | _ => none

/-- Size of a value of the format in bytes. -/
def Fp.size (f : Fp) : Nat := f.width / 8

/-- Base of an address pair (R146). -/
def pairBase (p : BitVec 64) : Nat := bits p.toNat 0 25

/-- Stride of an address pair, signed (R146). -/
def pairStride (p : BitVec 64) : Int := toSigned 32 (bits p.toNat 32 32)

/-- Whether the reserved bits of an address pair are clear (R146). -/
def pairOk (p : BitVec 64) : Bool := bits p.toNat 25 7 == 0

/-- The shapes of Table 3.3, coded as in ARR_STATUS.SHAPE. -/
inductive Shape where
  | s32 | q16 | h32 | t8
deriving DecidableEq, Repr

/-- The shape of a SHAPE code (Table 5.4). -/
def Shape.ofCode : Nat → Shape
  | 0 => .s32
  | 1 => .q16
  | 2 => .h32
  | _ => .t8

/-- Code of a shape. -/
def Shape.code : Shape → Nat
  | .s32 => 0 | .q16 => 1 | .h32 => 2 | .t8 => 3

/-- Columns of a shape's part (Table 3.3). -/
def Shape.cols : Shape → Nat
  | .s32 => 32 | .q16 => 16 | .h32 => 16 | .t8 => 32

/-- k-extent of a shape for operands of `es` bytes (Table 2.4). -/
def Shape.kExtent (sh : Shape) (es : Nat) : Nat :=
  match sh with
  | .s32 => if es = 1 then 64 else 32
  | .q16 => 16
  | .h32 => 32
  | .t8 => 8

/-- Whether a part number exists in a shape (Table 3.2). -/
def Shape.partOk (sh : Shape) (p : Nat) : Bool :=
  match sh with
  | .q16 => true
  | .h32 => decide (p < 2)
  | _ => p == 0

/-- First array column of a part (R90). -/
def Shape.col0 (sh : Shape) (p : Nat) : Nat :=
  match sh with
  | .q16 => if p % 2 = 1 then 16 else 0
  | .h32 => if p = 1 then 16 else 0
  | _ => 0

/-- First store row of a part (R87). -/
def Shape.row0 (sh : Shape) (p : Nat) : Nat :=
  match sh with
  | .q16 => 2048 * (p / 2)
  | _ => 0

/-- Largest M of a shape (Table 3.2). -/
def Shape.maxM : Shape → Nat
  | .q16 => 2048
  | _ => 4096

/-- Parameters of a MAT.PASS read from its word (Table 5.4). -/
structure MatF where
  array : Nat
  shape : Shape
  part : Nat
  sfmt : Nat
  tfmt : Nat
  stat : Nat
  acc : Nat
  dfmt : Nat
  grad : Bool
  snoop : Nat
  m : Nat
  k : Nat
  n : Nat
  sig : Bool
  sem : Nat
  ra : Nat
  rb : Nat
  rc : Nat
  rd : Nat
deriving DecidableEq, Repr

/-- The fields of Table 5.4. -/
def matFields (x : BitVec 128) : MatF :=
  ⟨cf x 118 2, .ofCode (cf x 116 2), cf x 114 2, cf x 111 3, cf x 108 3, cf x 106 2, cf x 104 2, cf x 101 3,
   cf x 100 1 == 1, cf x 98 2, cf x 86 12 + 1, cf x 80 6 + 1, cf x 75 5 + 1, cf x 74 1 == 1, cf x 62 12,
   cf x 57 5, cf x 52 5, cf x 47 5, cf x 42 5⟩

/-- Stream format of a pass (FP32 where the code is refused). -/
def MatF.sf (f : MatF) : Fp := (matFmt f.sfmt).getD .fp32

/-- Stationary format of a pass. -/
def MatF.tf (f : MatF) : Fp := (matFmt f.tfmt).getD .fp32

/-- Drain format of a pass, none for NONE. -/
def MatF.df (f : MatF) : Option Fp := matFmt f.dfmt

/-! ### Stream descriptors (Table 4.4) -/

/-- Element formats 0 to 6 of the vector engine (Table 4.2). -/
inductive VFmt where
  | f (f : Fp)
  | int8
  | int32
deriving DecidableEq, Repr

/-- The element format of an FMT code (Table 4.2). -/
def vFmt : Nat → Option VFmt
  | 0 => some (.f .fp32)
  | 1 => some (.f .fp16)
  | 2 => some (.f .bf16)
  | 3 => some (.f .e4m3)
  | 4 => some (.f .e5m2)
  | 5 => some .int8
  | 6 => some .int32
  | _ => none

/-- Size of an element in bytes. -/
def VFmt.size : VFmt → Nat
  | .f g => g.size
  | .int8 => 1
  | .int32 => 4

/-- Whether the format is floating point. -/
def VFmt.isFloat : VFmt → Bool
  | .f _ => true
  | _ => false

/-- A stream descriptor read from its 256 bits. -/
structure StreamD where
  raw : Nat
  elemStride : Nat
  rows : Nat
  len : Nat
  rowStride : Int
  fmt : Nat
  space : Nat
  cmode : Nat
  base : Nat
deriving DecidableEq, Repr

/-- The fields of Table 4.4. -/
def streamFields (d : Nat) : StreamD :=
  ⟨d, bits d 176 16, bits d 160 16, bits d 144 16, toSigned 32 (bits d 96 32), bits d 60 4, bits d 58 2, bits d 56 2,
   bits d 0 25⟩

/-- Element size of a descriptor (4 where the format is reserved). -/
def StreamD.es (d : StreamD) : Nat := ((vFmt d.fmt).map VFmt.size).getD 4

/-- Element stride in bytes (R111). -/
def StreamD.step (d : StreamD) : Nat := if d.elemStride = 0 then d.es else d.elemStride

/-- Byte offset of element j of row r (R111). -/
def StreamD.at (d : StreamD) (r j : Nat) : Int := (d.base : Int) + r * d.rowStride + j * d.step

/-- A chain operation word (Table 4.2). -/
structure ChainOp where
  op : Nat
  dst : Nat
  s1 : Nat
  s2 : Nat
  s3 : Nat
  fmt : Nat
  men : Bool
  mreg : Nat
  pair : Bool
  grad : Bool
  rsvd : Nat
deriving DecidableEq, Repr

/-- The fields of Table 4.2. -/
def chainFields (w : Nat) : ChainOp :=
  ⟨bits w 26 6, bits w 22 4, bits w 18 4, bits w 14 4, bits w 10 4, bits w 7 3, bit w 6, bits w 4 2, bit w 3, bit w 2,
   bits w 0 2⟩

/-- The operations of a chain slot: up to the first NOP that only NOPs follow (R133). -/
def chainOps (ws : List Nat) : List ChainOp :=
  ((ws.reverse.dropWhile fun w => bits w 26 6 == 0).reverse).map chainFields

/-- VEC.RUN fields (Table 5.5). -/
structure VecF where
  chain : Nat
  a : Nat
  b : Nat
  d : Nat
  c0 : Nat
  c1 : Nat
  e : Nat
  sca : Nat
  scb : Nat
  rop : Nat
  rsrc : Nat
  rmen : Bool
  rmreg : Nat
  smen : Bool
  smreg : Nat
  sumreg : Nat
  sig : Bool
  sem : Nat
deriving DecidableEq, Repr

/-- The fields of a VEC.RUN word. -/
def vecFields (x : BitVec 128) : VecF :=
  ⟨cf x 115 5, cf x 109 6, cf x 103 6, cf x 97 6, cf x 91 6, cf x 85 6, cf x 79 6, cf x 74 5, cf x 69 5, cf x 65 4,
   cf x 61 4, cf x 60 1 == 1, cf x 58 2, cf x 57 1 == 1, cf x 55 2, cf x 50 5, cf x 49 1 == 1, cf x 37 12⟩

/-! ### DMA descriptors (Table 6.3) -/

/-- The fields of a DMA descriptor. -/
structure DmaF where
  tag : Nat
  fill : Nat
  sn : Nat
  sem : Nat
  sdie : Nat
  stwin : Bool
  sig : Bool
  op : Nat
  swap : Nat
  prio : Nat
  dstStride : Int
  srcStride : Int
  dstCnt : Nat
  dstLen : Nat
  srcCnt : Nat
  srcLen : Nat
  dst : Nat
  src : Nat
  srcZero : Bool
  rsvd : Bool
deriving DecidableEq, Repr

/-- Read a descriptor (Table 6.3); `rsvd` says that a bit the table does not name is set, `srcZero` that every source field
is 0. -/
def dmaFields (x : BitVec 512) : DmaF :=
  let v := x.toNat
  let r := bits v 429 19 + bits v 360 24 + bits v 296 24 + bits v 236 20 + bits v 172 20 + bits v 108 20 + bits v 44 20
  ⟨bits v 480 32, bits v 448 32, bits v 413 16, bits v 401 12, bits v 393 8, bit v 392, bit v 391, bits v 389 2,
   bits v 387 2, bits v 384 3, toSigned 40 (bits v 320 40), toSigned 40 (bits v 256 40), bits v 216 20 + 1,
   bits v 192 24 + 1, bits v 152 20 + 1, bits v 128 24 + 1, bits v 64 44, bits v 0 44,
   bits v 256 40 + bits v 152 20 + bits v 128 24 + bits v 0 44 == 0, r != 0⟩

end Sys2Proof.Machine
end

