-- ==== Sys2Proof/Config.lean ====
section
/-!
DEFINITION. The free values: what the manual leaves open, as constants with no body, so that no proof can see them.
-/

namespace Sys2Proof

/-- Internal result (mantissa and exponent of two) of an elementary vector operation before its one rounding, which the manual
bounds and does not give (R118, R119): by operation, result format, arithmetic control, source format and input pattern. [DESIGN CHOICE, log entry 25] -/
opaque Config.vecFn (op fmt ctl src x : Nat) : Int × Int

/-- Whether RECIP or RSQRT delivers the neighbour of larger magnitude where the exact result is not representable
(R118). [DESIGN CHOICE, log entry 25] -/
opaque Config.vecNeighbour (op fmt ctl src x : Nat) : Bool

/-- What a lane register or mask bit of an element holds that no unmasked operation of the chain has written (R107, R109):
by the command's fresh number, register code, row and element. [DESIGN CHOICE, log entry 26] -/
opaque Config.laneStale (seed reg row elem : Nat) : BitVec 32

/-- Quotient of a dividend by a zero pivot, which no factorisation of R266 has written (Table 9.8, DIAG and TRSM). [DESIGN CHOICE, log entry 27] -/
opaque Config.divZero (dividend : Int) : Int

/-- A fresh open value, one for each count (R66, R158 and every other value the manual leaves open after an event). [DESIGN CHOICE, log entry 29] -/
opaque Config.fresh (n : Nat) : BitVec 64

/-- Serial number in the fuses (Table 14.10: "Fused"). [DESIGN CHOICE, log entry 24] -/
opaque Config.serial : BitVec 64

/-- The vendor's manufacturer identity in IDCODE (R464), which the manual does not give. [DESIGN CHOICE, log entry 77] -/
opaque Config.manufacturer : BitVec 11

/-- Security version floor in the fuses when the part is new (Table 14.10: "Fused"). [DESIGN CHOICE, log entry 24] -/
opaque Config.fusedFloor : BitVec 6

/-- Vendor key digest in the fuses (R422). [DESIGN CHOICE, log entry 24] -/
opaque Config.vendorKey : BitVec 256

/-- The 64-byte fuse record that MR0 measures, for a fused floor: its layout is not stated (Table 14.5). [DESIGN CHOICE, log entry 24] -/
opaque Config.fuseRecord (floor : BitVec 6) : BitVec 512

/-- SHAKE256 with 512 bits of output (R417, R426): a standard the manual names and does not define. [DESIGN CHOICE, log entry 24] -/
opaque Config.shake (bytes : List (BitVec 8)) : BitVec 512

/-- ML-DSA-65 verification of FIPS 204 (R422, R434, R444): key, context string, message, signature. [DESIGN CHOICE, log entry 24] -/
opaque Config.verify (key context message signature : List (BitVec 8)) : Bool

/-- The public key whose digest a TESTKEY record holds (R434: the request is verified against it). [DESIGN CHOICE, log entry 24] -/
opaque Config.keyOf (digest : BitVec 256) : List (BitVec 8)

/-- ML-DSA-65 signing with the identity key, hedged (R429): the count makes two signatures of one message differ. [DESIGN CHOICE, log entry 24] -/
opaque Config.sign (n : Nat) (floor : BitVec 6) (context message : List (BitVec 8)) : List (BitVec 8)

/-- Word w of the public identity key for a floor (R428). [DESIGN CHOICE, log entry 24] -/
opaque Config.idPub (floor : BitVec 6) (w : Nat) : BitVec 64

end Sys2Proof
end

