-- ==== Sys2Proof/Machine/Regs.lean ====
section
/-!
DEFINITION. The register space (Table 17.1 to 17.16, R14, R15, R481, R483): every register by name, the dies that hold it,
its 32-bit location `die code · 2^24 + block code · 2^16 + offset`, width, reset value and access masks. The masks follow
the field tables of the chapters: `wr` the bits a write sets (RW, and RWS fields that are not flags), `w1c` the bits a
write of 1 clears (RW1C, and RWS flags), `lock` the RWL bits, and `keep` says whether the register outlives a job load.
-/

namespace Sys2Proof.Machine

/-- The registers of the register space (Table 17.3 to 17.16). -/
inductive Reg where
  | DIE_ID | SRAM_ECC_CORR | DIE_HS_WD | DIE_LEASE | DIE_FAULT | DIE_STALE
  | DIE_TEMP | JOB_WD | JOB_CTRL | MOD_FAULT | HALF_LEASE | BOARD_LEASE
  | LEASE_STATUS | LEASE_CTRL | TWIN_FENCE | RESTART_CTRL | PWR_STATUS | PWR_INPUT
  | PWR_CFG | PWR_LEVEL_LT | VETCH_SEM_TO | VETCH_BAR_TO | VETCH_EPOCH | VETCH_SIGNAL
  | VETCH_ARRIVE | VETCH_FAULT | VETCH_AUTO | VETCH_QMON | VETCH_QSTALL | VETCH_BAR_CFG
  | VETCH_BAR_STATUS | VETCH_SEM | DMA_CFG | DMA_CH_CTRL | DMA_CH_STATUS | DMA_CH_FAULT
  | DMA_CH_SUBMIT | DMA_CH_BYTES | ARITH_CTRL | ARITH_STICKY | ARITH_STICKY_MOD | STICKY_SRC_C
  | STICKY_SRC_MX | SEQ_CTRL | SEQ_STATUS | SEQ_START | SEQ_PC | SEQ_FAULT
  | SEQ_STOP | SEQ_LASTSUM | SEQ_CMDS | SEQ_ISSUE_HOLD | SEQ_SYNC_WAIT | SEQ_SC
  | ARR_STATUS | ARR_FAULT | ARR_PASSES | ARR_ROWS | ARR_FEED_STALL | ARR_DRAIN_STALL
  | ARR_LOAD_HOLD | VE_STATUS | VE_FAULT | VE_FILL | VE_CMDS | VE_ELEMS
  | VE_SP_STALL | VE_HAZARD_HOLD | TEA_CFG | TEA_STATUS | TEA_FAULT | TEA_ROWS
  | TEA_UPDATES | TEA_SNOOP_HOLD | VE_SDESC | VE_CHAIN | RN_STATUS | RN_FAULT
  | RN_LIST | RN_TRIG | RN_BUF_SEL | RN_BUF0 | RN_BUF1 | RN_BUF_LEN
  | RN_REFRESH | RN_JOBS | RN_DEGRADED | RN_MISSED | RN_PIVOTS | RN_MEM_STALL
  | ROOT_CFG | ROOT_MISSED | ROOT_PUBLISHED | PR_STATUS | PR_FAULT | PR_LIST
  | PR_WC0 | PR_WC1 | PR_WC_LEN | PR_WC_SEL | PR_DIR_SEM | PR_DIR_RING
  | PR_GRAD | PR_GRAD_RING | PR_SORTAB | PR_PLEN | PR_UPDATES | PR_ELEMS
  | PR_HELD | PR_MEM_STALL | PR_DIR_WAIT | PR_PROG | PR_K | PR_LIST_ALT
  | PR_CFG | PR_SEED | PR_SCHED | PR_SWEEP | PR_LAST | PR_SWEEP_NEXT
  | SHARD_SEL | SHARD_J0 | SHARD_PUB | SHARD_GATE | SHARD_STATUS | MC_CH_STATE
  | MC_RETIRE | MC_MIG_PTR | MC_REREAD | MC_UNCORR | TIER_FAST | TIER_SLOW
  | CAVE_CFG | CAVE_PROG_TO | CAVE_MAP | CAVE_STATUS | CAVE_LAST | CAVE_SKIPS
  | CAVE_FAILS | CAVE_GUARD_WAIT | CAVE_SLOT | CAVE_HOST | SL_CFG | SL_STATUS
  | SL_FAULT | SL_PEER | SL_TX_FLITS | SL_RX_FLITS | SL_REPLAYS | SL_FEC_CORR
  | SL_SYNC_REPLAYS | SL_ADMIT_DROP | SL_ROUTE_DROP | SL_NODE | ROUTE_SEL | SL_ADMIT
  | ROUTE_ENT | VAT_STATUS | VAT_SHARE | VAT_FAULT | VAT_SUBMIT | VAT_SPILL_BASE
  | VAT_SPILL_LEN | VAT_OCC | VAT_PROG_TO | VAT_COLLS | VAT_SPILLS | VAT_RESENDS
  | SEC_SERIAL | SEC_FUSE | BOOT_STATUS | BOOT_SLOT | CFG_REFUSE | SEC_CTRL
  | ATT_CTRL | ATT_STATUS | ATT_DST | ATT_NONCE | MR | CFG_DIGEST
  | JOB_DIGEST | ID_PUB | MGMT_STATUS | MGMT_MAC | CC_STATUS | CC_CACHE
  | RIND_CYCLES | RIND_REFUSED | HOOP_CTRL | HOOP_CFG | HOOP_STATUS | HOOP_EC
  | HOOP_TAG | HOOP_PERIOD | HOOP_TO | HOOP_DEC_EPOCH | HOOP_STG_TGT | HOOP_STG_VAL
  | HOOP_STG_CMD | HOOP_STG_RES | STEP_NONFIN | STEP_EPS | STEP_E0 | STEP_K0
  | BRINE_CFG | BRINE_PUB | BRINE_SCALE | BRINE_CLEAN | BRINE_OVF_COUNT | BRINE_HIST
  | BRINE_OVF_LOG | SORREL_CFG | SORREL_TO | SORREL_STATUS | SORREL_MOD | SORREL_STEP
  | SORREL_AGREED | SORREL_PEER | SORREL_RX | SORREL_RX_TAG
deriving DecidableEq, Repr

/-- Which die codes hold a register (Table 17.1). -/
inductive DieSet where
  | all | c | m | x | mx | w | g
deriving DecidableEq, Repr

/-- Membership of a die code. -/
def DieSet.has (d : DieSet) (code : Nat) : Bool :=
  let c := decide (code < 0x40)
  let m := decide (0x40 ≤ code) && decide (code < 0x4C)
  let x := decide (0x50 ≤ code) && decide (code < 0x54)
  match d with
  | .all => c || m || x
  | .c => c
  | .m => m
  | .x => x
  | .mx => m || x
  | .w => code == 0x50 || code == 0x52
  | .g => code == 0x60

/-- One row of the register index: element (i, j) lies at `base + i·s1 + j·s2` within its die. -/
structure RegRow where
  dies : DieSet
  base : Nat
  n1 : Nat
  s1 : Nat
  n2 : Nat
  s2 : Nat
  w64 : Bool
  rst : Nat
  wr : Nat
  w1c : Nat
  lock : Nat
  keep : Bool
deriving DecidableEq, Repr

/-- The index row of each register. -/
def Reg.row : Reg → RegRow
  | .DIE_ID => ⟨.all, 0, 1, 0x800000, 1, 0x800000, false, 0, 0, 0, 0, true⟩ -- R483
  | .SRAM_ECC_CORR => ⟨.all, 0x100, 1, 0x800000, 1, 0x800000, true, 0, 0, 0, 0, false⟩ -- R191
  | .DIE_HS_WD => ⟨.all, 0x108, 1, 0x800000, 1, 0x800000, false, 0x40, 0xffff, 0, 0, false⟩ -- R413
  | .DIE_LEASE => ⟨.all, 0x110, 1, 0x800000, 1, 0x800000, true, 1, 0xffffffffffffffff, 0, 0, true⟩ -- R391
  | .DIE_FAULT => ⟨.all, 0x118, 1, 0x800000, 1, 0x800000, true, 0, 0xffff000000ff, 0x8000000000000000, 0, true⟩ -- R484
  | .DIE_STALE => ⟨.all, 0x120, 1, 0x800000, 1, 0x800000, false, 0, 0, 0, 0, false⟩ -- R391
  | .DIE_TEMP => ⟨.all, 0x128, 1, 0x800000, 1, 0x800000, false, 0, 0, 0, 0, true⟩ -- R479
  | .JOB_WD => ⟨.g, 0x100, 1, 0x800000, 1, 0x800000, false, 0x3938700, 0xffffffff, 0, 0, false⟩ -- R393
  | .JOB_CTRL => ⟨.g, 0x104, 1, 0x800000, 1, 0x800000, false, 0x186a0000, 0x1fffffff, 0, 0, false⟩ -- R395
  | .MOD_FAULT => ⟨.g, 0x108, 1, 0x800000, 1, 0x800000, true, 0, 0xff0000000000ff, 0xc000000000000000, 0, true⟩ -- R395
  | .HALF_LEASE => ⟨.g, 0x110, 1, 0x800000, 1, 0x800000, true, 1, 0, 0, 0, true⟩ -- R389
  | .BOARD_LEASE => ⟨.g, 0x118, 1, 0x800000, 1, 0x800000, true, 1, 0xffffffffffffffff, 0, 0, true⟩ -- R389
  | .LEASE_STATUS => ⟨.g, 0x120, 1, 0x800000, 1, 0x800000, false, 8, 0, 0, 0, true⟩ -- R414
  | .LEASE_CTRL => ⟨.g, 0x124, 1, 0x800000, 1, 0x800000, false, 0, 0, 0, 0, false⟩ -- R412, R432
  | .TWIN_FENCE => ⟨.g, 0x128, 1, 0x800000, 1, 0x800000, false, 0, 1, 0, 0, true⟩ -- R388
  | .RESTART_CTRL => ⟨.g, 0x12c, 1, 0x800000, 1, 0x800000, false, 0, 1, 0, 0, false⟩ -- R408
  | .PWR_STATUS => ⟨.g, 0x130, 1, 0x800000, 1, 0x800000, false, 0, 0, 0, 0, true⟩ -- R479
  | .PWR_INPUT => ⟨.g, 0x134, 1, 0x800000, 1, 0x800000, false, 0, 0, 0, 0, true⟩ -- R479
  | .PWR_CFG => ⟨.g, 0x138, 1, 0x800000, 1, 0x800000, false, 0x5f02ee, 0, 0, 0xffffff, true⟩ -- R479
  | .PWR_LEVEL_LT => ⟨.g, 0x140, 1, 0x800000, 1, 0x800000, true, 0, 0, 0, 0, false⟩ -- R479
  | .VETCH_SEM_TO => ⟨.all, 0x10000, 1, 0x800000, 1, 0x800000, false, 0xf4240, 0xffffffff, 0, 0, false⟩ -- R223
  | .VETCH_BAR_TO => ⟨.all, 0x10004, 1, 0x800000, 1, 0x800000, false, 0xf4240, 0xffffffff, 0, 0, false⟩ -- R223
  | .VETCH_EPOCH => ⟨.all, 0x10008, 1, 0x800000, 1, 0x800000, true, 0, 0, 0, 0, false⟩ -- R210
  | .VETCH_SIGNAL => ⟨.all, 0x10010, 1, 0x800000, 1, 0x800000, true, 0, 0, 0, 0, false⟩ -- R200
  | .VETCH_ARRIVE => ⟨.all, 0x10018, 1, 0x800000, 1, 0x800000, false, 0, 0, 0, 0, false⟩ -- R205
  | .VETCH_FAULT => ⟨.all, 0x10020, 1, 0x800000, 1, 0x800000, true, 0, 0, 0, 0, false⟩ -- R225
  | .VETCH_AUTO => ⟨.mx, 0x10028, 1, 0x800000, 1, 0x800000, false, 0, 0xcfffffff, 0, 0, false⟩ -- R203
  | .VETCH_QMON => ⟨.all, 0x10100, 1, 0x800000, 16, 4, false, 0, 0x80000fff, 0, 0, false⟩ -- R385
  | .VETCH_QSTALL => ⟨.all, 0x10200, 1, 0x800000, 16, 4, false, 0, 0, 0, 0, false⟩ -- R385
  | .VETCH_BAR_CFG => ⟨.all, 0x10800, 1, 0x800000, 256, 4, false, 0, 0x3ff, 0, 0, false⟩ -- R202
  | .VETCH_BAR_STATUS => ⟨.all, 0x11000, 1, 0x800000, 256, 8, true, 0, 0, 0, 0, false⟩ -- R225
  | .VETCH_SEM => ⟨.all, 0x14000, 1, 0x800000, 4096, 4, false, 0, 0xffffffff, 0, 0, false⟩ -- R197
  | .DMA_CFG => ⟨.all, 0x20000, 1, 0x800000, 1, 0x800000, false, 0x1000, 0, 0, 0xffff, true⟩ -- R192
  | .DMA_CH_CTRL => ⟨.all, 0x20100, 1, 0x800000, 32, 0x20, false, 0, 0, 0, 0x1f, true⟩ -- R181
  | .DMA_CH_STATUS => ⟨.all, 0x20104, 1, 0x800000, 32, 0x20, false, 0, 0, 0, 0, false⟩ -- R192
  | .DMA_CH_FAULT => ⟨.all, 0x20108, 1, 0x800000, 32, 0x20, true, 0, 0, 0, 0, false⟩ -- R189
  | .DMA_CH_SUBMIT => ⟨.all, 0x20110, 1, 0x800000, 32, 0x20, true, 0, 0, 0, 0, false⟩ -- R182
  | .DMA_CH_BYTES => ⟨.all, 0x20118, 1, 0x800000, 32, 0x20, true, 0, 0, 0, 0, false⟩ -- R192
  | .ARITH_CTRL => ⟨.all, 0x30000, 1, 0x800000, 1, 0x800000, false, 0, 0xf, 0, 0, false⟩ -- R62
  | .ARITH_STICKY => ⟨.all, 0x30100, 1, 0x800000, 16, 4, false, 0, 0, 0x1ff, 0, false⟩ -- R64
  | .ARITH_STICKY_MOD => ⟨.g, 0x30100, 1, 0x800000, 1, 0x800000, false, 0, 0, 0x1ff, 0, true⟩ -- R64
  | .STICKY_SRC_C => ⟨.g, 0x30110, 1, 0x800000, 1, 0x800000, true, 0, 0, 0xffffffffffffffff, 0, true⟩ -- R67
  | .STICKY_SRC_MX => ⟨.g, 0x30118, 1, 0x800000, 1, 0x800000, true, 0, 0, 0xf0fff, 0, true⟩ -- R67
  | .SEQ_CTRL => ⟨.c, 0x100000, 16, 0x10000, 1, 0x8000, false, 0, 0, 0, 0, false⟩ -- R137
  | .SEQ_STATUS => ⟨.c, 0x100004, 16, 0x10000, 1, 0x8000, false, 0, 0, 0, 0, false⟩ -- R162
  | .SEQ_START => ⟨.c, 0x100008, 16, 0x10000, 1, 0x8000, false, 0, 0x3fff, 0, 0, false⟩ -- R137
  | .SEQ_PC => ⟨.c, 0x10000c, 16, 0x10000, 1, 0x8000, false, 0, 0, 0, 0, false⟩ -- R138
  | .SEQ_FAULT => ⟨.c, 0x100010, 16, 0x10000, 1, 0x8000, true, 0, 0, 0, 0, false⟩ -- R159
  | .SEQ_STOP => ⟨.c, 0x100018, 16, 0x10000, 1, 0x8000, true, 0, 0, 0, 0, false⟩ -- R157
  | .SEQ_LASTSUM => ⟨.c, 0x100020, 16, 0x10000, 1, 0x8000, true, 0, 0, 0, 0, false⟩ -- R142
  | .SEQ_CMDS => ⟨.c, 0x100028, 16, 0x10000, 1, 0x8000, true, 0, 0, 0, 0, false⟩ -- R162
  | .SEQ_ISSUE_HOLD => ⟨.c, 0x100030, 16, 0x10000, 1, 0x8000, false, 0, 0, 0, 0, false⟩ -- R162
  | .SEQ_SYNC_WAIT => ⟨.c, 0x100034, 16, 0x10000, 1, 0x8000, false, 0, 0, 0, 0, false⟩ -- R162
  | .SEQ_SC => ⟨.c, 0x100100, 16, 0x10000, 32, 8, true, 0, 0xffffffffffffffff, 0, 0, false⟩ -- R135
  | .ARR_STATUS => ⟨.c, 0x100400, 16, 0x10000, 4, 0x40, false, 0, 0, 0, 0, false⟩ -- R101
  | .ARR_FAULT => ⟨.c, 0x100404, 16, 0x10000, 4, 0x40, false, 0, 0, 0, 0, false⟩ -- R102
  | .ARR_PASSES => ⟨.c, 0x100408, 16, 0x10000, 4, 0x40, true, 0, 0, 0, 0, false⟩ -- R102
  | .ARR_ROWS => ⟨.c, 0x100410, 16, 0x10000, 4, 0x40, true, 0, 0, 0, 0, false⟩ -- R102
  | .ARR_FEED_STALL => ⟨.c, 0x100418, 16, 0x10000, 4, 0x40, false, 0, 0, 0, 0, false⟩ -- R94
  | .ARR_DRAIN_STALL => ⟨.c, 0x10041c, 16, 0x10000, 4, 0x40, false, 0, 0, 0, 0, false⟩ -- R94
  | .ARR_LOAD_HOLD => ⟨.c, 0x100420, 16, 0x10000, 4, 0x40, false, 0, 0, 0, 0, false⟩ -- R94
  | .VE_STATUS => ⟨.c, 0x100600, 16, 0x10000, 1, 0x8000, false, 0, 0, 0, 0, false⟩ -- R134
  | .VE_FAULT => ⟨.c, 0x100604, 16, 0x10000, 1, 0x8000, false, 0, 0, 0, 0, false⟩ -- R134
  | .VE_FILL => ⟨.c, 0x100608, 16, 0x10000, 1, 0x8000, false, 0, 0xffffffff, 0, 0, false⟩ -- R133
  | .VE_CMDS => ⟨.c, 0x100610, 16, 0x10000, 1, 0x8000, true, 0, 0, 0, 0, false⟩ -- R134
  | .VE_ELEMS => ⟨.c, 0x100618, 16, 0x10000, 1, 0x8000, true, 0, 0, 0, 0, false⟩ -- R134
  | .VE_SP_STALL => ⟨.c, 0x100620, 16, 0x10000, 1, 0x8000, false, 0, 0, 0, 0, false⟩ -- R134
  | .VE_HAZARD_HOLD => ⟨.c, 0x100624, 16, 0x10000, 1, 0x8000, false, 0, 0, 0, 0, false⟩ -- R134
  | .TEA_CFG => ⟨.c, 0x100700, 16, 0x10000, 9, 8, true, 0, 0xffffffffffffffff, 0, 0, false⟩ -- R250: TEA_SAMPLE to TEA_STEP, in the order of Table 8.3
  | .TEA_STATUS => ⟨.c, 0x100780, 16, 0x10000, 1, 0x8000, false, 0, 0, 0, 0, false⟩ -- R251
  | .TEA_FAULT => ⟨.c, 0x100784, 16, 0x10000, 1, 0x8000, false, 0, 0, 0, 0, false⟩ -- R251
  | .TEA_ROWS => ⟨.c, 0x100788, 16, 0x10000, 1, 0x8000, true, 0, 0, 0, 0, false⟩ -- R251
  | .TEA_UPDATES => ⟨.c, 0x100790, 16, 0x10000, 1, 0x8000, true, 0, 0, 0, 0, false⟩ -- R251
  | .TEA_SNOOP_HOLD => ⟨.c, 0x100798, 16, 0x10000, 1, 0x8000, false, 0, 0, 0, 0, false⟩ -- R251
  | .VE_SDESC => ⟨.c, 0x100800, 16, 0x10000, 128, 8, true, 0, 0xffffffffffffffff, 0, 0, false⟩ -- R132
  | .VE_CHAIN => ⟨.c, 0x100c00, 16, 0x10000, 512, 4, false, 0, 0xffffffff, 0, 0, false⟩ -- R132
  | .RN_STATUS => ⟨.m, 0x200000, 1, 0x800000, 4, 0x100, false, 0, 0, 0, 0, false⟩ -- R281
  | .RN_FAULT => ⟨.m, 0x200004, 1, 0x800000, 4, 0x100, false, 0, 0, 0, 0, false⟩ -- R281
  | .RN_LIST => ⟨.m, 0x200008, 1, 0x800000, 4, 0x100, true, 0, 0xffff03ffffff, 0, 0, false⟩ -- R281
  | .RN_TRIG => ⟨.m, 0x200010, 1, 0x800000, 4, 0x100, false, 0x10000, 0xffff8fff, 0, 0, false⟩ -- R281
  | .RN_BUF_SEL => ⟨.m, 0x200014, 1, 0x800000, 4, 0x100, false, 0, 1, 0, 0, false⟩ -- R272
  | .RN_BUF0 => ⟨.m, 0x200018, 1, 0x800000, 4, 0x100, true, 0, 0xfffffffffff, 0, 0, false⟩ -- R271
  | .RN_BUF1 => ⟨.m, 0x200020, 1, 0x800000, 4, 0x100, true, 0, 0xfffffffffff, 0, 0, false⟩ -- R271
  | .RN_BUF_LEN => ⟨.m, 0x200028, 1, 0x800000, 4, 0x100, true, 0, 0xffffffffff, 0, 0, false⟩ -- R271
  | .RN_REFRESH => ⟨.m, 0x200030, 1, 0x800000, 4, 0x100, true, 0, 0, 0, 0, false⟩ -- R281
  | .RN_JOBS => ⟨.m, 0x200038, 1, 0x800000, 4, 0x100, true, 0, 0, 0, 0, false⟩ -- R281
  | .RN_DEGRADED => ⟨.m, 0x200040, 1, 0x800000, 4, 0x100, true, 0, 0, 0, 0, false⟩ -- R281
  | .RN_MISSED => ⟨.m, 0x200048, 1, 0x800000, 4, 0x100, true, 0, 0, 0, 0, false⟩ -- R281
  | .RN_PIVOTS => ⟨.m, 0x200050, 1, 0x800000, 4, 0x100, true, 0, 0, 0, 0, false⟩ -- R281
  | .RN_MEM_STALL => ⟨.m, 0x200058, 1, 0x800000, 4, 0x100, false, 0, 0, 0, 0, false⟩ -- R281
  | .ROOT_CFG => ⟨.g, 0x200000, 1, 0x800000, 1, 0x800000, false, 0, 0x10f, 0, 0, false⟩ -- R281
  | .ROOT_MISSED => ⟨.g, 0x200008, 1, 0x800000, 1, 0x800000, true, 0, 0xffffffffffffffff, 0, 0, true⟩ -- R275
  | .ROOT_PUBLISHED => ⟨.g, 0x200010, 1, 0x800000, 1, 0x800000, true, 0, 0xffffffffffffffff, 0, 0, true⟩ -- R275
  | .PR_STATUS => ⟨.m, 0x280000, 1, 0x800000, 8, 0x100, false, 0, 0, 0, 0, false⟩ -- R320
  | .PR_FAULT => ⟨.m, 0x280004, 1, 0x800000, 8, 0x100, false, 0, 0, 0, 0, false⟩ -- R320
  | .PR_LIST => ⟨.m, 0x280008, 1, 0x800000, 8, 0x100, true, 0, 0xffff03ffffff, 0, 0, false⟩ -- R320
  | .PR_WC0 => ⟨.m, 0x280010, 1, 0x800000, 8, 0x100, true, 0, 0xfffffffffff, 0, 0, false⟩ -- R300
  | .PR_WC1 => ⟨.m, 0x280018, 1, 0x800000, 8, 0x100, true, 0, 0xfffffffffff, 0, 0, false⟩ -- R300
  | .PR_WC_LEN => ⟨.m, 0x280020, 1, 0x800000, 8, 0x100, true, 0, 0xffffffffff, 0, 0, false⟩ -- R300
  | .PR_WC_SEL => ⟨.m, 0x280028, 1, 0x800000, 8, 0x100, false, 0, 1, 0, 0, false⟩ -- R300
  | .PR_DIR_SEM => ⟨.m, 0x28002c, 1, 0x800000, 8, 0x100, false, 0, 0xffffffff, 0, 0, false⟩ -- R284
  | .PR_DIR_RING => ⟨.m, 0x280030, 1, 0x800000, 8, 0x100, true, 0, 0xffffffffffffffff, 0, 0, false⟩ -- R284
  | .PR_GRAD => ⟨.m, 0x280038, 1, 0x800000, 8, 0x100, true, 0, 0xfffffffffff, 0, 0, false⟩ -- R283
  | .PR_GRAD_RING => ⟨.m, 0x280040, 1, 0x800000, 8, 0x100, true, 0, 0x70000ffffffffff, 0, 0, false⟩ -- R283
  | .PR_SORTAB => ⟨.m, 0x280048, 1, 0x800000, 8, 0x100, true, 0, 0xfffffffffff, 0, 0, false⟩ -- R312
  | .PR_PLEN => ⟨.m, 0x280050, 1, 0x800000, 8, 0x100, true, 0, 0xffffffffffffffff, 0, 0, false⟩ -- R291
  | .PR_UPDATES => ⟨.m, 0x280058, 1, 0x800000, 8, 0x100, true, 0, 0, 0, 0, false⟩ -- R320
  | .PR_ELEMS => ⟨.m, 0x280060, 1, 0x800000, 8, 0x100, true, 0, 0, 0, 0, false⟩ -- R320
  | .PR_HELD => ⟨.m, 0x280068, 1, 0x800000, 8, 0x100, true, 0, 0, 0, 0, false⟩ -- R320
  | .PR_MEM_STALL => ⟨.m, 0x280070, 1, 0x800000, 8, 0x100, false, 0, 0, 0, 0, false⟩ -- R320
  | .PR_DIR_WAIT => ⟨.m, 0x280074, 1, 0x800000, 8, 0x100, false, 0, 0, 0, 0, false⟩ -- R320
  | .PR_PROG => ⟨.m, 0x281000, 8, 0x800, 512, 4, false, 0, 0xffffffff, 0, 0, false⟩ -- R291
  | .PR_K => ⟨.m, 0x285000, 1, 0x800000, 128, 4, false, 0, 0xffffffff, 0, 0, false⟩ -- R319
  | .PR_LIST_ALT => ⟨.m, 0x286000, 1, 0x800000, 8, 8, true, 0, 0xffff03ffffff, 0, 0, false⟩ -- R385
  | .PR_CFG => ⟨.g, 0x280000, 1, 0x800000, 1, 0x800000, false, 0x10, 0x1ff7f, 0, 0, false⟩ -- R320
  | .PR_SEED => ⟨.g, 0x280008, 1, 0x800000, 1, 0x800000, true, 0, 0xffffffffffffffff, 0, 0, false⟩ -- R305
  | .PR_SCHED => ⟨.g, 0x280010, 1, 0x800000, 1, 0x800000, true, 0x1000000000000, 0xffff000003ffffff, 0, 0, false⟩ -- R320
  | .PR_SWEEP => ⟨.g, 0x280018, 1, 0x800000, 1, 0x800000, false, 0x3e8, 0xffff, 0, 0, false⟩ -- R306
  | .PR_LAST => ⟨.g, 0x280020, 1, 0x800000, 1, 0x800000, true, 0, 0xffffffffffffffff, 0, 0, false⟩ -- R296
  | .PR_SWEEP_NEXT => ⟨.g, 0x280028, 1, 0x800000, 1, 0x800000, true, 0, 0xffffffffffffffff, 0, 0, false⟩ -- R306
  | .SHARD_SEL => ⟨.g, 0x280030, 1, 0x800000, 1, 0x800000, false, 0, 1, 0, 0, false⟩ -- R377
  | .SHARD_J0 => ⟨.g, 0x280038, 1, 0x800000, 1, 0x800000, true, 0, 0xffffffffffff, 0, 0, false⟩ -- R378
  | .SHARD_PUB => ⟨.g, 0x280040, 1, 0x800000, 1, 0x800000, false, 0, 0x1ffffff, 0, 0, false⟩ -- R379
  | .SHARD_GATE => ⟨.g, 0x280044, 1, 0x800000, 1, 0x800000, false, 0, 0xfff, 0, 0, false⟩ -- R380
  | .SHARD_STATUS => ⟨.g, 0x280048, 1, 0x800000, 1, 0x800000, false, 0, 0, 0, 0, false⟩ -- R386
  | .MC_CH_STATE => ⟨.m, 0x300000, 1, 0x800000, 24, 4, false, 0, 0, 0, 0, true⟩ -- R192
  | .MC_RETIRE => ⟨.m, 0x300080, 1, 0x800000, 1, 0x800000, false, 0, 0, 0, 0, false⟩ -- R176
  | .MC_MIG_PTR => ⟨.m, 0x300088, 1, 0x800000, 1, 0x800000, true, 0, 0, 0, 0, true⟩ -- R177
  | .MC_REREAD => ⟨.m, 0x300090, 1, 0x800000, 1, 0x800000, true, 0, 0xffffffffffffffff, 0, 0, true⟩ -- R173
  | .MC_UNCORR => ⟨.m, 0x300098, 1, 0x800000, 1, 0x800000, true, 0, 0x1f0fffffff, 0x8000000000000000, 0, true⟩ -- R173
  | .TIER_FAST => ⟨.g, 0x300000, 1, 0x800000, 1, 0x800000, true, 0xfc0000, 0, 0, 0x10fffffff, true⟩ -- R192
  | .TIER_SLOW => ⟨.g, 0x300008, 1, 0x800000, 1, 0x800000, true, 0x3f00000, 0, 0, 0x10fffffff, true⟩ -- R192
  | .CAVE_CFG => ⟨.g, 0x300100, 1, 0x800000, 1, 0x800000, false, 0, 0x1ffff, 0, 0, false⟩ -- R398
  | .CAVE_PROG_TO => ⟨.g, 0x300104, 1, 0x800000, 1, 0x800000, false, 0xf4240, 0xffffffff, 0, 0, false⟩ -- R406
  | .CAVE_MAP => ⟨.g, 0x300108, 1, 0x800000, 1, 0x800000, true, 0, 0xfff00fffffffffff, 0, 0, false⟩ -- R398
  | .CAVE_STATUS => ⟨.g, 0x300110, 1, 0x800000, 1, 0x800000, false, 0, 0, 0, 0, false⟩ -- R414
  | .CAVE_LAST => ⟨.g, 0x300118, 1, 0x800000, 1, 0x800000, true, 0, 0xffffffffffffffff, 0, 0, true⟩ -- R402
  | .CAVE_SKIPS => ⟨.g, 0x300120, 1, 0x800000, 1, 0x800000, false, 0, 0, 0, 0, false⟩ -- R414
  | .CAVE_FAILS => ⟨.g, 0x300124, 1, 0x800000, 1, 0x800000, false, 0, 0, 0, 0, false⟩ -- R414
  | .CAVE_GUARD_WAIT => ⟨.g, 0x300128, 1, 0x800000, 1, 0x800000, false, 0, 0, 0, 0, false⟩ -- R414
  | .CAVE_SLOT => ⟨.g, 0x300200, 2, 0x20, 4, 8, true, 0, 0xffffffffffffffff, 0, 0, false⟩ -- R397
  | .CAVE_HOST => ⟨.g, 0x300300, 2, 0x20, 4, 8, true, 0, 0xffffffffffffffff, 0, 0, false⟩ -- R397
  | .SL_CFG => ⟨.x, 0x400000, 1, 0x800000, 9, 0x40, false, 0x640008, 0x80000000, 0, 0x70ff00ff, true⟩ -- R326
  | .SL_STATUS => ⟨.x, 0x400004, 1, 0x800000, 9, 0x40, false, 0, 0, 0, 0, true⟩ -- R362
  | .SL_FAULT => ⟨.x, 0x400008, 1, 0x800000, 9, 0x40, false, 0, 0xff, 0x80000000, 0, true⟩ -- R334
  | .SL_PEER => ⟨.x, 0x40000c, 1, 0x800000, 9, 0x40, false, 0, 0, 0, 0, true⟩ -- R326
  | .SL_TX_FLITS => ⟨.x, 0x400010, 1, 0x800000, 9, 0x40, true, 0, 0, 0, 0, false⟩ -- R361
  | .SL_RX_FLITS => ⟨.x, 0x400018, 1, 0x800000, 9, 0x40, true, 0, 0, 0, 0, false⟩ -- R361
  | .SL_REPLAYS => ⟨.x, 0x400020, 1, 0x800000, 9, 0x40, true, 0, 0, 0, 0, false⟩ -- R361
  | .SL_FEC_CORR => ⟨.x, 0x400028, 1, 0x800000, 9, 0x40, true, 0, 0, 0, 0, false⟩ -- R361
  | .SL_SYNC_REPLAYS => ⟨.x, 0x400030, 1, 0x800000, 9, 0x40, false, 0, 0, 0, 0, false⟩ -- R361
  | .SL_ADMIT_DROP => ⟨.x, 0x400034, 1, 0x800000, 9, 0x40, false, 0, 0, 0, 0, false⟩ -- R361
  | .SL_ROUTE_DROP => ⟨.x, 0x400038, 1, 0x800000, 9, 0x40, false, 0, 0, 0, 0, false⟩ -- R361
  | .SL_NODE => ⟨.g, 0x400000, 1, 0x800000, 1, 0x800000, false, 0, 0, 0, 0xff, true⟩ -- R337
  | .ROUTE_SEL => ⟨.g, 0x400008, 1, 0x800000, 1, 0x800000, false, 0, 1, 0, 0, false⟩ -- R341
  | .SL_ADMIT => ⟨.g, 0x400100, 1, 0x800000, 4, 8, true, 0, 0xffffffffffffffff, 0, 0, true⟩ -- R338
  | .ROUTE_ENT => ⟨.g, 0x401000, 2, 0x400, 256, 4, false, 0, 0x83ffffff, 0, 0, true⟩ -- R339
  | .VAT_STATUS => ⟨.x, 0x480000, 1, 0x800000, 1, 0x800000, false, 0, 0, 0, 0, false⟩ -- R362
  | .VAT_SHARE => ⟨.x, 0x480004, 1, 0x800000, 1, 0x800000, false, 0x400, 0x7ff07ff, 0, 0, false⟩ -- R354
  | .VAT_FAULT => ⟨.x, 0x480008, 1, 0x800000, 1, 0x800000, true, 0, 0, 0, 0, false⟩ -- R360
  | .VAT_SUBMIT => ⟨.x, 0x480010, 1, 0x800000, 1, 0x800000, true, 0, 0, 0, 0, false⟩ -- R345
  | .VAT_SPILL_BASE => ⟨.x, 0x480018, 1, 0x800000, 1, 0x800000, true, 0, 0, 0, 0xfffffffffff, true⟩ -- R356
  | .VAT_SPILL_LEN => ⟨.x, 0x480020, 1, 0x800000, 1, 0x800000, true, 0, 0, 0, 0xffffffffff, true⟩ -- R356
  | .VAT_OCC => ⟨.x, 0x480028, 1, 0x800000, 1, 0x800000, false, 0, 0, 0, 0, false⟩ -- R362
  | .VAT_PROG_TO => ⟨.x, 0x48002c, 1, 0x800000, 1, 0x800000, false, 0x186a0, 0, 0, 0xffffffff, true⟩ -- R360
  | .VAT_COLLS => ⟨.x, 0x480030, 1, 0x800000, 1, 0x800000, true, 0, 0, 0, 0, false⟩ -- R361
  | .VAT_SPILLS => ⟨.x, 0x480038, 1, 0x800000, 1, 0x800000, true, 0, 0, 0, 0, false⟩ -- R361
  | .VAT_RESENDS => ⟨.x, 0x480040, 1, 0x800000, 1, 0x800000, true, 0, 0, 0, 0, false⟩ -- R361
  | .SEC_SERIAL => ⟨.w, 0x500000, 1, 0x800000, 1, 0x800000, true, 0, 0, 0, 0, true⟩ -- R436
  | .SEC_FUSE => ⟨.w, 0x500008, 1, 0x800000, 1, 0x800000, true, 0, 0, 0, 0, true⟩ -- R436
  | .BOOT_STATUS => ⟨.w, 0x500010, 1, 0x800000, 1, 0x800000, true, 0, 0, 0, 0, true⟩ -- R436
  | .BOOT_SLOT => ⟨.w, 0x500018, 1, 0x800000, 1, 0x800000, true, 0, 0, 0, 0, true⟩ -- R436
  | .CFG_REFUSE => ⟨.w, 0x500020, 1, 0x800000, 1, 0x800000, true, 0, 0, 0, 0, true⟩ -- R436
  | .SEC_CTRL => ⟨.w, 0x500028, 1, 0x800000, 1, 0x800000, false, 0, 0, 0, 0, true⟩ -- R436
  | .ATT_CTRL => ⟨.w, 0x500030, 1, 0x800000, 1, 0x800000, false, 0, 0, 0, 0, true⟩ -- R436
  | .ATT_STATUS => ⟨.w, 0x500034, 1, 0x800000, 1, 0x800000, false, 0, 0, 0, 0, true⟩ -- R436
  | .ATT_DST => ⟨.w, 0x500038, 1, 0x800000, 1, 0x800000, true, 0, 0xfffffffffff, 0, 0, false⟩ -- R430
  | .ATT_NONCE => ⟨.w, 0x500040, 1, 0x800000, 4, 8, true, 0, 0xffffffffffffffff, 0, 0, false⟩ -- R430
  | .MR => ⟨.w, 0x500100, 8, 0x40, 8, 8, true, 0, 0, 0, 0, true⟩ -- R426
  | .CFG_DIGEST => ⟨.w, 0x500400, 1, 0x800000, 8, 8, true, 0, 0, 0, 0, true⟩ -- R424
  | .JOB_DIGEST => ⟨.w, 0x500440, 1, 0x800000, 8, 8, true, 0, 0, 0, 0, true⟩ -- R424
  | .ID_PUB => ⟨.w, 0x501000, 1, 0x800000, 244, 8, true, 0, 0, 0, 0, true⟩ -- R428
  | .MGMT_STATUS => ⟨.w, 0x580000, 1, 0x800000, 1, 0x800000, false, 0, 0, 0, 0, true⟩ -- R459
  | .MGMT_MAC => ⟨.w, 0x580008, 1, 0x800000, 1, 0x800000, true, 0, 0, 0, 0, true⟩ -- R459
  | .CC_STATUS => ⟨.w, 0x580010, 1, 0x800000, 1, 0x800000, false, 0, 0, 0, 0, true⟩ -- R459
  | .CC_CACHE => ⟨.w, 0x580018, 1, 0x800000, 1, 0x800000, true, 0, 0, 0, 0, true⟩ -- R439
  | .RIND_CYCLES => ⟨.w, 0x580020, 1, 0x800000, 1, 0x800000, true, 0, 0, 0, 0, true⟩ -- R459
  | .RIND_REFUSED => ⟨.w, 0x580028, 1, 0x800000, 1, 0x800000, false, 0, 0, 0, 0, true⟩ -- R459
  | .HOOP_CTRL => ⟨.g, 0x600000, 1, 0x800000, 16, 0x40, false, 0, 0, 0, 0, false⟩ -- R213
  | .HOOP_CFG => ⟨.g, 0x600004, 1, 0x800000, 16, 0x40, false, 0, 0xffff07ff, 0, 0, false⟩ -- R213
  | .HOOP_STATUS => ⟨.g, 0x600008, 1, 0x800000, 16, 0x40, true, 0, 0, 0, 0, false⟩ -- R225
  | .HOOP_EC => ⟨.g, 0x600010, 1, 0x800000, 16, 0x40, true, 0, 0xffffffffffffffff, 0, 0, false⟩ -- R213
  | .HOOP_TAG => ⟨.g, 0x600018, 1, 0x800000, 16, 0x40, true, 0, 0xffffffffffffffff, 0, 0, false⟩ -- R213
  | .HOOP_PERIOD => ⟨.g, 0x600020, 1, 0x800000, 16, 0x40, false, 0, 0xffffffff, 0, 0, false⟩ -- R221
  | .HOOP_TO => ⟨.g, 0x600024, 1, 0x800000, 16, 0x40, false, 0x2710, 0xffffffff, 0, 0, false⟩ -- R217
  | .HOOP_DEC_EPOCH => ⟨.g, 0x600028, 1, 0x800000, 16, 0x40, true, 0, 0, 0, 0, false⟩ -- R225
  | .HOOP_STG_TGT => ⟨.g, 0x600800, 1, 0x800000, 16, 0x20, true, 0, 0xffffffffffffffff, 0, 0, false⟩ -- R214
  | .HOOP_STG_VAL => ⟨.g, 0x600808, 1, 0x800000, 16, 0x20, true, 0, 0xffffffffffffffff, 0, 0, false⟩ -- R214
  | .HOOP_STG_CMD => ⟨.g, 0x600810, 1, 0x800000, 16, 0x20, false, 0, 0, 0, 0, false⟩ -- R214
  | .HOOP_STG_RES => ⟨.g, 0x600814, 1, 0x800000, 16, 0x20, false, 0, 0, 0, 0, false⟩ -- R214
  | .STEP_NONFIN => ⟨.all, 0x680000, 1, 0x800000, 1, 0x800000, false, 0, 0, 0, 0, false⟩ -- R307
  | .STEP_EPS => ⟨.g, 0x680000, 1, 0x800000, 1, 0x800000, false, 1, 0xffffffff, 0, 0, false⟩ -- R22
  | .STEP_E0 => ⟨.g, 0x680008, 1, 0x800000, 1, 0x800000, true, 0, 0xffffffffffffffff, 0, 0, false⟩ -- R321
  | .STEP_K0 => ⟨.g, 0x680010, 1, 0x800000, 1, 0x800000, true, 0, 0xffffffffffffffff, 0, 0, false⟩ -- R321
  | .BRINE_CFG => ⟨.g, 0x680018, 1, 0x800000, 1, 0x800000, false, 0x1003e8, 0x1fffff, 0, 0, false⟩ -- R321
  | .BRINE_PUB => ⟨.g, 0x68001c, 1, 0x800000, 1, 0x800000, false, 0, 0x1ffffff, 0, 0, false⟩ -- R309
  | .BRINE_SCALE => ⟨.g, 0x680020, 1, 0x800000, 1, 0x800000, false, 0x10, 0x1f, 0, 0, false⟩ -- R308
  | .BRINE_CLEAN => ⟨.g, 0x680024, 1, 0x800000, 1, 0x800000, false, 0, 0xffff, 0, 0, false⟩ -- R308
  | .BRINE_OVF_COUNT => ⟨.g, 0x680028, 1, 0x800000, 1, 0x800000, true, 0, 0xffffffffffffffff, 0, 0, true⟩ -- R308
  | .BRINE_HIST => ⟨.g, 0x680100, 1, 0x800000, 16, 8, true, 0, 0xffffffffffffffff, 0, 0, false⟩ -- R311
  | .BRINE_OVF_LOG => ⟨.g, 0x680200, 1, 0x800000, 16, 8, true, 0, 0xffffffffffffffff, 0, 0, false⟩ -- R311
  | .SORREL_CFG => ⟨.g, 0x680400, 1, 0x800000, 1, 0x800000, false, 0x103e8, 0x1f3fffff, 0, 0, false⟩ -- R314
  | .SORREL_TO => ⟨.g, 0x680404, 1, 0x800000, 1, 0x800000, false, 0x989680, 0xffffffff, 0, 0, false⟩ -- R314
  | .SORREL_STATUS => ⟨.g, 0x680408, 1, 0x800000, 1, 0x800000, false, 0, 0, 0, 0, false⟩ -- R314
  | .SORREL_MOD => ⟨.g, 0x680410, 1, 0x800000, 1, 0x800000, true, 0, 0, 0, 0, false⟩ -- R313
  | .SORREL_STEP => ⟨.g, 0x680418, 1, 0x800000, 1, 0x800000, true, 0, 0, 0, 0, false⟩ -- R313
  | .SORREL_AGREED => ⟨.g, 0x680420, 1, 0x800000, 1, 0x800000, true, 0, 0xffffffffffffffff, 0, 0, true⟩ -- R314
  | .SORREL_PEER => ⟨.g, 0x680500, 1, 0x800000, 32, 8, true, 0, 0x1ff01, 0, 0, false⟩ -- R314
  | .SORREL_RX => ⟨.g, 0x680600, 1, 0x800000, 32, 8, true, 0, 0xffffffffffffffff, 0, 0, false⟩ -- R314
  | .SORREL_RX_TAG => ⟨.g, 0x680700, 1, 0x800000, 32, 8, true, 0, 0xffffffffffffffff, 0, 0, false⟩ -- R314

/-- Part 0 of the list of registers. -/
def Reg.list0 : List Reg := [.DIE_ID, .SRAM_ECC_CORR, .DIE_HS_WD, .DIE_LEASE, .DIE_FAULT, .DIE_STALE, .DIE_TEMP, .JOB_WD, .JOB_CTRL, .MOD_FAULT, .HALF_LEASE, .BOARD_LEASE, .LEASE_STATUS, .LEASE_CTRL, .TWIN_FENCE, .RESTART_CTRL, .PWR_STATUS, .PWR_INPUT, .PWR_CFG, .PWR_LEVEL_LT, .VETCH_SEM_TO, .VETCH_BAR_TO, .VETCH_EPOCH, .VETCH_SIGNAL]

/-- Part 1 of the list of registers. -/
def Reg.list1 : List Reg := [.VETCH_ARRIVE, .VETCH_FAULT, .VETCH_AUTO, .VETCH_QMON, .VETCH_QSTALL, .VETCH_BAR_CFG, .VETCH_BAR_STATUS, .VETCH_SEM, .DMA_CFG, .DMA_CH_CTRL, .DMA_CH_STATUS, .DMA_CH_FAULT, .DMA_CH_SUBMIT, .DMA_CH_BYTES, .ARITH_CTRL, .ARITH_STICKY, .ARITH_STICKY_MOD, .STICKY_SRC_C, .STICKY_SRC_MX, .SEQ_CTRL, .SEQ_STATUS, .SEQ_START, .SEQ_PC, .SEQ_FAULT]

/-- Part 2 of the list of registers. -/
def Reg.list2 : List Reg := [.SEQ_STOP, .SEQ_LASTSUM, .SEQ_CMDS, .SEQ_ISSUE_HOLD, .SEQ_SYNC_WAIT, .SEQ_SC, .ARR_STATUS, .ARR_FAULT, .ARR_PASSES, .ARR_ROWS, .ARR_FEED_STALL, .ARR_DRAIN_STALL, .ARR_LOAD_HOLD, .VE_STATUS, .VE_FAULT, .VE_FILL, .VE_CMDS, .VE_ELEMS, .VE_SP_STALL, .VE_HAZARD_HOLD, .TEA_CFG, .TEA_STATUS, .TEA_FAULT, .TEA_ROWS]

/-- Part 3 of the list of registers. -/
def Reg.list3 : List Reg := [.TEA_UPDATES, .TEA_SNOOP_HOLD, .VE_SDESC, .VE_CHAIN, .RN_STATUS, .RN_FAULT, .RN_LIST, .RN_TRIG, .RN_BUF_SEL, .RN_BUF0, .RN_BUF1, .RN_BUF_LEN, .RN_REFRESH, .RN_JOBS, .RN_DEGRADED, .RN_MISSED, .RN_PIVOTS, .RN_MEM_STALL, .ROOT_CFG, .ROOT_MISSED, .ROOT_PUBLISHED, .PR_STATUS, .PR_FAULT, .PR_LIST]

/-- Part 4 of the list of registers. -/
def Reg.list4 : List Reg := [.PR_WC0, .PR_WC1, .PR_WC_LEN, .PR_WC_SEL, .PR_DIR_SEM, .PR_DIR_RING, .PR_GRAD, .PR_GRAD_RING, .PR_SORTAB, .PR_PLEN, .PR_UPDATES, .PR_ELEMS, .PR_HELD, .PR_MEM_STALL, .PR_DIR_WAIT, .PR_PROG, .PR_K, .PR_LIST_ALT, .PR_CFG, .PR_SEED, .PR_SCHED, .PR_SWEEP, .PR_LAST, .PR_SWEEP_NEXT]

/-- Part 5 of the list of registers. -/
def Reg.list5 : List Reg := [.SHARD_SEL, .SHARD_J0, .SHARD_PUB, .SHARD_GATE, .SHARD_STATUS, .MC_CH_STATE, .MC_RETIRE, .MC_MIG_PTR, .MC_REREAD, .MC_UNCORR, .TIER_FAST, .TIER_SLOW, .CAVE_CFG, .CAVE_PROG_TO, .CAVE_MAP, .CAVE_STATUS, .CAVE_LAST, .CAVE_SKIPS, .CAVE_FAILS, .CAVE_GUARD_WAIT, .CAVE_SLOT, .CAVE_HOST, .SL_CFG, .SL_STATUS]

/-- Part 6 of the list of registers. -/
def Reg.list6 : List Reg := [.SL_FAULT, .SL_PEER, .SL_TX_FLITS, .SL_RX_FLITS, .SL_REPLAYS, .SL_FEC_CORR, .SL_SYNC_REPLAYS, .SL_ADMIT_DROP, .SL_ROUTE_DROP, .SL_NODE, .ROUTE_SEL, .SL_ADMIT, .ROUTE_ENT, .VAT_STATUS, .VAT_SHARE, .VAT_FAULT, .VAT_SUBMIT, .VAT_SPILL_BASE, .VAT_SPILL_LEN, .VAT_OCC, .VAT_PROG_TO, .VAT_COLLS, .VAT_SPILLS, .VAT_RESENDS]

/-- Part 7 of the list of registers. -/
def Reg.list7 : List Reg := [.SEC_SERIAL, .SEC_FUSE, .BOOT_STATUS, .BOOT_SLOT, .CFG_REFUSE, .SEC_CTRL, .ATT_CTRL, .ATT_STATUS, .ATT_DST, .ATT_NONCE, .MR, .CFG_DIGEST, .JOB_DIGEST, .ID_PUB, .MGMT_STATUS, .MGMT_MAC, .CC_STATUS, .CC_CACHE, .RIND_CYCLES, .RIND_REFUSED, .HOOP_CTRL, .HOOP_CFG, .HOOP_STATUS, .HOOP_EC]

/-- Part 8 of the list of registers. -/
def Reg.list8 : List Reg := [.HOOP_TAG, .HOOP_PERIOD, .HOOP_TO, .HOOP_DEC_EPOCH, .HOOP_STG_TGT, .HOOP_STG_VAL, .HOOP_STG_CMD, .HOOP_STG_RES, .STEP_NONFIN, .STEP_EPS, .STEP_E0, .STEP_K0, .BRINE_CFG, .BRINE_PUB, .BRINE_SCALE, .BRINE_CLEAN, .BRINE_OVF_COUNT, .BRINE_HIST, .BRINE_OVF_LOG, .SORREL_CFG, .SORREL_TO, .SORREL_STATUS, .SORREL_MOD, .SORREL_STEP]

/-- Part 9 of the list of registers. -/
def Reg.list9 : List Reg := [.SORREL_AGREED, .SORREL_PEER, .SORREL_RX, .SORREL_RX_TAG]

/-- Every register. -/
def Reg.all : List Reg := Reg.list0 ++ Reg.list1 ++ Reg.list2 ++ Reg.list3 ++ Reg.list4 ++ Reg.list5 ++ Reg.list6 ++ Reg.list7 ++ Reg.list8 ++ Reg.list9

/-- The location of element (i, j) of register `r` on die `die` (R14). -/
def loc (r : Reg) (die i j : Nat) : Nat :=
  r.row.base + (r.row.s1 * i + (r.row.s2 * j + 0x1000000 * die))

/-- The elements of `r` a location names, if it lies in `r`. -/
def Reg.locate? (r : Reg) (l : Nat) : Option (Nat × Nat × Nat) :=
  let die := l / 0x1000000
  let off := l % 0x1000000
  let w := r.row
  if w.dies.has die && decide (w.base ≤ off) then
    let d := off - w.base
    let i := d / w.s1
    let j := d % w.s1 / w.s2
    if i < w.n1 ∧ j < w.n2 ∧ d = i * w.s1 + j * w.s2 then some (die, i, j) else none
  else none

/-- The channels of a die's DMA engine: 32 on a C-die, 16 elsewhere (R181). -/
def dmaChannels (die : Nat) : Nat := if die < 0x40 then 32 else 16

/-- Elements a table row covers only on some dies: DMA channels (R181), ARITH_STICKY units (Table 2.8). -/
def Reg.present (r : Reg) (die j : Nat) : Bool :=
  match r with
  | .DMA_CH_CTRL | .DMA_CH_STATUS | .DMA_CH_FAULT | .DMA_CH_SUBMIT | .DMA_CH_BYTES => decide (j < dmaChannels die)
  | .ARITH_STICKY => decide (j < (if die < 0x40 then 16 else if die < 0x50 then 12 else 1))
  | _ => true

/-- The register and element a location names: none where it is unassigned (R16, R481). -/
def locateIn : List Reg → Nat → Option (Reg × Nat × Nat × Nat)
  | [], _ => none
  | r :: rs, l =>
    match r.locate? l with
    | some (d, i, j) => if r.present d j then some (r, d, i, j) else locateIn rs l
    | none => locateIn rs l

/-- The register and element a location names. -/
def locate (l : Nat) : Option (Reg × Nat × Nat × Nat) := locateIn Reg.all l

/-- The value of a register element after module reset (R15): the row's value, those that depend on the element
(R181, R483, Table 7.8), and the two fused ones (Table 14.10). -/
def Reg.resetVal (r : Reg) (die j : Nat) : Nat :=
  match r with
  | .DMA_CH_CTRL => if die < 0x40 then j % 16 else 0x10
  | .DIE_ID => 0x72640021 + die * 0x100
  | .VETCH_BAR_CFG => if j = 0 then 0x300 else 0
  | .TEA_CFG => if j = 0 then 1 else 0
  | .SEC_SERIAL => Config.serial.toNat
  | .SEC_FUSE => Config.fusedFloor.toNat
  | _ => r.row.rst

/-- The reset value at a location (0 where it is unassigned). -/
def resetAt (l : Nat) : BitVec 64 :=
  match locate l with
  | some (r, d, _, j) => BitVec.ofNat 64 (r.resetVal d j)
  | none => 0

end Sys2Proof.Machine
end

