-- ==== Sys2Proof/Machine/Sparse.lean ====
section
/-!
DEFINITION. Sparse maps as plain data: a list of (key, value) pairs with strictly rising keys and no entry equal to what
an unlisted key reads as, so that equal maps are equal lists. `d k` is what key `k` reads as when it is not listed.
-/

namespace Sys2Proof.Machine

/-- Plain lookup. -/
def Sparse.find? {α : Type} : List (Nat × α) → Nat → Option α
  | [], _ => none
  | (k', v) :: m, k => if k = k' then some v else Sparse.find? m k

/-- The value of key `k`. -/
def Sparse.get {α : Type} (d : Nat → α) (m : List (Nat × α)) (k : Nat) : α := (Sparse.find? m k).getD (d k)

/-- Insert or replace, keeping the keys rising. -/
def Sparse.put {α : Type} : List (Nat × α) → Nat → α → List (Nat × α)
  | [], k, v => [(k, v)]
  | (k', v') :: m, k, v =>
    if k < k' then (k, v) :: (k', v') :: m
    else if k = k' then (k, v) :: m
    else (k', v') :: Sparse.put m k v

/-- Remove a key. -/
def Sparse.del {α : Type} : List (Nat × α) → Nat → List (Nat × α)
  | [], _ => []
  | (k', v') :: m, k => if k = k' then Sparse.del m k else (k', v') :: Sparse.del m k

/-- Set key `k` to `v` in canonical form. -/
def Sparse.set {α : Type} [DecidableEq α] (d : Nat → α) (m : List (Nat × α)) (k : Nat) (v : α) : List (Nat × α) :=
  if v = d k then Sparse.del m k else Sparse.put m k v

/-- Whether every key of `m` is above `lo`, the keys rise strictly, and no entry equals its default. -/
def Sparse.wfFrom {α : Type} [DecidableEq α] (d : Nat → α) : Option Nat → List (Nat × α) → Bool
  | _, [] => true
  | lo, (k, v) :: m =>
    (match lo with
      | none => true
      | some l => decide (l < k)) && decide (v ≠ d k) && Sparse.wfFrom d (some k) m

/-- The canonical form. -/
def Sparse.wf {α : Type} [DecidableEq α] (d : Nat → α) (m : List (Nat × α)) : Bool := Sparse.wfFrom d none m

/-- Set a run of consecutive keys. -/
def Sparse.setRun {α : Type} [DecidableEq α] (d : Nat → α) : List (Nat × α) → Nat → List α → List (Nat × α)
  | m, _, [] => m
  | m, k, v :: vs => Sparse.setRun d (Sparse.set d m k v) (k + 1) vs

/-- The values of a run of `n` consecutive keys. -/
def Sparse.getRun {α : Type} (d : Nat → α) (m : List (Nat × α)) : Nat → Nat → List α
  | 0, _ => []
  | n + 1, k => Sparse.get d m k :: Sparse.getRun d m n (k + 1)

/-- Change every listed entry by `f`, dropping those that become the default. -/
def Sparse.mapAll {α : Type} [DecidableEq α] (d : Nat → α) (f : Nat → α → α) : List (Nat × α) → List (Nat × α)
  | [] => []
  | (k, v) :: m =>
    if f k v = d k then Sparse.mapAll d f m else (k, f k v) :: Sparse.mapAll d f m

end Sys2Proof.Machine
end

