-- ==== Sys2Proof/Machine/State.lean ====
section
/-!
DEFINITION. The state of the block as plain data, the reasons a step can stop, and the state after module reset (R15).

Every register of the register space has one home, the sparse map `regs` keyed by its location (Regs.lean); what a unit
holds beside its registers (queues, latched commands, stores) stands in the unit's own structure. A map keyed by a unit
index lists only the units that differ from their reset value.
-/

namespace Sys2Proof.Machine

/-- What stops the block with a fault. No row of the table stops the block: unit faults, refusals and access errors are
effects on the state. -/
inductive Fault where
  /-- Raised by no meaning: kept so that the type has a name for a state that the invariants of the model exclude; safe,
  because stopping proves nothing false. -/
  | corrupt
deriving DecidableEq, Repr

/-- Why the model gives no meaning. -/
inductive Refusal where
  /-- The command with this mnemonic has no meaning yet: raised by `exec` only; safe, because the model stops. -/
  | notModelled (mnemonic : String)
deriving DecidableEq, Repr

/-- How Teasel takes part in a snooping pass: what it latched at the pass's retirement (R230, R231), how many of the pass's
sampled rows it has captured, and the rows captured, which the feeder has placed on the row buses (R228): row and bytes. -/
structure Snoop where
  sweep : Nat
  cursor : Nat
  sample : Nat
  tokBase : Nat
  panel : Nat
  rows : Nat
  captured : Nat
  data : List (Nat × List Nat)
deriving DecidableEq, Repr

/-- An accepted MAT.PASS: its command word, the address pairs read at retirement (R141), what it latched at its start (R73),
and its place in the order of starts among the passes in flight (R74). -/
structure Pass where
  word : BitVec 128
  sa : BitVec 64
  sb : BitVec 64
  sc : BitVec 64
  sd : BitVec 64
  bank : Nat
  arith : Option Arith
  delivered : Bool
  snoop : Option Snoop
  order : Nat
deriving DecidableEq, Repr

/-- One part (quadrant or half) of an array: passes in flight, the banks' tiles by column, the last bank loaded and
whether the newest tile may still be reused (R75, R79). -/
structure PartS where
  inflight : List Pass
  bank0 : List (List Nat)
  bank1 : List (List Nat)
  lastBank : Option Nat
  tileOk : Bool
  accOk : Bool
deriving DecidableEq, Repr

/-- A part with nothing loaded. -/
def PartS.init : PartS := ⟨[], [], [], none, false, false⟩

/-- One matrix array beside its registers: accepted passes (R140) and its four parts; `accKey` and `runKey` are shape and
width class of the newest accepted pass, and shape, class and mode of the newest started one (R79). -/
structure ArrayS where
  queue : List Pass
  p0 : PartS
  p1 : PartS
  p2 : PartS
  p3 : PartS
  accKey : Option (Nat × Nat)
  runKey : Option (Nat × Nat × Bool)
deriving DecidableEq, Repr

/-- An idle array. -/
def ArrayS.init : ArrayS := ⟨[], .init, .init, .init, .init, none, none⟩

/-- An issued VEC.RUN: its word, the two broadcast scalars, and what it latched at its start (R105). -/
structure VecCmd where
  word : BitVec 128
  s0 : BitVec 32
  s1 : BitVec 32
  started : Bool
  chain : List Nat
  descs : List (Option Nat)
  arith : Arith
  fill : BitVec 32
deriving DecidableEq, Repr

/-- One vector engine beside its registers and its operand cache. -/
structure VecS where
  queue : List VecCmd
  stopAt : Bool
deriving DecidableEq, Repr

/-- An idle vector engine. -/
def VecS.init : VecS := ⟨[], false⟩

/-- A sweep of a Teasel side (R229): slot, width, cursor and panel; the parameters its first pass fixed (M, TOKBASE, S,
stream format; R232), its sampled rows, the step its passes latched, passes assigned and fully captured, its place in the
order of closing, and the flags its update raised. -/
structure Sweep where
  id : Nat
  side : Nat
  slot : Nat
  width : Nat
  cursor : Nat
  panel : Nat
  first : Option (Nat × Nat × Nat × Nat)
  rows : Nat
  step : Nat
  passes : Nat
  passesDone : Nat
  closedAt : Nat
  updating : Bool
  flags : Nat
deriving DecidableEq, Repr

/-- An accepted flush (R240) with the number of sweeps closed when it retired (R241), and whether its records have been sent
to the twin and await their acknowledgements (R343). -/
structure Flush where
  addr : Nat
  first : Nat
  count : Nat
  sig : Bool
  sem : Nat
  mark : Nat
  posted : Bool
deriving DecidableEq, Repr

/-- One Teasel unit beside its registers: the open sweep of each side, closed sweeps in the order of closing, flushes in
order of acceptance, the next sweep number, the number of sweeps closed, and each side's next panel. -/
structure TeaS where
  openIn : Option Sweep
  openOut : Option Sweep
  closed : List Sweep
  flushes : List Flush
  nextId : Nat
  nClosed : Nat
  panelIn : Nat
  panelOut : Nat
deriving DecidableEq, Repr

/-- An idle Teasel: the first sweep of each side uses panel 0 (R229). -/
def TeaS.init : TeaS := ⟨none, none, [], [], 0, 0, 0, 0⟩

/-- What a sequencer holds beside its registers: ticks of the wait in progress, the barrier context and generation it waits for, the
Hoop instance it waits for and the instances it last used by slot (R220), words already copied by a DMA.CLOAD (R153), and the
port and sequence of a SYN.SIG's frame that the twin has not accepted yet (R194). -/
structure SeqS where
  waitLt : Nat
  barWait : Option (Nat × Nat)
  hoopWait : Option (Nat × Nat)
  hoopUse : List (Nat × Nat)
  cload : Nat
  sigSent : Option (Nat × Nat)
deriving DecidableEq, Repr

/-- A sequencer with no wait. -/
def SeqS.init : SeqS := ⟨0, none, none, [], 0, none⟩

/-- A DMA descriptor accepted by a channel, and how far it has run. -/
structure DmaDesc where
  word : BitVec 512
  started : Bool
  done : Nat
deriving DecidableEq, Repr

/-- A burst of a channel that waits for the twin (R343): the tags of the RD_REQs it has sent, in the order of their addresses, the
bytes delivered by tag, and whether its WRs have been sent. -/
structure DmaFlight where
  reads : List Nat
  got : List (Nat × List Nat)
  writing : Bool
deriving DecidableEq, Repr

/-- One DMA channel beside its registers: accepted descriptors in order, ticks since the last burst, its mode (0 at work or idle, 2
FAULT, 3 STOPPED, 4 finishing a burst under a stop request, R190), grants it has been passed over for, and a granted burst that
waits for the twin. -/
structure DmaS where
  queue : List DmaDesc
  progLt : Nat
  mode : Nat
  skipped : Nat
  flight : Option DmaFlight
deriving DecidableEq, Repr

/-- An idle channel. -/
def DmaS.init : DmaS := ⟨[], 0, 0, 0, none⟩

/-- Who waits on a semaphore: a sequencer, the automatic arrival of a die, a Rennet engine's trigger, a Press engine's
direction ring or shard gate, a Vat's trigger (R197, R203, R372). -/
inductive Waiter where
  | seq (core : Nat)
  | auto
  | rennet (e : Nat)
  | dirRing (e : Nat)
  | gate (e : Nat)
  | vat
deriving DecidableEq, Repr

/-- A wait at a Vetch node, in arrival order (R198). -/
structure SemWait where
  die : Nat
  sem : Nat
  n : Nat
  who : Waiter
  lt : Nat
deriving DecidableEq, Repr

/-- A staged Hoop item (Table 7.4). -/
structure HItem where
  kind : Nat
  target : BitVec 64
  value : BitVec 64
deriving DecidableEq, Repr

/-- A Hoop slot beside its registers: staged items in acceptance order, the number of openings, ticks since the opening,
decided instances newest first (instance, committed, epoch), the cause of an abort this module has asked the root for. -/
structure HoopS where
  items : List HItem
  opened : Nat
  ticks : Nat
  hist : List (Nat × Bool × Nat)
  pend : Nat
deriving DecidableEq, Repr

/-- A slot never opened since job load. -/
def HoopS.init : HoopS := ⟨[], 0, 0, [], 0⟩

/-- The service modes (R7). -/
inductive Svc where
  | startup | normal | test | recovery
deriving DecidableEq, Repr

/-- The code of ARITH_CTRL.SVC (Table 2.9). -/
def Svc.code : Svc → Nat
  | .startup => 0 | .normal => 1 | .test => 2 | .recovery => 3

/-- A Vetch message in flight inside the module (Table 7.1). -/
inductive VMsg where
  /-- From a die to its root: context, generation, ready bits, step flags. -/
  | arrive (die ctx gen ready flags : Nat)
  /-- Down to a die: context, generation. -/
  | complete (die ctx gen : Nat)
  /-- Down to a die: new epoch, commit mask, OR of step flags, the committed items addressed to the die. -/
  | advance (die epoch commits flags : Nat) (items : List HItem)
  /-- A signal from a die to another that an earlier message between the two precedes (R194): amount n. -/
  | signal (sender die sem n : Nat)
deriving DecidableEq, Repr

/-- An arrival received at a barrier root of this module: context, generation, sender (a die code, or 0x100 plus the
node of another module), ready bits, step flags. -/
structure RootArr where
  ctx : Nat
  gen : Nat
  src : Nat
  ready : Nat
  flags : Nat
deriving DecidableEq, Repr

/-- An arrival held at a die (R205): the core and whether it waits (W = 1). -/
structure HeldArr where
  die : Nat
  ctx : Nat
  core : Nat
  wait : Bool
deriving DecidableEq, Repr

/-- A fault reported to a die control block and passed towards the half in charge (R395). -/
structure FaultRec where
  die : Nat
  block : Nat
  unit : Nat
  cause : Nat
deriving DecidableEq, Repr

/-- A flit to be sent or forwarded (Table 11.2). -/
structure Flit where
  typ : Nat
  hops : Nat
  dst : Nat
  src : Nat
  lm1 : Nat
  tag : Nat
  addr : Nat
  data : List Nat
deriving DecidableEq, Repr

/-- A Vetch frame to be sent or forwarded (Table 11.4): its nodes, the modules that have forwarded it in a VETCH flit (R338), and its
body. -/
structure FrameMsg where
  dst : Nat
  src : Nat
  hops : Nat
  body : Frame
deriving DecidableEq, Repr

/-- What the module has sent to the outside, newest last. [DESIGN CHOICE, log entry 6] -/
inductive Out where
  /-- A flit put on the payload lanes of a port with its sequence and the sequence it acknowledges, if any (R328, R332). -/
  | flit (port seq : Nat) (ack : Option Nat) (f : Flit)
  /-- A LINKCTL flit: the sequence it acknowledges, the one asked for by a NAK, and the cumulative credits (R330, R332). -/
  | linkctl (port : Nat) (ack nak : Option Nat) (credits : List Nat)
  /-- A frame put on the synchronisation lane of a port with its sequence and its ACK, if valid. -/
  | frame (port seq : Nat) (ack : Option Nat) (f : FrameMsg)
  /-- An idle frame with its ACK, if valid, and its NAK: it asks for the frame after ACK (R335). -/
  | idle (port : Nat) (ack : Option Nat) (nak : Bool)
  /-- A renewal on the lease lines (R389). -/
  | lease (epoch : Nat)
  /-- A reply or message of the management port (R446). -/
  | mgmt (session typ status : Nat) (id : Nat) (body : List Nat)
  /-- A TLS handshake refused (R444, R445). -/
  | tlsRefused
  /-- The external interrupt of an X-die at a control core: a die control block has passed a fault on (R440). -/
  | interrupt (core : Nat)
  /-- Data registers shifted out of the boundary-scan chain, by X-die (R464). -/
  | scan (words : List (BitVec 32))
deriving DecidableEq, Repr

/-- One port beside its registers: flits waiting for a credit or for room, the replay buffer (sequence, sends, flit),
sequences, credits by virtual channel, whether a NAK stands, ticks since acknowledgement progress and since training began,
the sequence whose send limit led to a retrain, and the same for frames (R326 to R336); then the last of VCs 0 to 2 served (R330),
and, for flits and for frames, whether any has been accepted, and whether one accepted has not been acknowledged yet. -/
structure PortS where
  queue : List Flit
  replay : List (Nat × Nat × Flit)
  txSeq : Nat
  rxSeq : Nat
  sent : List Nat
  ret : List Nat
  got : List Nat
  nak : Bool
  ackLt : Nat
  trainLt : Nat
  limit : Option Nat
  fqueue : List FrameMsg
  freplay : List (Nat × Nat × FrameMsg)
  fTx : Nat
  fRx : Nat
  fNak : Bool
  fAckLt : Nat
  fallback : List Nat
  vcLast : Nat
  heard : Bool
  owed : Bool
  fHeard : Bool
  fOwed : Bool
deriving DecidableEq, Repr

/-- A port that has carried nothing. -/
def PortS.init : PortS :=
  ⟨[], [], 0, 0, [0, 0, 0, 0], [0, 0, 0, 0], [0, 0, 0, 0], false, 0, 0, none, [], [], 0, 0, false, 0, [],
    2, false, false, false, false⟩

/-- Who waits for the answer of another module to a flit. -/
inductive Asker where
  | dma (die ch : Nat)
  | dmaSub (die ch : Nat)
  | teasel (core slot : Nat)
  | cc
  | mgmt (session : Nat) (id : Nat)
  | unit
deriving DecidableEq, Repr

/-- A WR of the twin that waits for the capture's copy pointer (R400): node, tag, address, bytes. -/
structure HeldWr where
  node : Nat
  tag : Nat
  addr : Nat
  data : List Nat
deriving DecidableEq, Repr

/-- A request sent to another module that has not been answered (R343): its tag and asker, and whether it reads. -/
structure Asked where
  tag : Nat
  who : Asker
  read : Bool
deriving DecidableEq, Repr

/-- One Rennet engine beside its registers: the instance latched at its trigger, the next list entry, stored matrix, working
factor, pivots and right-hand-side work vectors in block memory, the scale exponent of the factor, the entries whose feed skipped a
position since their last factorisation, whether the latched instance was decided, and the arithmetic control latched when the intake
or the job began (R253, R255, R264, R265). -/
structure RenS where
  inst : Nat
  next : Nat
  granted : Bool
  a : List (Nat × BitVec 32)
  f : List (Nat × BitVec 32)
  piv : List (Nat × BitVec 64)
  y : List (Nat × BitVec 64)
  m : Int
  skipped : List Nat
  decided : Bool
  committed : Bool
  arith : Arith
deriving DecidableEq, Repr

/-- An idle engine: block memory cleared (R254). -/
def RenS.init : RenS := ⟨0, 0, false, [], [], [], [], 0, [], false, false, ⟨false, .rne, false, false⟩⟩

/-- One Press engine beside its registers: the step it works on, the map, the entry and element of its list, whether an update
has started or only a digest pass, whether it may pass the shard gate and under which map it ran last, the shard digest in
progress and those finished, its engine digest by step, the finished step, steps whose instance aborted (true: by VETO), the
generation of context 0 it last arrived for, whether it has re-derived its working copy after a restart, direction bytes read
and not consumed, direction bytes of the step taken, the ring position, and the latched arithmetic control and constants of the
program slots (R284, R290, R296, R297, R301, R312, R380, R408). -/
structure PressS where
  step : Nat
  map : Nat
  entry : Nat
  elem : Nat
  started : Bool
  skip : Bool
  gatePassed : Bool
  lastMap : Option Nat
  crc : Nat
  crcLen : Nat
  shards : List Nat
  digest : Option (Nat × Nat)
  finished : Option Nat
  aborted : List (Nat × Bool)
  arrivedGen : Option Nat
  rederived : Bool
  dirBuf : List Nat
  dirTaken : Nat
  ringPos : Nat
  arith : Arith
  ks : List Nat
deriving DecidableEq, Repr

/-- An idle engine. -/
def PressS.init : PressS :=
  ⟨0, 0, 0, 0, false, false, false, none, 0, 0, [], none, none, [], none, false, [], 0, 0, ⟨false, .rne, false, false⟩, []⟩

/-- A collective descriptor as read at submission (Table 11.6) with its member table. -/
structure VatDesc where
  op : Nat
  fmt : Nat
  ofmt : Nat
  flags : Nat
  cid : Nat
  window : Nat
  self : Nat
  trigSem : Nat
  trigN : Nat
  src : Nat
  list : Nat
  dst : Nat
  count : Nat
  doneDie : Nat
  doneSem : Nat
  tag : Nat
  nodes : List Nat
deriving DecidableEq, Repr

/-- A chunk that a member receives: sender, chunk, its flits by index, mismatches met, whether its check passed and its bytes
until they are used, and whether it has been delivered. -/
structure RxChunk where
  src : Nat
  chunk : Nat
  flits : List (Nat × List Nat)
  tries : Nat
  ok : Bool
  bytes : List Nat
  delivered : Bool
deriving DecidableEq, Repr

/-- A chunk that a member sends: receiver, chunk, whether it has been sent and confirmed. -/
structure TxChunk where
  dst : Nat
  chunk : Nat
  sent : Bool
  confirmed : Bool
deriving DecidableEq, Repr

/-- The reduction of one chunk of the own shard: next member to add, flags, and whether it is done (R349, R353). Its accumulator
stands in the collective's memory. -/
structure RedChunk where
  chunk : Nat
  next : Nat
  flags : Nat
  done : Bool
deriving DecidableEq, Repr

/-- An active collective (R346 to R359): its descriptor and instance, path, tickets and the addresses of their 64 KiB, arithmetic latched at start, the
segments of a permute (destination, offset, count), counts received by member, whether every count is in, chunks received,
sent and reduced, ticks without progress. -/
structure Coll where
  desc : VatDesc
  inst : Nat
  spill : Bool
  tickets : Nat
  places : List Nat
  arith : Arith
  segs : List (Nat × Nat × Nat)
  counts : List (Nat × Nat)
  opened : Bool
  rx : List RxChunk
  tx : List TxChunk
  red : List RedChunk
  progLt : Nat
deriving DecidableEq, Repr

/-- One Vat beside its registers: queued descriptors, whether the head's trigger is met, active collectives, instance
numbers by CID, spill bytes in use, and ticks of the wait for admission. -/
structure VatS where
  queue : List VatDesc
  granted : Bool
  active : List Coll
  insts : List (Nat × Nat)
  spillUse : Nat
  admLt : Nat
deriving DecidableEq, Repr

/-- An idle Vat. -/
def VatS.init : VatS := ⟨[], false, [], [], 0, 0⟩

/-- A capture in progress or committed (R398 to R404): the step, the target slot, the map's ranges (address, length), their
copy pointers and places in the slot, the digest folded and the digests finished by range, and ticks without progress. -/
structure Capture where
  step : Nat
  slot : Nat
  ranges : List (Nat × Nat)
  done : List Nat
  crc : List Nat
  digests : List (Nat × Nat × Nat)
  next : List Nat
  regs : List (Nat × Nat)
  cstep : Nat
  progLt : Nat
  held : List Nat
deriving DecidableEq, Repr

/-- What the owner knows of a cave slot: COMMIT and AGREED. -/
structure SlotInfo where
  commit : Nat
  agreed : Nat
deriving DecidableEq, Repr

/-- A management session (R444): the fallback kind, the nonce of TEST_NONCE with its age, the telemetry subscription. -/
structure Session where
  id : Nat
  nonce : Option (BitVec 256 × Nat)
  tele : Option (Nat × List Nat)
  teleLt : Nat
deriving DecidableEq, Repr

/-- A firmware staging in progress (R418). -/
structure Staging where
  slot : Nat
  len : Nat
  off : Nat
deriving DecidableEq, Repr

/-- A generation request (R383): session and identifier, seed, tokens permitted and produced, prompt, cache region, whether
it is in the batch issued. -/
structure GenReq where
  session : Nat
  id : Nat
  seed : Nat
  maxNew : Nat
  pos : Nat
  prompt : List Nat
  region : Option (Nat × Nat)
  inBatch : Bool
deriving DecidableEq, Repr

/-- Tokens held for a step (R450). -/
structure TokenRun where
  step : Nat
  off : Nat
  toks : List Nat
deriving DecidableEq, Repr

/-- The power controller between samples (R471): sums and counts of the power window, windows below the limit in a row,
samples of the thermal window, whether it stayed above the threshold, above 105 °C by die, and below the release point. -/
structure PowerS where
  sum : Nat
  count : Nat
  lowRuns : Nat
  tCount : Nat
  tAbove : Bool
  tBelow : Bool
  tLowRuns : Nat
  hot : List Nat
deriving DecidableEq, Repr

/-- A power controller at rest. [DESIGN CHOICE, log entry 36] -/
def PowerS.init : PowerS := ⟨0, 0, 0, 0, true, true, 0, []⟩

/-- The Rind words that no register holds (Table 15.6): the LEASE_OUT latch, LEASE_IN words held, last fence command with its
result and count, a pending command, the power cap, alerts and mask. -/
structure RindS where
  out : BitVec 64
  inLow : BitVec 48
  last : Nat
  result : Nat
  count : Nat
  cap : Nat
  alerts : Nat
  mask : Nat
deriving DecidableEq, Repr

/-- The Rind port after module reset. [DESIGN CHOICE, log entry 36] -/
def RindS.init : RindS := ⟨1, 0, 0, 0, 0, 0, 0, 0xF⟩

/-- The two leases beside their registers (R389, R390): ticks since the last accepted renewals, ticks since the last own
renewal, the epoch of the watching half, whether die code 0x60 is not served while the half lease changes hands and which
dies the new holder has not yet written. -/
structure LeaseS where
  halfLt : Nat
  boardLt : Nat
  renewLt : Nat
  watcherEpoch : Nat
  changing : Bool
  unwritten : List Nat
  fencedEast : Option Bool
deriving DecidableEq, Repr

/-- Leases after module reset. [DESIGN CHOICE, log entry 36] -/
def LeaseS.init : LeaseS := ⟨0, 0, 0, 1, false, [], none⟩

/-- The answer to the last register or management access, for its requester. -/
inductive Resp where
  | ok
  | accessError
  | readError
  | refused
  | value (v : BitVec 64)
  | data (bs : List Nat)
deriving DecidableEq, Repr

/-- A channel migration in progress (R176, R177): M-die, tier (0 fast, 1 slow), local channel, first line not copied, and
whether an uncorrectable line has stopped it. -/
structure Mig where
  m : Nat
  tier : Nat
  ch : Nat
  line : Nat
  stopped : Bool
deriving DecidableEq, Repr

/-- What the job image gives beside registers, and what the loaded job is (R6, R28, R206, R382, R424): whether its sequencers
have been started, and whether it has been stopped. -/
structure Job where
  generation : Bool
  root : Nat
  nodes : List Nat
  contexts : List (Nat × List Nat)
  barRootEast : Bool
  maxRows : Nat
  decWait : Nat
  cachePool : Nat
  cacheBase : Nat
  tokenBase : Nat
  tokenLen : Nat
  tokenSem : Option (Nat × Nat)
  tokenNext : Nat
  slotsDiffer : Bool
  cacheBytes : Nat
  interval : Nat
  rootLag : Nat
  started : Bool
  stopped : Bool
deriving DecidableEq, Repr

/-- The state of the block. -/
structure State where
  /-- Commands that are waiting, first in first out. -/
  pending : List Instr
  /-- Registers of the register space by location (Regs.lean). -/
  regs : List (Nat × BitVec 64)
  /-- Bytes of the tiers and SRAMs by board address; an unlisted byte reads as 0. -/
  mem : List (Nat × BitVec 8)
  /-- What the stored sidecar of a tier block differs by from the correct one, by board address / 256 (R171). -/
  sidecar : List (Nat × BitVec 32)
  /-- Blocks whose next read mismatches its sidecar and is mended by a re-read, by board address / 256 (R173): how many reads in
  turn mismatch. -/
  noise : List (Nat × Nat)
  /-- Bit errors stored in an SRAM word, by board address / 8: 1 single, 2 double (R180). -/
  ecc : List (Nat × Nat)
  /-- Twin strap: false twin A, true twin B (R462). -/
  twinB : Bool
  /-- Service mode; the one home of ARITH_CTRL.SVC of every die (R7, R62). -/
  svc : Svc
  job : Option Job
  seqs : List (Nat × SeqS)
  arrays : List (Nat × ArrayS)
  /-- Accumulator stores by (array · 4,096 + row) · 32 + column (R87). -/
  accs : List (Nat × BitVec 32)
  vecs : List (Nat × VecS)
  /-- Operand caches by core · 262,144 + byte (R114). -/
  ocache : List (Nat × BitVec 8)
  teas : List (Nat × TeaS)
  dmas : List (Nat × DmaS)
  /-- Last channel granted by an engine, by die · 16 + priority (R187). -/
  dmaLast : List (Nat × Nat)
  semWaits : List SemWait
  /-- Unit waits that have been served and whose unit has not yet gone on: die and waiter. -/
  grants : List (Nat × Waiter)
  /-- One more than the last generation of context 0 that a die's automatic arrival was made for (R203). -/
  autoGen : List (Nat × Nat)
  barHeld : List HeldArr
  rootArr : List RootArr
  vmsgs : List VMsg
  hoops : List (Nat × HoopS)
  migs : List Mig
  /-- Ranges not yet copied by the capture in progress: a write there waits (R400). -/
  guards : List (Nat × Nat)
  faultQ : List FaultRec
  /-- Engines by die · 16 + engine. -/
  rens : List (Nat × RenS)
  presses : List (Nat × PressS)
  /-- Ports 0 to 35 of R322. -/
  ports : List (Nat × PortS)
  vats : List (Nat × VatS)
  asked : List Asked
  /-- Writes of the twin that wait for a capture (R400). -/
  heldWr : List HeldWr
  tagCtr : Nat
  capture : Option Capture
  /-- A committed capture whose AGREED is not yet written: step and slot. -/
  agree : Option (Nat × Nat)
  slots : SlotInfo × SlotInfo
  /-- Ticks that the comparison of digests has been open (R314). -/
  sorrelLt : Nat
  jobWdLt : Nat
  /-- A stop in progress, and its ticks (R395). -/
  stopping : Bool
  stopLt : Nat
  /-- Requests that are answered when the stop is complete: session, identifier, and whether a module reset follows. -/
  stopReply : List (Nat × Nat × Bool)
  leases : LeaseS
  /-- East strap as sampled (R462). -/
  strapEast : Bool
  yieldPending : Bool
  /-- Lines that the caches of a half hold apart from memory (R439): half, line address, bytes, dirty. -/
  ccLines : List (Bool × Nat × List Nat × Bool)
  /-- Local ticks of each X-die, for telemetry (R10, R440). -/
  xTicks : List Nat
  /-- What the last local tick of each die found waiting on a port: die code and stall (Tables 3.8 and 4.8). -/
  stalls : List (Nat × Stall)
  /-- Handshake channels that wait, with the ticks of their watchdogs (R99). -/
  hsWait : List (Chan × Nat)
  flash : List (Nat × BitVec 8)
  /-- SVN that a RAISE_FLOOR has fused, effective at the next start (R423). -/
  floorFused : Nat
  /-- Test mode entered since reset (Table 14.7). -/
  testEntered : Bool
  /-- The FLOOR flag of the manifest that each half runs, west and east (R423, R432). -/
  floorFlags : Bool × Bool
  /-- The MGMT record in force; empty: fallback settings (R443). -/
  mgmtRecord : List (BitVec 8)
  testKey : Option (BitVec 256)
  mgmtUp : Bool
  sessions : List Session
  staging : Option Staging
  /-- A report being formed: its bytes, destination, die and semaphore (R430). -/
  att : Option (List Nat × Nat × Nat × Nat)
  tokens : List TokenRun
  gen : List GenReq
  /-- Rows of the decode pass in progress: session, identifier and position of the row's request; none for a masked row, which holds
  zeros (R29). -/
  batch : List (Option (Nat × Nat × Nat))
  decLt : Nat
  power : PowerS
  rind : RindS
  fabricHeld : Bool
  /-- Pins: RESET_N, input supplies in range, and the three open-drain outputs (1: released). -/
  resetN : Bool
  aux12 : Bool
  main54 : Bool
  auxGood : Bool
  mainGood : Bool
  thermTripN : Bool
  outbox : List Out
  resp : Option Resp
  /-- Counter that numbers fresh open values (the model's own field). -/
  freshCtr : Nat
deriving DecidableEq, Repr

/-- The state right after module reset (R15): every register at its reset value, memory and stores with nothing listed, the
straps low, both supplies in range, start-up mode. [DESIGN CHOICE, log entries 16 and 36] -/
def State.reset : State where
  pending := []
  regs := []
  mem := []
  sidecar := []
  noise := []
  ecc := []
  twinB := false
  svc := .startup
  job := none
  seqs := []
  arrays := []
  accs := []
  vecs := []
  ocache := []
  teas := []
  dmas := []
  dmaLast := []
  semWaits := []
  grants := []
  autoGen := []
  barHeld := []
  rootArr := []
  vmsgs := []
  hoops := []
  migs := []
  guards := []
  faultQ := []
  rens := []
  presses := []
  ports := []
  vats := []
  asked := []
  heldWr := []
  tagCtr := 0
  capture := none
  agree := none
  slots := (⟨0, 0⟩, ⟨0, 0⟩)
  sorrelLt := 0
  jobWdLt := 0
  stopping := false
  stopLt := 0
  stopReply := []
  leases := .init
  strapEast := false
  yieldPending := false
  ccLines := []
  xTicks := [0, 0, 0, 0]
  stalls := []
  hsWait := []
  flash := []
  floorFused := 0
  testEntered := false
  floorFlags := (false, false)
  mgmtRecord := []
  testKey := none
  mgmtUp := false
  sessions := []
  staging := none
  att := none
  tokens := []
  gen := []
  batch := []
  decLt := 0
  power := .init
  rind := .init
  fabricHeld := false
  resetN := true
  aux12 := true
  main54 := true
  auxGood := true
  mainGood := true
  thermTripN := true
  outbox := []
  resp := none
  freshCtr := 0

end Sys2Proof.Machine
end

