-- ==== Sys2Proof/Machine/Ops.lean ====
section
/-!
DEFINITION. The shared operations over registers, memory, faults and the sequencer's retirement.
-/

namespace Sys2Proof.Machine

/-! ### Registers -/

/-- The value of element (i, j) of a register on a die, as stored. -/
def State.rg (s : State) (r : Reg) (die i j : Nat) : Nat :=
  (Sparse.get resetAt s.regs (loc r die i j)).toNat

/-- Store element (i, j) of a register, cut to its width. -/
def State.setRg (s : State) (r : Reg) (die i j v : Nat) : State :=
  let w := BitVec.ofNat 64 (if r.row.w64 then v else v % 2 ^ 32)
  { s with regs := Sparse.set resetAt s.regs (loc r die i j) w }

/-- A field of a register. -/
def State.fld (s : State) (r : Reg) (die i j lo w : Nat) : Nat := bits (s.rg r die i j) lo w

/-- Store a field of a register. -/
def State.setFld (s : State) (r : Reg) (die i j lo w x : Nat) : State :=
  s.setRg r die i j (setBits (s.rg r die i j) lo w x)

/-- A module-global register (die code 0x60, element 0). -/
def State.g (s : State) (r : Reg) : Nat := s.rg r 0x60 0 0

/-- Store a module-global register. -/
def State.setG (s : State) (r : Reg) (v : Nat) : State := s.setRg r 0x60 0 0 v

/-- Largest value of a register. -/
def Reg.max (r : Reg) : Nat := if r.row.w64 then 2 ^ 64 - 1 else 2 ^ 32 - 1

/-- Add to a counter that stays at its maximum once it reaches it (R100, R191). -/
def State.bump (s : State) (r : Reg) (die i j n : Nat) : State :=
  s.setRg r die i j (Nat.min (s.rg r die i j + n) r.max)

/-- Whether a job is loaded. -/
def State.loaded (s : State) : Bool := s.job.isSome

/-- A fresh open value: the step reads and advances the counter. [DESIGN CHOICE, log entry 29] -/
def State.freshVal (s : State) : BitVec 64 × State :=
  (Config.fresh s.freshCtr, { s with freshCtr := s.freshCtr + 1 })

/-- Repeat an operation over a list up to the first element on which it fails, and what it answers there. -/
def State.untilFail {α β : Type} (s : State) (f : State → α → State × Option β) : List α → State × Option β
  | [] => (s, none)
  | x :: xs =>
    match f s x with
    | (s1, some c) => (s1, some c)
    | (s1, none) => s1.untilFail f xs

/-- The same for an operation that also answers flags, which add up. -/
def State.untilFlags {α : Type} (s : State) (f : State → α → State × Option Nat × Nat) : List α → State × Option Nat × Nat
  | [] => (s, none, 0)
  | x :: xs =>
    match f s x with
    | (s1, some c, fl) => (s1, some c, fl)
    | (s1, none, fl) =>
      let r := s1.untilFlags f xs
      (r.1, r.2.1, fl ||| r.2.2)

/-- Answer the requester of an access. -/
def State.answer (s : State) (r : Resp) : State := { s with resp := some r }

/-! ### Faults (R395, R484) -/

/-- The external interrupts by which a fault passed on reaches the half in charge: at control core 4i of each of its X-dies (R440). -/
def State.faultIrqs (s : State) : List Out :=
  if bit (s.g .LEASE_STATUS) 0 then [.interrupt 8, .interrupt 12] else [.interrupt 0, .interrupt 4]

/-- Record a unit fault at the die control block: the first one in DIE_FAULT, and pass it on (R395, R440). -/
def State.dieFault (s : State) (die block unit cause : Nat) : State :=
  let s1 :=
    if bit (s.rg .DIE_FAULT die 0 0) 63 then s
    else s.setRg .DIE_FAULT die 0 0 (2 ^ 63 + block * 2 ^ 40 + unit * 2 ^ 32 + cause)
  { s1 with faultQ := s1.faultQ ++ [⟨die, block, unit, cause⟩], outbox := s1.outbox ++ s1.faultIrqs }

/-! ### Ports: routing and sending (R322, R328 to R338, R343) -/

/-- Die code of the X-die of a port, and the port's number there (R322). -/
def portAt (p : Nat) : Nat × Nat := if p < 32 then (0x50 + p / 8, p % 8) else (0x50 + (p - 32) % 4, 8)

/-- A register of a port. -/
def State.portReg (s : State) (r : Reg) (p : Nat) : Nat := s.rg r (portAt p).1 0 (portAt p).2

/-- Store a register of a port. -/
def State.setPortReg (s : State) (r : Reg) (p v : Nat) : State := s.setRg r (portAt p).1 0 (portAt p).2 v

/-- Advance a port counter. -/
def State.bumpPort (s : State) (r : Reg) (p n : Nat) : State := s.bump r (portAt p).1 0 (portAt p).2 n

/-- STATE of a port (Table 11.8): 0 DOWN, 1 TRAINING, 2 UP, 3 RETRAIN, 4 FAILED. -/
def State.portState (s : State) (p : Nat) : Nat := bits (s.portReg .SL_STATUS p) 0 3

/-- What a port holds. -/
def State.port (s : State) (p : Nat) : PortS := Sparse.get (fun _ => PortS.init) s.ports p

/-- Store what a port holds. -/
def State.setPort (s : State) (p : Nat) (x : PortS) : State :=
  { s with ports := Sparse.set (fun _ => PortS.init) s.ports p x }

/-- The module's node (R337). -/
def State.node (s : State) : Nat := bits (s.g .SL_NODE) 0 8

/-- The twin's node (R337). -/
def State.twinNode (s : State) : Nat := s.node ^^^ 1

/-- Virtual channel of a flit type (Table 11.3). -/
def vcOf (typ : Nat) : Nat :=
  if typ = 0x03 ∨ typ = 0x04 then 1 else if 0x10 ≤ typ ∧ typ ≤ 0x14 then 2 else if typ = 0x20 then 3 else 0

/-- Ports that the selected routing table lists for a node: none where the entry is not VALID (R338). -/
def State.routeTo (s : State) (dst : Nat) : List Nat :=
  let v := s.rg .ROUTE_ENT 0x60 (s.g .ROUTE_SEL % 2) dst
  if bit v 31 then (List.range (bits v 24 2 + 1)).map fun i => bits v (6 * i) 6 else []

/-- The listed port numbered k mod count, or the next listed one that is UP (R338). -/
def State.pickPort (s : State) (dst k : Nat) : Option Nat :=
  let ps := s.routeTo dst
  let i := k % ps.length
  (ps.drop i ++ ps.take i).find? fun p => s.portState p == 2

/-- Whether a port holds a credit for a virtual channel (R330): 128 flits to start with, cumulative from then on. -/
def PortS.credit (x : PortS) (vc : Nat) : Bool :=
  decide ((nth 0 x.sent vc + 0x10000 - nth 0 x.ret vc) % 0x10000 < 128)

/-- The sequence that a port acknowledges: the highest accepted in order, if any (R332). -/
def PortS.ackSeq (x : PortS) : Option Nat := if x.heard then some ((x.rxSeq + (2 ^ 32 - 1)) % 2 ^ 32) else none

/-- The frame sequence that a port acknowledges (Table 11.4). -/
def PortS.ackFrame (x : PortS) : Option Nat := if x.fHeard then some ((x.fRx + 255) % 256) else none

/-- The flit that a port sends next: VC 3 first, then VCs 0 to 2 in rotation, each in order and only with a credit (R330). -/
def PortS.nextFlit (x : PortS) : Option Flit :=
  let head (vc : Nat) : Option Flit := if x.credit vc then x.queue.find? fun f => vcOf f.typ == vc else none
  [3, (x.vcLast + 1) % 3, (x.vcLast + 2) % 3, x.vcLast % 3].findSome? head

/-- Put the next flit of a port on its lanes: a place in the replay buffer is needed (R330, R332). -/
def State.pumpOne (s : State) (p : Nat) : State :=
  let x := s.port p
  if s.portState p ≠ 2 ∨ 512 ≤ x.replay.length then s
  else
    match x.nextFlit with
    | none => s
    | some f =>
      let vc := vcOf f.typ
      let y := { x with
        queue := x.queue.erase f
        replay := x.replay ++ [(x.txSeq, 1, f)]
        txSeq := (x.txSeq + 1) % 2 ^ 32
        sent := setAt x.sent vc ((nth 0 x.sent vc + 1) % 0x10000)
        vcLast := if vc = 3 then x.vcLast else vc
        owed := false }
      let s1 := (s.setPort p y).bumpPort .SL_TX_FLITS p 1
      { s1 with outbox := s1.outbox ++ [.flit p x.txSeq x.ackSeq f] }

/-- Put up to `n` waiting flits of a port on its lanes. [DEDUCED, log entry 49] -/
def State.pump (s : State) (p : Nat) : Nat → State
  | 0 => s
  | n + 1 => (s.pumpOne p).pump p n

/-- Hand a flit to a port. [DEDUCED, log entry 11] -/
def State.enqueue (s : State) (p : Nat) (f : Flit) : State :=
  let x := s.port p
  (s.setPort p { x with queue := x.queue ++ [f] }).pump p (x.queue.length + 1)

/-- The number by which a flit chooses among the listed ports (R338). -/
def Flit.spread (f : Flit) : Nat :=
  let vc := vcOf f.typ
  if vc = 3 then 0 else if vc = 2 then bits f.addr 16 16 else bits f.addr 8 8 ^^^ bits f.tag 0 8

/-- Route a flit from this module: false where no listed port takes it (R338). -/
def State.sendFlit (s : State) (f : Flit) : State × Bool :=
  match s.pickPort f.dst f.spread with
  | none => (s, false)
  | some p => (s.enqueue p f, true)

/-- The CRC-32C of R171. -/
def crc32c (bs : List Nat) : Nat := crcFold 0x82F63B78 0xFFFFFFFF bs ^^^ 0xFFFFFFFF

/-- KIND and body of a frame, 20 bytes (Tables 11.4 and 11.5); SIGNAL's twin bit is that of the destination. -/
def frameBody (dst : Nat) : Frame → Nat × List Nat
  | .signal d i n => (1, [d.toNat, dst % 2] ++ leBytes 2 i.val ++ leBytes 2 n.toNat ++ List.replicate 14 0)
  | .arrive c g r f =>
    (2, [c.val, 0, 0, 0] ++ leBytes 4 g.toNat ++ leBytes 2 r.toNat ++ [f.toNat] ++ List.replicate 9 0)
  | .complete c g => (3, [c.val, 0, 0, 0] ++ leBytes 4 g.toNat ++ List.replicate 12 0)
  | .advance e c a f =>
    (4, leBytes 8 e.toNat ++ leBytes 2 c.toNat ++ leBytes 2 a.toNat ++ [f.toNat] ++ List.replicate 7 0)
  | .abort h i => (5, [h.val, 0, 0, 0] ++ leBytes 4 i.toNat ++ List.replicate 12 0)

/-- The 32 bytes of a frame with its CRC (Table 11.4): KIND, SEQ, ACK and FLAGS, nodes, body. -/
def frameLine (kind seq : Nat) (ack : Option Nat) (nak : Bool) (dst src : Nat) (body : List Nat) : List Nat :=
  let h := [kind, seq % 256, (ack.getD 0) % 256, b2n nak + 2 * b2n ack.isSome, dst, src, 0, 0] ++ body
  h ++ leBytes 4 (crc32c h)

/-- The 32 bytes of a frame of a Vetch message. -/
def frameBytes (seq : Nat) (ack : Option Nat) (m : FrameMsg) : List Nat :=
  let (k, b) := frameBody m.dst m.body
  frameLine k seq ack false m.dst m.src b

/-- The 280 bytes of a flit (R328, Table 11.2): header, payload padded with zeros, sequence, CRC-32C. -/
def flitLine (seq : Nat) (ack : Option Nat) (f : Flit) : List Nat :=
  let header := bits f.addr 0 44 + f.tag % 4096 * 2 ^ 44 + ack.getD 0 % 2 ^ 32 * 2 ^ 56 + f.lm1 % 256 * 2 ^ 88 +
    f.src % 256 * 2 ^ 96 + f.dst % 256 * 2 ^ 104 + f.hops % 16 * 2 ^ 112 + b2n ack.isSome * 2 ^ 117 +
    vcOf f.typ * 2 ^ 118 + f.typ % 256 * 2 ^ 120
  let b := leBytes 16 header ++ takePad 0 256 f.data ++ leBytes 4 seq
  b ++ leBytes 4 (crc32c b)

/-- What an entry of the outbox puts on a link: a flit, a LINKCTL flit with sequence 0xFFFF_FFFF (R330), a frame or an idle frame. -/
def Out.line : Out → List Nat
  | .flit _ seq ack f => flitLine seq ack f
  | .linkctl _ ack nak credits =>
    flitLine 0xFFFFFFFF ack ⟨0x00, 0, 0, 0, 15, 0, 0,
      leBytes 4 (nak.getD 0) ++ [b2n nak.isSome, 0, 0, 0] ++ (takePad 0 4 credits).flatMap (leBytes 2)⟩
  | .frame _ seq ack m => frameBytes seq ack m
  | .idle _ ack nak => frameLine 0 0 ack nak 0 0 (List.replicate 20 0)
  | _ => []

/-- Hand a frame to a port: on its synchronisation lane with at most 64 unacknowledged, or in FALLBACK as a VETCH flit
(R336). -/
def State.enqueueFrame (s : State) (p : Nat) (m : FrameMsg) : State :=
  let x := s.port p
  if bit (s.portReg .SL_STATUS p) 5 then
    let seq := x.fTx
    let s1 := s.setPort p { x with fTx := (seq + 1) % 256, fallback := x.fallback ++ [seq] }
    s1.enqueue p ⟨0x20, m.hops, m.dst, m.src, 31, 0, 0, frameBytes seq x.ackFrame m⟩
  else if s.portState p ≠ 2 ∨ 64 ≤ x.freplay.length then s.setPort p { x with fqueue := x.fqueue ++ [m] }
  else
    let s1 := s.setPort p { x with fTx := (x.fTx + 1) % 256, freplay := x.freplay ++ [(x.fTx, 1, m)], fOwed := false }
    { s1 with outbox := s1.outbox ++ [.frame p x.fTx x.ackFrame m] }

/-- Send a frame to another module on PORT0 of its entry (R338); without an entry or a port it is lost. -/
def State.sendFrame (s : State) (dst : Nat) (b : Frame) : State :=
  match s.pickPort dst 0 with
  | none => s
  | some p => s.enqueueFrame p ⟨dst, s.node, 0, b⟩

/-- Number the next request. -/
def State.nextTag (s : State) : Nat × State := (s.tagCtr % 4096, { s with tagCtr := s.tagCtr + 1 })

/-- Split bytes at 256-byte block boundaries (R343). -/
def blockPieces : Nat → Nat → List Nat → List (Nat × List Nat)
  | 0, _, _ => []
  | _ + 1, _, [] => []
  | fuel + 1, addr, bs =>
    let n := Nat.min bs.length (256 - addr % 256)
    (addr, bs.take n) :: blockPieces fuel (addr + n) (bs.drop n)

/-- Send WR flits to the twin for an asker (R343): false where no port takes one. -/
def State.sendWrites (s : State) (who : Asker) : List (Nat × List Nat) → State × Bool
  | [] => (s, true)
  | (a, bs) :: rest =>
    let (tag, s1) := s.nextTag
    match s1.sendFlit ⟨0x01, 0, s.twinNode, s.node, bs.length - 1, tag, a, bs⟩ with
    | (s2, false) => (s2, false)
    | (s2, true) => ({ s2 with asked := s2.asked ++ [⟨tag, who, false⟩] } : State).sendWrites who rest

/-- Send RD_REQ flits to the twin for an asker (R343). -/
def State.sendReads (s : State) (who : Asker) : List (Nat × List Nat) → State × Bool
  | [] => (s, true)
  | (a, bs) :: rest =>
    let (tag, s1) := s.nextTag
    match s1.sendFlit ⟨0x02, 0, s.twinNode, s.node, bs.length - 1, tag, a, []⟩ with
    | (s2, false) => (s2, false)
    | (s2, true) => ({ s2 with asked := s2.asked ++ [⟨tag, who, true⟩] } : State).sendReads who rest

/-- Send a REG_WR flit to a node for an asker: offset and value (R344); false where no port takes it. -/
def State.sendRegFor (s : State) (who : Asker) (node off : Nat) (wide : Bool) (v : Nat) : State × Bool :=
  let (tag, s1) := s.nextTag
  let n := if wide then 8 else 4
  match s1.sendFlit ⟨0x05, 0, node, s.node, n - 1, tag, off, leBytes n v⟩ with
  | (s2, false) => (s2, false)
  | (s2, true) => ({ s2 with asked := s2.asked ++ [⟨tag, who, false⟩] }, true)

/-- Send a REG_WR flit to a node for a unit of the module. -/
def State.sendReg (s : State) (node off : Nat) (wide : Bool) (v : Nat) : State := (s.sendRegFor .unit node off wide v).1

/-! ### Arithmetic control -/

/-- The arithmetic rules in force at a die (R48, R54, R55). -/
def State.arith (s : State) (die : Nat) : Arith :=
  let v := s.rg .ARITH_CTRL die 0 0
  ⟨bit v 0, RMode.ofField (bits v 1 2), bit v 3, s.svc == .normal⟩

/-- Set flags in a unit's ARITH_STICKY, the module copy and the die's summary bit (R65). -/
def State.raise (s : State) (die unit flags : Nat) : State :=
  if flags % 512 = 0 then s
  else
    let f := flags % 512
    let s1 := s.setRg .ARITH_STICKY die 0 unit (s.rg .ARITH_STICKY die 0 unit ||| f)
    let s2 := s1.setG .ARITH_STICKY_MOD (s1.g .ARITH_STICKY_MOD ||| f)
    let s3 :=
      if die < 0x40 then s2.setG .STICKY_SRC_C (s2.g .STICKY_SRC_C ||| 2 ^ die)
      else if die < 0x50 then s2.setG .STICKY_SRC_MX (s2.g .STICKY_SRC_MX ||| 2 ^ (die - 0x40))
      else s2.setG .STICKY_SRC_MX (s2.g .STICKY_SRC_MX ||| 2 ^ (16 + (die - 0x50)))
    if bit f 8 then s3.setRg .STEP_NONFIN die 0 0 1 else s3

/-! ### Board addresses (R163, R164) -/

/-- Bit 43 of this module's own addresses. -/
def State.ownBit (s : State) : Nat := b2n s.twinB

/-- The board address of an offset of a region of this module. -/
def State.boardAddr (s : State) (region off : Nat) : Nat :=
  2 ^ 41 * region + (2 ^ 43 * s.ownBit + off)

/-- Whether a board address names this module. -/
def State.isOwn (s : State) (addr : Nat) : Bool := bits addr 43 1 == s.ownBit

/-- Region code of a board address. -/
def regionOf (addr : Nat) : Nat := bits addr 41 2

/-- Offset of a board address in its region. -/
def offOf (addr : Nat) : Nat := bits addr 0 41

/-- A place in the SRAM window (Table 6.2). -/
inductive SramLoc where
  | scratch (die core off : Nat)
  | cmd (die core off : Nat)
  | staging (m off : Nat)
  | reduction (x off : Nat)
deriving DecidableEq, Repr

/-- The place a window offset names, if it is assigned (R164, R165). -/
def sramLoc (o : Nat) : Option SramLoc :=
  if o < 0x800000000 then
    let die := o / 0x20000000
    let t := o % 0x20000000
    if t < 0x18000000 then some (.scratch die (t / 0x1800000) (t % 0x1800000))
    else
      let q := t - 0x18000000
      if q < 0x400000 then some (.cmd die (q / 0x40000) (q % 0x40000)) else none
  else if o < 0x800000000 + 12 * 0x4000000 then
    let q := o - 0x800000000
    some (.staging (q / 0x4000000) (q % 0x4000000))
  else if 0x840000000 ≤ o ∧ o < 0x840000000 + 4 * 0x4000000 then
    let q := o - 0x840000000
    some (.reduction (q / 0x4000000) (q % 0x4000000))
  else none

/-- Code of the die that holds an SRAM place. -/
def SramLoc.die : SramLoc → Nat
  | .scratch d _ _ => d
  | .cmd d _ _ => d
  | .staging m _ => 0x40 + m
  | .reduction x _ => 0x50 + x

/-- Board address of byte `off` of a core's scratchpad (R164). -/
def State.spAddr (s : State) (core off : Nat) : Nat :=
  s.boardAddr 2 (0x20000000 * (core / 16) + (0x1800000 * (core % 16) + off))

/-- Board address of byte `off` of a core's command memory (R136). -/
def State.cmAddr (s : State) (core off : Nat) : Nat :=
  s.boardAddr 2 (0x18000000 + (0x20000000 * (core / 16) + (0x40000 * (core % 16) + off)))

/-- Board address of byte `off` of an M-die's staging SRAM. -/
def State.stAddr (s : State) (m off : Nat) : Nat := s.boardAddr 2 (0x800000000 + (0x4000000 * m + off))

/-- Board address of byte `off` of an X-die's reduction memory. -/
def State.rmAddr (s : State) (x off : Nat) : Nat := s.boardAddr 2 (0x840000000 + (0x4000000 * x + off))

/-- Size of a core's scratchpad. -/
def spSize : Nat := 25165824

/-! ### Tiers (R167 to R169, R175) -/

/-- Channels of a tier (0 fast, 1 slow) in the module. -/
def tierChannels (tier : Nat) : Nat := if tier = 0 then 192 else 96

/-- Channels of a tier on one M-die. -/
def dieChannels (tier : Nat) : Nat := if tier = 0 then 16 else 8

/-- Usable lines of a channel. -/
def tierTotal (tier : Nat) : Nat := if tier = 0 then 16515072 else 66060288

/-- The configuration register of a tier. -/
def tierReg (tier : Nat) : Reg := if tier = 0 then .TIER_FAST else .TIER_SLOW

/-- Reserve lines of a channel (R167). -/
def State.tierReserve (s : State) (tier : Nat) : Nat :=
  if bit (s.g (tierReg tier)) 32 then (if tier = 0 then 1032192 else 8257536) else 0

/-- Spread lines of a channel. -/
def State.tierSpread (s : State) (tier : Nat) : Nat := bits (s.g (tierReg tier)) 0 28

/-- Size of a tier in bytes (R168). -/
def State.tierSize (s : State) (tier : Nat) : Nat :=
  tierChannels tier * (tierTotal tier - s.tierReserve tier) * 256

/-- The rotation of R169. -/
def fold (q : Nat) : Nat := (q ^^^ (q >>> 8) ^^^ (q >>> 16) ^^^ (q >>> 24)) &&& 0xff

/-- M-die, channel of the tier, and line of an offset (R169). -/
def State.tierLocate (s : State) (tier off : Nat) : Option (Nat × Nat × Nat) :=
  let nAll := tierChannels tier
  let nDie := dieChannels tier
  let spread := s.tierSpread tier
  let loc := tierTotal tier - s.tierReserve tier - spread
  let b := off / 256
  if b < nAll * spread then
    let q := b / nAll
    let c := (b % nAll + fold q) % nAll
    some (c / nDie, c, q)
  else
    let b := b - nAll * spread
    let part := loc * nDie
    if 12 * part ≤ b then none
    else
      let m := b / part
      let q := b % part / nDie
      let j := (b % part % nDie + fold q) % nDie
      some (m, m * nDie + j, spread + q)

/-- Local index of channel `c` of a tier on its M-die. -/
def localCh (tier c : Nat) : Nat := if tier = 0 then c % 16 else 16 + c % 8

/-- State of a local channel: 0 active, 1 migrating, 2 retired (Table 6.6). -/
def State.chState (s : State) (m ch : Nat) : Nat := bits (s.rg .MC_CH_STATE (0x40 + m) 0 ch) 0 2

/-- The sibling position of primary line `x` of local channel `ch` (R175): local channel and line. -/
def State.sibling (s : State) (tier ch x : Nat) : Nat × Nat :=
  let n := dieChannels tier
  let base := if tier = 0 then 0 else 16
  let k := x % (n - 1)
  let j := ch - base
  let sib := if k < j then k else k + 1
  (base + sib, tierTotal tier - s.tierReserve tier + x / (n - 1))

/-- The migration of a tier's channel on an M-die, if one is in progress. -/
def State.migOf (s : State) (m tier : Nat) : Option Mig := s.migs.find? fun g => g.m == m && g.tier == tier

/-- The local channel and line that serve an offset, after retirement and during migration (R175, R177). -/
def State.tierServe (s : State) (tier off : Nat) : Option (Nat × Nat × Nat) :=
  match s.tierLocate tier off with
  | none => none
  | some (m, c, line) =>
    let ch := localCh tier c
    match s.chState m ch with
    | 2 => let (sc, sl) := s.sibling tier ch line; some (m, sc, sl)
    | 1 =>
      match s.migOf m tier with
      | some g =>
        if line < g.line then let (sc, sl) := s.sibling tier ch line; some (m, sc, sl) else some (m, ch, line)
      | none => some (m, ch, line)
    | _ => some (m, ch, line)

/-- The board offset range of part m of the local zone of a tier (R169). -/
def State.localPart (s : State) (tier m : Nat) : Nat × Nat :=
  let loc := tierTotal tier - s.tierReserve tier - s.tierSpread tier
  let part := loc * dieChannels tier * 256
  let z := tierChannels tier * s.tierSpread tier * 256
  (z + m * part, part)

/-- Whether `[a, a+n)` lies in part m of the local zone of `tier` of this module. -/
def State.inLocalPart (s : State) (tier m addr n : Nat) : Bool :=
  let (b, len) := s.localPart tier m
  s.isOwn addr && regionOf addr == tier && decide (b ≤ offOf addr) && decide (offOf addr + n ≤ b + len)

/-! ### Bytes -/

/-- One byte as stored. [DESIGN CHOICE, log entry 16] -/
def State.byte (s : State) (addr : Nat) : Nat := (Sparse.get (fun _ => 0) s.mem addr).toNat

/-- `n` bytes as stored. -/
def State.bytes (s : State) (addr n : Nat) : List Nat :=
  (Sparse.getRun (fun _ => 0) s.mem n addr).map BitVec.toNat

/-- Store bytes. -/
def State.putBytes (s : State) (addr : Nat) (bs : List Nat) : State :=
  { s with mem := Sparse.setRun (fun _ => 0) s.mem addr (bs.map (BitVec.ofNat 8)) }

/-- Bytes of a range become undefined: each is a fresh open value. [DESIGN CHOICE, log entry 29] -/
def State.scramble (s : State) (addr n : Nat) : State :=
  { s with
    mem := Sparse.setRun (fun _ => 0) s.mem addr ((List.range n).map fun i => (Config.fresh (s.freshCtr + i)).setWidth 8)
    freshCtr := s.freshCtr + n }

/-- Why a memory access did not happen: an address that is not there or not the requester's to reach (R163, R165, R166),
a read error (R173, R180), or a write refused at its destination. -/
inductive MemErr where
  | access | readError | refused
deriving DecidableEq, Repr

/-- The slot of the SRAM window that holds a place: within one slot the assigned offsets have no gap (Table 6.2). -/
def SramLoc.slot : SramLoc → Nat
  | .scratch d _ _ => d
  | .cmd d _ _ => d
  | .staging _ _ => 0x40
  | .reduction _ _ => 0x50

/-- Whether every byte of `[addr, addr+n)` is populated memory of its module (R163, R165, R438), the twin's tiers taken to
be configured as this module's. -/
def State.assigned (s : State) (addr n : Nat) : Bool :=
  let o := offOf addr
  match regionOf addr with
  | 0 => decide (n + o ≤ s.tierSize 0) || decide (n + o ≤ 0x200000000)
  | 1 => decide (n + o ≤ s.tierSize 1)
  | 2 =>
    match sramLoc o, sramLoc (n - 1 + o) with
    | some a, some b => a.slot == b.slot && decide (n + o ≤ 0x880000000)
    | _, _ => false
  | _ => false

/-- Whether every byte of `[addr, addr+n)` is populated memory of this module. -/
def State.populated (s : State) (addr n : Nat) : Bool := s.isOwn addr && s.assigned addr n

/-- A buffer pair seen through its redirection (R271, R300): the two ranges, their length and the current index. -/
structure Pair where
  a0 : Nat
  a1 : Nat
  len : Nat
  sel : Nat
  owner : Requester
deriving DecidableEq, Repr

/-- The buffer pairs of an M-die: its four Rennet pairs and its eight Press pairs. -/
def State.pairsOf (s : State) (m : Fin 12) : List Pair :=
  let d := 0x40 + m.val
  (List.finRange 4).map (fun e =>
    ⟨s.rg .RN_BUF0 d 0 e, s.rg .RN_BUF1 d 0 e, s.rg .RN_BUF_LEN d 0 e, s.rg .RN_BUF_SEL d 0 e, .rennet m e⟩) ++
  (List.finRange 8).map (fun e =>
    ⟨s.rg .PR_WC0 d 0 e, s.rg .PR_WC1 d 0 e, s.rg .PR_WC_LEN d 0 e, s.rg .PR_WC_SEL d 0 e, .press m e⟩)

/-- Whether two ranges meet. -/
def overlaps (a n b m : Nat) : Bool := decide (a < b + m) && decide (b < a + n)

/-- The pairs that a range meets while a job is loaded (R271, R300). -/
def State.pairsMet (s : State) (addr n : Nat) : List Pair :=
  if s.loaded && regionOf addr == 0 then
    ((List.finRange 12).flatMap s.pairsOf).filter fun p =>
      p.len != 0 && (overlaps addr n p.a0 p.len || overlaps addr n p.a1 p.len)
  else []

/-- Where a byte read through the pairs' addresses is found: the first address names the current buffer, the second the
shadow (R271, R300). -/
def redirect : List Pair → Nat → Nat
  | [], a => a
  | p :: ps, a =>
    if p.a0 ≤ a ∧ a < p.a0 + p.len then (if p.sel = 0 then p.a0 else p.a1) + (a - p.a0)
    else if p.a1 ≤ a ∧ a < p.a1 + p.len then (if p.sel = 0 then p.a1 else p.a0) + (a - p.a1)
    else redirect ps a

/-- Record an uncorrectable block (R173 steps 2 and 3). -/
def State.uncorrectable (s : State) (blk : Nat) : State :=
  let addr := blk * 256
  let tier := regionOf addr
  match s.tierServe tier (offOf addr) with
  | none => s
  | some (m, ch, line) =>
    let d := 0x40 + m
    let s1 := if bit (s.rg .MC_UNCORR d 0 0) 63 then s
      else s.setRg .MC_UNCORR d 0 0 (2 ^ 63 + ch * 2 ^ 32 + line)
    let s2 := s1.setRg .MC_CH_STATE d 0 ch (setBits (s1.rg .MC_CH_STATE d 0 ch) 4 1 1)
    s2.dieFault d 0x30 ch 1

/-- The sidecar that belongs to a block's data at its address (R171): region code and offset take part in the check. -/
def sidecarOf (blk : Nat) (data : List Nat) : Nat :=
  crc32c (data ++ leBytes 8 (regionOf (blk * 256) * 2 ^ 41 + offOf (blk * 256)))

/-- The stored sidecar of a block of this module: the right one, but for what `State.sidecar` holds. -/
def State.sidecarAt (s : State) (blk : Nat) : Nat :=
  sidecarOf blk (s.bytes (blk * 256) 256) ^^^ (Sparse.get (fun _ => 0) s.sidecar blk).toNat

/-- Whether the check of a block fails: its stored sidecar is not that of its data and address (R171, R173). -/
def State.mismatch (s : State) (blk : Nat) : Bool := s.sidecarAt blk != sidecarOf blk (s.bytes (blk * 256) 256)

/-- The first block of a list of byte addresses whose stored sidecar mismatches. -/
def State.badBlock (s : State) (addrs : List Nat) : Option Nat :=
  if s.sidecar = [] then none else (addrs.find? fun a => s.mismatch (a / 256)).map (· / 256)

/-- A re-read of a block matches: it is delivered and rewritten, and MC_REREAD counts (R173). -/
def State.mend (s : State) (blk : Nat) : State :=
  let z : State := { s with noise := s.noise.filter fun e => e.1 != blk }
  match s.tierServe (regionOf (blk * 256)) (offOf (blk * 256)) with
  | some (m, _, _) => z.bump .MC_REREAD (0x40 + m) 0 0 1
  | none => z

/-- The blocks of a list of byte addresses whose next read mismatches are read again (R173). -/
def State.mendBlocks (s : State) (addrs : List Nat) : State :=
  ((s.noise.map Prod.fst).filter fun b => !s.mismatch b && addrs.any fun a => a / 256 == b).foldl State.mend s

/-- Forget the error mark of an SRAM word and count a correction (R180). -/
def State.correctWord (s : State) (w : Nat) : State :=
  match sramLoc (offOf (w * 8)) with
  | some l => ({ s with ecc := Sparse.set (fun _ => 0) s.ecc w 0 } : State).bump .SRAM_ECC_CORR l.die 0 0 1
  | none => s

/-- Read SRAM words under SEC-DED (R180): correct single errors, stop at a double error. -/
def State.checkWords (s : State) : List Nat → State × Bool
  | [] => (s, true)
  | w :: ws =>
    match Sparse.get (fun _ => 0) s.ecc w with
    | 0 => s.checkWords ws
    | 1 => (s.correctWord w).checkWords ws
    | _ => (s, false)

/-- The indices `a / k` of `[a, a+n)`. -/
def unitsOf (k a n : Nat) : List Nat :=
  if n = 0 then [] else (List.range ((a + n - 1) / k - a / k + 1)).map (· + a / k)

/-- SRAM words of a range that carry an error mark, in increasing address. -/
def State.markedWords (s : State) (a n : Nat) : List Nat :=
  (s.ecc.map Prod.fst).filter fun w => decide (a / 8 ≤ w) && decide (w * 8 < a + n)

/-- Read `n` bytes of this module for a requester that may reach them: tiers through the pairs' redirection and the block
check, SRAMs through SEC-DED. -/
def State.readRange (s : State) (addr n : Nat) : State × Except MemErr (List Nat) :=
  if !s.populated addr n then (s, .error .access)
  else if regionOf addr = 2 then
    match s.checkWords (s.markedWords addr n) with
    | (s1, true) => (s1, .ok (s1.bytes addr n))
    | (s1, false) => (s1, .error .readError)
  else
    let ps := s.pairsMet addr n
    if ps = [] ∧ s.sidecar = [] ∧ s.noise = [] then (s, .ok (s.bytes addr n))
    else
      let as := (List.range n).map fun i => redirect ps (addr + i)
      let s1 := s.mendBlocks as
      match s1.badBlock as with
      | some b => (s1.uncorrectable b, .error .readError)
      | none => (s1, .ok (as.map s1.byte))

/-- Read `n` bytes of a tier at their own address, without redirection (R271, R300: capture). -/
def State.readRaw (s : State) (addr n : Nat) : State × Except MemErr (List Nat) :=
  if !s.populated addr n then (s, .error .access)
  else
    let as := if s.sidecar = [] ∧ s.noise = [] then [] else (unitsOf 256 addr n).map (· * 256)
    let s1 := s.mendBlocks as
    match s1.badBlock as with
    | some b => (s1.uncorrectable b, .error .readError)
    | none => (s1, .ok (s1.bytes addr n))

/-- Clear the sidecar marks of the blocks of a range: a write stores a new sidecar (R172). -/
def State.freshSidecars (s : State) (addr n : Nat) : State :=
  if s.sidecar = [] then s
  else { s with sidecar := s.sidecar.filter fun e => !(decide (addr / 256 ≤ e.1) && decide (e.1 * 256 < addr + n)) }

/-- Blocks that a write covers only in part. -/
def partialUnits (k a n : Nat) : List Nat :=
  (unitsOf k a n).filter fun u => !(decide (a ≤ u * k) && decide (u * k + k ≤ a + n))

/-- Write bytes of this module for a requester that may reach them: partial blocks are read and checked first (R172),
partial SRAM words too (R180). -/
def State.writeRange (s : State) (addr : Nat) (bs : List Nat) : State × Option MemErr :=
  let n := bs.length
  if n = 0 then (s, none)
  else if !s.populated addr n then (s, some .access)
  else if regionOf addr = 2 then
    let marked := s.markedWords addr n
    let part := (partialUnits 8 addr n).filter (marked.contains ·)
    match s.checkWords part with
    | (s1, false) => (s1, some .refused)
    | (s1, true) =>
      let s2 := { s1 with ecc := s1.ecc.filter fun e => !(marked.contains e.1) }
      (s2.putBytes addr bs, none)
  else
    let as := if s.sidecar = [] ∧ s.noise = [] then [] else (partialUnits 256 addr n).map (· * 256)
    let s1 := s.mendBlocks as
    match s1.badBlock as with
    | some b => (s1.uncorrectable b, some .refused)
    | none => ((s1.freshSidecars addr n).putBytes addr bs, none)

/-! ### Who may reach what (R136, R166, R271, R300, R438) -/

/-- Sequencer state of a core (Table 5.10). -/
def State.seqState (s : State) (core : Nat) : Nat := s.fld .SEQ_STATUS (core / 16) (core % 16) 0 0 3

/-- Whether an SRAM place is the requester's to reach (R166). -/
def sramReach (r : Requester) : SramLoc → Bool
  | .reduction x _ =>
    match r with
    | .dma d => d.code == 0x50 + x
    | .vat y => y.val == x
    | _ => false
  | _ => true

/-- The halves whose operating-system regions a range meets: false west, true east (R438). -/
def osRegions (addr n : Nat) : List Bool :=
  if regionOf addr = 0 then
    (if overlaps (offOf addr) n 0 0x100000000 then [false] else []) ++
    (if overlaps (offOf addr) n 0x100000000 0x100000000 then [true] else [])
  else []

/-- Whether a requester may write the operating-system region of a half (R438). -/
def osWriter (r : Requester) (east : Bool) : Bool :=
  match r with
  | .cc e => e == east
  | .dma (.x i) => decide (2 ≤ i.val) == east
  | _ => false

/-- Whether a range lies in SRAM that the requester may not reach, at its first or last byte (R166). -/
def sramForbidden (r : Requester) (addr n : Nat) : Bool :=
  regionOf addr == 2 && ([offOf addr, n - 1 + offOf addr].any fun o => (sramLoc o).map (sramReach r) == some false)

/-- Read for a requester. -/
def State.memRead (s : State) (r : Requester) (addr n : Nat) : State × Except MemErr (List Nat) :=
  if sramForbidden r addr n then (s, .error .access)
  else s.readRange addr n

/-- Why a write by a requester to an own address does not happen: command memory of a core that is not IDLE or HALTED answers
with an access error (R136; the core's own stores and DMA.CLOAD do not come through the window), a buffer pair of another engine
(R271, R300) and an operating-system region (R438) refuse it at its destination. -/
def State.writeError (s : State) (r : Requester) (addr n : Nat) : Option MemErr :=
  if regionOf addr = 2 then
    if [offOf addr, n - 1 + offOf addr].any fun o =>
        match sramLoc o with
        | some (.cmd d u _) => let st := s.seqState (d * 16 + u); !(st == 0 || st == 5)
        | _ => false
    then some .access else none
  else if ((osRegions addr n).any fun east => !osWriter r east) || (s.pairsMet addr n).any (fun p => p.owner != r)
  then some .refused else none

/-- Whether a write by a requester to an own address does not happen. -/
def State.writeRefused (s : State) (r : Requester) (addr n : Nat) : Bool := (s.writeError r addr n).isSome

/-- Write for a requester. -/
def State.memWrite (s : State) (r : Requester) (addr : Nat) (bs : List Nat) : State × Option MemErr :=
  if sramForbidden r addr bs.length then (s, some .access)
  else if s.populated addr bs.length && s.writeRefused r addr bs.length then (s, s.writeError r addr bs.length)
  else s.writeRange addr bs

/-- Whether a write would wait for the capture's copy pointer (R400). -/
def State.guarded (s : State) (addr n : Nat) : Bool :=
  s.guards.any fun g => overlaps addr n g.1 (g.2 - g.1)

/-- Who is told of the twin's answer to a requester's write. -/
def askerOf : Requester → Asker
  | .cc _ => .cc
  | _ => .unit

/-- Write to any board address: to the twin as WR flits whose answer `who` is told (R163, R343), else for a requester. Where no
port takes a flit the write completes with an access error (R338). -/
def State.boardWriteFor (s : State) (who : Asker) (r : Requester) (addr : Nat) (bs : List Nat) : State × Option MemErr :=
  if s.isOwn addr then s.memWrite r addr bs
  else
    match s.sendWrites who (blockPieces (bs.length + 1) addr bs) with
    | (s1, true) => (s1, none)
    | (s1, false) => (s1, some .access)

/-- Write to any board address for a requester. -/
def State.boardWrite (s : State) (r : Requester) (addr : Nat) (bs : List Nat) : State × Option MemErr :=
  s.boardWriteFor (askerOf r) r addr bs

/-- Read `n` bytes of a core's scratchpad. -/
def State.spRead (s : State) (core off n : Nat) : State × Except MemErr (List Nat) :=
  if n + off ≤ spSize then s.readRange (s.spAddr core off) n else (s, .error .access)

/-- Write bytes of a core's scratchpad. -/
def State.spWrite (s : State) (core off : Nat) (bs : List Nat) : State × Option MemErr :=
  if bs.length + off ≤ spSize then s.writeRange (s.spAddr core off) bs else (s, some .access)

/-! ### Sequencer (R138, R159) -/

/-- What a sequencer holds. -/
def State.seq (s : State) (core : Nat) : SeqS := Sparse.get (fun _ => SeqS.init) s.seqs core

/-- Store what a sequencer holds. -/
def State.setSeq (s : State) (core : Nat) (q : SeqS) : State :=
  { s with seqs := Sparse.set (fun _ => SeqS.init) s.seqs core q }

/-- STATE and HOLD of a sequencer (Table 5.10). -/
def State.setSeqState (s : State) (core st hold : Nat) : State :=
  let v := s.rg .SEQ_STATUS (core / 16) (core % 16) 0
  s.setRg .SEQ_STATUS (core / 16) (core % 16) 0 (setBits (setBits v 0 3 st) 12 4 hold)

/-- Program counter of a sequencer. -/
def State.pc (s : State) (core : Nat) : Nat := s.rg .SEQ_PC (core / 16) (core % 16) 0

/-- Scalar register SCi; SC0 reads as zero (R135). -/
def State.sc (s : State) (core i : Nat) : Nat := if i = 0 then 0 else s.rg .SEQ_SC (core / 16) (core % 16) i

/-- Write SCi; a write to SC0 is discarded (R135). -/
def State.setSc (s : State) (core i v : Nat) : State :=
  if i = 0 then s else s.setRg .SEQ_SC (core / 16) (core % 16) i (v % 2 ^ 64)

/-- A fault of a sequencer that waits for no semaphore: the first in SEQ_FAULT, STATE FAULT, and the report (R159). -/
def State.seqFaultCore (s : State) (core cause unit : Nat) : State :=
  let d := core / 16
  let u := core % 16
  let s1 := if bit (s.rg .SEQ_FAULT d u 0) 63 then s
    else s.setRg .SEQ_FAULT d u 0 (2 ^ 63 + cause * 2 ^ 40 + unit * 2 ^ 36 + s.pc core)
  let v := setBits (setBits (setBits (s1.rg .SEQ_STATUS d u 0) 0 3 4) 12 4 0) 9 1 1
  let s2 := s1.setRg .SEQ_STATUS d u 0 v
  let s3 := { s2 with
    semWaits := s2.semWaits.filter fun w => w.who != Waiter.seq core
    barHeld := s2.barHeld.filter fun h => h.core != core }
  let s4 := s3.setSeq core { s3.seq core with waitLt := 0, barWait := none, hoopWait := none, cload := 0, sigSent := none }
  s4.dieFault d (0x10 + u) unit cause

/-- Retire the current command and go on at `pc'` (R138); passing index 16,383 is a fault (R148). -/
def State.retireTo (s : State) (core pc' : Nat) : State :=
  let d := core / 16
  let u := core % 16
  let s1 := (s.bump .SEQ_CMDS d u 0 1).setSeqState core 1 0
  let s2 := s1.setSeq core { s1.seq core with waitLt := 0, barWait := none, hoopWait := none, sigSent := none }
  if pc' ≤ 16383 then s2.setRg .SEQ_PC d u 0 pc' else s2.seqFaultCore core 0x06 7

/-- Retire the current command and go on at the next index. [DEDUCED, log entry 3] -/
def State.retire (s : State) (core : Nat) : State := s.retireTo core (s.pc core + 1)

/-- Hold the current command with a HOLD code (R139, R162). -/
def State.holdSeq (s : State) (core hold : Nat) : State := s.setSeqState core 2 hold

/-! ### Waits on semaphores (R197, R198) -/

/-- Value of a semaphore. -/
def State.sem (s : State) (die i : Nat) : Nat := s.rg .VETCH_SEM die 0 i

/-- Wake a satisfied waiter: its sequencer retires SYN.WAIT, or the unit may go on (R197, R203, R372). -/
def State.wake (s : State) (w : SemWait) : State :=
  match w.who with
  | .seq core => s.retire core
  | u => { s with grants := s.grants ++ [(w.die, u)] }

/-- Serve the waits on one semaphore in arrival order (R198); at most `fuel` of them. -/
def State.serve (s : State) (die i : Nat) : Nat → State
  | 0 => s
  | fuel + 1 =>
    match s.semWaits.find? fun w => w.die == die && w.sem == i with
    | none => s
    | some w =>
      if w.n ≤ s.sem die i then
        let s1 := s.setRg .VETCH_SEM die 0 i (s.sem die i - w.n)
        (({ s1 with semWaits := s1.semWaits.erase w } : State).wake w).serve die i fuel
      else s

/-- Waits leave without being served: the waits behind them are looked at again (R197, R198). -/
def State.dropWaits (s : State) (p : SemWait → Bool) : State :=
  let gone := s.semWaits.filter p
  gone.foldl (fun z w => z.serve w.die w.sem z.semWaits.length) { s with semWaits := s.semWaits.filter fun w => !p w }

/-- Withdraw a unit's wait. -/
def State.dropWait (s : State) (die : Nat) (who : Waiter) : State :=
  ({ s with grants := s.grants.filter fun g => g != (die, who) } : State).dropWaits fun w => w.die == die && w.who == who

/-- A command fault, or a fault reported by a unit of the core (R159): what the sequencer waited for is withdrawn. -/
def State.seqFault (s : State) (core cause unit : Nat) : State :=
  (s.dropWaits fun w => w.who == Waiter.seq core).seqFaultCore core cause unit

end Sys2Proof.Machine
end

