-- ==== Sys2Proof/Machine/Vetch.lean ====
section
/-!
DEFINITION. Vetch at one die: semaphores and their waiters (R197 to R200), barrier arrivals, completion and release (R202 to
R205, R209), and the mapping of steps to epochs (R307).
-/

namespace Sys2Proof.Machine

/-! ### Steps and epochs -/

/-- b(k) = STEP_E0 + (k − STEP_K0) × STEP_EPS, as an integer (R307). -/
def State.boundary (s : State) (k : Nat) : Int :=
  (s.g .STEP_E0 : Int) + ((k : Int) - s.g .STEP_K0) * s.g .STEP_EPS

/-- The step whose boundary an epoch is, if it is one. -/
def State.stepAt (s : State) (e : Nat) : Option Nat :=
  let e0 := s.g .STEP_E0
  let eps := s.g .STEP_EPS
  if e0 ≤ e ∧ eps ≠ 0 ∧ (e - e0) % eps = 0 then some (s.g .STEP_K0 + (e - e0) / eps) else none

/-- Epoch visible at a die (R210). -/
def State.epochOf (s : State) (die : Nat) : Nat := s.rg .VETCH_EPOCH die 0 0

/-! ### Barrier arrivals -/

/-- EXPECT of a context at a die. -/
def State.barExpect (s : State) (die ctx : Nat) : Nat := s.fld .VETCH_BAR_CFG die 0 ctx 0 8

/-- SCOPE of a context at a die: context 0 is job scope in hardware (R207). -/
def State.barScope (s : State) (die ctx : Nat) : Nat :=
  if ctx = 0 then 3 else s.fld .VETCH_BAR_CFG die 0 ctx 8 2

/-- Current generation of a context at a die. -/
def State.barGen (s : State) (die ctx : Nat) : Nat := s.fld .VETCH_BAR_STATUS die 0 ctx 32 32

/-- What an arrival at a die meets (R202, R205). -/
inductive ArriveAns where
  /-- Counted for the generation given. -/
  | counted (gen : Nat)
  /-- It would have to wait. -/
  | held
  /-- The die takes no part in the context. -/
  | refused
deriving DecidableEq, Repr

/-- A die that has become complete for its current generation: its own COMPLETE at die scope, else an ARRIVE towards the
module root with the die's step flags on context 0 (R204, R209). -/
def State.dieComplete (s : State) (die ctx : Nat) : State :=
  let gen := s.barGen die ctx
  if s.barScope die ctx = 0 then { s with vmsgs := s.vmsgs ++ [.complete die ctx gen] }
  else
    let flags := if ctx = 0 then s.rg .STEP_NONFIN die 0 0 % 2 else 0
    { s with vmsgs := s.vmsgs ++ [.arrive die ctx gen 0 flags] }

/-- Count one arrival at a die, if R205 allows. -/
def State.arriveAt (s : State) (die ctx : Nat) : State × ArriveAns :=
  let expect := s.barExpect die ctx
  let v := s.rg .VETCH_BAR_STATUS die 0 ctx
  let arrived := bits v 0 8
  let next := bits v 8 8
  let gen := bits v 32 32
  if expect = 0 then (s, .refused)
  else if arrived < expect then
    let s1 := s.setRg .VETCH_BAR_STATUS die 0 ctx (setBits v 0 8 (arrived + 1))
    (if arrived + 1 = expect then s1.dieComplete die ctx else s1, .counted gen)
  else if ctx ≠ 0 ∧ next < expect then
    (s.setRg .VETCH_BAR_STATUS die 0 ctx (setBits v 8 8 (next + 1)), .counted ((gen + 1) % 2 ^ 32))
  else (s, .held)

/-- Let a sequencer whose arrival has been counted go on, or wait for the generation (W = 1): the barrier
timer runs from the moment the SYN.BAR reached the node, counted or held (R155, R223). -/
def State.arrived (s : State) (core ctx gen : Nat) (wait : Bool) : State :=
  if wait then (s.holdSeq core 2).setSeq core { s.seq core with barWait := some (ctx, gen) }
  else s.retire core

/-- Release the sequencers that wait for a generation of a context at a die. -/
def State.releaseBar (s : State) (die ctx gen : Nat) : List Nat → State
  | [] => s
  | c :: cs =>
    if c / 16 = die ∧ (s.seq c).barWait = some (ctx, gen) then (s.retire c).releaseBar die ctx gen cs
    else s.releaseBar die ctx gen cs

/-- Count held arrivals in order as far as R205 allows. -/
def State.admitHeld (s : State) : List HeldArr → State
  | [] => s
  | h :: hs =>
    match s.arriveAt h.die h.ctx with
    | (s1, .counted gen) =>
      let s2 := { s1 with barHeld := s1.barHeld.erase h }
      (s2.arrived h.core h.ctx gen h.wait).admitHeld hs
    | _ => s.admitHeld hs

/-- COMPLETE (or the release part of ADVANCE) at a die: the generation advances, its waiters are released, arrivals already
counted ahead become current, and held ones are counted (R204, R205). -/
def State.completeAt (s : State) (die ctx gen : Nat) : State :=
  let v := s.rg .VETCH_BAR_STATUS die 0 ctx
  let next := bits v 8 8
  let s1 := s.setRg .VETCH_BAR_STATUS die 0 ctx (((gen + 1) % 2 ^ 32) * 2 ^ 32 + next)
  let s2 := s1.releaseBar die ctx gen (s1.seqs.map Prod.fst)
  let s3 := if next ≠ 0 ∧ next = s2.barExpect die ctx then s2.dieComplete die ctx else s2
  s3.admitHeld (s3.barHeld.filter fun h => h.die == die && h.ctx == ctx)

/-! ### Semaphores -/

/-- A Vetch fault: the first in VETCH_FAULT, reported to the die control block (Table 7.8). -/
def State.vetchFault (s : State) (die cause index : Nat) : State :=
  let s1 := if bit (s.rg .VETCH_FAULT die 0 0) 63 then s
    else s.setRg .VETCH_FAULT die 0 0 (2 ^ 63 + cause * 2 ^ 32 + index)
  s1.dieFault die 0x01 0 cause

/-- Add to a semaphore of this module: clamp with Vetch fault 0x01 above 2^32 − 1 (R200), then serve its waits. -/
def State.addSem (s : State) (die i n : Nat) : State :=
  let v := s.sem die i + n
  let s1 :=
    if v < 2 ^ 32 then s.setRg .VETCH_SEM die 0 i v
    else (s.setRg .VETCH_SEM die 0 i (2 ^ 32 - 1)).vetchFault die 0x01 i
  s1.serve die i s1.semWaits.length

/-- Die of the module's barrier root (R206). -/
def State.rootDie (s : State) : Nat := if (s.job.map Job.barRootEast).getD false then 0x52 else 0x50

/-- Sender and receiver of a message inside the module, as dies (R194, R196). -/
def State.msgPair (s : State) : VMsg → Nat × Nat
  | .arrive d _ _ _ _ => (d, s.rootDie)
  | .complete d c _ => (if s.barScope d c = 0 then d else s.rootDie, d)
  | .advance d _ _ _ _ => (s.rootDie, d)
  | .signal f d _ _ => (f, d)

/-- Whether a message from one die to another is still on its way: a later one of the two may not overtake it (R194). -/
def State.msgOnWay (s : State) (sender die : Nat) : Bool := s.vmsgs.any fun m => s.msgPair m == (sender, die)

/-- Signal a semaphore of this module or of the twin from a unit on a die (R154, R188, R194): one that an earlier message precedes
follows it. [DEDUCED, log entry 42] -/
def State.signal (s : State) (sender : Nat) (twin : Bool) (die i n : Nat) : State :=
  if twin then s.sendFrame s.twinNode (.signal (BitVec.ofNat 8 die) (Fin.ofNat 4096 i) (BitVec.ofNat 16 n))
  else if s.msgOnWay sender die then { s with vmsgs := s.vmsgs ++ [.signal sender die i n] }
  else s.addSem die i n

/-- Split messages into those that stay and the signals that nothing precedes any more (R194). -/
def State.freeSignals (s : State) (seen : List (Nat × Nat)) : List VMsg → List VMsg × List (Nat × Nat × Nat)
  | [] => ([], [])
  | .signal f d i n :: ms =>
    let r := s.freeSignals seen ms
    if seen.contains (f, d) then (.signal f d i n :: r.1, r.2) else (r.1, (d, i, n) :: r.2)
  | m :: ms =>
    let r := s.freeSignals (s.msgPair m :: seen) ms
    (m :: r.1, r.2)

/-- The signals that waited behind a message that has arrived reach their dies (R194). -/
def State.passSignals (s : State) : State :=
  let r := s.freeSignals [] s.vmsgs
  if r.2 = [] then s else r.2.foldl (fun (z : State) x => z.addSem x.1 x.2.1 x.2.2) { s with vmsgs := r.1 }

/-- Take `n` from a semaphore for a wait made now, if no earlier wait stands and the value covers it (R197, R198). -/
def State.takeSem (s : State) (die i n : Nat) : Option State :=
  if (s.semWaits.any fun w => w.die == die && w.sem == i) then none
  else if n ≤ s.sem die i then some (s.setRg .VETCH_SEM die 0 i (s.sem die i - n)) else none

/-- Make a unit's wait on a semaphore of its die: granted at once, or kept in arrival order. -/
def State.unitWait (s : State) (die i n : Nat) (who : Waiter) : State :=
  match s.takeSem die i n with
  | some s1 => { s1 with grants := s1.grants ++ [(die, who)] }
  | none => { s with semWaits := s.semWaits ++ [⟨die, i, n, who, 0⟩] }

/-- Whether a unit's wait has been served. -/
def State.granted (s : State) (die : Nat) (who : Waiter) : Bool := s.grants.contains (die, who)

/-- Use up a served wait. -/
def State.useGrant (s : State) (die : Nat) (who : Waiter) : State := { s with grants := s.grants.erase (die, who) }

/-- A die's automatic arrival with a gate begins its wait for the current generation (R203). -/
def State.autoArm (s : State) (die : Nat) : State :=
  let v := s.rg .VETCH_AUTO die 0 0
  if DieSet.mx.has die && bit v 31 && bit v 30 && !s.granted die .auto &&
      !s.semWaits.any fun w => w.die == die && w.who == Waiter.auto then
    s.unitWait die (bits v 0 12) (bits v 12 16) .auto
  else s

/-- The automatic arrival of a die on context 0, once for each generation, after its gate (R203). -/
def State.autoArrive (s : State) (die : Nat) : State :=
  let v := s.rg .VETCH_AUTO die 0 0
  let gen := s.barGen die 0
  if !(DieSet.mx.has die && bit v 31) || Sparse.get (fun _ => 0) s.autoGen die == gen + 1 then s
  else
    let s1 := s.autoArm die
    if bit v 30 && !s1.granted die .auto then s1
    else
      match s1.arriveAt die 0 with
      | (s2, .counted g) => { s2.useGrant die .auto with autoGen := Sparse.set (fun _ => 0) s2.autoGen die (g + 1) }
      | _ => s1

/-- Whether a code names a die with a Vetch node (R154). -/
def dieCode (d : Nat) : Bool := DieSet.all.has d

end Sys2Proof.Machine
end

