-- ==== Sys2Proof/Machine/Dma.lean ====
section
/-!
DEFINITION. The DMA engines of the dies (R181 to R190): submission, bursts, completion, faults.
-/

namespace Sys2Proof.Machine

/-! ### Channels -/

/-- Channel `ch` of the engine of a die, as stored. -/
def State.dma (s : State) (die ch : Nat) : DmaS := Sparse.get (fun _ => DmaS.init) s.dmas (die * 32 + ch)

/-- Store a channel. -/
def State.setDma (s : State) (die ch : Nat) (x : DmaS) : State :=
  { s with dmas := Sparse.set (fun _ => DmaS.init) s.dmas (die * 32 + ch) x }

/-- STATE of DMA_CH_STATUS (Table 6.6): 0 IDLE, 1 ACTIVE, 2 FAULT, 3 STOPPED. -/
def DmaS.state (x : DmaS) : Nat :=
  if x.mode = 4 then 1
  else if x.mode ≠ 0 then x.mode
  else
    match x.queue with
    | d :: _ => if d.started then 1 else 0
    | [] => 0

/-- The descriptor in progress. -/
def DmaS.cur (x : DmaS) : Option DmaDesc :=
  match x.queue with
  | d :: _ => if d.started then some d else none
  | [] => none

/-- The first refusal or fault of a channel since the job was loaded (R185, R189). -/
def State.dmaRecord (s : State) (die ch cause tag : Nat) : State :=
  if bit (s.rg .DMA_CH_FAULT die 0 ch) 63 then s
  else s.setRg .DMA_CH_FAULT die 0 ch (2 ^ 63 + cause * 2 ^ 32 + tag % 2 ^ 32)

/-- A run-time fault: the descriptor is abandoned, the queue discarded, nothing signalled (R189). -/
def State.dmaFault (s : State) (die ch cause : Nat) : State :=
  match (s.dma die ch).cur with
  | none => s
  | some d =>
    let s1 := s.dmaRecord die ch cause (dmaFields d.word).tag
    (s1.setDma die ch { DmaS.init with mode := 2 }).dieFault die 0x02 ch cause

/-! ### Acceptance (R181, R182, R185, R186) -/

/-- Whether the line of `n` bytes at an address is populated memory of either module. -/
def State.lineOk (s : State) (a : Int) (n : Nat) : Bool :=
  decide (0 ≤ a) && decide (a + n ≤ (2 ^ 44 : Nat)) && s.assigned a.toNat n

/-- Whether the first and the last line of a side are populated (R185). -/
def State.sideOk (s : State) (base : Nat) (stride : Int) (cnt len : Nat) : Bool :=
  s.lineOk base len && s.lineOk ((base : Int) + ((cnt : Int) - 1) * stride) len

/-- The swap unit (R186). -/
def swapUnit (swap : Nat) : Nat := if swap = 0 then 1 else if swap = 1 then 2 else 4

/-- Why a descriptor is refused, in the order of R185: 0 where it is not. [DEDUCED, log entry 10] -/
def State.dmaRefusal (s : State) (x : BitVec 512) : Nat :=
  let f := dmaFields x
  let u := swapUnit f.swap
  let multiple (len : Nat) (stride : Int) : Bool := len % u == 0 && decide (stride % (u : Int) = 0)
  if f.rsvd ∨ 1 < f.op ∨ (f.op = 1 ∧ !f.srcZero) then 0x01
  else if f.op = 0 ∧ f.srcLen * f.srcCnt ≠ f.dstLen * f.dstCnt then 0x02
  else if !s.sideOk f.dst f.dstStride f.dstCnt f.dstLen ∨ (f.op = 0 ∧ !s.sideOk f.src f.srcStride f.srcCnt f.srcLen) then
    0x03
  else if !multiple f.dstLen f.dstStride ∨ (f.op = 0 ∧ !multiple f.srcLen f.srcStride) then 0x04
  else if f.sig ∧ (f.sn = 0 ∨ !dieCode f.sdie) then 0x01
  else 0

/-- What a submission meets. -/
inductive DmaAns where
  | accepted | full | refused
deriving DecidableEq, Repr

/-- Whether a channel takes its descriptors from an owner (R181). -/
def State.dmaMine (s : State) (die ch owner : Nat) : Bool := s.fld .DMA_CH_CTRL die 0 ch 0 5 == owner

/-- Refuse a descriptor that was not read: the TAG recorded with it is an open value (R185, Table 6.6). [DEDUCED, log entry 48] -/
def State.dmaUnread (s : State) (die ch cause : Nat) : State × DmaAns :=
  let (o, s1) := s.freshVal
  (s1.dmaRecord die ch cause o.toNat, .refused)

/-- Judge a descriptor whose 64 bytes have been read (R181, R185). [DEDUCED, log entries 10 and 48] -/
def State.dmaTake (s : State) (die ch owner : Nat) (bs : List Nat) : State × DmaAns :=
  let x := s.dma die ch
  let w := BitVec.ofNat 512 (ofLeBytes bs)
  let c := if s.dmaMine die ch owner then s.dmaRefusal w else 0x05
  if c ≠ 0 then (s.dmaRecord die ch c (dmaFields w).tag, .refused)
  else (s.setDma die ch { x with queue := x.queue ++ [⟨w, false, 0⟩] }, .accepted)

/-- Submit the descriptor at an address of this module to a channel for an owner (a core number, or 16 for register
submission): `inside` says whether the address lies where that owner may keep one (R181, R182, R185, R189). -/
def State.dmaSubmit (s : State) (die ch owner addr : Nat) (inside : Bool) (r : Requester) : State × DmaAns :=
  let x := s.dma die ch
  let mine := s.dmaMine die ch owner
  if x.mode = 2 then (s, .refused)
  else if mine ∧ 8 ≤ x.queue.length then (s, .full)
  else if !inside ∨ addr % 64 ≠ 0 ∨ !s.populated addr 64 then s.dmaUnread die ch 0x05
  else
    match s.memRead r addr 64 with
    | (s1, .error .access) => s1.dmaUnread die ch 0x05
    | (s1, .error _) => s1.dmaUnread die ch (if mine then 0x06 else 0x05)
    | (s1, .ok bs) => s1.dmaTake die ch owner bs

/-- A write of DMA_CH_SUBMIT (R182, R185): the answer, none while the twin has not delivered a descriptor kept there. -/
def State.dmaRegSubmit (s : State) (d : Die) (ch v : Nat) : State × Option Resp :=
  let addr := bits v 0 44
  let x := s.dma d.code ch
  if !s.isOwn addr ∧ addr % 64 = 0 ∧ s.assigned addr 64 ∧ x.mode ≠ 2 ∧
      !(s.dmaMine d.code ch 16 && decide (8 ≤ x.queue.length)) then
    match s.sendReads (.dmaSub d.code ch) [(addr, List.replicate 64 0)] with
    | (s1, true) => (s1, none)
    | (s1, false) => ((s1.dmaUnread d.code ch 0x06).1, some .accessError)
  else
    match s.dmaSubmit d.code ch 16 addr true (.dma d) with
    | (s1, .accepted) => (s1, some .ok)
    | (s1, _) => (s1, some .accessError)

/-- The twin has answered for a descriptor kept there: bytes, or none for an error. -/
def State.dmaDelivered (s : State) (die ch : Nat) (bs : Option (List Nat)) : State :=
  let x := s.dma die ch
  if x.mode = 2 ∨ 8 ≤ x.queue.length then s.answer .accessError
  else
    match bs with
    | none => ((s.dmaUnread die ch 0x06).1).answer .accessError
    | some b =>
      match s.dmaTake die ch 16 b with
      | (s1, .accepted) => s1.answer .ok
      | (s1, _) => s1.answer .accessError

/-! ### Bursts (R184, R186, R187) -/

/-- The next burst of a descriptor. -/
structure Burst where
  n : Nat
  src : Int
  dst : Int
  srcOff : Nat
  dstOff : Nat
deriving DecidableEq, Repr

/-- Bytes to the next 4 KiB boundary of an address. -/
def toBoundary (a : Int) : Nat := 4096 - (a % 4096).toNat

/-- Destination bytes of a descriptor. -/
def DmaF.total (f : DmaF) : Nat := f.dstLen * f.dstCnt

/-- Cut the next burst (R187). -/
def DmaF.burst (f : DmaF) (pos : Nat) : Burst :=
  let dOff := pos % f.dstLen
  let dst : Int := (f.dst : Int) + ((pos / f.dstLen : Nat) : Int) * f.dstStride + (dOff : Int)
  let n0 := Nat.min 4096 (Nat.min (f.dstLen - dOff) (f.total - pos))
  if f.op = 1 then ⟨Nat.min n0 (toBoundary dst), 0, dst, 0, dOff⟩
  else
    let sOff := pos % f.srcLen
    let src : Int := (f.src : Int) + ((pos / f.srcLen : Nat) : Int) * f.srcStride + (sOff : Int)
    ⟨Nat.min n0 (Nat.min (f.srcLen - sOff) (toBoundary src)), src, dst, sOff, dOff⟩

/-- Rearrange the units of a byte string (R186). -/
def swapBytes (swap : Nat) (bs : List Nat) : List Nat :=
  let us := chunks (swapUnit swap) (bs.length + 1) bs
  us.flatMap fun u =>
    match swap with
    | 2 => u.drop 2 ++ u.take 2
    | 0 => u
    | _ => u.reverse

/-- The bytes that FILL stores at offset `off` of a destination line (R186). -/
def fillBytes (f : DmaF) (off n : Nat) : List Nat :=
  let pat := swapBytes f.swap (leBytes 4 f.fill)
  (List.range n).map fun i => nth 0 pat ((off + i) % 4)

/-- The aligned run of source bytes that holds a burst's swap units: first byte before the burst, and length. -/
def Burst.units (b : Burst) (swap : Nat) : Nat × Nat :=
  let u := swapUnit swap
  let before := b.srcOff % u
  (before, alignUp (before + b.n) u)

/-- Whether a burst's address lies outside the board address space or in register space. -/
def outOfMemory (a : Int) (n : Nat) : Bool :=
  decide (a < 0) || decide ((2 ^ 44 : Nat) < a + n) || regionOf a.toNat == 3

/-- Cause of Table 6.7 for a memory error. -/
def MemErr.dmaCause : MemErr → Nat
  | .access => 0x11
  | .readError => 0x10
  | .refused => 0x12

/-- Whether an address lies on a line of a side of a descriptor (R184). -/
def onLine (base : Nat) (stride : Int) (cnt len : Nat) (a : Int) : Bool :=
  (List.range cnt).any fun i => decide ((base : Int) + i * stride ≤ a) && decide (a < (base : Int) + i * stride + len)

/-- Lowest byte of a side and the first byte past its highest. -/
def sideBounds (base : Nat) (stride : Int) (cnt len : Nat) : Int × Int :=
  let last : Int := (base : Int) + ((cnt : Int) - 1) * stride
  (min (base : Int) last, max (base : Int) last + len)

/-- Bytes of a burst that the source lines of the same descriptor hold too: their content is not defined (R188), so that an open
value replaces each. [DESIGN CHOICE, log entry 80] -/
def State.overlapFree (s : State) (f : DmaF) (b : Burst) (bs : List Nat) : State × List Nat :=
  let sb := sideBounds f.src f.srcStride f.srcCnt f.srcLen
  let db := sideBounds f.dst f.dstStride f.dstCnt f.dstLen
  if f.op = 1 ∨ sb.2 ≤ db.1 ∨ db.2 ≤ sb.1 then (s, bs)
  else
    ({ s with freshCtr := s.freshCtr + bs.length },
     bs.zipIdx.map fun e =>
      if onLine f.src f.srcStride f.srcCnt f.srcLen (b.dst + e.2) then (Config.fresh (s.freshCtr + e.2)).toNat % 256 else e.1)

/-- The writes of a channel's burst have been accepted (R170, R187); under a stop request the channel is then STOPPED (R190). -/
def State.burstDone (s : State) (die ch n : Nat) : State :=
  let x := s.dma die ch
  match x.queue with
  | [] => s
  | e :: rest =>
    let y : DmaS :=
      if x.mode = 4 then { DmaS.init with mode := 3 }
      else { x with queue := { e with done := e.done + n } :: rest, progLt := 0, flight := none }
    (s.setDma die ch y).bump .DMA_CH_BYTES die 0 ch n

/-- Store the bytes of a burst in this module, or send them to the twin, whose acknowledgements end the burst (R343). -/
def State.burstStore (s : State) (d : Die) (ch : Nat) (f : DmaF) (b : Burst) (bs : List Nat) : State :=
  if outOfMemory b.dst b.n then s.dmaFault d.code ch 0x11
  else
    let addr := b.dst.toNat
    let (s0, out) := s.overlapFree f b bs
    if s.isOwn addr then
      match s0.memWrite (.dma d) addr out with
      | (s1, none) => s1.burstDone d.code ch b.n
      | (s1, some e) => s1.dmaFault d.code ch (if e = .access then 0x11 else 0x12)
    else
      match s0.sendWrites (.dma d.code ch) (blockPieces (b.n + 1) addr out) with
      | (s1, false) => s1.dmaFault d.code ch 0x12
      | (s1, true) => s1.setDma d.code ch { s1.dma d.code ch with flight := some ⟨[], [], true⟩ }

/-- The bytes of a burst cut out of the aligned run read for it and rearranged (R186). -/
def Burst.cut (b : Burst) (swap : Nat) (bs : List Nat) : List Nat := ((swapBytes swap bs).drop (b.units swap).1).take b.n

/-- The granted burst of a channel runs: its bytes are formed, read here, or asked of the twin (R184, R186, R343). [DESIGN CHOICE, log entry 28] -/
def State.runBurst (s : State) (d : Die) (ch : Nat) (f : DmaF) (b : Burst) : State :=
  if f.op = 1 then s.burstStore d ch f b (fillBytes f b.dstOff b.n)
  else if outOfMemory b.src b.n then s.dmaFault d.code ch 0x11
  else
    let (before, len) := b.units f.swap
    let addr := b.src.toNat - before
    if s.isOwn addr then
      match s.memRead (.dma d) addr len with
      | (s1, .ok bs) => s1.burstStore d ch f b (b.cut f.swap bs)
      | (s1, .error e) => s1.dmaFault d.code ch e.dmaCause
    else
      let pieces := blockPieces (len + 1) addr (List.replicate len 0)
      let tags := (List.range pieces.length).map fun i => (s.tagCtr + i) % 4096
      match s.sendReads (.dma d.code ch) pieces with
      | (s1, false) => s1.dmaFault d.code ch 0x12
      | (s1, true) => s1.setDma d.code ch { s1.dma d.code ch with flight := some ⟨tags, [], false⟩ }

/-- The next burst of a channel's descriptor in progress, granted or not: its descriptor's fields and the burst. -/
def State.nextBurst (s : State) (die ch : Nat) : Option (DmaF × Burst) :=
  let x := s.dma die ch
  if x.mode ≠ 0 ∧ x.mode ≠ 4 then none
  else
    match x.cur with
    | none => none
    | some d =>
      let f := dmaFields d.word
      if f.total ≤ d.done then none else some (f, f.burst d.done)

/-- The burst a channel has ready for a grant. -/
def State.readyBurst (s : State) (die ch : Nat) : Option (DmaF × Burst) :=
  if (s.dma die ch).flight.isSome then none else s.nextBurst die ch

/-- Whether the destination of a burst lies in a range that a capture has not copied yet (R400). -/
def State.burstGuarded (s : State) (b : Burst) : Bool := s.isOwn b.dst.toNat && s.guarded b.dst.toNat b.n

/-- The channels that compete for the next grant, with their levels (R187): a burst that waits for a capture does not hold up the
others. -/
def State.dmaReady (s : State) (die : Nat) : List (Nat × Nat) :=
  (List.range (dmaChannels die)).filterMap fun ch =>
    match s.readyBurst die ch with
    | some (f, b) =>
      if s.burstGuarded b then none else some (ch, if 64 ≤ (s.dma die ch).skipped then 8 else f.prio)
    | none => none

/-- Last channel granted at a level; 31 before any, so that the round begins at channel 0. -/
def State.lastGrant (s : State) (die level : Nat) : Nat := Sparse.get (fun _ => 31) s.dmaLast (die * 16 + level)

/-- The channel that the engine grants (R187). -/
def State.dmaChoice (s : State) (die : Nat) : Option (Nat × Nat) :=
  let rs := s.dmaReady die
  let top := rs.foldl (fun z r => Nat.max z r.2) 0
  let cs := (rs.filter fun r => r.2 == top).map Prod.fst
  let last := s.lastGrant die top
  ((cs.find? fun c => decide (last < c)).orElse fun _ => cs.head?).map fun c => (c, top)

/-- Note a grant: the round moves on, and every other competing channel has been passed over once more. -/
def State.noteGrant (s : State) (die ch level : Nat) (others : List Nat) : State :=
  let s1 := { s with dmaLast := Sparse.set (fun _ => 31) s.dmaLast (die * 16 + level) ch }
  let s2 := (others.filter (· != ch)).foldl (fun z c =>
    z.setDma die c { z.dma die c with skipped := (z.dma die c).skipped + 1 }) s1
  s2.setDma die ch { s2.dma die ch with skipped := 0 }

/-- A burst whose bytes the twin has delivered is written, unless its destination waits for a capture (R343, R400). -/
def State.burstGo (s : State) (d : Die) (ch : Nat) : State :=
  match s.nextBurst d.code ch, (s.dma d.code ch).flight with
  | some (f, b), some x =>
    if x.writing || !(x.reads.all fun t => x.got.any fun e => e.1 == t) || s.burstGuarded b then s
    else
      let bytes := x.reads.flatMap fun t => ((x.got.find? fun e => e.1 == t).map Prod.snd).getD []
      s.burstStore d ch f b (b.cut f.swap bytes)
  | _, _ => s

/-- The block that a read of a board address finds, through the pairs' redirection (R271, R300). -/
def State.blockOf (s : State) (addr : Nat) : Nat :=
  let a := addr / 256 * 256
  redirect (s.pairsMet a 256) a / 256

/-- `bad` reads of a block in turn will mismatch its sidecar: up to three a re-read mends, four leave it uncorrectable (R173). -/
def State.disturb (s : State) (blk bad : Nat) : State :=
  if bad = 0 then s
  else if bad < 4 then { s with noise := Sparse.set (fun _ => 0) s.noise blk bad }
  else { s with sidecar := Sparse.set (fun _ => 0) s.sidecar blk 1 }

/-- Each listed block's next reads mismatch, as often as the list says (R173). -/
def State.disturbAll (s : State) (bad : List (BitVec 44 × Fin 5)) : State :=
  bad.foldl (fun z e => z.disturb (z.blockOf e.1.toNat) e.2.val) s

/-- A channel's burst is the grant of R187 and runs, meeting the mismatches listed; one that has been granted before and has its
bytes from the twin is written. -/
def State.dmaBurst (s : State) (d : Die) (ch : Nat) (bad : List (BitVec 44 × Fin 5)) : State :=
  match s.readyBurst d.code ch with
  | none => s.burstGo d ch
  | some (f, b) =>
    match s.dmaChoice d.code with
    | some (c, level) =>
      if c = ch then ((s.disturbAll bad).runBurst d ch f b).noteGrant d.code ch level ((s.dmaReady d.code).map Prod.fst) else s
    | none => s

/-- The die with a code. -/
def dieOf (code : Nat) : Die :=
  if code < 0x40 then .c (Fin.ofNat 64 code) else if code < 0x50 then .m (Fin.ofNat 12 (code - 0x40)) else .x (Fin.ofNat 4 (code - 0x50))

/-- The twin has delivered bytes of a channel's burst, or a read error (R189, R343). -/
def State.dmaDeliver (s : State) (die ch tag : Nat) (bs : Option (List Nat)) : State :=
  let x := s.dma die ch
  match x.flight with
  | none => s
  | some fl =>
    if !fl.reads.contains tag then s
    else
      match bs with
      | none => s.dmaFault die ch 0x10
      | some b => (s.setDma die ch { x with flight := some { fl with got := fl.got ++ [(tag, b)] } }).burstGo (dieOf die) ch

/-- The twin has answered a write of a channel's burst: the burst ends with the last acknowledgement; an error is a refused
write (R189, R343). -/
def State.dmaAcked (s : State) (die ch : Nat) (err : Bool) : State :=
  match s.nextBurst die ch, (s.dma die ch).flight with
  | some (_, b), some fl =>
    if !fl.writing then s
    else if err then s.dmaFault die ch 0x12
    else if s.asked.any fun a => a.who == Asker.dma die ch then s else s.burstDone die ch b.n
  | _, _ => s

/-! ### Rows -/

/-- DMA_DESCRIPTOR_START (R188): the oldest accepted descriptor of a channel begins. -/
def execDmaDescriptorStart (d : Die) (ch : Fin 32) (s : State) : Host.Outcome State Fault Refusal :=
  let x := s.dma d.code ch.val
  match x.queue with
  | e :: rest =>
    if e.started ∨ x.mode = 2 ∨ x.mode = 4 then .next s
    else .next (s.setDma d.code ch.val { x with queue := { e with started := true } :: rest, progLt := 0, mode := 0 })
  | [] => .next s

/-- DMA_BURST_COMPLETE (R187). [DESIGN CHOICE, log entry 34] -/
def execDmaBurstComplete (d : Die) (ch : Fin 32) (bad : List (BitVec 44 × Fin 5)) (s : State) :
    Host.Outcome State Fault Refusal :=
  .next (s.dmaBurst d ch.val bad)

/-- DMA_DESCRIPTOR_COMPLETE (R188): every destination write is accepted, so the channel signals and goes on. Under a stop request a
channel with no burst in progress is STOPPED (R190). -/
def execDmaDescriptorComplete (d : Die) (ch : Fin 32) (s : State) : Host.Outcome State Fault Refusal :=
  let x := s.dma d.code ch.val
  if x.mode = 4 ∧ x.flight = none then .next (s.setDma d.code ch.val { DmaS.init with mode := 3 })
  else
  match x.queue with
  | e :: rest =>
    let f := dmaFields e.word
    if !e.started ∨ x.mode ≠ 0 ∨ e.done < f.total then .next s
    else
      let s1 := s.setDma d.code ch.val { x with queue := rest, progLt := 0 }
      .next (if f.sig then s1.signal d.code f.stwin f.sdie f.sem f.sn else s1)
  | [] => .next s

/-- DMA_PROGRESS_TIMEOUT (R189). -/
def execDmaProgressTimeout (d : Die) (ch : Fin 32) (s : State) : Host.Outcome State Fault Refusal :=
  let x := s.dma d.code ch.val
  if x.cur.isSome ∧ x.mode = 0 ∧ s.fld .DMA_CFG d.code 0 0 0 16 ≤ x.progLt then .next (s.dmaFault d.code ch.val 0x14)
  else .next s

end Sys2Proof.Machine
end

