-- ==== Sys2Proof/Machine/MemTier.lean ====
section
/-!
DEFINITION. Accesses to the tiers and SRAMs that have a row of their own, and the retirement of a channel (R170 to R177,
R180), and the control cores' data caches (R439).
-/

namespace Sys2Proof.Machine

/-- The answer to a requester's write. -/
def writeResp : Option MemErr → Resp
  | none => .ok
  | some .access => .accessError
  | some _ => .refused

/-- The answer to a requester's read. -/
def readResp : Except MemErr (List Nat) → Resp
  | .ok bs => .data bs
  | .error .access => .accessError
  | .error _ => .readError

/-! ### The control cores' data caches (R437 to R439) -/

/-- A line that a half's caches hold apart from memory. -/
def State.ccLine (s : State) (east : Bool) (line : Nat) : Option (List Nat × Bool) :=
  (s.ccLines.find? fun c => c.1 == east && c.2.1 == line).map fun c => c.2.2

/-- Forget a line. -/
def State.ccDrop (s : State) (east : Bool) (line : Nat) : State :=
  { s with ccLines := s.ccLines.filter fun c => !(c.1 == east && c.2.1 == line) }

/-- Hold a line. -/
def State.ccHold (s : State) (east : Bool) (line : Nat) (bs : List Nat) (dirty : Bool) : State :=
  let z := s.ccDrop east line
  { z with ccLines := z.ccLines ++ [(east, line, bs, dirty)] }

/-- Write a dirty line back: one that waits for a capture's copy pointer stays dirty (R400), one that memory refuses is lost. -/
def State.ccClean (s : State) (east : Bool) (line : Nat) : State :=
  match s.ccLine east line with
  | some (bs, true) =>
    if s.guarded line 64 then s else ((s.memWrite (.cc east) line bs).1).ccHold east line bs false
  | _ => s

/-- Whether a half's caches may hold a line apart from memory: tiers of this module outside the half's own region (R439). [DESIGN CHOICE, log entry 19] -/
def State.ccCached (s : State) (r : Requester) (addr n : Nat) : Bool :=
  match r with
  | .cc east => decide (regionOf addr < 2) && s.populated addr n && !(osRegions addr n).contains east
  | _ => false

/-- Lines leave the caches at times the manual does not give: each held line of a range may leave now, written back if dirty. [DESIGN CHOICE, log entry 19] -/
def State.ccEvict (s : State) (east : Bool) : List Nat → State
  | [] => s
  | l :: ls =>
    if (s.ccLine east l).isNone then s.ccEvict east ls
    else
      let (o, z) := s.freshVal
      if o.getLsbD 0 then
        let y := z.ccClean east l
        (match y.ccLine east l with
          | some (_, true) => y
          | _ => y.ccDrop east l).ccEvict east ls
      else z.ccEvict east ls

/-- A control core of a half reads: bytes that memory delivered, with the lines that the caches hold in their place; the others
are filled. -/
def State.ccFill (s : State) (east : Bool) (bs : List Nat) : List Nat → State × List Nat
  | [] => (s, [])
  | l :: ls =>
    let (own, z) :=
      match s.ccLine east l with
      | some (h, _) => (h, s)
      | none => (bs.take 64, s.ccHold east l (bs.take 64) false)
    let (y, rest) := z.ccFill east (bs.drop 64) ls
    (y, own ++ rest)

/-- The 64-byte lines of a range. -/
def linesOf (addr n : Nat) : List Nat := (unitsOf 64 addr n).map (· * 64)

/-- Patch bytes into the lines held of a range. -/
def State.ccPatch (s : State) (east : Bool) (addr : Nat) (bs : List Nat) : State :=
  { s with ccLines := s.ccLines.map fun c =>
      if c.1 = east ∧ overlaps c.2.1 64 addr bs.length then
        (c.1, c.2.1, (c.2.2.1.zipIdx.map fun b =>
          let a := c.2.1 + b.2
          if addr ≤ a ∧ a < addr + bs.length then nth 0 bs (a - addr) else b.1), c.2.2.2)
      else c }

/-- A control core's write is held in its lines, which memory fills first: none where a line cannot be filled. -/
def State.ccHoldWrite (s : State) (east : Bool) (addr : Nat) (bs : List Nat) : List Nat → Option State
  | [] =>
    let z := s.ccPatch east addr bs
    some { z with ccLines := z.ccLines.map fun c =>
      if c.1 = east ∧ overlaps c.2.1 64 addr bs.length then (c.1, c.2.1, c.2.2.1, true) else c }
  | l :: ls =>
    match s.ccLine east l with
    | some _ => s.ccHoldWrite east addr bs ls
    | none =>
      match s.memRead (.cc east) l 64 with
      | (z, .ok own) => (z.ccHold east l own false).ccHoldWrite east addr bs ls
      | (_, .error _) => none

/-- Operation OP of CC_CACHE on the line of an address, in every cache of a half: 1 invalidate, 2 clean, 3 both. -/
def State.ccCacheOp (s : State) (east : Bool) (op addr : Nat) : State :=
  let line := addr / 64 * 64
  match op with
  | 1 => s.ccDrop east line
  | 2 => s.ccClean east line
  | 3 =>
    let z := s.ccClean east line
    match z.ccLine east line with
    | some (_, true) => z
    | _ => z.ccDrop east line
  | _ => s

/-! ### Rows -/

/-- A block is read from memory: with `bad` reads that mismatch. -/
def State.tierBlock (s : State) (r : Requester) (a : Nat) (bad : Fin 5) : State × Except MemErr (List Nat) :=
  let b := s.blockOf a
  (s.disturb b bad.val).memRead r a 256

/-- TIER_READ (R173): a block is read for a requester; `bad` is how many reads of it in turn mismatch their sidecar: up to
three are mended by a re-read that matches, four leave it uncorrectable. A control core may find lines in its caches (R439). [DESIGN CHOICE, log entries 19 and 34] -/
def execTierRead (r : Requester) (addr : BitVec 44) (bad : Fin 5) (s : State) : Host.Outcome State Fault Refusal :=
  let a := addr.toNat / 256 * 256
  if 2 ≤ regionOf a then .next (s.answer .accessError)
  else if s.isOwn a then
    if !s.populated a 256 then .next (s.answer .accessError)
    else
      match r with
      | .cc east =>
        if s.ccCached r a 256 then
          let ls := linesOf a 256
          let s1 := s.ccEvict east ls
          if ls.all fun l => (s1.ccLine east l).isSome then
            .next (s1.answer (.data (ls.flatMap fun l => ((s1.ccLine east l).map Prod.fst).getD [])))
          else
            match s1.tierBlock r a bad with
            | (s2, .error e) => .next (s2.answer (readResp (.error e)))
            | (s2, .ok bs) =>
              let (s3, own) := s2.ccFill east bs ls
              .next (s3.answer (.data own))
        else
          let (s1, x) := s.tierBlock r a bad
          .next (s1.answer (readResp x))
      | _ =>
        let (s1, x) := s.tierBlock r a bad
        .next (s1.answer (readResp x))
  else
    match s.sendReads (askerOf r) [(a, List.replicate 256 0)] with
    | (s1, true) => .next s1
    | (s1, false) => .next (s1.answer .accessError)

/-- A write that memory takes or refuses at once; one to the twin is answered when its WR_ACK arrives. -/
def State.tierWriteThrough (s : State) (r : Requester) (addr : Nat) (bs : List Nat) : State :=
  let (s1, x) := s.boardWrite r addr bs
  if s.isOwn addr ∨ x.isSome then s1.answer (writeResp x) else s1

/-- TIER_WRITE (R172): bytes are written for a requester; a write that waits for a capture's copy pointer is not answered
yet (R400). A control core's write may stay in its caches until the line is cleaned or leaves them (R439). [DESIGN CHOICE, log entries 19 and 66] -/
def execTierWrite (r : Requester) (addr : BitVec 44) (data : List (BitVec 8)) (s : State) :
    Host.Outcome State Fault Refusal :=
  let bs := data.map BitVec.toNat
  let a := addr.toNat
  if 2 ≤ regionOf a then .next (s.answer .accessError)
  else if s.isOwn a ∧ s.guarded a bs.length then .next s
  else
    match r with
    | .cc east =>
      if s.ccCached r a bs.length && !s.writeRefused r a bs.length then
        let (o, s1) := s.freshVal
        match (if o.getLsbD 0 then s1.ccHoldWrite east a bs (linesOf a bs.length) else none) with
        | some s2 => .next (s2.answer .ok)
        | none =>
          let (s2, x) := s1.boardWrite r a bs
          .next ((if x.isSome then s2 else s2.ccPatch east a bs).answer (writeResp x))
      else .next (s.tierWriteThrough r a bs)
    | _ => .next (s.tierWriteThrough r a bs)

/-- SRAM_ACCESS (R180): a requester reads or writes an SRAM of this module, or of the twin over the pair ports (R163); `err` is the
error that the first word touched here then stores: 0 none beyond what it has, 1 one bit, 2 two bits. [DESIGN CHOICE, log entry 34] -/
def execSramAccess (r : Requester) (addr : BitVec 44) (acc : SramAcc) (err : Fin 3) (s : State) :
    Host.Outcome State Fault Refusal :=
  let a := addr.toNat
  let n := match acc with
    | .read n => n.val
    | .write data => data.length
  if regionOf a ≠ 2 then .next (s.answer .accessError)
  else if !s.isOwn a then
    let (s1, x) := match acc with
      | .read n => s.sendReads (askerOf r) (blockPieces (n.val + 1) a (List.replicate n.val 0))
      | .write data => s.sendWrites (askerOf r) (blockPieces (n + 1) a (data.map BitVec.toNat))
    .next (if x then s1 else s1.answer .accessError)
  else if !s.populated a n then .next (s.answer .accessError)
  else
    let s0 := if err.val = 0 then s else { s with ecc := Sparse.set (fun _ => 0) s.ecc (a / 8) err.val }
    match acc with
    | .read n =>
      let (s1, x) := s0.memRead r a n.val
      .next (s1.answer (readResp x))
    | .write data =>
      let (s1, x) := s0.memWrite r a (data.map BitVec.toNat)
      .next (s1.answer (writeResp x))

/-! ### Channel retirement (R175 to R177) -/

/-- Local channels of a tier on an M-die. -/
def tierLocals (tier : Nat) : List Nat := if tier = 0 then List.range 16 else (List.range 8).map (16 + ·)

/-- A write of MC_RETIRE on M-die m: false where it returns an access error (R176). [DEDUCED, log entry 9] -/
def State.mcRetire (s : State) (m v : Nat) : State × Bool :=
  let ch := bits v 0 5
  let tier := if ch < 16 then 0 else 1
  if 24 ≤ ch ∨ !bit (s.g (tierReg tier)) 32 ∨ (tierLocals tier).any (fun c => s.chState m c != 0) then (s, false)
  else
    let s1 := (s.setFld .MC_CH_STATE (0x40 + m) 0 ch 0 2 1).setRg .MC_MIG_PTR (0x40 + m) 0 0 0
    ({ s1 with migs := s1.migs ++ [⟨m, tier, ch, 0, false⟩] }, true)

/-- Primary lines of a channel of a tier (R175). -/
def State.primaryLines (s : State) (tier : Nat) : Nat := tierTotal tier - s.tierReserve tier

/-- The block of a list that lies at a channel's line, if any. -/
def State.lineBlock (s : State) (m tier ch line : Nat) (l : List Nat) : Option Nat :=
  l.find? fun b =>
    regionOf (b * 256) == tier &&
      match s.tierLocate tier (offOf (b * 256)) with
      | some (m', c, l) => m' == m && localCh tier c == ch && l == line
      | none => false

/-- The block of this module that is uncorrectable at a channel's line, if any. -/
def State.badLine (s : State) (m tier ch line : Nat) : Option Nat :=
  s.lineBlock m tier ch line (s.sidecar.map Prod.fst)

/-- The copy of a line reads it again where its first read mismatches (R173). -/
def State.mendLine (s : State) (m tier ch line : Nat) : State :=
  match s.lineBlock m tier ch line (s.noise.map Prod.fst) with
  | some b => s.mend b
  | none => s

/-- Replace a migration. -/
def State.setMig (s : State) (g : Mig) : State :=
  { s with migs := s.migs.map fun h => if h.m = g.m ∧ h.tier = g.tier then g else h }

/-- MIGRATION_LINE_COPY (R176, R177): the M-die copies the next primary line of its migrating channel of a tier; an
uncorrectable line stops the migration, and after the last line the channel is retired. [DEDUCED, log entry 9] -/
def execMigrationLineCopy (m : Fin 12) (slow : Bool) (s : State) : Host.Outcome State Fault Refusal :=
  let tier := b2n slow
  let d := 0x40 + m.val
  match s.migOf m.val tier with
  | none => .next s
  | some g =>
    if g.stopped then .next s
    else
      match s.badLine m.val tier g.ch g.line with
      | some b => .next ((s.uncorrectable b).setMig { g with stopped := true })
      | none =>
        let s1 := (s.mendLine m.val tier g.ch g.line).setRg .MC_MIG_PTR d 0 0 (g.line + 1)
        if g.line + 1 < s.primaryLines tier then .next (s1.setMig { g with line := g.line + 1 })
        else
          let s2 := { s1 with migs := s1.migs.filter fun h => !(h.m == g.m && h.tier == g.tier) }
          .next (s2.setFld .MC_CH_STATE d 0 g.ch 0 2 2)

end Sys2Proof.Machine
end

