-- ==== Sys2Proof/Machine/Flags.lean ====
section
/-!
DEFINITION. Flag computations shared by the units: the gradient mark of R59 and the flags a unit may or may not have set
(R66).
-/

namespace Sys2Proof.Machine

/-- NONFIN of a gradient-marked operation (R59): an input or the result is non-finite, or OVF is set. -/
def gradFlags (grad : Bool) (inputNonFinite resultNonFinite : Bool) (flags : Nat) : Nat :=
  flagIf (grad && (inputNonFinite || resultNonFinite || bit flags 1)) flNONFIN

/-- The flags of abandoned work: an open subset of those raised (R66). [DEDUCED, log entry 5] -/
def abandonedFlags (open_ : BitVec 64) (flags : Nat) : Nat := open_.toNat &&& flags

end Sys2Proof.Machine
end

