-- ==== Sys2Proof/Machine/Array.lean ====
section
/-!
DEFINITION. The matrix arrays (chapter 3): acceptance checks, start of a pass, banks, the rows of a pass, completion and
faults.
-/

namespace Sys2Proof.Machine

/-! ### Access -/

/-- Array `a` of a core, as stored. -/
def State.arr (s : State) (core a : Nat) : ArrayS := Sparse.get (fun _ => ArrayS.init) s.arrays (core * 4 + a)

/-- Store array `a` of a core. -/
def State.setArr (s : State) (core a : Nat) (x : ArrayS) : State :=
  { s with arrays := Sparse.set (fun _ => ArrayS.init) s.arrays (core * 4 + a) x }

/-- Part `p` of an array. -/
def ArrayS.part (x : ArrayS) (p : Nat) : PartS :=
  match p with
  | 0 => x.p0
  | 1 => x.p1
  | 2 => x.p2
  | _ => x.p3

/-- Replace part `p`. -/
def ArrayS.setPart (x : ArrayS) (p : Nat) (q : PartS) : ArrayS :=
  match p with
  | 0 => { x with p0 := q }
  | 1 => { x with p1 := q }
  | 2 => { x with p2 := q }
  | _ => { x with p3 := q }

/-- Change every part. -/
def ArrayS.mapParts (x : ArrayS) (f : PartS → PartS) : ArrayS :=
  { x with p0 := f x.p0, p1 := f x.p1, p2 := f x.p2, p3 := f x.p3 }

/-- Passes in flight in every part. -/
def ArrayS.flying (x : ArrayS) : List Pass := x.p0.inflight ++ x.p1.inflight ++ x.p2.inflight ++ x.p3.inflight

/-- Whether the array has recorded a fault (R98). -/
def State.arrFaulted (s : State) (core a : Nat) : Bool := bit (s.rg .ARR_STATUS (core / 16) (core % 16) a) 11

/-- Key of an accumulator entry (R87). -/
def accKey (core a row col : Nat) : Nat := ((core * 4 + a) * 4096 + row) * 32 + col

/-- One accumulator entry. -/
def State.acc (s : State) (key : Nat) : Nat := (Sparse.get (fun _ => 0) s.accs key).toNat

/-- Store one accumulator entry. -/
def State.setAcc (s : State) (key v : Nat) : State :=
  { s with accs := Sparse.set (fun _ => 0) s.accs key (BitVec.ofNat 32 v) }

/-! ### Acceptance (R71, R79, R147, R148) -/

/-- Whether the byte runs `base + i·stride + [0, len)`, i below `count`, lie in a space of `size` bytes: the first and the
last run decide. -/
def runsInside (base : Nat) (stride : Int) (count len size : Nat) : Bool :=
  let last : Int := (base : Int) + ((count : Int) - 1) * stride
  decide (base + len ≤ size) && decide (0 ≤ last) && decide (last + len ≤ (size : Int))

/-- Whether a used address pair is acceptable for runs of `count` × `len` bytes of elements of `es` bytes (R146, R148). -/
def pairFits (p : BitVec 64) (es count len : Nat) : Bool :=
  pairOk p && pairBase p % es == 0 && decide (pairStride p % (es : Int) = 0) &&
    runsInside (pairBase p) (pairStride p) count len spSize

/-- Rows and bytes per row of the stationary operand: tile rows for ROW, tile columns for COL (Table 3.2, R148). -/
def MatF.statRuns (f : MatF) : Nat × Nat :=
  if f.stat = 0 then (f.k, f.n * f.tf.size) else (f.n, f.k * f.tf.size)

/-- Shape and width class of a pass, in which R79 sees a change. -/
def MatF.key (f : MatF) : Nat × Nat := (f.shape.code, f.sf.size)

/-- Whether the array refuses the parameters of a pass (R71, R79, R147, R148), its pairs given. -/
def matParamsBad (x : ArrayS) (f : MatF) (sa sb sc sd : BitVec 64) : Bool :=
  decide (4 < f.sfmt) || decide (4 < f.tfmt) || f.sf.size != f.tf.size || f.stat == 3 || f.acc == 3 ||
  f.dfmt == 5 || f.dfmt == 6 || f.snoop == 3 || !f.shape.partOk f.part || decide (f.shape.maxM < f.m) ||
  decide (f.shape.kExtent f.sf.size < f.k) || decide (f.shape.cols < f.n) ||
  (f.stat == 2 && !((x.part f.part).accOk && x.accKey == some f.key)) ||
  (f.stat != 2 && !pairFits sa f.tf.size f.statRuns.1 f.statRuns.2) ||
  !pairFits sb f.sf.size f.m (f.k * f.sf.size) ||
  (f.acc == 2 && !pairFits sc 4 f.m (f.n * 4)) ||
  (match f.df with
    | some d => !pairFits sd d.size f.m (f.n * d.size)
    | none => false)

/-- Accept a pass into the array's queue (R140), noting shape and class and whether the part has a tile to reuse. -/
def ArrayS.accept (x : ArrayS) (f : MatF) (p : Pass) : ArrayS :=
  let y := if x.accKey = some f.key then x else x.mapParts fun q => { q with accOk := false }
  let z := { y with accKey := some f.key, queue := y.queue ++ [p] }
  z.setPart f.part { z.part f.part with accOk := true }

/-! ### Faults (R98) -/

/-- The oldest pass in flight of an array, with its part. -/
def ArrayS.oldest (x : ArrayS) : Option (Nat × Pass) :=
  (List.range 4).foldl (fun z i =>
    match (x.part i).inflight, z with
    | [], z => z
    | p :: _, none => some (i, p)
    | p :: _, some (j, q) => if p.order < q.order then some (i, p) else some (j, q)) none

/-- Stream rows of the passes in flight. -/
def ArrayS.rowsFlying (x : ArrayS) : Nat := x.flying.foldl (fun z p => z + (matFields p.word).m) 0

/-- Part and row that ARR_FAULT records (Table 3.9): those of the oldest pass in flight. Where another pass met the fault, how far
the oldest has come is open (`o`); with no pass in flight the part of the pass that was to start stands, with row 0. [DESIGN CHOICE, log entry 79] -/
def ArrayS.faultAt (x : ArrayS) (part row : Nat) (o : BitVec 64) : Nat × Nat :=
  match x.oldest with
  | none => (part, 0)
  | some (i, p) => if i = part then (part, row) else (i, o.toNat / 2 ^ 32 % Nat.max 1 (matFields p.word).m)

/-- An array fault met in the part and row given, `entered` stream rows of that pass having entered for certain: every pass in
flight is abandoned, ACC_INV and FAULT are set, the first fault is recorded, the rows that have entered are counted, as many more
as an open value says, and the sequencer is told (R98, R102). [DESIGN CHOICE, log entry 79] -/
def State.arrFault (s : State) (core a part cause row entered : Nat) : State :=
  let d := core / 16
  let u := core % 16
  let x := s.arr core a
  let (o, s0) := s.freshVal
  let (pt, rw) := x.faultAt part row o
  let s1 := if bit (s0.rg .ARR_FAULT d u a) 31 then s0
    else s0.setRg .ARR_FAULT d u a (2 ^ 31 + rw % 4096 * 2 ^ 16 + pt * 2 ^ 8 + cause)
  let s2 := s1.setRg .ARR_STATUS d u a (s1.rg .ARR_STATUS d u a ||| (2 ^ 12 + 2 ^ 11))
  let s3 := s2.setArr core a ((s2.arr core a).mapParts fun q => { q with inflight := [] })
  let rows := Nat.min entered x.rowsFlying + o.toNat % 2 ^ 32 % (x.rowsFlying - entered + 1)
  (s3.bump .ARR_ROWS d u a rows).seqFault core 0x0D a

/-! ### Tiles and start (R73, R75 to R79) -/

/-- Split bytes into `es`-byte elements. -/
def elems (es : Nat) (bs : List Nat) : List Nat := (chunks es bs.length bs).map ofLeBytes

/-- Read `count` runs of `len` bytes from a core's scratchpad; none at a read error. -/
def State.readRuns (s : State) (core base : Nat) (stride : Int) (len : Nat) : Nat → State × Option (List (List Nat))
  | 0 => (s, some [])
  | n + 1 =>
    match s.readRuns core base stride len n with
    | (s1, none) => (s1, none)
    | (s1, some rs) =>
      match s1.spRead core ((base : Int) + n * stride).toNat len with
      | (s2, .ok bs) => (s2, some (rs ++ [bs]))
      | (s2, .error _) => (s2, none)

/-- The columns of a tile from its runs: ROW runs are tile rows, COL runs tile columns. -/
def tileCols (f : MatF) (runs : List (List Nat)) : List (List Nat) :=
  let es := f.tf.size
  if f.stat = 0 then
    let rows := runs.map (elems es)
    (List.range f.n).map fun c => rows.map fun r => nth 0 r c
  else runs.map (elems es)

/-- The bank the next loading pass of a part uses (R75). -/
def PartS.nextBank (q : PartS) : Nat :=
  match q.lastBank with
  | some 0 => 1
  | _ => 0

/-- Whether a load into the next bank is held: a datum that selects the bank is still in the array (R77). -/
def PartS.loadHeld (q : PartS) : Bool := q.inflight.any fun p => p.bank == q.nextBank && !p.delivered

/-- Whether an array's queue head is a loading pass whose load beats are held once the feeder sends them (R77, R94). -/
def ArrayS.headHeld (x : ArrayS) : Bool :=
  match x.queue with
  | [] => false
  | p :: _ =>
    let f := matFields p.word
    f.stat != 2 && (x.part f.part).loadHeld

/-- A part after its loading pass has filled the next bank. -/
def PartS.load (q : PartS) (cols : List (List Nat)) : PartS :=
  let b := q.nextBank
  { q with
    bank0 := if b = 0 then cols else q.bank0
    bank1 := if b = 0 then q.bank1 else cols
    lastBank := some b
    tileOk := true }

/-- The array as its head pass finds it at its start: a change of shape, width class or mode waits for every datum of
earlier passes, and a change of shape or class empties the banks (R79). -/
def ArrayS.prepare (x : ArrayS) (f : MatF) (strict : Bool) : ArrayS :=
  let key := (f.shape.code, f.sf.size, strict)
  let y :=
    if x.runKey = some key ∨ x.runKey = none then x
    else x.mapParts fun q => { q with inflight := q.inflight.map fun p => { p with delivered := true } }
  let z :=
    match x.runKey with
    | some (sh, es, _) => if sh = f.shape.code ∧ es = f.sf.size then y else y.mapParts fun q => { q with tileOk := false }
    | none => y
  { z with runKey := some key }

/-- The head pass of an array starts (R73): it latches arithmetic control and service mode, and its tile is loaded unless
it reuses the newest one. Nothing happens unless the head pass is of the part named, fewer than two passes of the part are
in flight (R78), and no load is held (R77). A read error on the load with no pass in flight records row 0 and the part of the
pass that was to start. [DESIGN CHOICE, log entry 79] -/
def State.passStart (s : State) (core a part : Nat) : State :=
  if s.arrFaulted core a then s
  else
    match (s.arr core a).queue with
    | [] => s
    | p :: rest =>
      let f := matFields p.word
      let ar := s.arith (core / 16)
      let x := (s.arr core a).prepare f ar.strict
      let q := x.part part
      if f.part ≠ part ∨ 2 ≤ q.inflight.length ∨ (f.stat ≠ 2 ∧ q.loadHeld) then s
      else
        let started (s0 : State) (q1 : PartS) : State :=
          let bank := q1.lastBank.getD 0
          let next := (x.flying.map Pass.order).foldl Nat.max 0 + 1
          let p1 := { p with bank := bank, arith := some ar, delivered := false, order := next }
          let q2 := { q1 with inflight := q1.inflight ++ [p1] }
          let s1 := s0.setArr core a ({ x with queue := rest }.setPart part q2)
          s1.setFld .ARR_STATUS (core / 16) (core % 16) a 5 2 f.shape.code
        if f.stat = 2 then started s q
        else
          let (cnt, len) := f.statRuns
          match s.readRuns core (pairBase p.sa) (pairStride p.sa) len cnt with
          | (s1, none) => s1.arrFault core a part 0x07 0 0
          | (s1, some runs) => started s1 (q.load (tileCols f runs))

/-- The last datum that selects a held bank has delivered its product: the held load goes on (R77). -/
def State.loadRelease (s : State) (core a part : Nat) : State :=
  let x := s.arr core a
  let q := x.part part
  match x.queue with
  | [] => s
  | p :: _ =>
    let f := matFields p.word
    if f.part = part ∧ f.stat ≠ 2 ∧ q.loadHeld then
      let b := q.nextBank
      s.setArr core a (x.setPart part { q with inflight := q.inflight.map fun r =>
        if r.bank = b then { r with delivered := true } else r })
    else s

/-! ### The rows of a pass (R39 to R44, R84 to R90) -/

/-- One output element: the groups of its k-terms applied to the start value in increasing k (R40, R86). -/
def elemResult (ar : Arith) (f : MatF) (acc : Nat) (row col : List Nat) : Nat × Nat :=
  let terms := row.zip col
  (chunks 32 3 terms).foldl (fun (z : Nat × Nat) g =>
    let (r, fl) := groupStep ar f.sf f.tf z.1 g
    (r, z.2 ||| fl)) (acc, 0)

/-- Convert a finished accumulator for the drain (R44, R57, R59). -/
def drainElem (ar : Arith) (grad : Bool) (d : Fp) (x : Nat) : Nat × Nat :=
  let (r, fl) := if d = .fp32 then (x, 0) else fconv ar .fp32 d x
  (r, fl ||| gradFlags grad (Fp.fp32.nonFinite x) (d.nonFinite r) fl)

/-- A stream row of a pass that Teasel has captured already, as it stood on the row buses (R228). -/
def Pass.streamed (p : Pass) (m : Nat) : Option (List Nat) :=
  p.snoop.bind fun x => (x.data.find? fun e => e.1 == m).map Prod.snd

/-- Read stream row m of a pass, once: a captured row stands on the row buses already. -/
def State.streamRow (s : State) (core : Nat) (p : Pass) (m : Nat) : State × Except MemErr (List Nat) :=
  let f := matFields p.word
  match p.streamed m with
  | some bs => (s, .ok bs)
  | none => s.spRead core ((pairBase p.sb : Int) + m * pairStride p.sb).toNat (f.k * f.sf.size)

/-- Run the rows m, m+1, … of a pass, `n` of them: read each stream row, combine, and store or drain. Answers the state,
the cause and row of a fault if one stops it, and the flags raised. -/
def State.runRows (s : State) (core a : Nat) (p : Pass) (ar : Arith) (cols : List (List Nat)) :
    Nat → Nat → State × Option (Nat × Nat) × Nat
  | 0, _ => (s, none, 0)
  | n + 1, m =>
    let f := matFields p.word
    match s.streamRow core p m with
    | (s1, .error _) => (s1, some (0x07, m), 0)
    | (s1, .ok rowBytes) =>
      let row := elems f.sf.size rowBytes
      let key (c : Nat) := accKey core a (f.shape.row0 f.part + m) (f.shape.col0 f.part + c)
      let starts : State × Except MemErr (List Nat) :=
        match f.acc with
        | 0 => (s1, .ok (List.replicate f.n 0))
        | 1 => (s1, .ok ((List.range f.n).map fun c => s1.acc (key c)))
        | _ =>
          match s1.spRead core ((pairBase p.sc : Int) + m * pairStride p.sc).toNat (f.n * 4) with
          | (s2, .ok bs) => (s2, .ok (elems 4 bs))
          | (s2, .error e) => (s2, .error e)
      match starts with
      | (s2, .error _) => (s2, some (0x07, m), 0)
      | (s2, .ok accs) =>
        let outs := (accs.zip cols).map fun ac => elemResult ar f ac.1 row ac.2
        let fl := outs.foldl (fun z o => z ||| o.2) 0
        match f.df with
        | none =>
          let s3 := ((List.range f.n).zip outs).foldl (fun z co => z.setAcc (key co.1) co.2.1) s2
          let (s4, st, fl') := s3.runRows core a p ar cols n (m + 1)
          (s4, st, fl ||| fl')
        | some d =>
          let ds := outs.map fun o => drainElem ar f.grad d o.1
          let fd := ds.foldl (fun z o => z ||| o.2) fl
          let bytes := ds.flatMap fun o => leBytes d.size o.1
          match s2.spWrite core ((pairBase p.sd : Int) + m * pairStride p.sd).toNat bytes with
          | (s3, some _) => (s3, some (0x08, m), fd)
          | (s3, none) =>
            let (s4, st, fl') := s3.runRows core a p ar cols n (m + 1)
            (s4, st, fd ||| fl')

/-- The tile of a pass: its bank's columns, masked to the pass's n_count and k_count (R84, R85). -/
def PartS.tileOf (q : PartS) (f : MatF) (bank : Nat) : List (List Nat) :=
  let t := if bank = 0 then q.bank0 else q.bank1
  (List.range f.n).map fun c => takePad 0 f.k (nth [] t c)

/-- Whether the captures of a snooping pass are all written (R231, R233). -/
def Pass.captured (p : Pass) : Bool :=
  match p.snoop with
  | none => true
  | some x => x.captured == x.rows

/-- Whether rows of an older pass of another shape, width class or mode are still to be processed: a foot processes rows in
the order they entered, pass after pass (R74, R79). -/
def ArrayS.olderFirst (x : ArrayS) (p : Pass) : Bool :=
  let key (q : Pass) := ((matFields q.word).key, q.arith.map Arith.strict)
  x.flying.any fun q => decide (q.order < p.order) && key q != key p

/-- The oldest pass in flight of a part ends, unless an older pass of another kind is still to end: with `flt` a parity error (cause and row) stops it after the rows before it;
otherwise its rows are run, its flags are raised, the counters advance and SEM is signalled (R66, R90, R91, R98, R140). [DEDUCED, log entry 5; DESIGN CHOICE, log entry 28] -/
def State.passComplete (s : State) (core a part : Nat) (flt : Option (Nat × Nat)) : State :=
  let d := core / 16
  let u := core % 16
  let x := s.arr core a
  let q := x.part part
  match q.inflight with
  | [] => s
  | p :: rest =>
    let f := matFields p.word
    let ar := p.arith.getD (s.arith d)
    let cols := q.tileOf f p.bank
    if x.olderFirst p then s
    else
    match flt with
    | some (cause, row) =>
      let (s1, st, fl) := s.runRows core a p ar cols (Nat.min row f.m) 0
      let (c, r) := st.getD (cause, Nat.min row (f.m - 1))
      let (o, s2) := s1.freshVal
      (s2.raise d u (abandonedFlags o fl)).arrFault core a part c r r
    | none =>
      if !p.captured then s
      else
        match s.runRows core a p ar cols f.m 0 with
        | (s1, some (c, r), fl) =>
          let (o, s2) := s1.freshVal
          (s2.raise d u (abandonedFlags o fl)).arrFault core a part c r (if c = 0x08 then r + 1 else r)
        | (s1, none, fl) =>
          let s2 := s1.raise d u fl
          let x2 := s2.arr core a
          let s3 := s2.setArr core a (x2.setPart part { x2.part part with inflight := rest })
          let s4 := (s3.bump .ARR_PASSES d u a 1).bump .ARR_ROWS d u a f.m
          if f.sig then s4.addSem d f.sem 1 else s4

end Sys2Proof.Machine
end

