-- ==== Sys2Proof/Machine/Teasel.lean ====
section
/-!
DEFINITION. The curvature tap (chapter 8): configuration, sweeps, snooping, capture, updates, flushes, faults.
-/

namespace Sys2Proof.Machine

/-- The Teasel of a core, as stored. -/
def State.tea (s : State) (core : Nat) : TeaS := Sparse.get (fun _ => TeaS.init) s.teas core

/-- Store the Teasel of a core. -/
def State.setTea (s : State) (core : Nat) (x : TeaS) : State :=
  { s with teas := Sparse.set (fun _ => TeaS.init) s.teas core x }

/-- Configuration register i of a Teasel (Table 8.3). -/
def State.teaCfg (s : State) (core i : Nat) : Nat := s.rg .TEA_CFG (core / 16) (core % 16) i

/-- Whether outputs are invalid after a fault (R248). -/
def State.teaInv (s : State) (core : Nat) : Bool := bit (s.rg .TEA_STATUS (core / 16) (core % 16) 0) 10

/-- Bytes of a slot, flush record and factor block (Table 8.1). -/
def slotBytes : Nat := 139520

/-- Scratchpad offset of a slot (R239). -/
def State.slotOff (s : State) (core slot : Nat) : Nat := bits (s.teaCfg core 4) 0 25 + slotBytes * slot

/-- The bits a configuration register holds (Table 8.4). -/
def teaMask (i : Nat) : Nat :=
  match i with
  | 0 => 0xFFFF
  | 2 | 3 => 0xFFFFFFFF01FFFFFF
  | 4 => 0xFFFF000001FFFFFF
  | 5 | 6 => 0x1FFFFFF
  | 7 => 0xFFFFFFFF
  | _ => 0xFFFFFFFFFFFFFFFF

/-- Whether a value breaks a range or alignment of Table 8.4. -/
def State.teaBad (s : State) (core i v : Nat) : Bool :=
  match i with
  | 0 => bits v 0 16 == 0
  | 2 | 3 =>
    let rows := bits v 48 16
    let stride := bits v 32 16
    let base := bits v 0 25
    rows == 0 || decide (4096 < rows) || stride % 64 != 0 || decide (stride < 256) || base % 64 != 0 ||
      decide (spSize < base + 2 * rows * stride)
  | 4 => decide (180 < bits v 48 16) || bits v 0 25 % 256 != 0 ||
      decide (25165824 < bits v 0 25 + slotBytes * bits v 48 16)
  | 5 | 6 =>
    decide (256 < bits v 16 9) || (bits v 16 9 != 0 && decide (bits (s.teaCfg core 4) 48 16 ≤ bits v 0 16))
  | _ => decide (8 < i)

/-- The open sweep of a side (0 input, 1 output). -/
def TeaS.openOf (t : TeaS) (side : Nat) : Option Sweep := if side = 0 then t.openIn else t.openOut

/-- Replace the open sweep of a side. -/
def TeaS.setOpen (t : TeaS) (side : Nat) (w : Option Sweep) : TeaS :=
  if side = 0 then { t with openIn := w } else { t with openOut := w }

/-- Close the open sweep of a side (R229); one with no sampled row or no assigned pass makes no update (R234). -/
def TeaS.close (t : TeaS) (side : Nat) : TeaS :=
  match t.openOf side with
  | none => t
  | some w =>
    let t1 := { t.setOpen side none with nClosed := t.nClosed + 1 }
    if w.passes = 0 ∨ w.rows = 0 then t1
    else { t1 with closed := t1.closed ++ [{ w with closedAt := t.nClosed }] }

/-- TEA_BLK_IN or TEA_BLK_OUT written: close the side's sweep and, with a non-zero WIDTH, open one on the other panel
(R229). -/
def TeaS.block (t : TeaS) (side slot width : Nat) : TeaS :=
  let t1 := t.close side
  if width = 0 then t1
  else
    let panel := if side = 0 then t1.panelIn else t1.panelOut
    let w : Sweep := ⟨t1.nextId, side, slot, width, 0, panel, none, 0, 0, 0, 0, 0, false, 0⟩
    let t2 := { t1.setOpen side (some w) with nextId := t1.nextId + 1 }
    if side = 0 then { t2 with panelIn := 1 - panel } else { t2 with panelOut := 1 - panel }

/-- Write configuration register i (R250) with its effect on the sweeps. -/
def State.teaWrite (s : State) (core i v : Nat) : State :=
  let s1 := s.setRg .TEA_CFG (core / 16) (core % 16) i (v &&& teaMask i)
  if i = 5 ∨ i = 6 then s1.setTea core ((s1.tea core).block (i - 5) (bits v 0 16) (bits v 16 9)) else s1

/-- First sampled row of a pass (R231). -/
def firstSample (tok sample : Nat) : Nat := (sample - tok % sample) % sample

/-- Number of sampled rows among M (R231). -/
def sampledRows (tok sample m : Nat) : Nat :=
  let f := firstSample tok sample
  if f < m then (m - 1 - f) / sample + 1 else 0

/-- Side of a snooping pass: 0 input, 1 output (R228). -/
def MatF.side (f : MatF) : Nat := f.snoop - 1

/-- Whether a snooping pass is refused (R232). -/
def State.snoopRefused (s : State) (core : Nat) (f : MatF) : Bool :=
  if f.snoop = 0 then false
  else
    let tok := s.teaCfg core 1
    let sample := s.teaCfg core 0
    let panel := s.teaCfg core (2 + f.side)
    f.sfmt == 0 || f.sfmt == 1 || s.teaInv core ||
    match (s.tea core).openOf f.side with
    | none => true
    | some w =>
      decide (w.width < w.cursor + f.k) || decide (bits panel 48 16 < sampledRows tok sample f.m) ||
      (match w.first with
        | none => false
        | some p => p != (f.m, tok, sample, f.sfmt))

/-- The assignment of a snooping pass at its retirement (R230). -/
def State.snoopAssign (s : State) (core : Nat) (f : MatF) : State × Option Snoop :=
  if f.snoop = 0 then (s, none)
  else
    match (s.tea core).openOf f.side with
    | none => (s, none)
    | some w =>
      let tok := s.teaCfg core 1
      let sample := s.teaCfg core 0
      let n := sampledRows tok sample f.m
      let w1 := { w with
        cursor := w.cursor + f.k
        first := some (f.m, tok, sample, f.sfmt)
        rows := n
        step := s.teaCfg core 8
        passes := w.passes + 1
        passesDone := w.passesDone + b2n (n == 0) }
      (s.setTea core ((s.tea core).setOpen f.side (some w1)), some ⟨w.id, w.cursor, sample, tok, w.panel, n, 0, []⟩)

/-- A Teasel fault: updates and flushes are abandoned, FAULT and OUT_INV set, the first fault recorded, the sequencer told
(R248). -/
def State.teaFault (s : State) (core cause slot : Nat) : State :=
  let d := core / 16
  let u := core % 16
  let s1 := if bit (s.rg .TEA_FAULT d u 0) 31 then s
    else s.setRg .TEA_FAULT d u 0 (2 ^ 31 + slot % 65536 * 2 ^ 8 + cause)
  let s2 := s1.setRg .TEA_STATUS d u 0 (s1.rg .TEA_STATUS d u 0 ||| (2 ^ 10 + 2 ^ 9))
  (s2.setTea core { s2.tea core with closed := [], flushes := [] }).seqFault core 0x0D 5

/-! ### Capture (R231, R233) -/

/-- Count a capture of a sweep: its pass is done when all its rows are written. -/
def TeaS.passDone (t : TeaS) (id : Nat) : TeaS :=
  let f (w : Sweep) : Sweep := if w.id = id then { w with passesDone := w.passesDone + 1 } else w
  { t with openIn := t.openIn.map f, openOut := t.openOut.map f, closed := t.closed.map f }

/-- Whether a capture of a sweep waits: an older sweep of the same side on the same panel awaits or is in update
(R233). -/
def TeaS.captureWaits (t : TeaS) (side panel id : Nat) : Bool :=
  t.closed.any fun w => w.side == side && w.panel == panel && decide (w.id < id)

/-- The first pass of a list whose captures are not all written, with its position. -/
def firstUncaptured : List Pass → Nat → Option (Nat × Pass × Snoop)
  | [], _ => none
  | p :: ps, i =>
    match p.snoop with
    | some x => if x.captured < x.rows then some (i, p, x) else firstUncaptured ps (i + 1)
    | none => firstUncaptured ps (i + 1)

/-- Slot of a sweep. -/
def TeaS.slotOf (t : TeaS) (id : Nat) : Nat :=
  (((t.openIn.toList ++ t.openOut.toList ++ t.closed).find? fun w => w.id == id).map Sweep.slot).getD 0

/-- Capture the next sampled row of the oldest started snooping pass of a part (R231): the datum is the one that the feeder
places on the row bus, and the pass streams the same (R228). -/
def State.teaCapture (s : State) (core a part : Nat) (parity : Bool) : State :=
  let d := core / 16
  let u := core % 16
  let x := s.arr core a
  let q := x.part part
  match firstUncaptured q.inflight 0 with
  | none => s
  | some (i, p, sn) =>
    let f := matFields p.word
    let slot := (s.tea core).slotOf sn.sweep
    if parity then s.teaFault core 0x07 slot
    else if (s.tea core).captureWaits f.side sn.panel sn.sweep then s
    else
      let m := firstSample sn.tokBase sn.sample + sn.captured * sn.sample
      match s.streamRow core p m with
      | (s1, .error _) => s1.arrFault core a part 0x07 m m
      | (s1, .ok bs) =>
        let pr := s1.teaCfg core (2 + f.side)
        let off := bits pr 0 25 + (sn.panel * bits pr 48 16 + sn.captured) * bits pr 32 16 + sn.cursor * f.sf.size
        match s1.spWrite core off bs with
        | (s2, some _) => s2.teaFault core 0x03 slot
        | (s2, none) =>
          let p1 := { p with snoop := some { sn with captured := sn.captured + 1, data := sn.data ++ [(m, bs)] } }
          let s3 := s2.setArr core a (x.setPart part { q with inflight := setAt q.inflight i p1 })
          let s4 := if sn.captured + 1 = sn.rows then s3.setTea core ((s3.tea core).passDone sn.sweep) else s3
          s4.bump .TEA_ROWS d u 0 1

/-! ### Updates (R234 to R238) -/

/-- The tiles of a block in order: (i, j) with i ≤ j ≤ 15 (R227). -/
def blockTiles : List (Nat × Nat) :=
  (List.range 16).flatMap fun i => (List.range (16 - i)).map fun k => (i, i + k)

/-- The exponent Brine recorded for a step (R311): none outside its history. -/
def State.brineExp (s : State) (step : Nat) : Option Nat :=
  let v := s.rg .BRINE_HIST 0x60 0 (step % 16)
  if bit v 7 ∧ bits v 8 56 = step % 2 ^ 56 then some (bits v 0 5) else none

/-- Accumulate the products of entries (r, x) and (r, y) over the rows of a panel into an FP32 value (R235): `col` gives
the rows' pairs, `e2` is 2e of the loss scale (0 on the input side). -/
def teaEntry (ar : Arith) (f : Fp) (e2 : Nat) : Nat → List (Nat × Nat) → Nat × Nat
  | acc, [] => (acc, 0)
  | acc, (x, y) :: ps =>
    let (p, fp) := product ar f f x y
    let p' : FVal :=
      match p with
      | .fin n m e => .fin n m (e - e2)
      | v => v
    let (va, fa) := fin ar .fp32 acc
    let (v, fv) := sumVal ar p' va
    let (r, fr) := deliver ar .fp32 v
    let (z, fz) := teaEntry ar f e2 r ps
    (z, fp ||| fa ||| fv ||| fr ||| fz)

/-- Update one tile of a slot from the panel rows (as lists of elements); answers the new bytes and the flags. -/
def teaTile (ar : Arith) (f : Fp) (e2 cursor : Nat) (rows : List (List Nat)) (i j : Nat) (old : List Nat) :
    List Nat × Nat :=
  ((List.range 256).zip old).foldl (fun (z : List Nat × Nat) (en : Nat × Nat) =>
    let x := 16 * i + en.1 / 16
    let y := 16 * j + en.1 % 16
    if x < cursor ∧ y < cursor then
      let (r, fl) := teaEntry ar f e2 en.2 (rows.map fun row => (nth 0 row x, nth 0 row y))
      (z.1 ++ leBytes 4 r, z.2 ||| fl)
    else (z.1 ++ leBytes 4 en.2, z.2)) ([], 0)

/-- Update the tile `x.2` of a slot, at `x.1` of its block: fault cause 0x02 or 0x03 where its read or write fails, and its
flags. -/
def teaTileAt (core off : Nat) (ar : Arith) (f : Fp) (e2 cursor : Nat) (rows : List (List Nat)) (s : State)
    (x : (Nat × Nat) × Nat) : State × Option Nat × Nat :=
  match s.spRead core (off + 256 + x.2 * 1024) 1024 with
  | (s1, .error _) => (s1, some 0x02, 0)
  | (s1, .ok bs) =>
    let out := teaTile ar f e2 cursor rows x.1.1 x.1.2 (elems 4 bs)
    match s1.spWrite core (off + 256 + x.2 * 1024) out.1 with
    | (s2, some _) => (s2, some 0x03, out.2)
    | (s2, none) => (s2, none, out.2)

/-- Whether a closed sweep's update waits for a flush that retired before the sweep was closed and has not yet cleared the slot
(R241). -/
def TeaS.updateWaits (t : TeaS) (w : Sweep) : Bool :=
  t.flushes.any fun g => !g.posted && decide (g.mark ≤ w.closedAt) && decide (g.first ≤ w.slot) && decide (w.slot < g.first + g.count)

/-- The update of sweep `w`, whose header agrees: its rows are read from Brine and its `tiles` updated, the sweep standing before
`rest` in the closed queue (R234, R235). [DEDUCED, log entry 5] -/
def State.teaUpdateRows (s : State) (core : Nat) (w : Sweep) (f : Fp) (e2 : Nat) (rest : List Sweep)
    (tiles : List ((Nat × Nat) × Nat)) : State :=
  let pr := s.teaCfg core (2 + w.side)
  let base := bits pr 0 25 + w.panel * bits pr 48 16 * bits pr 32 16
  match s.readRuns core base (bits pr 32 16) (w.cursor * f.size) w.rows with
  | (s2, none) => s2.teaFault core 0x01 w.slot
  | (s2, some runs) =>
    let ar : Arith := { s2.arith (core / 16) with strict := false }
    match s2.untilFlags (teaTileAt core (s.slotOff core w.slot) ar f e2 w.cursor (runs.map (elems f.size))) tiles with
    | (s3, some c, fl) =>
      let o := s3.freshVal
      (o.2.raise (core / 16) (core % 16) (abandonedFlags o.1 fl)).teaFault core c w.slot
    | (s3, none, fl) => s3.setTea core { s3.tea core with closed := { w with updating := true, flags := fl } :: rest }

/-- Whether a capture of an array waits (R233). -/
def State.captureHeld (s : State) (core a : Nat) : Bool :=
  (List.range 4).any fun p =>
    match firstUncaptured ((s.arr core a).part p).inflight 0 with
    | some (_, q, sn) => (s.tea core).captureWaits (matFields q.word).side sn.panel sn.sweep
    | none => false

/-- Whether an array has a sampled row to capture that waits on nothing of Teasel's own. -/
def State.captures (s : State) (core a : Nat) : Bool :=
  (List.range 4).any fun p =>
    match firstUncaptured ((s.arr core a).part p).inflight 0 with
    | some (_, q, sn) => !(s.tea core).captureWaits (matFields q.word).side sn.panel sn.sweep
    | none => false

/-- The oldest closed sweep's update runs, once every capture assigned to it is written (R234, R235). [DEDUCED, log entry 70] -/
def State.teaUpdate (s : State) (core : Nat) (parity : Bool) : State :=
  let t := s.tea core
  match t.closed with
  | [] => s
  | w :: rest =>
    if s.stopping ∨ w.updating ∨ w.passesDone < w.passes ∨ t.updateWaits w then s
    else if parity then s.teaFault core 0x07 w.slot
    else
      let sfmt := (w.first.map fun p => p.2.2.2).getD 2
      let f := (matFmt sfmt).getD .bf16
      let scale : Option Nat := if w.side = 0 then some 0 else (s.brineExp w.step).map (2 * ·)
      match scale with
      | none => s.teaFault core 0x08 w.slot
      | some e2 =>
        match s.spRead core (s.slotOff core w.slot) 256 with
        | (s1, .error _) => s1.teaFault core 0x02 w.slot
        | (s1, .ok hd) =>
          let h := ofLeBytes hd
          let same := bits h 96 8 == w.side + 1 && bits h 104 8 == sfmt && bits h 112 16 == w.width
          if bits h 128 64 ≠ 0 ∧ !same then s1.teaFault core 0x06 w.slot
          else s1.teaUpdateRows core w f e2 rest blockTiles.zipIdx

/-- The identity word of a core, as SCL.GETID gives it (Table 5.3). -/
def State.identity (s : State) (core : Nat) : Nat := s.ownBit * 2 ^ 16 + core / 16 * 2 ^ 8 + core % 16

/-- The update that has run completes: its flags are set and the slot header written (R237, R238). Under a stop request it ends
after its current tile and completes nothing (R247). [DEDUCED, log entry 45] -/
def State.teaUpdateDone (s : State) (core : Nat) (parity : Bool) : State :=
  let d := core / 16
  let u := core % 16
  let t := s.tea core
  match t.closed with
  | [] => s
  | w :: rest =>
    if !w.updating then s
    else if parity then s.teaFault core 0x07 w.slot
    else if s.stopping then
      let (o, s1) := s.freshVal
      (s1.raise d u (abandonedFlags o w.flags)).setTea core { t with closed := rest }
    else
      let off := s.slotOff core w.slot
      match s.spRead core off 48 with
      | (s1, .error _) => s1.teaFault core 0x02 w.slot
      | (s1, .ok hd) =>
        let h := ofLeBytes hd
        let sfmt := (w.first.map fun p => p.2.2.2).getD 2
        let h1 :=
          if bits h 96 8 = 0 then
            setBits (setBits (setBits (setBits (setBits h 96 8 (w.side + 1)) 104 8 sfmt) 112 16 w.width) 192 64 w.step)
              352 32 (s.identity core)
          else h
        let h2 := setBits (setBits h1 128 64 (bits h1 128 64 + w.rows)) 256 64 w.step
        let h3 := setBits h2 320 32 (bits h2 320 32 ||| w.flags)
        match s1.spWrite core (off + 12) (leBytes 36 (h3 >>> 96)) with
        | (s2, some _) => s2.teaFault core 0x03 w.slot
        | (s2, none) =>
          ((s2.raise d u w.flags).setTea core { s2.tea core with closed := rest }).bump .TEA_UPDATES d u 0 1

/-! ### Flushes (R240 to R242) -/

/-- Whether Teasel refuses a TEA.FLUSH (R240, R248). -/
def State.flushRefused (s : State) (core addr : Nat) : Bool :=
  let r := s.teaCfg core 7
  let first := bits r 0 16
  let count := bits r 16 16
  s.teaInv core || decide (2 ^ 44 ≤ addr) || regionOf addr != 1 || addr % 256 != 0 || count == 0 ||
    decide (bits (s.teaCfg core 4) 48 16 < first + count) || decide (4 ≤ (s.tea core).flushes.length)

/-- Accept a flush: it closes every open sweep whose slot lies in its range (R240, R241). -/
def State.flushAccept (s : State) (core addr : Nat) (sig : Bool) (sem : Nat) : State :=
  let r := s.teaCfg core 7
  let first := bits r 0 16
  let count := bits r 16 16
  let inRange (w : Option Sweep) : Bool :=
    match w with
    | some w => decide (first ≤ w.slot) && decide (w.slot < first + count)
    | none => false
  let t := s.tea core
  let t1 := if inRange t.openIn then t.close 0 else t
  let t2 := if inRange t1.openOut then t1.close 1 else t1
  s.setTea core { t2 with flushes := t2.flushes ++ [⟨addr, first, count, sig, sem, t2.nClosed, false⟩] }

/-- Write and clear record `j`, of `len` bytes, of a flush: fault cause and slot where it fails. -/
def flushSlot (len core : Nat) (g : Flush) (s : State) (j : Nat) : State × Option (Nat × Nat) :=
  let off := s.slotOff core (g.first + j)
  match s.spRead core off len with
  | (s1, .error _) => (s1, some (0x02, g.first + j))
  | (s1, .ok bs) =>
    match s1.boardWriteFor (.teasel core (g.first + j)) (.core ⟨Fin.ofNat 64 (core / 16), Fin.ofNat 16 (core % 16)⟩)
        (g.addr + len * j) bs with
    | (s2, some _) => (s2, some (0x04, g.first + j))
    | (s2, none) =>
      match s2.spWrite core (off + 12) (List.replicate (len - 12) 0) with
      | (s3, some _) => (s3, some (0x03, g.first + j))
      | (s3, none) => (s3, none)

/-- Write and clear the first `n` records of a flush, up to the first that fails. -/
def State.flushSlots (s : State) (core : Nat) (g : Flush) (n : Nat) : State × Option (Nat × Nat) :=
  s.untilFail (flushSlot slotBytes core g) (List.range n)

/-- The oldest flush ends: its slots are done and SEM is signalled (R242). -/
def State.flushEnd (s : State) (core : Nat) (g : Flush) (rest : List Flush) : State :=
  let s1 := s.setTea core { s.tea core with flushes := rest }
  if g.sig then s1.addSem (core / 16) g.sem 1 else s1

/-- Whether records of a core's flush await the twin's acknowledgement. -/
def State.flushAsked (s : State) (core : Nat) : Bool :=
  s.asked.any fun a => match a.who with
    | .teasel c _ => c == core
    | _ => false

/-- Whether a flush waits for updates of sweeps closed before it retired (R241). -/
def TeaS.flushWaits (t : TeaS) (g : Flush) : Bool := t.closed.any fun w => decide (w.closedAt < g.mark)

/-- The oldest flush completes: once every update of a sweep closed before it has completed, its records are written, its
slots cleared, and SEM is signalled (R241, R242); records in the twin's tier count when the twin has acknowledged them
(R343). A write that would wait for a capture keeps it waiting (R400). Under a stop request it finishes the record it is writing,
an open one of its records, and ends without signalling (R247). [DEDUCED, log entries 45 and 70] -/
def State.flushDone (s : State) (core : Nat) (parity : Bool) : State :=
  let t := s.tea core
  let (o, s0) := s.freshVal
  match t.flushes with
  | [] => s
  | g :: rest =>
    if g.posted then
      (if s.flushAsked core then s
       else if s.stopping then s.setTea core { t with flushes := [] } else s.flushEnd core g rest)
    else if t.flushWaits g || s.guarded g.addr (slotBytes * g.count) then s
    else if parity then s0.teaFault core 0x07 (g.first + o.toNat % g.count)
    else
      let n := if s.stopping then 1 + o.toNat % g.count else g.count
      match s0.flushSlots core g n with
      | (s1, some (c, slot)) => s1.teaFault core c slot
      | (s1, none) =>
        if s.stopping && !s1.flushAsked core then s1.setTea core { s1.tea core with flushes := [] }
        else if s1.flushAsked core then s1.setTea core { s1.tea core with flushes := { g with posted := true } :: rest }
        else s1.flushEnd core g rest

end Sys2Proof.Machine
end

