-- ==== Sys2Proof/Machine/Engines.lean ====
section
/-!
DEFINITION. The engines of the M-dies and the Vats as the rest of the module sees them: access, faults, what the decision
of a Hoop instance does to them, Brine at a step boundary, and the start of a capture.
-/

namespace Sys2Proof.Machine

/-! ### Access -/

/-- Rennet engine e of M-die m. -/
def State.ren (s : State) (m e : Nat) : RenS := Sparse.get (fun _ => RenS.init) s.rens (m * 16 + e)

/-- Store a Rennet engine. -/
def State.setRen (s : State) (m e : Nat) (x : RenS) : State :=
  { s with rens := Sparse.set (fun _ => RenS.init) s.rens (m * 16 + e) x }

/-- Press engine e of M-die m. -/
def State.press (s : State) (m e : Nat) : PressS := Sparse.get (fun _ => PressS.init) s.presses (m * 16 + e)

/-- Store a Press engine. -/
def State.setPress (s : State) (m e : Nat) (x : PressS) : State :=
  { s with presses := Sparse.set (fun _ => PressS.init) s.presses (m * 16 + e) x }

/-- The Vat of Xi. -/
def State.vat (s : State) (x : Nat) : VatS := Sparse.get (fun _ => VatS.init) s.vats x

/-- Store a Vat. -/
def State.setVat (s : State) (x : Nat) (v : VatS) : State :=
  { s with vats := Sparse.set (fun _ => VatS.init) s.vats x v }

/-- STATE of a Rennet engine (Table 9.11): 0 IDLE, 1 WAIT_TRIG, 2 INTAKE, 3 RUN, 4 WAIT_PUB, 5 STOPPED, 6 FAULT. -/
def State.renState (s : State) (m e : Nat) : Nat := s.fld .RN_STATUS (0x40 + m) 0 e 0 3

/-- STATE of a Press engine (Table 10.8): 0 IDLE, 1 WAIT_START, 2 RUN, 3 WAIT_EPOCH, 4 READY, 5 STOPPED, 6 FAULT. -/
def State.prState (s : State) (m e : Nat) : Nat := s.fld .PR_STATUS (0x40 + m) 0 e 0 3

/-- Set STATE of a Rennet engine. -/
def State.setRenState (s : State) (m e st : Nat) : State := s.setFld .RN_STATUS (0x40 + m) 0 e 0 3 st

/-- Set STATE of a Press engine. -/
def State.setPrState (s : State) (m e st : Nat) : State := s.setFld .PR_STATUS (0x40 + m) 0 e 0 3 st

/-- The twelve M-dies with their engines. -/
def enginePairs (n : Nat) : List (Nat × Nat) := (List.range 12).flatMap fun m => (List.range n).map fun e => (m, e)

/-- Entries of the update list of a map: PR_LIST or PR_LIST_ALT (R377). -/
def State.prListOf (s : State) (m e map : Nat) : Nat :=
  if map = 0 then s.rg .PR_LIST (0x40 + m) 0 e else s.rg .PR_LIST_ALT (0x40 + m) 0 e

/-- Whether an engine has a non-empty list (R296). -/
def State.prActive (s : State) (m e : Nat) : Bool :=
  bits (s.prListOf m e 0) 32 16 != 0 || bits (s.prListOf m e 1) 32 16 != 0

/-! ### Faults (R278, R317) -/

/-- Staging address of list entry i of an engine. -/
def State.rnEntryAddr (s : State) (m e i : Nat) : Nat :=
  s.stAddr m (bits (s.rg .RN_LIST (0x40 + m) 0 e) 0 26 + 64 * i)

/-- Write the engine's bytes 48 to 63 of a list entry (R256). -/
def State.rnWriteStatus (s : State) (m e i status cause flags mid : Nat) (scale : Int) : State × Option MemErr :=
  s.writeRange (s.rnEntryAddr m e i + 48)
    ([status, cause] ++ leBytes 2 flags ++ leBytes 4 mid ++ leBytes 8 (ofSigned 64 scale))

/-- Mark the entries of a refresh in progress that are not completed as abandoned (R256, R278). -/
def State.rnDrop (s : State) (m e : Nat) : State :=
  let st := s.renState m e
  if st = 2 ∨ st = 3 then
    let i := (s.ren m e).next
    (List.range' i (bits (s.rg .RN_LIST (0x40 + m) 0 e) 32 16 - i)).foldl (fun z k => (z.rnWriteStatus m e k 3 0 0 0 0).1) s
  else s

/-- A Rennet fault: the refresh is abandoned, the first fault is recorded and reported. -/
def State.rennetFault (s : State) (m e cause entry : Nat) : State :=
  let d := 0x40 + m
  let s0 := s.rnDrop m e
  let s1 := if bit (s0.rg .RN_FAULT d 0 e) 31 then s0
    else s0.setRg .RN_FAULT d 0 e (2 ^ 31 + entry % 4096 * 2 ^ 16 + cause)
  let s2 := ((s1.setRenState m e 6).setFld .RN_STATUS d 0 e 11 1 1).setFld .RN_STATUS d 0 e 16 16 entry
  (s2.dropWait d (.rennet e)).dieFault d 0x20 e cause

/-- A Press fault: the update is abandoned, the first fault is recorded and reported. -/
def State.pressFault (s : State) (m e cause entry : Nat) : State :=
  let d := 0x40 + m
  let s1 := if bit (s.rg .PR_FAULT d 0 e) 31 then s
    else s.setRg .PR_FAULT d 0 e (2 ^ 31 + entry % 65536 * 2 ^ 8 + cause)
  let s2 := ((s1.setPrState m e 6).setFld .PR_STATUS d 0 e 4 1 1).setFld .PR_STATUS d 0 e 5 1 0
  ((s2.dropWait d (.dirRing e)).dropWait d (.gate e)).dieFault d 0x28 e cause

/-! ### Refreshes and decisions (R255, R273, R274) -/

/-- The engine waits for its trigger (R255, step 1). -/
def State.rennetArm (s : State) (m e : Nat) : State :=
  let t := s.rg .RN_TRIG (0x40 + m) 0 e
  (s.setRenState m e 1).unitWait (0x40 + m) (bits t 0 12) (bits t 16 16) (.rennet e)

/-- After a write of a list entry: where it failed, the engine takes fault 0x03. -/
def rnMarked (m e i : Nat) (p : State × Option MemErr) : State × Option MemErr :=
  match p with
  | (s1, none) => (s1, none)
  | (s1, some c) => (s1.rennetFault m e 0x03 i, some c)

/-- Mark an entry abandoned (R274). -/
def rnAbandonOne (m e : Nat) (s : State) (i : Nat) : State × Option MemErr :=
  rnMarked m e i (s.rnWriteStatus m e i 3 0 0 0 0)

/-- Mark entries i, i+1, … abandoned, `n` of them, up to the first whose write fails (R274). -/
def State.rnAbandon (s : State) (m e n i : Nat) : State := (s.untilFail (rnAbandonOne m e) (List.range' i n)).1

/-- Count a refresh as missed (R273, R274). -/
def State.rennetMissed (s : State) (m e : Nat) : State :=
  (s.bump .RN_MISSED (0x40 + m) 0 e 1).setFld .RN_STATUS (0x40 + m) 0 e 9 1 1

/-- The latched instance of an engine is decided (R255 step 4, R274). -/
def State.rennetDecided (s : State) (m e : Nat) (committed : Bool) : State :=
  let x := s.ren m e
  let s1 := s.setRen m e { x with decided := true, committed := committed }
  match s.renState m e with
  | 2 => s1
  | 3 =>
    if committed then s1
    else
      let count := bits (s.rg .RN_LIST (0x40 + m) 0 e) 32 16
      let s2 := (s1.rnAbandon m e (count - x.next) x.next).rennetMissed m e
      if s2.renState m e = 6 then s2 else s2.rennetArm m e
  | 4 => s1.rennetArm m e
  | _ => s

/-- The update instance of step k is decided (R296, R301, R302): a commit ends the step at the engine; VETO leaves its
direction chunks to be discarded, whatever the engine has begun; another abort is a fault once the update has started, and drops the step before. [DEDUCED, log entry 69] -/
def State.pressDecided (s : State) (m e k : Nat) (cause : Option Nat) : State :=
  let x := s.press m e
  if k < x.step ∨ !s.prActive m e then s
  else
    match cause with
    | none =>
      if x.step ≠ k then s
      else (s.setPress m e { x with step := k + 1, started := false, finished := none }).setPrState m e 1
    | some 7 => s
    | some 6 =>
      let s1 := s.setPress m e { x with aborted := x.aborted ++ [(k, true)], started := false, finished := none }
      if x.step = k ∧ (x.started || x.finished == some k) then s1.setPrState m e 1 else s1
    | some _ =>
      if x.step = k ∧ (x.started || x.finished == some k) then s.pressFault m e 0x07 x.entry
      else s.setPress m e { x with aborted := x.aborted ++ [(k, false)] }

/-- What a decision does to the engines: `cause` is none for a commit, else the abort cause of Table 7.8. -/
def State.enginesDecided (s : State) (h inst k : Nat) (cause : Option Nat) : State :=
  let rc := s.g .ROOT_CFG
  let pc := s.g .PR_CFG
  let s1 :=
    if bits rc 0 4 = h then
      (enginePairs 4).foldl (fun z p =>
        if (z.ren p.1 p.2).inst = inst ∧ !(z.ren p.1 p.2).decided then z.rennetDecided p.1 p.2 cause.isNone else z) s
    else s
  let s2 :=
    if bit rc 8 ∧ bits rc 0 4 = h then
      s1.bump (if cause.isNone then .ROOT_PUBLISHED else .ROOT_MISSED) 0x60 0 0 1
    else s1
  if bit pc 16 ∧ bits pc 0 4 = h then
    let s3 := (enginePairs 8).foldl (fun z p => z.pressDecided p.1 p.2 k cause) s2
    if cause.isNone then
      let s4 := s3.setG .PR_LAST k
      if s4.g .PR_SWEEP_NEXT ≤ k then
        s4.setG .PR_SWEEP_NEXT ((s4.g .PR_SWEEP_NEXT + s4.g .PR_SWEEP) % 2 ^ 64)
      else s4
    else s3
  else s2

/-! ### Brine (R308, R311) -/

/-- Enter the exponent of a step into the history (R311). -/
def State.brineRecord (s : State) (step e : Nat) : State :=
  s.setRg .BRINE_HIST 0x60 0 (step % 16) (step % 2 ^ 56 * 2 ^ 8 + 2 ^ 7 + e)

/-- Entries of the overflow log (R311). -/
def State.ovfLog (s : State) : List Nat := (List.range 16).map fun i => s.rg .BRINE_OVF_LOG 0x60 0 i

/-- Enter an overflow step into the log (R311). -/
def State.brineLog (s : State) (step : Nat) : State :=
  let l := s.ovfLog
  let i :=
    match (List.range 16).find? fun i => !bit (nth 0 l i) 63 with
    | some i => i
    | none => ((List.range 16).foldl (fun z i => if bits (nth 0 l i) 0 63 < bits (nth 0 l z) 0 63 then i else z) 0)
  s.setRg .BRINE_OVF_LOG 0x60 0 i (2 ^ 63 + step % 2 ^ 63)

/-- Apply the verdict of step k at b(k + 1) (R308): `ovf` is the step-flag OR. -/
def State.brineVerdict (s : State) (k : Nat) (ovf : Bool) : State :=
  let e := bits (s.g .BRINE_SCALE) 0 5
  let h := s.rg .BRINE_HIST 0x60 0 (k % 16)
  let s1 :=
    if bit h 7 ∧ bits h 8 56 = k % 2 ^ 56 then
      s.setRg .BRINE_HIST 0x60 0 (k % 16) (setBits h 5 2 (if ovf then 3 else 1))
    else s
  let s2 :=
    if ovf then
      ((((s1.setG .BRINE_SCALE (e - 1)).setG .BRINE_CLEAN 0).brineLog k).bump .BRINE_OVF_COUNT 0x60 0 0 1)
    else
      let c := s1.g .BRINE_CLEAN + 1
      if bits (s1.g .BRINE_CFG) 0 16 ≤ c then (s1.setG .BRINE_SCALE (Nat.min (e + 1) 24)).setG .BRINE_CLEAN 0
      else s1.setG .BRINE_CLEAN c
  s2.brineRecord (k + 1) (bits (s2.g .BRINE_SCALE) 0 5)

/-- Whether Brine has recorded an overflow verdict for a step (R216). -/
def State.brineOverflow (s : State) (k : Nat) : Bool :=
  let h := s.rg .BRINE_HIST 0x60 0 (k % 16)
  bit h 7 && bits h 8 56 == k % 2 ^ 56 && bit h 5 && bit h 6

/-- Whether any step from a to b overflowed, as the log tells (R246, R311). -/
def State.anyOverflow (s : State) (a b : Nat) : Bool :=
  let l := s.ovfLog
  (l.any fun v => bit v 63 && decide (a ≤ bits v 0 63) && decide (bits v 0 63 ≤ b)) ||
  (l.all (fun v => bit v 63) && l.all fun v => decide (b < bits v 0 63))

/-! ### Capture (R398, R400 to R403) -/

/-- M-die whose part of a tier's local zone holds a board address (R169, R396). -/
def State.partOf (s : State) (addr : Nat) : Option Nat :=
  (List.range 12).find? fun m => s.inLocalPart (regionOf addr) m addr 1

/-- The registers of the register image (R403): register, die code, element. -/
def imageRegs : List (Reg × Nat × Nat) :=
  ((enginePairs 4).map fun p => (Reg.RN_BUF_SEL, 0x40 + p.1, p.2)) ++
  ((enginePairs 8).map fun p => (Reg.PR_WC_SEL, 0x40 + p.1, p.2)) ++
  [(.PR_LAST, 0x60, 0), (.PR_SWEEP_NEXT, 0x60, 0), (.BRINE_SCALE, 0x60, 0), (.BRINE_CLEAN, 0x60, 0)] ++
  ((List.range 16).map fun i => (Reg.BRINE_HIST, 0x60, i)) ++
  ((List.range 16).map fun i => (Reg.BRINE_OVF_LOG, 0x60, i)) ++
  [(.SHARD_SEL, 0x60, 0), (.SHARD_J0, 0x60, 0), (.SORREL_AGREED, 0x60, 0)]

/-- The ranges of the cave map read from memory (R396): none at a read error. -/
def State.caveMap (s : State) : State × Option (List (Nat × Nat)) :=
  let v := s.g .CAVE_MAP
  match s.readRange (bits v 0 44) (16 * bits v 52 12) with
  | (s1, .error _) => (s1, none)
  | (s1, .ok bs) =>
    (s1, some ((chunks 16 (bs.length + 1) bs).map fun c => (ofLeBytes (c.take 8), ofLeBytes (c.drop 8))))

/-- The target slot of the next capture (R401). -/
def State.caveTarget (s : State) : Nat :=
  let newest (x : SlotInfo) : Option Nat := if x.commit ≠ 0 ∧ x.agreed = x.commit then some x.commit else none
  match newest s.slots.1, newest s.slots.2 with
  | some a, some b => if a < b then 0 else 1
  | some _, none => 1
  | none, some _ => 0
  | none, none => if s.slots.2.commit < s.slots.1.commit then 1 else 0

/-- The checkpoint of step k begins at b(k + 1) if it is due (R398): `sel` overrides buffer selections that commit at this
boundary (R403). -/
def State.captureBegin (s : State) (k : Nat) (sel : List (Reg × Nat × Nat × Nat)) : State :=
  let cfg := s.g .CAVE_CFG
  let c := bits cfg 0 16
  if !bit cfg 16 || c == 0 || k == 0 || k % c != 0 || bit (s.g .CAVE_STATUS) 3 then s
  else if s.capture.isSome then s.bump .CAVE_SKIPS 0x60 0 0 1
  else
    match s.caveMap with
    | (s1, none) => (s1.bump .CAVE_FAILS 0x60 0 0 1).setG .CAVE_STATUS (setBits (s1.g .CAVE_STATUS) 0 2 2)
    | (s1, some ranges) =>
      let slot := s1.caveTarget
      let val (r : Reg × Nat × Nat) : Nat :=
        match sel.find? fun x => x.1 == r.1 && x.2.1 == r.2.1 && x.2.2.1 == r.2.2 with
        | some x => x.2.2.2
        | none => s1.rg r.1 r.2.1 0 r.2.2
      let d := bits (s1.g .PR_CFG) 4 3
      let cap : Capture :=
        { step := k, slot := slot, ranges := ranges, done := ranges.map fun _ => 0, crc := ranges.map fun _ => 0,
          digests := [], next := List.replicate 12 0, regs := imageRegs.map fun r => (loc r.1 r.2.1 0 r.2.2, val r),
          cstep := k + 1 - Nat.max d 2, progLt := 0, held := [] }
      let s2 := s1.setG .CAVE_STATUS (setBits (setBits (s1.g .CAVE_STATUS) 0 2 1) 2 1 slot)
      let slots := if slot = 0 then (⟨0, 0⟩, s2.slots.2) else (s2.slots.1, ⟨0, 0⟩)
      { s2 with
        capture := some cap
        slots := slots
        guards := ranges.map fun r => (r.1, r.1 + r.2) }

end Sys2Proof.Machine
end

