-- ==== Sys2Proof/Machine/Lease.lean ====
section
/-!
DEFINITION. The half in charge: its X-die, alerts and replies, measurement registers kept in both halves, and a change of the
half lease's holder (R22, R389, R390, R412, R426, R427, R442, R482).
-/

namespace Sys2Proof.Machine

/-- The 80 die codes of a module (R4). -/
def allDies : List Nat :=
  List.range 64 ++ (List.range 12).map (0x40 + ·) ++ (List.range 4).map (0x50 + ·)

/-- X-die of the half in charge (R22, R389). -/
def State.headDie (s : State) : Nat := if bit (s.g .LEASE_STATUS) 0 then 0x52 else 0x50

/-! ### Alerts, replies and measurements -/

/-- Set an alert bit of Rind word 0x13 (Table 15.6): 0 BOOT, 1 FAULT, 2 THERMAL, 3 LEASE. -/
def State.alert (s : State) (i : Nat) : State := { s with rind := { s.rind with alerts := s.rind.alerts ||| 2 ^ i } }

/-- A reply or message of the management port (R446). -/
def State.mgmtOut (s : State) (session typ status id : Nat) (body : List Nat) : State :=
  { s with outbox := s.outbox ++ [.mgmt session typ status id body] }

/-- SHAKE256 of bytes, 64 bytes. -/
def shakeBytes (bs : List Nat) : List Nat := leBytes 64 (Config.shake (bs.map (BitVec.ofNat 8))).toNat

/-- The 64 bytes of measurement register n. -/
def State.mrBytes (s : State) (n : Nat) : List Nat :=
  (List.range 8).flatMap fun w => leBytes 8 (s.rg .MR 0x50 n w)

/-- Store a 64-byte value in both copies of a block 0x50 register. [DEDUCED, log entry 37] -/
def State.setDigest (s : State) (r : Reg) (n : Nat) (bs : List Nat) : State :=
  (List.range 8).foldl (fun z w =>
    let v := ofLeBytes ((bs.drop (8 * w)).take 8)
    (z.setRg r 0x50 n w v).setRg r 0x52 n w v) s

/-- Extend MRn by a 64-byte value in both security blocks (R426, R427). -/
def State.mrExtend (s : State) (n : Nat) (v : List Nat) : State := s.setDigest .MR n (shakeBytes (s.mrBytes n ++ v))

/-- Extend MR7 by an event: code, and up to 56 bytes of data (Tables 14.5 and 14.6). -/
def State.mrEvent (s : State) (code : Nat) (data : List Nat) : State :=
  s.mrExtend 7 (shakeBytes (leBytes 8 code ++ takePad 0 56 data))

/-! ### The half lease -/

/-- The half lease goes to a half with a new epoch (R390, R412): the holder renews at once (`renew`); die code 0x60 is not served until
it has written DIE_LEASE of every die (R482); the management link trains afresh and its sessions are lost (R442); MR7 records
the event (Table 14.6). [DEDUCED, log entry 13] -/
def State.halfChange (s : State) (east : Bool) (epoch code : Nat) (renew : Bool) : State :=
  let v := s.g .LEASE_STATUS
  let s1 := (s.setG .HALF_LEASE epoch).setG .LEASE_STATUS (setBits (setBits v 0 1 (b2n east)) 2 1 0)
  let l := { s1.leases with halfLt := 0, renewLt := 0, watcherEpoch := epoch, changing := true, unwritten := allDies }
  let s2 : State :=
    { s1 with
      leases := l, yieldPending := false, sessions := [], mgmtUp := false, staging := none, gen := [],
      outbox := s1.outbox ++ (if renew then [.lease epoch] else []) }
  (s2.mrEvent code (leBytes 8 epoch)).alert 3

/-- A planned handover that is pending takes place (R412). [DEDUCED, log entry 53] -/
def State.handover (s : State) : State :=
  if s.yieldPending then s.halfChange (!bit (s.g .LEASE_STATUS) 0) ((s.g .HALF_LEASE + 1) % 2 ^ 64) 0x04 true else s

end Sys2Proof.Machine
end

