-- ==== Sys2Proof/Machine/Hoop.lean ====
section
/-!
DEFINITION. Hoop slots (R211 to R222), the barrier roots and the epoch (R204, R206 to R210, R216, R218).
-/

namespace Sys2Proof.Machine

/-! ### Slots -/

/-- What a slot holds beside its registers. -/
def State.hoop (s : State) (h : Nat) : HoopS := Sparse.get (fun _ => HoopS.init) s.hoops h

/-- Store a slot. -/
def State.setHoop (s : State) (h : Nat) (x : HoopS) : State :=
  { s with hoops := Sparse.set (fun _ => HoopS.init) s.hoops h x }

/-- A field of HOOP_STATUS (Table 7.8). -/
def State.hoopSt (s : State) (h lo w : Nat) : Nat := s.fld .HOOP_STATUS 0x60 0 h lo w

/-- Store a field of HOOP_STATUS. -/
def State.setHoopSt (s : State) (h lo w v : Nat) : State := s.setFld .HOOP_STATUS 0x60 0 h lo w v

/-- Whether a slot is OPEN or STAGING (Table 7.3). -/
def State.hoopUndecided (s : State) (h : Nat) : Bool := s.hoopSt h 29 3 == 1 || s.hoopSt h 29 3 == 2

/-- Instance number of a slot. -/
def State.hoopInst (s : State) (h : Nat) : Nat := s.hoopSt h 32 32

/-- Whether this module is the job root (R206); without a job it decides for itself. -/
def State.isRoot (s : State) : Bool :=
  match s.job with
  | some j => j.root == s.node
  | none => true

/-- Nodes of the job's other modules. -/
def State.peers (s : State) : List Nat :=
  match s.job with
  | some j => j.nodes.filter (· != s.node)
  | none => []

/-- Open the next instance of a slot (R211, R213, R221): CAUSE stays until the next decision. -/
def State.hoopOpen (s : State) (h : Nat) : State :=
  let x := s.hoop h
  let inst := if x.opened = 0 then 0 else (s.hoopInst h + 1) % 2 ^ 32
  let ready := bits (s.rg .HOOP_CFG 0x60 0 h) 0 11 == 0
  let st := inst * 2 ^ 32 + 1 * 2 ^ 29 + b2n ready * 2 ^ 28 + s.hoopSt h 24 4 * 2 ^ 24
  (s.setRg .HOOP_STATUS 0x60 0 h st).setHoop h { x with items := [], opened := x.opened + 1, ticks := 0, pend := 0 }

/-- Return the outcome to the sequencers that wait for an instance (R220): DST and DSTE of the HOOP.WAIT held. -/
def State.releaseHoop (s : State) (h inst res epoch : Nat) : List Nat → State
  | [] => s
  | c :: cs =>
    if (s.seq c).hoopWait = some (h, inst) then
      let w := BitVec.ofNat 128 (ofLeBytes (s.bytes (s.cmAddr c (16 * s.pc c)) 16))
      let s1 := (s.setSc c (cf w 111 5) res).setSc c (cf w 106 5) epoch
      (s1.retire c).releaseHoop h inst res epoch cs
    else s.releaseHoop h inst res epoch cs

/-- An instance is decided in this module: `cause` none commits it at the epoch, else it aborts (R212, R216, R217, R220); with REARM
the next one opens at that moment (R221). -/
def State.hoopDecide (s : State) (h : Nat) (cause : Option Nat) (field epoch : Nat) : State :=
  let inst := s.hoopInst h
  let tag := s.rg .HOOP_TAG 0x60 0 h
  let x := s.hoop h
  let ok := cause.isNone
  let s1 := ((s.setHoopSt h 29 3 (if ok then 3 else 4)).setHoopSt h 24 4 field).setHoop h
    { x with items := [], hist := ((inst, ok, epoch) :: x.hist).take 16, pend := 0 }
  let s2 := if ok then s1.setRg .HOOP_DEC_EPOCH 0x60 0 h epoch else s1
  let s3 := s2.releaseHoop h inst (if ok then 1 else 2) (if ok then epoch else 0) (s2.seqs.map Prod.fst)
  let s4 := s3.enginesDecided h inst tag cause
  if bit (s4.rg .HOOP_CFG 0x60 0 h) 31 then
    let s5 := s4.setRg .HOOP_EC 0x60 0 h ((s4.rg .HOOP_EC 0x60 0 h + s4.rg .HOOP_PERIOD 0x60 0 h) % 2 ^ 64)
    (s5.setRg .HOOP_TAG 0x60 0 h ((tag + 1) % 2 ^ 64)).hoopOpen h
  else s4

/-- Send ABORT for an instance to a list of nodes. -/
def State.sendAborts (s : State) (h inst : Nat) : List Nat → State
  | [] => s
  | n :: ns => (s.sendFrame n (.abort (Fin.ofNat 16 h) (BitVec.ofNat 32 inst))).sendAborts h inst ns

/-- This module raises an abort (R217): the root decides at once and tells every module, another module asks the root. -/
def State.hoopAbort (s : State) (h cause : Nat) : State :=
  if !s.hoopUndecided h then s
  else
    let inst := s.hoopInst h
    if s.isRoot then (s.hoopDecide h (some cause) cause 0).sendAborts h inst s.peers
    else
      let s1 := s.setHoop h { s.hoop h with pend := cause }
      s1.sendAborts h inst ((s.job.map Job.root).toList)

/-- Abort every undecided instance with cause STOP (R217, R225). -/
def State.hoopStop (s : State) : State := (List.range 16).foldl (fun z h => z.hoopAbort h 7) s

/-! ### Items (R214, Table 7.4) -/

/-- Registers that their chapters declare Hoop-written by REGW (R63, R319, R362). -/
def hoopWritten (r : Reg) : Bool := r == .ARITH_CTRL || r == .PR_K || r == .SL_ADMIT

/-- The register a REGW target names, if it can take the value (R214). -/
def regwTarget (target value : Nat) : Option (Reg × Nat × Nat × Nat) :=
  if 2 ^ 32 ≤ target then none
  else
    match locate target with
    | some (r, d, i, j) =>
      if hoopWritten r && (r.row.w64 || decide (value < 2 ^ 32)) then some (r, d, i, j) else none
    | none => none

/-- Whether a pair identifier's low byte names a buffer pair of an M-die: Rennet engines 0 to 3, Press engines 8 + e (R273, R297). -/
def pairIndex (p : Nat) : Bool := decide (p < 4) || (decide (8 ≤ p) && decide (p < 16))

/-- Whether the target of a listed item can take it (R214, R273, R297, R310, R341, R355, R378). [DEDUCED, log entry 43] -/
def State.itemOk (s : State) (h kind target value : Nat) : Bool :=
  match kind with
  | 1 => (regwTarget target value).isSome
  | 2 => decide (0x40 ≤ target / 256) && decide (target / 256 < 0x4C) && pairIndex (target % 256) && decide (value < 2)
  | 3 => target == 0 && decide (bits value 0 5 ≤ 24) && bits value 5 3 == 0 && bits value 9 55 == 0
  | 4 => target == 0 && decide (value < 2)
  | 5 =>
    decide (0x50 ≤ target) && decide (target < 0x54) &&
      let o := s.rg .VAT_OCC target 0 0
      decide (bits o 0 11 ≤ bits value 0 11) && decide (bits o 16 11 ≤ bits value 16 11)
  | 6 =>
    target == 0 && bits value 1 15 == 0 && bits value 0 1 != bits (s.g .SHARD_SEL) 0 1 &&
      !bit (s.g .SHARD_STATUS) 0 && bit (s.rg .HOOP_CFG 0x60 0 h) 28 &&
      decide ((s.rg .HOOP_EC 0x60 0 h : Int) = s.boundary (bits value 16 48))
  | _ => false

/-- Stage an item (R214): 0 accepted, 1 refused. -/
def State.hoopStage (s : State) (h kind : Nat) (target value : BitVec 64) : State × Nat :=
  if !s.hoopUndecided h || s.hoopSt h 28 1 == 1 then (s, 1)
  else
    let n := s.hoopSt h 0 9
    if 256 ≤ n then (s.hoopAbort h 4, 1)
    else
      let x := s.hoop h
      let s1 := (s.setHoop h { x with items := x.items ++ [⟨kind, target, value⟩] }).setHoopSt h 0 9 (n + 1)
      let s2 := s1.setHoopSt h 29 3 2
      if s.itemOk h kind target.toNat value.toNat then (s2, 0) else (s2.hoopAbort h 5, 0)

/-- Count a READY declaration (R215): whether it reached an open instance. -/
def State.hoopReady (s : State) (h : Nat) : State × Bool :=
  if !s.hoopUndecided h then (s, false)
  else if s.hoopSt h 28 1 = 1 then (s, true)
  else
    let n := s.hoopSt h 9 11 + 1
    let s1 := (s.setHoopSt h 9 11 n).setHoopSt h 29 3 2
    (if n = bits (s.rg .HOOP_CFG 0x60 0 h) 0 11 then s1.setHoopSt h 28 1 1 else s1, true)

/-! ### Epochs at the module (R207 to R210, R216) -/

/-- Hoop ready bits of this module (R209). -/
def State.readyBits (s : State) : Nat :=
  (List.range 16).foldl (fun z h => if s.hoopUndecided h && s.hoopSt h 28 1 == 1 then z + 2 ^ h else z) 0

/-- The new epoch that completes a generation of context 0. -/
def State.nextEpoch (s : State) (gen : Nat) : Nat :=
  let e := s.epochOf s.headDie
  e + (gen + 1 + 2 ^ 32 - e % 2 ^ 32) % 2 ^ 32

/-- What the root decides for a slot at epoch e (R216): some none commits, some (some cause) aborts. -/
def State.slotDecision (s : State) (ready e h : Nat) : Option (Option Nat) :=
  let cfg := s.rg .HOOP_CFG 0x60 0 h
  let ec := s.rg .HOOP_EC 0x60 0 h
  if !s.hoopUndecided h then none
  else if bit cfg 30 && s.brineOverflow (s.rg .HOOP_TAG 0x60 0 h) then some (some 6)
  else if bit ready h && (if bit cfg 28 then e == ec else decide (ec ≤ e)) then some none
  else if bit cfg 28 && decide (ec ≤ e) then some (some 2)
  else none

/-- Items of a committing slot, its commit semaphore last (R218, R219). -/
def State.slotItems (s : State) (h : Nat) : List HItem :=
  let cfg := s.rg .HOOP_CFG 0x60 0 h
  (s.hoop h).items ++ (if bit cfg 29 then [⟨0x100, BitVec.ofNat 64 (bits cfg 16 12), 0⟩] else [])

/-- Items that the module itself applies at its boundary: SCALE, ROUTE, SHARD, and REGW of module-global registers
(R310, R341, R378): PENDING of a SHARD item stands until the engines with a list have passed the gate (R380). -/
def State.moduleItem (s : State) (e : Nat) (x : HItem) : State :=
  let v := x.value.toNat
  match x.kind with
  | 1 =>
    match regwTarget x.target.toNat v with
    | some (r, d, i, j) => if d = 0x60 then s.setRg r d i j (v &&& r.row.wr) else s
    | none => s
  | 3 =>
    let s1 := s.setG .BRINE_SCALE (bits v 0 5)
    let s2 := if bit v 8 then s1.setG .BRINE_CLEAN 0 else s1
    match s.stepAt e with
    | some j => s2.setRg .BRINE_HIST 0x60 0 (j % 16) (setBits (s2.rg .BRINE_HIST 0x60 0 (j % 16)) 0 5 (bits v 0 5))
    | none => s2
  | 4 => s.setG .ROUTE_SEL (bits v 0 1)
  | 6 =>
    ((s.setG .SHARD_SEL (bits v 0 1)).setG .SHARD_J0 (bits v 16 48)).setG .SHARD_STATUS
      (setBits (s.g .SHARD_STATUS) 0 1 (b2n ((enginePairs 8).any fun q => s.prActive q.1 q.2)))
  | _ => s

/-- Whether an item is delivered to a die: REGW and BUFSEL to the die they name, SHARE to its X-die, SHARD and nothing else
to every C-die, commit semaphores to every die (R218, R219, R379). -/
def HItem.goesTo (x : HItem) (die : Nat) : Bool :=
  let t := x.target.toNat
  match x.kind with
  | 1 => t / 0x1000000 == die
  | 2 => t / 256 == die
  | 5 => t == die
  | 6 => decide (die < 0x40)
  | 0x100 => true
  | _ => false

/-! ### Tickets of a Vat (R355, R401) -/

/-- A share of an X-die's tickets that admission may use, at bit `lo` of VAT_SHARE (0 COLL, 16 CAVE): the present one, or a smaller
one staged and undecided (R355). -/
def State.ticketShare (s : State) (die lo : Nat) : Nat :=
  (List.range 16).foldl (fun z h =>
    if s.hoopUndecided h then
      ((s.hoop h).items.filter fun i => i.kind == 5 && i.target.toNat == die).foldl
        (fun y i => Nat.min y (bits i.value.toNat lo 11)) z
    else z) (s.fld .VAT_SHARE die 0 0 lo 11)

/-- Ranges of a capture in the part of M-die m, in map order. -/
def State.caveRanges (s : State) (c : Capture) (m : Nat) : List Nat :=
  (List.range c.ranges.length).filter fun i => s.partOf (nth (0, 0) c.ranges i).1 == some m

/-- The range from which M-die m copies its next chunk: in rotation over its ranges that are not done (R401). -/
def State.caveNext (s : State) (c : Capture) (m : Nat) : Option (Nat × Nat) :=
  let rs := s.caveRanges c m
  let k := nth 0 c.next m % rs.length
  let order := rs.zipIdx.drop k ++ rs.zipIdx.take k
  (order.find? fun e => decide (nth 0 c.done e.1 < (nth (0, 0) c.ranges e.1).2)).map fun e => (e.1, (e.2 + 1) % rs.length)

/-- The X-die through which an M-die's chunks go (R401). -/
def caveDie (m : Nat) : Nat := if m < 3 then 0x50 else if m < 6 then 0x52 else if m < 9 then 0x51 else 0x53

/-- M-die m begins the read of its next chunk, where it has one and a CAVE ticket of its X-die is free (R355, R401). -/
def State.caveTake (s : State) (m : Nat) : State :=
  match s.capture with
  | none => s
  | some c =>
    let occ := s.fld .VAT_OCC (caveDie m) 0 0 16 11
    if c.held.contains m ∨ (s.caveNext c m).isNone ∨ s.ticketShare (caveDie m) 16 ≤ occ then s
    else
      let s1 := s.setFld .VAT_OCC (caveDie m) 0 0 16 11 (occ + 1)
      { s1 with capture := some { c with held := c.held ++ [m] } }

/-- M-die m gives its ticket back. -/
def State.caveGive (s : State) (m : Nat) : State :=
  match s.capture with
  | none => s
  | some c =>
    if c.held.contains m then
      let s1 := s.setFld .VAT_OCC (caveDie m) 0 0 16 11 (s.fld .VAT_OCC (caveDie m) 0 0 16 11 - 1)
      { s1 with capture := some { c with held := c.held.filter (· != m) } }
    else s

/-- Every M-die that can begin a chunk does, from M-die m on. [DESIGN CHOICE, log entry 66] -/
def State.caveTakeFrom (s : State) (m : Nat) : State :=
  (List.range 12).foldl (fun z i => z.caveTake ((m + i) % 12)) s

/-- The epoch e reaches this module with its commits and aborts (R210, R216 to R218, R308, R398): Brine applies the verdict,
slots are decided, the module's own items apply, a capture may begin, and ADVANCE goes to every die. -/
def State.advanceModule (s : State) (e commits : Nat) (aborts : List (Nat × Nat)) (flags : Nat) : State :=
  let items := ((List.range 16).filter fun h => bit commits h).flatMap s.slotItems
  let s1 := (List.range 16).foldl (fun z h =>
    if bit commits h then z.hoopDecide h none 0 e
    else
      match aborts.find? fun a => a.1 == h with
      | some a => if z.hoopUndecided h then z.hoopDecide h (some a.2) a.2 0 else z
      | none => z) s
  let s2 := items.foldl (fun z x => z.moduleItem e x) s1
  let sel := items.filterMap fun x =>
    if x.kind = 2 then
      let t := x.target.toNat
      let p := t % 256
      some (if p < 4 then (Reg.RN_BUF_SEL, t / 256, p, x.value.toNat) else (Reg.PR_WC_SEL, t / 256, p - 8, x.value.toNat))
    else none
  let s3 :=
    match s.stepAt e with
    | some j => if s.g .STEP_K0 < j then (s2.captureBegin (j - 1) sel).caveTakeFrom 0 else s2
    | none => s2
  { s3 with vmsgs := s3.vmsgs ++ allDies.map fun d => .advance d e commits flags (items.filter fun x => x.goesTo d) }

/-- Brine's part of an epoch (R308): only at a step boundary after the job's first. -/
def State.brineEpoch (s : State) (e flags : Nat) : State :=
  match s.stepAt e with
  | some j => if s.g .STEP_K0 < j then s.brineVerdict (j - 1) (bit flags 0) else s
  | none => s

/-- A mask of slots. -/
def maskOf (l : List Nat) : Nat := l.foldl (fun z h => z ||| 2 ^ h) 0

/-- The job root completes a generation of context 0 (R207, R216): ADVANCE goes to every module, and the ABORT messages after it, so
that a module aborts at the mark and knows the cause. [DESIGN CHOICE, log entry 81] -/
def State.decideEpoch (s : State) (gen ready flags : Nat) : State :=
  let e := s.nextEpoch gen
  let s1 := s.brineEpoch e flags
  let ds := (List.range 16).filterMap fun h => (s1.slotDecision ready e h).map fun d => (h, d)
  let commits := maskOf (ds.filterMap fun d => if d.2.isNone then some d.1 else none)
  let aborts := ds.filterMap fun d => d.2.map fun c => (d.1, c)
  let s2 := s1.peers.foldl (fun z n =>
    let z1 := z.sendFrame n (.advance (BitVec.ofNat 64 e) (BitVec.ofNat 16 commits)
      (BitVec.ofNat 16 (maskOf (aborts.map Prod.fst))) (BitVec.ofNat 8 flags))
    aborts.foldl (fun y a => y.sendAborts a.1 (s1.hoopInst a.1) [n]) z1) s1
  s2.advanceModule e commits aborts flags

/-- The cause of an abort that the ADVANCE of e marks (R216): VETO where Brine has the verdict of the slot's step, LATE where its commit
epoch has come. A mark that fits neither belongs to an instance that an ABORT has already ended (R221). [DESIGN CHOICE, log entry 81] -/
def State.markCause (s : State) (e h : Nat) : Option Nat :=
  let cfg := s.rg .HOOP_CFG 0x60 0 h
  if bit cfg 30 && s.brineOverflow (s.rg .HOOP_TAG 0x60 0 h) then some 6
  else if bit cfg 28 && decide (s.rg .HOOP_EC 0x60 0 h ≤ e) then some 2
  else none

/-- ADVANCE from the job root reaches this module (R210). [DESIGN CHOICE, log entry 81] -/
def State.advanceFrame (s : State) (e commits aborts flags : Nat) : State :=
  let s1 := s.brineEpoch e flags
  let as := ((List.range 16).filter fun h => bit aborts h).filterMap fun h => (s1.markCause e h).map fun c => (h, c)
  s1.advanceModule e commits as flags

/-! ### Barrier roots (R204, R206) -/

/-- The dies of this module that take part in a context beyond die scope. -/
def State.ctxDies (s : State) (ctx : Nat) : List Nat :=
  allDies.filter fun d => s.barExpect d ctx != 0 && s.barScope d ctx != 0

/-- Scope of a context in this module: 3 (job) where no die of it takes part. -/
def State.ctxScope (s : State) (ctx : Nat) : Nat := ((s.ctxDies ctx).head?.map fun d => s.barScope d ctx).getD 3

/-- Other modules that take part in a context (R206): those the image names, for context 0 every module of the job. -/
def State.ctxNodes (s : State) (ctx : Nat) : List Nat :=
  match s.job with
  | none => []
  | some j =>
    match j.contexts.find? fun c => c.1 == ctx with
    | some c => c.2.filter (· != s.node)
    | none => if ctx = 0 then s.peers else []

/-- Node of the root module of a context (R206). -/
def State.ctxRoot (s : State) (ctx : Nat) : Nat :=
  match s.ctxScope ctx with
  | 1 => s.node
  | 2 => s.node &&& 0xFE
  | _ => (s.job.map Job.root).getD s.node

/-- COMPLETE for the dies of this module. -/
def State.completeDies (s : State) (ctx gen : Nat) : State :=
  { s with vmsgs := s.vmsgs ++ (s.ctxDies ctx).map fun d => .complete d ctx gen }

/-- The root of a context has an arrival of every module: complete the generation (R204, R207). -/
def State.rootCheck (s : State) (ctx gen : Nat) : State :=
  let mine := s.rootArr.filter fun a => a.ctx == ctx && a.gen == gen && decide (0x100 ≤ a.src)
  let own := if s.ctxDies ctx = [] then [] else [s.node]
  let need := (own ++ (if s.ctxScope ctx = 1 then [] else s.ctxNodes ctx)).map (0x100 + ·)
  if need = [] ∨ !(need.all fun n => mine.any fun a => a.src == n) then s
  else
    let s1 := { s with rootArr := s.rootArr.filter fun a => !(a.ctx == ctx && a.gen == gen) }
    if ctx = 0 then
      s1.decideEpoch gen (mine.foldl (fun z a => z &&& a.ready) 0xFFFF) (mine.foldl (fun z a => z ||| a.flags) 0)
    else
      let s2 := (if s.ctxScope ctx = 1 then [] else s.ctxNodes ctx).foldl (fun z n =>
        z.sendFrame n (.complete (Fin.ofNat 256 ctx) (BitVec.ofNat 32 gen))) s1
      s2.completeDies ctx gen

/-- Whether an ADVANCE of this module has not reached its die yet. -/
def State.advancing (s : State) : Bool :=
  s.vmsgs.any fun m => match m with
    | .advance .. => true
    | _ => false

/-- The module root has the arrivals of its dies (R204, R209): its own arrival, with the ready bits as they stand, goes to the root
of the context. On context 0 it waits until every die of the module has seen the epoch before, so that no copy of the epoch falls
two behind (R208). [DEDUCED, log entry 42] -/
def State.moduleCheck (s : State) (ctx gen : Nat) : State :=
  let ds := s.ctxDies ctx
  let have_ := s.rootArr.filter fun a => a.ctx == ctx && a.gen == gen && decide (a.src < 0x100)
  if ds = [] ∨ !(ds.all fun d => have_.any fun a => a.src == d) ∨ (ctx = 0 ∧ s.advancing) then s
  else
    let flags := have_.foldl (fun z a => z ||| a.flags) 0
    let s1 := { s with rootArr := s.rootArr.filter fun a =>
      !(a.ctx == ctx && a.gen == gen && decide (a.src < 0x100)) }
    let ready := if ctx = 0 then s1.readyBits else 0
    if s1.ctxRoot ctx = s1.node then
      ({ s1 with rootArr := s1.rootArr ++ [⟨ctx, gen, 0x100 + s1.node, ready, flags⟩] } : State).rootCheck ctx gen
    else
      s1.sendFrame (s1.ctxRoot ctx)
        (.arrive (Fin.ofNat 256 ctx) (BitVec.ofNat 32 gen) (BitVec.ofNat 16 ready) (BitVec.ofNat 8 flags))

/-- The arrival of a die reaches its module root. -/
def State.arriveDie (s : State) (die ctx gen ready flags : Nat) : State :=
  ({ s with rootArr := s.rootArr ++ [⟨ctx, gen, die, ready, flags⟩] } : State).moduleCheck ctx gen

/-- The arrival of another module reaches the root of a context. -/
def State.arriveNode (s : State) (node ctx gen ready flags : Nat) : State :=
  ({ s with rootArr := s.rootArr ++ [⟨ctx, gen, 0x100 + node, ready, flags⟩] } : State).rootCheck ctx gen

/-! ### The epoch boundary of a die (R210) -/

/-- An 8-byte word at a scratchpad offset of every core of a C-die (R309, R379). -/
def State.publish (s : State) (die off v : Nat) : State :=
  (List.range 16).foldl (fun z u => (z.spWrite (die * 16 + u) off (leBytes 8 v)).1) s

/-- The word of R309. -/
def State.scaleWord (s : State) : Nat :=
  let e := bits (s.g .BRINE_SCALE) 0 5
  e * 2 ^ 32 + (127 + e) * 2 ^ 23

/-- A die applies an item (R210, step 1). -/
def State.dieItem (s : State) (die : Nat) (x : HItem) : State :=
  let v := x.value.toNat
  match x.kind with
  | 1 =>
    match regwTarget x.target.toNat v with
    | some (r, d, i, j) => s.setRg r d i j (v &&& r.row.wr)
    | none => s
  | 2 =>
    let p := x.target.toNat % 256
    if p < 4 then s.setRg .RN_BUF_SEL die 0 p v else s.setRg .PR_WC_SEL die 0 (p - 8) v
  | 5 => s.setRg .VAT_SHARE die 0 0 (v &&& 0x7FF07FF)
  | 6 => s.publish die (bits (s.g .SHARD_PUB) 0 25) (bits v 0 1 + bits v 16 48 * 2 ^ 16)
  | _ => s

/-- The epoch boundary of a die (R210): items, then commit semaphores, then the new epoch; context 0 completes with it. The per-step
NONFIN copy is cleared at a step boundary (R60, R209). -/
def State.advanceDie (s : State) (die e : Nat) (items : List HItem) : State :=
  let s1 := items.foldl (fun z x => z.dieItem die x) s
  let boundary := (s.stepAt e).isSome
  let s2 := if boundary ∧ die < 0x40 then s1.publish die (bits (s1.g .BRINE_PUB) 0 25) s1.scaleWord else s1
  let s3 := items.foldl (fun z x => if x.kind = 0x100 then z.addSem die x.target.toNat 1 else z) s2
  let s4 := (if boundary then s3.setRg .STEP_NONFIN die 0 0 0 else s3).setRg .VETCH_EPOCH die 0 0 e
  let s5 : State := if boundary ∧ die = s4.headDie then ({ s4 with jobWdLt := 0 } : State).handover else s4
  (s5.completeAt die 0 (s5.barGen die 0)).autoArm die

end Sys2Proof.Machine
end

