-- ==== Sys2Proof/Machine/Link.lean ====
section
/-!
DEFINITION. Sadom ports: training, acceptance, acknowledgement and replay of flits and frames, forwarding, and the accesses of
the twin (R322 to R344).
-/

namespace Sys2Proof.Machine

/-! ### Port state -/

/-- Set STATE of a port (Table 11.8). -/
def State.setPortState (s : State) (p st : Nat) : State := s.setPortReg .SL_STATUS p (setBits (s.portReg .SL_STATUS p) 0 3 st)

/-- Set one bit of SL_STATUS. -/
def State.setPortBit (s : State) (p i : Nat) (b : Bool) : State :=
  s.setPortReg .SL_STATUS p (setBit (s.portReg .SL_STATUS p) i b)

/-- Whether the frames of a port travel on its payload lanes. -/
def State.inFallback (s : State) (p : Nat) : Bool := bit (s.portReg .SL_STATUS p) 5

/-- Record the first port fault since module reset. -/
def State.portRecord (s : State) (p cause : Nat) : State :=
  if bit (s.portReg .SL_FAULT p) 31 then s else s.setPortReg .SL_FAULT p (2 ^ 31 + cause)

/-- Whether a valid entry of the selected routing table names a port (R334). -/
def State.portNamed (s : State) (p : Nat) : Bool := (List.range 256).any fun n => (s.routeTo n).contains p

/-- A port becomes FAILED: buffers and queues are discarded, frames not yet acknowledged are lost, and the failure is
reported (R334, R336): where they travelled on the payload lanes, the port's own cause is 0x03. -/
def State.portFail (s : State) (p cause : Nat) : State :=
  let x := s.port p
  let (d, i) := portAt p
  let lost := !(x.freplay.isEmpty && x.fqueue.isEmpty && x.fallback.isEmpty)
  let c := if lost && s.inFallback p then 0x03 else cause
  let s1 := ((s.portRecord p c).setPortState p 4).setPort p PortS.init
  let s2 := if lost then s1.vetchFault d 0x02 0 else s1
  if s2.portNamed p then s2.dieFault d 0x40 i c
  else if bit (s2.rg .DIE_FAULT d 0 0) 63 then s2
  else s2.setRg .DIE_FAULT d 0 0 (2 ^ 63 + 0x40 * 2 ^ 40 + i * 2 ^ 32 + c)

/-- A port retrains: buffers and sequences are kept (R326). -/
def State.portRetrain (s : State) (p : Nat) : State :=
  (s.setPortState p 3).setPort p { s.port p with trainLt := 0 }

/-- The frames of a port travel on its payload lanes from now on, unacknowledged ones first (R336). -/
def State.enterFallback (s : State) (p : Nat) : State :=
  if s.inFallback p then s
  else
    let x := s.port p
    let old := x.freplay
    let waiting := x.fqueue
    let s1 := (s.setPortBit p 5 true).setPort p
      { x with freplay := [], fqueue := [], fAckLt := 0, fallback := x.fallback ++ old.map Prod.fst }
    let s2 := old.foldl (fun (z : State) e =>
      z.enqueue p ⟨0x20, e.2.2.hops, e.2.2.dst, e.2.2.src, 31, 0, 0, frameBytes e.1 x.ackFrame e.2.2⟩) s1
    waiting.foldl (fun (z : State) m => z.enqueueFrame p m) s2

/-- The port leaves FALLBACK when its synchronisation lane has trained and every fallback frame is acknowledged (R336). -/
def State.leaveFallback (s : State) (p : Nat) : State :=
  if s.inFallback p && bit (s.portReg .SL_STATUS p) 4 && (s.port p).fallback.isEmpty then s.setPortBit p 5 false else s

/-! ### Acknowledgement and replay (R332, R333, R336) -/

/-- Split a replay buffer after a sequence: none where it does not hold it. -/
def splitAfter {α : Type} (seq : Nat) : List (Nat × α) → Option (List (Nat × α) × List (Nat × α))
  | [] => none
  | e :: es => if e.1 = seq then some ([e], es) else (splitAfter seq es).map fun p => (e :: p.1, p.2)

/-- Frame sequence carried by a VETCH flit. -/
def Flit.frameSeq (f : Flit) : Option Nat := if f.typ = 0x20 then some (nth 0 f.data 1) else none

/-- The peer has accepted the flits up to a sequence. -/
def State.flitsAcked (s : State) (p : Nat) (ack : Option Nat) : State :=
  match ack with
  | none => s
  | some a =>
    let x := s.port p
    match splitAfter a x.replay with
    | none => s
    | some (done, rest) =>
      let gone := done.filterMap fun e => e.2.2.frameSeq
      let y := { x with
        replay := rest
        ackLt := 0
        limit := if done.any (fun e => x.limit == some e.1) then none else x.limit
        fallback := x.fallback.filter fun q => !gone.contains q }
      ((s.setPort p y).leaveFallback p).pump p (x.queue.length + 1)

/-- The peer has accepted the frames up to a sequence. -/
def State.framesAcked (s : State) (p : Nat) (ack : Option Nat) : State :=
  match ack with
  | none => s
  | some a =>
    let x := s.port p
    match splitAfter a (x.fallback.map fun q => (q, ())) with
    | some (_, rest) => (s.setPort p { x with fallback := rest.map Prod.fst }).leaveFallback p
    | none =>
      match splitAfter a x.freplay with
      | none => s
      | some (_, rest) =>
        let s1 := s.setPort p { x with freplay := rest, fAckLt := 0, fqueue := [] }
        x.fqueue.foldl (fun (z : State) m => z.enqueueFrame p m) s1

/-- Resend the flits of a port from a sequence on; one that has been sent REPLAY_MAX + 1 times makes the port retrain, and a
second time after that retrain fail. -/
def State.resendFlits (s : State) (p seq : Nat) : State :=
  let x := s.port p
  let es := x.replay.dropWhile fun e => e.1 != seq
  let max := bits (s.portReg .SL_CFG p) 0 8
  match es.find? fun e => decide (max + 1 ≤ e.2.1) with
  | some e =>
    if x.limit = some e.1 then s.portFail p 0x01
    else (s.setPort p { x with limit := some e.1, ackLt := 0 }).portRetrain p
  | none =>
    let keep := x.replay.takeWhile fun e => e.1 != seq
    let again := es.map fun e => (e.1, e.2.1 + 1, e.2.2)
    let s1 := (s.setPort p { x with replay := keep ++ again, ackLt := 0 }).bumpPort .SL_REPLAYS p es.length
    { s1 with outbox := s1.outbox ++ es.map fun e => Out.flit p e.1 x.ackSeq e.2.2 }

/-- Resend the frames of a port from a sequence on; one that has been sent 8 times puts the port into FALLBACK, which it
leaves only after its synchronisation lane has retrained. -/
def State.resendFrames (s : State) (p seq : Nat) : State :=
  let x := s.port p
  let es := x.freplay.dropWhile fun e => e.1 != seq
  if es.any fun e => decide (8 ≤ e.2.1) then (s.setPortBit p 4 false).enterFallback p
  else
    let keep := x.freplay.takeWhile fun e => e.1 != seq
    let again := es.map fun e => (e.1, e.2.1 + 1, e.2.2)
    let s1 := (s.setPort p { x with freplay := keep ++ again, fAckLt := 0 }).bumpPort .SL_SYNC_REPLAYS p es.length
    { s1 with outbox := s1.outbox ++ es.map fun e => Out.frame p e.1 x.ackFrame e.2.2 }

/-- Resend everything unacknowledged after a retrain, counting sends afresh (R333). -/
def State.resendAll (s : State) (p : Nat) : State :=
  let x := s.port p
  let again := x.replay.map fun e => (e.1, 1, e.2.2)
  let s1 := (s.setPort p { x with replay := again, ackLt := 0 }).bumpPort .SL_REPLAYS p x.replay.length
  let s2 := { s1 with outbox := s1.outbox ++ x.replay.map (fun (e : Nat × Nat × Flit) => Out.flit p e.1 x.ackSeq e.2.2) }
  let s3 := s2.pump p (x.queue.length + 1)
  x.fqueue.foldl (fun (z : State) m => z.enqueueFrame p m) (s3.setPort p { s3.port p with fqueue := [] })

/-! ### Acceptance (R330, R332, R335, R338, R339, R388) -/

/-- Cumulative credits that a port returns. -/
def PortS.credits (x : PortS) : List Nat := x.got

/-- A NAK for the flit expected, once per gap. -/
def State.nakFlit (s : State) (p : Nat) : State :=
  let x := s.port p
  if x.nak then s
  else
    let s1 := s.setPort p { x with nak := true, owed := false }
    { s1 with outbox := s1.outbox ++ [Out.linkctl p x.ackSeq (some x.rxSeq) x.credits] }

/-- A NAK for the frame expected, once per gap. -/
def State.nakFrame (s : State) (p : Nat) : State :=
  let x := s.port p
  if x.fNak then s
  else
    let s1 := s.setPort p { x with fNak := true, fOwed := false }
    { s1 with outbox := s1.outbox ++ [Out.idle p (some ((x.fRx + 255) % 256)) true] }

/-- Acknowledge what a port has accepted, and return its credits (R330, R332). -/
def State.sendAck (s : State) (p : Nat) : State :=
  let x := s.port p
  let s1 := s.setPort p { x with owed := false }
  { s1 with outbox := s1.outbox ++ [Out.linkctl p x.ackSeq none x.credits] }

/-- Acknowledge the frames a port has accepted in an idle frame (R335). -/
def State.sendIdle (s : State) (p : Nat) : State :=
  let x := s.port p
  let s1 := s.setPort p { x with fOwed := false }
  { s1 with outbox := s1.outbox ++ [Out.idle p x.ackFrame false] }

/-- What a port has accepted and no flit or frame has acknowledged since (R332, R335). [DEDUCED, log entry 11] -/
def State.sendOwed (s : State) (p : Nat) : State :=
  if s.portState p ≠ 2 then s
  else
    let s1 := if (s.port p).owed then s.sendAck p else s
    if (s1.port p).fOwed && bit (s1.portReg .SL_STATUS p) 4 then s1.sendIdle p else s1

/-- A port accepts the next flit in sequence: it counts it, and returns credits after every 32 flits and whenever the count of a
VC crosses a multiple of 64. [DEDUCED, log entry 11] -/
def State.acceptFlit (s : State) (p vc : Nat) : State :=
  let x := s.port p
  let n := (nth 0 x.got vc + 1) % 0x10000
  let y := { x with
    rxSeq := (x.rxSeq + 1) % 2 ^ 32
    nak := false
    got := setAt x.got vc n
    heard := true
    owed := true }
  let s1 := (s.setPort p y).bumpPort .SL_RX_FLITS p 1
  if (s1.portReg .SL_RX_FLITS p) % 32 = 0 ∨ n % 64 = 0 then s1.sendAck p else s1

/-- A port accepts the next frame in sequence. -/
def State.acceptFrame (s : State) (p : Nat) : State :=
  let x := s.port p
  s.setPort p { x with fRx := (x.fRx + 1) % 256, fNak := false, fHeard := true, fOwed := true }

/-- Whether SL_ADMIT lets a source in. -/
def State.admitted (s : State) (src : Nat) : Bool := bit (s.rg .SL_ADMIT 0x60 0 (src / 64)) (src % 64)

/-- Whether the module refuses the flits of a source: its fenced twin (R388). -/
def State.fenced (s : State) (src : Nat) : Bool := bit (s.g .TWIN_FENCE) 0 && src == s.twinNode

/-- Answer a request: RD_RESP with data, or WR_ACK, with its error bit; a response without a route is lost. [DEDUCED, log entry 49] -/
def State.respond (s : State) (typ node tag : Nat) (err : Bool) (bs : List Nat) : State :=
  (s.sendFlit ⟨typ, 0, node, s.node, bs.length - 1, tag, b2n err, bs⟩).1

/-- What a fenced twin's flit meets (R388). [DEDUCED, log entry 49] -/
def State.refuseTwin (s : State) (f : Flit) : State :=
  if f.typ = 0x01 ∨ f.typ = 0x05 then s.respond 0x04 f.src f.tag true []
  else if f.typ = 0x02 then s.respond 0x03 f.src f.tag true []
  else s

/-- Forward a flit in transit: discarded and counted where no port takes it or it has hopped 15 times (R338). -/
def State.forward (s : State) (p : Nat) (f : Flit) : State :=
  match (if f.hops = 15 then none else s.pickPort f.dst f.spread) with
  | none => s.bumpPort .SL_ROUTE_DROP p 1
  | some q => s.enqueue q { f with hops := f.hops + 1 }

/-- A flit reaches a port: acknowledgement, sequence, admission, fence and routing come before its own effect; those of a VETCH flit
are its frame's (`takeFrame`). -/
def State.rxFlit (s : State) (r : Rx) (f : Flit) (deliver : State → State) : State :=
  let p := r.port.val
  if s.portState p ≠ 2 then s
  else
    let s1 := s.flitsAcked p (r.ack.map BitVec.toNat)
    if r.seq.toNat ≠ (s1.port p).rxSeq then s1.nakFlit p
    else
      let s2 := s1.acceptFlit p (vcOf f.typ)
      if f.typ = 0x20 then deliver s2
      else if !s2.admitted f.src then s2.bumpPort .SL_ADMIT_DROP p 1
      else if s2.fenced f.src then s2.refuseTwin f
      else if f.dst ≠ s2.node then s2.forward p f
      else deliver s2

/-- The flit of a row: type, length, address and payload beside the header it arrived with. -/
def rxAsFlit (r : Rx) (typ lm1 addr : Nat) (data : List Nat) : Flit :=
  ⟨typ, r.hops.val, r.dst.toNat, r.src.toNat, lm1, r.tag.toNat, addr, data⟩

/-! ### What a frame does here -/

/-- A signal from another module (R154, R395): one of another module of the job on
the peer-stop semaphore of X-die 0x50 also stops the job. [DEDUCED, log entry 8] -/
def State.signalFrom (s : State) (node die sem n : Nat) : State :=
  let s1 := if dieCode die then s.signal s.rootDie false die sem n else s
  if s.peers.contains node ∧ die = 0x50 ∧ sem = bits (s1.g .JOB_CTRL) 0 12 ∧ s1.loaded then
    { s1 with faultQ := s1.faultQ ++ [⟨0x50, 0xFF, 0, 8⟩] }
  else s1

/-- ABORT reaches this module (R217): the root aborts an undecided instance everywhere; another module follows the root. The
frame carries no cause: the module's own, STOP under a stop, else one that another module can have raised, open which. [DEDUCED, log entry 7] -/
def State.abortFrame (s : State) (h inst : Nat) : State :=
  if s.hoopInst h ≠ inst ∨ !s.hoopUndecided h then s
  else
    let own := (s.hoop h).pend
    let (cause, field, s1) :=
      if own ≠ 0 then (own, own, s)
      else if s.stopping then (7, 7, s)
      else
        let (o, z) := s.freshVal
        (3, nth 0 [1, 3, 4, 5, 7] (o.toNat % 5), z)
    let s2 := s1.hoopDecide h (some cause) field 0
    if s.isRoot then s2.sendAborts h inst s2.peers else s2

/-- A frame addressed to this module takes effect. -/
def State.deliverFrame (s : State) (src : Nat) : Frame → State
  | .signal d i n => s.signalFrom src d.toNat i.val n.toNat
  | .arrive c g r f => s.arriveNode src c.val g.toNat r.toNat f.toNat
  | .complete c g => s.completeDies c.val g.toNat
  | .advance e c a f => s.advanceFrame e.toNat c.toNat a.toNat f.toNat
  | .abort h i => s.abortFrame h.val i.toNat

/-- A frame that a port has accepted: admission, fence, routing on PORT0 with HOPS counted where a flit carried it (R338), or its
effect here. -/
def State.takeFrame (s : State) (p src dst hops : Nat) (b : Frame) : State :=
  if !s.admitted src ∨ s.fenced src then s.bumpPort .SL_ADMIT_DROP p 1
  else if dst ≠ s.node then
    match (if hops = 15 then none else s.pickPort dst 0) with
    | none => s.bumpPort .SL_ROUTE_DROP p 1
    | some q => s.enqueueFrame q ⟨dst, src, hops + 1, b⟩
  else s.deliverFrame src b

/-- ACK and NAK of a frame received: acknowledged frames leave the buffer, a NAK asks for the one after ACK. -/
def State.frameAcks (s : State) (p : Nat) (ack : Option Nat) (nak : Bool) : State :=
  let s1 := s.framesAcked p ack
  match ack with
  | some a => if nak then s1.resendFrames p ((a + 1) % 256) else s1
  | none => s1

/-- A frame reaches the synchronisation lane of a port. -/
def State.rxFrame (s : State) (r : FRx) (b : Frame) : State :=
  let p := r.port.val
  if s.portState p ≠ 2 ∨ !bit (s.portReg .SL_STATUS p) 4 then s
  else
    let s1 := s.frameAcks p (r.ack.map BitVec.toNat) r.nak
    let x := s1.port p
    if r.seq.toNat ≠ x.fRx then s1.nakFrame p
    else
      (s1.acceptFrame p).takeFrame p r.src.toNat r.dst.toNat 0 b

/-! ### Rows: port events -/

/-- A write of SL_CFG.EN (R326, R457): false where it returns an access error. A change to 1 starts training, a change to 0
takes the port DOWN; a fabric port that is held refuses the write. [DEDUCED, log entry 49] -/
def State.portEnableWrite (s : State) (p : Nat) (v : Nat) : State × Bool :=
  if s.fabricHeld ∧ p < 32 then (s, false)
  else
    let old := s.portReg .SL_CFG p
    let s1 := s.setPortReg .SL_CFG p (setBits old 31 1 (bits v 31 1))
    if bit v 31 ∧ !bit old 31 then
      (((s1.setPortReg .SL_STATUS p 1).setPortReg .SL_PEER p 0).setPort p PortS.init, true)
    else if !bit v 31 ∧ bit old 31 then ((s1.setPortReg .SL_STATUS p 0).setPort p PortS.init, true)
    else (s1, true)

/-- The lanes a port runs on, given those that trained: all eight, or half of them where degrading is allowed (R327). -/
def lanesInUse (trained : Nat) (half degrade : Bool) : Option (Nat × Bool) :=
  if trained = 0xFF ∧ !half then some (0xFF, false)
  else if !degrade then none
  else if trained % 16 = 0x0F then some (0x0F, true)
  else if trained / 16 = 0x0F then some (0xF0, true)
  else none

/-- PORT_TRAINED (R326, R327): SL_STATUS.LANES shows the lanes in use as a mask. [DESIGN CHOICE, log entry 76] -/
def execPortTrained (p : Fin 36) (lanes node : BitVec 8) (port : BitVec 6) (s : State) :
    Host.Outcome State Fault Refusal :=
  let st := s.portState p.val
  if st ≠ 1 ∧ st ≠ 3 then .next s
  else
    let v := s.portReg .SL_STATUS p.val
    match lanesInUse lanes.toNat (bit v 3) (bit (s.portReg .SL_CFG p.val) 29) with
    | none => .next (s.portFail p.val 0x04)
    | some (use, half) =>
      let peer := 2 ^ 31 + port.toNat * 2 ^ 8 + node.toNat
      if st = 3 ∧ s.portReg .SL_PEER p.val ≠ peer then .next (s.portFail p.val 0x05)
      else
        let v1 := setBits (setBits (setBits (setBits v 0 3 2) 3 1 (b2n half)) 4 1 1) 16 8 use
        let s1 := (s.setPortReg .SL_STATUS p.val v1).setPortReg .SL_PEER p.val peer
        .next ((s1.resendAll p.val).leaveFallback p.val)

/-- TRAINING_TIMEOUT (R326). -/
def execTrainingTimeout (p : Fin 36) (s : State) : Host.Outcome State Fault Refusal :=
  let st := s.portState p.val
  if (st = 1 ∨ st = 3) ∧ bits (s.portReg .SL_CFG p.val) 16 8 * 1024 ≤ (s.port p.val).trainLt then
    .next (s.portFail p.val 0x02)
  else .next s

/-- LANE_LOCK_LOSS (R327): `lanes` are the payload lanes that lost lock. With DEGRADE the port retrains on half of its lanes, and
stays there until EN has been written to 0 and then to 1. -/
def execLaneLockLoss (p : Fin 36) (lanes : BitVec 8) (s : State) : Host.Outcome State Fault Refusal :=
  if s.portState p.val ≠ 2 ∨ lanes.toNat &&& bits (s.portReg .SL_STATUS p.val) 16 8 = 0 then .next s
  else if bit (s.portReg .SL_CFG p.val) 29 then .next ((s.setPortBit p.val 3 true).portRetrain p.val)
  else .next (s.portFail p.val 0x04)

/-- REPLAY_TIMEOUT (R332, R336): 4 lt without acknowledgement progress. -/
def execReplayTimeout (p : Fin 36) (sync : Bool) (s : State) : Host.Outcome State Fault Refusal :=
  let x := s.port p.val
  if s.portState p.val ≠ 2 then .next s
  else if sync then
    match x.freplay with
    | e :: _ => if 4 ≤ x.fAckLt then .next (s.resendFrames p.val e.1) else .next s
    | [] => .next s
  else
    match x.replay with
    | e :: _ => if 4 ≤ x.ackLt then .next (s.resendFlits p.val e.1) else .next s
    | [] => .next s

/-- LINKCTL (R330, R332). -/
def execLinkctl (p : Fin 36) (ack nak : Option (BitVec 32)) (credits : List (BitVec 16)) (s : State) :
    Host.Outcome State Fault Refusal :=
  if s.portState p.val ≠ 2 then .next s
  else
    let s1 := s.flitsAcked p.val (ack.map BitVec.toNat)
    let x := s1.port p.val
    let s2 := (s1.setPort p.val { x with ret := takePad 0 4 (credits.map BitVec.toNat) }).pump p.val (x.queue.length + 1)
    match nak with
    | some q => .next (s2.resendFlits p.val q.toNat)
    | none => .next s2

/-- SYNC_LANE_LOSS (R336). -/
def execSyncLaneLoss (p : Fin 36) (s : State) : Host.Outcome State Fault Refusal :=
  if s.portState p.val ≠ 2 then .next s else .next ((s.setPortBit p.val 4 false).enterFallback p.val)

/-- SYNC_LANE_RETRAINED (R336). -/
def execSyncLaneRetrained (p : Fin 36) (s : State) : Host.Outcome State Fault Refusal :=
  if s.portState p.val ≠ 2 then .next s else .next ((s.setPortBit p.val 4 true).leaveFallback p.val)

/-- DAMAGED_FLIT_OR_FRAME (R329, R332): a damaged one is discarded with a NAK once per gap; a flit or frame that is whole and
next in sequence but of a reserved type is accepted by the link, discarded, and a flit counted in SL_ROUTE_DROP. [DESIGN CHOICE, log entry 76] -/
def execDamagedFlitOrFrame (p : Fin 36) (frame reserved : Bool) (s : State) : Host.Outcome State Fault Refusal :=
  if s.portState p.val ≠ 2 then .next s
  else if frame then
    if reserved then .next (s.acceptFrame p.val)
    else .next (s.nakFrame p.val)
  else if reserved then .next ((s.acceptFlit p.val 0).bumpPort .SL_ROUTE_DROP p.val 1)
  else .next (s.nakFlit p.val)

/-- IDLE_FRAME (R335). -/
def execIdleFrame (p : Fin 36) (ack : Option (BitVec 8)) (nak : Bool) (s : State) : Host.Outcome State Fault Refusal :=
  if s.portState p.val ≠ 2 ∨ !bit (s.portReg .SL_STATUS p.val) 4 then .next s
  else .next (s.frameAcks p.val (ack.map BitVec.toNat) nak)

/-- VETCH (R336): the flit carries a frame with its own sequence; one already accepted is dropped. -/
def execVetch (r : Rx) (fseq : BitVec 8) (fack : Option (BitVec 8)) (f : Frame) (s : State) :
    Host.Outcome State Fault Refusal :=
  .next (s.rxFlit r (rxAsFlit r 0x20 31 0 []) fun s1 =>
    let p := r.port.val
    let s2 := s1.framesAcked p (fack.map BitVec.toNat)
    let x := s2.port p
    if fseq.toNat ≠ x.fRx then s2
    else (s2.acceptFrame p).takeFrame p r.src.toNat r.dst.toNat r.hops.val f)

/-! ### Rows: memory accesses of the twin (R343) -/

/-- Whether a request may address this module's memory: it comes from the twin, and bit [43] names this module. -/
def State.fromTwin (s : State) (src addr : Nat) : Bool := src == s.twinNode && s.isOwn addr

/-- Serve a WR of the twin, or keep it until the capture's copy pointer has passed (R400). [DEDUCED, log entry 49] -/
def State.serveWr (s : State) (w : HeldWr) : State :=
  if !s.fromTwin w.node w.addr then s.respond 0x04 w.node w.tag true []
  else if s.guarded w.addr w.data.length then { s with heldWr := s.heldWr ++ [w] }
  else
    let (s1, e) := s.memWrite .twin w.addr w.data
    s1.respond 0x04 w.node w.tag e.isSome []

/-- Serve the writes that no longer wait. [DESIGN CHOICE, log entry 66] -/
def State.serveHeld (s : State) : State :=
  s.heldWr.foldl (fun z w => z.serveWr w) { s with heldWr := [] }

/-- WR. -/
def execWr (r : Rx) (addr : BitVec 44) (data : List (BitVec 8)) (s : State) : Host.Outcome State Fault Refusal :=
  let bs := data.map BitVec.toNat
  .next (s.rxFlit r (rxAsFlit r 0x01 (bs.length - 1) addr.toNat bs) fun s1 =>
    s1.serveWr ⟨r.src.toNat, r.tag.toNat, addr.toNat, bs⟩)

/-- RD_REQ. [DEDUCED, log entry 49] -/
def execRdReq (r : Rx) (addr : BitVec 44) (lm1 : BitVec 8) (s : State) : Host.Outcome State Fault Refusal :=
  .next (s.rxFlit r (rxAsFlit r 0x02 lm1.toNat addr.toNat []) fun s1 =>
    if !s1.fromTwin r.src.toNat addr.toNat then s1.respond 0x03 r.src.toNat r.tag.toNat true []
    else
      match s1.memRead .twin addr.toNat (lm1.toNat + 1) with
      | (s2, .ok bs) => s2.respond 0x03 r.src.toNat r.tag.toNat false bs
      | (s2, .error _) => s2.respond 0x03 r.src.toNat r.tag.toNat true [])

/-- Take the request that an answer names. -/
def State.takeAsked (s : State) (tag : Nat) (read : Bool) : Option (Asked × State) :=
  match s.asked.find? fun a => a.tag == tag && a.read == read with
  | some a => some (a, { s with asked := s.asked.erase a })
  | none => none

/-- RD_RESP: the requester takes the data or a read error. -/
def execRdResp (r : Rx) (err : Bool) (data : List (BitVec 8)) (s : State) : Host.Outcome State Fault Refusal :=
  let bs := data.map BitVec.toNat
  .next (s.rxFlit r (rxAsFlit r 0x03 (bs.length - 1) (b2n err) bs) fun s1 =>
    match s1.takeAsked r.tag.toNat true with
    | some (a, s2) =>
      match a.who with
      | .dmaSub d ch => s2.dmaDelivered d ch (if err then none else some bs)
      | .dma d ch => s2.dmaDeliver d ch a.tag (if err then none else some bs)
      | .cc => s2.answer (if err then .readError else .data bs)
      | _ => s2
    | none => s1)

/-- WR_ACK: the requester's write is accepted or refused. [DEDUCED, log entry 70] -/
def execWrAck (r : Rx) (err : Bool) (s : State) : Host.Outcome State Fault Refusal :=
  .next (s.rxFlit r (rxAsFlit r 0x04 0 (b2n err) []) fun s1 =>
    match s1.takeAsked r.tag.toNat false with
    | some (a, s2) =>
      match a.who with
      | .teasel core slot => if err then s2.teaFault core 0x04 slot else s2
      | .dma d ch => s2.dmaAcked d ch err
      | .cc => s2.answer (if err then .refused else .ok)
      | _ => s2
    | none => s1)

end Sys2Proof.Machine
end

