-- ==== Sys2Proof/Machine/Rennet.lean ====
section
/-!
DEFINITION. The root and solve engines (Rennet): refresh lists, intake, inverse roots, structured solves, degraded results and
publication (R246, R252 to R281).
-/

namespace Sys2Proof.Machine

/-! ### Fixed point (R35 to R37, R253) -/

/-- The integer nearest to num / den, ties to even; an open value for a zero denominator. [DESIGN CHOICE, log entry 27] -/
def divRne (num den : Int) : Int :=
  if den = 0 then Config.divZero num
  else
    let n := num.natAbs
    let d := den.natAbs
    let q := n / d
    let r := n % d
    let up := decide (d < 2 * r) || (2 * r == d && q % 2 == 1)
    sgnInt (decide (num < 0) != decide (den < 0)) (q + b2n up)

/-- Clamp to `w` bits; SAT where the value lies outside. -/
def satTo (w : Nat) (i : Int) : Int × Nat :=
  let (v, out) := clampSigned w i
  (v, flagIf out flSAT)

/-- Narrow a count of 2^-64 to Q2.30 (R37). -/
def narrow64 (i : Int) : Int × Nat := satTo 32 (divRne i (2 ^ 34))

/-- Add to a Q8.64 accumulator (R36). -/
def accAdd (acc : Int × Nat) (x : Int) : Int × Nat :=
  let (v, f) := satTo 72 (acc.1 + x)
  (v, acc.2 ||| f)

/-- Smallest integer L with 2^L ≥ m·2^e, for m above 0. -/
def ceilLog2 (m : Nat) (e : Int) : Int :=
  let l := Nat.log2 m
  (l : Int) + e + (if m = 2 ^ l then 0 else 1)

/-- A square matrix of Q2.30 entries by rows. -/
abbrev Mat := List (List Int)

/-- Entry (i, j) of a matrix. -/
def Mat.at (x : Mat) (i j : Nat) : Int := nth 0 (nth [] x i) j

/-- Build a matrix of order n from its entries, with the OR of their flags. -/
def Mat.build (n : Nat) (f : Nat → Nat → Int × Nat) : Mat × Nat :=
  (List.range n).foldl (fun (z : Mat × Nat) i =>
    let row := (List.range n).map fun j => f i j
    (z.1 ++ [row.map Prod.fst], row.foldl (fun g e => g ||| e.2) z.2)) ([], 0)

/-- Rows and columns of a matrix exchanged. -/
def Mat.transposed (x : Mat) (n : Nat) : Mat := (List.range n).map fun j => x.map fun row => nth 0 row j

/-- narrow(c + 2^-q · (row times column)) (R253, R261). -/
def narrowDot (q : Nat) (c : Int) (row col : List Int) : Int × Nat :=
  let (acc, f) := (row.zip col).foldl (fun z p => accAdd z (p.1 * p.2 * 2 ^ (4 - q))) (c * 2 ^ 34, 0)
  let (v, g) := narrow64 acc
  (v, f ||| g)

/-- narrow(c + 2^-q · (a times b)) over matrices of order n. -/
def mulAdd (n q : Nat) (c a b : Mat) : Mat × Nat :=
  let bt := b.transposed n
  Mat.build n fun i j => narrowDot q (c.at i j) (nth [] a i) (nth [] bt j)

/-! ### List entries and problems (R256, R257, R264) -/

/-- A refresh-list entry (Table 9.2). -/
structure RnEntry where
  mode : Nat
  p : Nat
  n : Nat
  epsExp : Nat
  ofmt : Nat
  opt : Nat
  limit : Nat
  src : Nat
  record : Nat
  outOff : Nat
  bound : Nat
  count : Nat
  rsvd : Nat
deriving DecidableEq, Repr

/-- The field of `n` bytes at offset `o`. -/
def fieldAt (bs : List Nat) (o n : Nat) : Nat := ofLeBytes ((bs.drop o).take n)

/-- The fields of Table 9.2. -/
def rnEntry (bs : List Nat) : RnEntry :=
  ⟨nth 0 bs 0, nth 0 bs 1, nth 0 bs 2, nth 0 bs 3, nth 0 bs 4, nth 0 bs 5, fieldAt bs 6 2, fieldAt bs 8 8,
   fieldAt bs 16 8, fieldAt bs 24 8, fieldAt bs 32 4, fieldAt bs 36 4, fieldAt bs 40 8⟩

/-- log₂ of P. -/
def RnEntry.q (x : RnEntry) : Nat := Nat.log2 x.p

/-- The output scale exponent s of R260. -/
def RnEntry.s (x : RnEntry) : Nat := 1 + ceilDiv (x.epsExp + 1) (Nat.max x.p 1)

/-- Whether a ROOT entry folds a record first. -/
def RnEntry.intake (x : RnEntry) : Bool := x.mode == 1 && bit x.opt 0

/-- Whether an LDLT entry applies a delta feed. -/
def RnEntry.feeds (x : RnEntry) : Bool := x.mode == 2 || x.mode == 4

/-- Whether an LDLT entry solves. -/
def RnEntry.solves (x : RnEntry) : Bool := x.mode == 3 || x.mode == 4

/-- Whether an address of `n` bytes lies in the staging SRAM of M-die m of this module. -/
def State.inStaging (s : State) (m addr n : Nat) : Bool :=
  decide (s.stAddr m 0 ≤ addr) && decide (addr + n ≤ s.stAddr m 0 + 0x4000000)

/-- Whether an address of `n` bytes lies in a tier of this module. -/
def State.inTier (s : State) (addr n : Nat) : Bool := decide (regionOf addr < 2) && decide (addr < 2 ^ 44) && s.populated addr n

/-- Whether the memory port reaches an address of `n` bytes: staging SRAM or a tier of this module (Table 9.1). -/
def State.rnReach (s : State) (addr n : Nat) : Bool :=
  s.inTier addr n || (List.range 12).any fun m => s.inStaging m addr n

/-- Whether an entry is invalid (R257); the output of a solve is checked with its descriptor. -/
def State.rnEntryBad (s : State) (m e : Nat) (x : RnEntry) : Bool :=
  let len := s.rg .RN_BUF_LEN (0x40 + m) 0 e
  let eps := decide (1 ≤ x.epsExp) && decide (x.epsExp ≤ 30)
  let common := eps && decide (x.opt ≤ 1) && x.rsvd == 0
  if x.mode = 1 then
    !(common && (x.p == 1 || x.p == 2 || x.p == 4) && decide (8 ≤ x.n) && decide (x.n ≤ 64) &&
      (x.ofmt == 0 || x.ofmt == 2) && x.limit == 0 && x.src % 256 == 0 && regionOf x.src == 1 && s.inTier x.src slotBytes &&
      (!x.intake || x.record % 256 == 0 && s.inTier x.record slotBytes) && x.outOff % 256 == 0 &&
      decide (x.bound ≤ 0x7FFFFFFF) && x.count == 0 && decide (x.s ≤ 22) &&
      decide (x.outOff + (if x.ofmt = 0 then 262144 else 131072) ≤ len))
  else if 2 ≤ x.mode ∧ x.mode ≤ 4 then
    !(common && x.p == 0 && x.n == 0 && x.ofmt == 0 && x.src % 64 == 0 && s.inStaging m x.src 64 &&
      (!x.feeds || x.record % 8 == 0 && decide (x.count ≤ 2 ^ 24) && (x.count == 0 || s.rnReach x.record (8 * x.count))) &&
      x.bound == 0 && decide (x.count ≤ 2 ^ 24))
  else true

/-- An LDLT problem: order in tiles, right-hand sides, schedule, pattern map (Table 9.7). -/
structure LdltP where
  t : Nat
  r : Nat
  sched : List Nat
  map : List Nat
  rhs : Nat
  tau : Nat
deriving DecidableEq, Repr

/-- The slot of tile (i, j), i ≥ j. -/
def LdltP.slot (x : LdltP) (i j : Nat) : Option Nat :=
  let v := nth 0xFF x.map (64 * i + j)
  if v = 0xFF then none else some v

/-- What reading a problem meets: the problem, or a Rennet fault cause. -/
inductive RnAns (α : Type) where
  | ok (a : α)
  | fault (cause : Nat)
deriving DecidableEq, Repr

/-- Read staging SRAM or a tier for an engine. -/
def State.rnRead (s : State) (m : Fin 12) (e : Fin 4) (addr n : Nat) : State × RnAns (List Nat) :=
  if !s.rnReach addr n then (s, .fault 0x02)
  else
  match s.memRead (.rennet m e) addr n with
  | (s1, .ok bs) => (s1, .ok bs)
  | (s1, .error _) => (s1, .fault 0x02)

/-- Read and check the problem of an entry (R264). -/
def State.ldltProblem (s : State) (m : Fin 12) (e : Fin 4) (x : RnEntry) : State × RnAns LdltP :=
  match s.rnRead m e x.src 64 with
  | (s1, .fault c) => (s1, .fault c)
  | (s1, .ok d) =>
    let t := nth 0 d 0
    let r := nth 0 d 1
    let len := fieldAt d 4 4
    let sched := fieldAt d 8 8
    let map := fieldAt d 16 8
    let rhs := fieldAt d 24 8
    let tau := fieldAt d 32 8
    if t = 0 ∨ 64 < t ∨ 8 < r ∨ fieldAt d 2 2 ≠ 0 ∨ sched % 8 ≠ 0 ∨ !s1.inStaging m sched (8 * len) ∨ map % 64 ≠ 0 ∨
        !s1.inStaging m map 4096 ∨ rhs % 256 ≠ 0 ∨ 2 ^ 44 ≤ rhs ∨ 2 ≤ regionOf rhs ∨
        (r ≠ 0 ∧ !s1.inTier rhs (256 * t * r)) ∨ tau < 2 ^ 34 ∨ 2 ^ 48 < tau ∨
        (d.drop 40).any (fun b => b != 0) then (s1, .fault 0x06)
    else
      match s1.rnRead m e map 4096 with
      | (s2, .fault c) => (s2, .fault c)
      | (s2, .ok mp) =>
        match s2.rnRead m e sched (8 * len) with
        | (s3, .fault c) => (s3, .fault c)
        | (s3, .ok ws) =>
          let x : LdltP := ⟨t, r, (chunks 8 (ws.length + 1) ws).map ofLeBytes, mp, rhs, tau⟩
          if mp.zipIdx.any (fun e => e.1 != 0xFF && decide (240 ≤ e.1) && decide (e.2 % 64 ≤ e.2 / 64)) ∨
              (List.range t).any (fun i => (x.slot i i).isNone) then (s3, .fault 0x06)
          else (s3, .ok x)

/-! ### Intake (R246, R258, R265) -/

/-- The arithmetic of Rennet: RNE and the fast-mode overflow rule (R246, R253, R262). -/
def rnArith (a : Arith) : Arith := { a with strict := false }

/-- Fold a record into a factor block (R246): the new block and the flags, none where it stays. -/
def State.foldRecord (s : State) (ar : Arith) (f r : List Nat) : Option (List Nat × Nat) :=
  let rows := fieldAt r 16 8
  if rows = 0 ∨ s.anyOverflow (fieldAt r 24 8) (fieldAt r 32 8) then none
  else
    let beta := fieldAt r 8 4
    let (a, fa) := fsub ar .fp32 0x3F800000 beta
    let (n, fn) := roundFin ar .fp32 false rows 0
    let (c, fc) := fdiv ar .fp32 a n
    let (tiles, ft) := ((elems 4 (f.drop 256)).zip (elems 4 (r.drop 256))).foldl (fun (z : List Nat × Nat) p =>
      let (u, fu) := fmul ar .fp32 c p.2
      let (v, fv) := ffma ar .fp32 beta p.1 u
      (leBytes 4 v ++ z.1, z.2 ||| fu ||| fv)) ([], 0)
    let ordered := ((chunks 4 (tiles.length + 1) tiles).reverse).flatten
    let head := f.take 16 ++ (r.drop 16).take 28 ++ (f.drop 44).take 212
    some (head ++ ordered, fa ||| fn ||| fc ||| ft)

/-- Intake of a ROOT entry under the control latched at the refresh (R63): none, or a fault cause. -/
def State.rootIntake (s : State) (m : Fin 12) (e : Fin 4) (x : RnEntry) : State × Option Nat :=
  match s.rnRead m e x.record slotBytes with
  | (s1, .fault c) => (s1, some c)
  | (s1, .ok r) =>
    match s1.rnRead m e x.src slotBytes with
    | (s2, .fault c) => (s2, some c)
    | (s2, .ok f) =>
      match s2.foldRecord (rnArith (s2.ren m e).arith) f r with
      | none => (s2, none)
      | some (g, flags) =>
        match s2.memWrite (.rennet m e) x.src g with
        | (s3, none) => (s3.raise (0x40 + m) e flags, none)
        | (s3, some _) => (s3, some 0x03)

/-- Key of entry (r, c) of a tile slot. -/
def tileKey (slot r c : Nat) : Nat := slot * 4096 + r * 64 + c

/-- Apply one feed word to the stored matrix: none where it is skipped (R265). -/
def feedWord (p : LdltP) (a : List (Nat × BitVec 32)) (w : Nat) : Option (List (Nat × BitVec 32)) :=
  let v := BitVec.ofNat 32 (bits w 32 32)
  let row := bits w 20 12
  let col := bits w 8 12
  if 64 * p.t ≤ row ∨ 64 * p.t ≤ col then none
  else
    let hi := Nat.max row col
    let lo := Nat.min row col
    match p.slot (hi / 64) (lo / 64) with
    | none => none
    | some k =>
      let b := Sparse.set (fun _ => 0) a (tileKey k (hi % 64) (lo % 64)) v
      some (if hi / 64 = lo / 64 then Sparse.set (fun _ => 0) b (tileKey k (lo % 64) (hi % 64)) v else b)

/-- Apply a feed in order; the Bool says whether a word was skipped. -/
def feedAll (p : LdltP) : List (Nat × BitVec 32) → List Nat → List (Nat × BitVec 32) × Bool
  | a, [] => (a, false)
  | a, w :: ws =>
    match feedWord p a w with
    | some b => feedAll p b ws
    | none => ((feedAll p a ws).1, true)

/-- The slots of a problem's present tiles. -/
def LdltP.slots (p : LdltP) : List Nat :=
  (List.range p.t).flatMap fun i => (List.range (i + 1)).filterMap fun j => p.slot i j

/-- Intake of an LDLT entry: the delta feed. -/
def State.ldltIntake (s : State) (m : Fin 12) (e : Fin 4) (i : Nat) (x : RnEntry) : State × Option Nat :=
  match s.ldltProblem m e x with
  | (s1, .fault c) => (s1, some c)
  | (s1, .ok p) =>
    let feed : State × RnAns (List Nat) := if x.count = 0 then (s1, .ok []) else s1.rnRead m e x.record (8 * x.count)
    match feed with
    | (s2, .fault c) => (s2, some c)
    | (s2, .ok bs) =>
      let r := s2.ren m e
      let a := if bit x.opt 0 then r.a.filter fun q => !p.slots.contains (q.1 / 4096) else r.a
      let (b, skipped) := feedAll p a ((chunks 8 (bs.length + 1) bs).map ofLeBytes)
      let r1 := { r with a := b }
      (s2.setRen m e (if skipped then { r1 with skipped := r1.skipped ++ [i] } else r1), none)

/-- Read list entry i of an engine. -/
def State.rnEntryAt (s : State) (m : Fin 12) (e : Fin 4) (i : Nat) : State × RnAns RnEntry :=
  let a := s.rnEntryAddr m e i
  match (if s.inStaging m a 64 then s.rnRead m e a 64 else (s, .fault 0x02)) with
  | (s1, .fault c) => (s1, .fault c)
  | (s1, .ok bs) =>
    let x := rnEntry bs
    if s1.rnEntryBad m e x then (s1, .fault 0x05) else (s1, .ok x)

/-- Entries of an engine's list. -/
def State.rnCount (s : State) (m e : Nat) : Nat := bits (s.rg .RN_LIST (0x40 + m) 0 e) 32 16

/-- Take in list entry i: the fault cause and the entry where it fails. -/
def intakeOne (m : Fin 12) (e : Fin 4) (s : State) (i : Nat) : State × Option (Nat × Nat) :=
  match s.rnEntryAt m e i with
  | (s1, .fault c) => (s1, some (c, i))
  | (s1, .ok x) =>
    let done : State × Option Nat :=
      if x.intake then s1.rootIntake m e x
      else if x.feeds then s1.ldltIntake m e i x
      else (s1, none)
    (done.1, done.2.map fun c => (c, i))

/-- Intake of the first `n` entries; a fault names its entry. -/
def State.intakeRun (s : State) (m : Fin 12) (e : Fin 4) (n : Nat) : State × Option (Nat × Nat) :=
  s.untilFail (intakeOne m e) (List.range n)

/-- Whether an intake would write a factor block that waits for a capture's copy pointer (R400). -/
def State.intakeGuarded (s : State) (m e : Nat) : Bool :=
  s.guards != [] && ((List.range (s.rnCount m e)).any fun i =>
    let x := rnEntry (s.bytes (s.rnEntryAddr m e i) 64)
    x.intake && s.guarded x.src slotBytes)

/-! ### Inverse roots (R260 to R262) -/

/-- What a job delivers: degradation cause (0 none), flags, residual or pivots, scale exponent (none where the job ended
before it was computed), floored pivots, output bytes. -/
structure RnResult where
  cause : Nat
  flags : Nat
  mid : Nat
  m : Option Int
  floored : Nat
  out : List Nat
deriving DecidableEq, Repr

/-- |x| of an FP32 value. -/
def fabs32 (x : Nat) : Nat := bits x 0 31

/-- Sum of the magnitudes of a row in order, every addition toward +∞ (R260, step 1). -/
def rowSum (ar : Arith) : Nat → List Nat → Nat × Nat
  | acc, [] => (acc, 0)
  | acc, x :: xs =>
    let (va, fa) := fin ar .fp32 acc
    let (vx, fx) := fin ar .fp32 (fabs32 x)
    let (v, fv) := sumVal ar va vx
    let (r, fr) :=
      match v with
      | .fin n k j => roundWith ar .rup .fp32 n k j
      | w => deliver ar .fp32 w
    let (z, fz) := rowSum ar r xs
    (z, fa ||| fx ||| fv ||| fr ||| fz ||| flagIf (Fp.fp32.isNan x) flNVF)

/-- The larger of two row sums; a NaN stays. -/
def maxSum (x y : Nat) : Nat :=
  if Fp.fp32.isNan x then x else if Fp.fp32.isNan y then y else if x < y then y else x

/-- The normalised input of R260 (steps 1 to 5) of a matrix of FP32 entries: cause, flags, m, and the entries. -/
def normalise (ar : Arith) (p epsExp w : Nat) (a : Nat → Nat → Nat) : Nat × Nat × Int × (Nat → Nat → Int × Nat) :=
  let (g0, f0) := (List.range w).foldl (fun (z : Nat × Nat) i =>
    let (r, f) := rowSum ar 0 ((List.range w).map fun j => a i j)
    (maxSum z.1 r, z.2 ||| f)) (0, 0)
  match Fp.fp32.unpack g0 with
  | .fin _ k j =>
    if w = 0 ∨ k = 0 then (1, f0, 0, fun _ _ => (0, 0))
    else
      let (eps, f1) := roundWith ar .rup .fp32 false k (j - epsExp)
      let (v0, _) := fin ar .fp32 g0
      let (v1, f2) := fin ar .fp32 eps
      let (v, _) := sumVal ar v0 v1
      let (g, f3) :=
        match v with
        | .fin n k j => roundWith ar .rup .fp32 n k j
        | x => deliver ar .fp32 x
      let m : Int :=
        match Fp.fp32.unpack g with
        | .fin _ k j =>
          let l := ceilLog2 k j;
          0 - (0 - l) / (p : Int)
        | _ => 0
      let sh : Int := -((p : Int) * m)
      let conv (x : Nat) : Int × Nat :=
        match fin ar .fp32 x with
        | (.fin n k j, _) => toQ230 n k (j + sh)
        | _ => (0, 0)
      let ce := conv eps
      (0, f0 ||| f1 ||| f2 ||| f3, m, fun i j =>
        let x := conv (a i j)
        if i = j then
          let (v, f) := satTo 32 (x.1 + ce.1)
          (v, x.2 ||| ce.2 ||| f)
        else x)
  | _ => (1, f0, 0, fun _ _ => (0, 0))

/-- Entry (i, j) of a factor block, from its tiles (R227). -/
def blockEntry (tiles : List Nat) (i j : Nat) : Nat :=
  let hi := Nat.max i j
  let lo := Nat.min i j
  let (r, c) := if i / 16 = j / 16 then (i % 16, j % 16) else (lo % 16, hi % 16)
  let ti := lo / 16
  let tile := ti * 16 - ti * (ti - 1) / 2 + (hi / 16 - ti)
  nth 0 tiles (256 * tile + 16 * r + c)

/-- The identity scaled. -/
def diagMat (n : Nat) (v : Int) : Mat := (List.range n).map fun i => (List.range n).map fun j => if i = j then v else 0

/-- w ← narrow(w + 2^-q · (v times w)), `k` times. -/
def powSteps (q : Nat) (v : Mat) : Nat → Mat → Mat × Nat
  | 0, w => (w, 0)
  | k + 1, w =>
    let (w1, f) := mulAdd 256 q w v w
    let (w2, g) := powSteps q v k w1
    (w2, f ||| g)

/-- The iterations of R261. -/
def rootIter (p q : Nat) : Nat → Mat → Mat → Mat × Mat × Nat
  | 0, y, m => (y, m, 0)
  | n + 1, y, m =>
    let (v, f0) := Mat.build 256 fun i j => satTo 32 ((if i = j then 2 ^ 30 else 0) - m.at i j)
    let (y1, f1) := mulAdd 256 q y y v
    let (m1, f2) := powSteps q v p m
    let (y2, m2, f3) := rootIter p q n y1 m1
    (y2, m2, f0 ||| f1 ||| f2 ||| f3)

/-- RESID of R262. -/
def residual (w : Nat) (m : Mat) : Nat :=
  let rows := (List.range w).map fun i =>
    (List.range w).foldl (fun z j => z + ((if i = j then 2 ^ 30 else 0) - m.at i j).natAbs) 0
  Nat.min (rows.foldl Nat.max 0) 0x7FFFFFFF

/-- A ROOT job over the bytes of its factor block (R260 to R262). -/
def rootJob (ar : Arith) (x : RnEntry) (block : List Nat) : RnResult :=
  let w := fieldAt block 14 2
  let tiles := elems 4 (block.drop 256)
  if w = 0 ∨ 256 < w then ⟨1, 0, 0, none, 0, []⟩
  else
    let (c, f0, m, entry) := normalise ar x.p x.epsExp w (blockEntry tiles)
    if c ≠ 0 then ⟨1, f0, 0, none, 0, []⟩
    else
      let (an, f1) := Mat.build 256 fun i j =>
        if i < w ∧ j < w then entry i j else (if i = j then (2 ^ 30, 0) else (0, 0))
      let (y, mn, f2) := rootIter x.p x.q x.n (diagMat 256 (2 ^ (30 - x.s))) an
      let resid := residual w mn
      let ofm : Fp := if x.ofmt = 0 then .fp32 else .bf16
      let (out, f3) := (List.range 256).foldl (fun (z : List (List Nat) × Nat) i =>
        let row := (List.range 256).map fun j =>
          if i < w ∧ j < w then
            let (v, fv) := satTo 32 (divRne (y.at i j + y.at j i) 2)
            let (r, fr) := roundWith ar .rne ofm (decide (v < 0)) v.natAbs ((x.s : Int) - m - 30)
            (r, fv ||| fr)
          else (0, 0)
        ((row.flatMap fun e => leBytes ofm.size e.1) :: z.1, row.foldl (fun g e => g ||| e.2) z.2)) ([], 0)
      let flags := f0 ||| f1 ||| f2 ||| f3
      let cause := if bit flags 4 then 2 else if bit f3 1 then 3 else if x.bound < resid then 4 else 0
      ⟨cause, flags, resid, some m, 0, out.reverse.flatten⟩

/-! ### Structured solves (R266 to R269) -/

/-- Working factor, pivots and work vectors of a schedule in progress: the vectors of `cols` right-hand sides, by column · 4,096 +
row. -/
structure LdltW where
  f : List (Nat × BitVec 32)
  piv : List (Nat × BitVec 64)
  y : List (Nat × BitVec 64)
  cols : Nat
  flags : Nat
  floored : Nat
deriving DecidableEq, Repr

/-- Entry (r, c) of a tile of the working factor, in 2^-30. -/
def LdltW.l (x : LdltW) (k r c : Nat) : Int := (Sparse.get (fun _ => (0 : BitVec 32)) x.f (tileKey k r c)).toInt

/-- Store an entry of the working factor. -/
def LdltW.setL (x : LdltW) (k r c : Nat) (v : Int × Nat) : LdltW :=
  { x with f := Sparse.set (fun _ => 0) x.f (tileKey k r c) (BitVec.ofInt 32 v.1), flags := x.flags ||| v.2 }

/-- Pivot d_n, in 2^-48. -/
def LdltW.d (x : LdltW) (n : Nat) : Int := (Sparse.get (fun _ => (0 : BitVec 64)) x.piv n).toInt

/-- Entry n of the work vector of column c, in 2^-48. -/
def LdltW.v (x : LdltW) (c n : Nat) : Int := (Sparse.get (fun _ => (0 : BitVec 64)) x.y (c * 4096 + n)).toInt

/-- Store an entry of a work vector. -/
def LdltW.setV (x : LdltW) (c n : Nat) (v : Int × Nat) : LdltW :=
  { x with y := Sparse.set (fun _ => 0) x.y (c * 4096 + n) (BitVec.ofInt 64 v.1), flags := x.flags ||| v.2 }

/-- Do something for every column of the right-hand sides. -/
def LdltW.each (x : LdltW) (g : LdltW → Nat → LdltW) : LdltW := (List.range x.cols).foldl g x

/-- The exact sum of terms over a range. -/
def sumOver (n : Nat) (f : Nat → Int) : Int := (List.range n).foldl (fun z k => z + f k) 0

/-- A pivot, floored at τ (R266). -/
def LdltW.setPivot (x : LdltW) (n : Nat) (tau : Nat) (v : Int × Nat) : LdltW :=
  if v.1 < tau then
    { x with
      piv := Sparse.set (fun _ => 0) x.piv n (BitVec.ofNat 64 tau), flags := x.flags ||| v.2 ||| flPIVF
      floored := x.floored + 1 }
  else { x with piv := Sparse.set (fun _ => 0) x.piv n (BitVec.ofInt 64 v.1), flags := x.flags ||| v.2 }

/-- FACT (Table 9.8): column by column; products of two factor entries and a pivot are counts of 2^-108. -/
def LdltW.fact (x : LdltW) (k row tau : Nat) : LdltW :=
  let a := x
  let z := (List.range 64).foldl (fun (z : LdltW) j =>
    let dj : Int := z.l k j j * 2 ^ 78 - sumOver j fun t => z.l k j t * z.l k j t * z.d (64 * row + t)
    let z1 := z.setPivot (64 * row + j) tau (satTo 64 (divRne dj (2 ^ 60)))
    let d := z1.d (64 * row + j)
    (List.range (63 - j)).foldl (fun (u : LdltW) r =>
      let i := j + 1 + r
      let num : Int := a.l k i j * 2 ^ 78 - sumOver j fun t => u.l k i t * u.d (64 * row + t) * u.l k j t
      u.setL k i j (satTo 32 (divRne num (d * 2 ^ 30)))) z1) x
  (List.range 64).foldl (fun (u : LdltW) j =>
    (List.range (64 - j)).foldl (fun (w : LdltW) c => w.setL k j (j + c) (if c = 0 then 2 ^ 30 else 0, 0)) u) z

/-- TRSM: rows of Y from the left, each entry narrowed once. -/
def LdltW.trsm (x : LdltW) (kx ky row : Nat) : LdltW :=
  (List.range 64).foldl (fun (z : LdltW) a =>
    (List.range 64).foldl (fun (u : LdltW) j =>
      let num : Int := u.l ky a j * 2 ^ 78 - sumOver j fun t => u.l ky a t * u.d (64 * row + t) * u.l kx j t
      u.setL ky a j (satTo 32 (divRne num (u.d (64 * row + j) * 2 ^ 30)))) z) x

/-- UPD: Z − X · D · Yᵀ. -/
def LdltW.upd (x : LdltW) (kx ky kz row : Nat) : LdltW :=
  (List.range 64).foldl (fun (z : LdltW) a =>
    (List.range 64).foldl (fun (u : LdltW) b =>
      let num : Int := x.l kz a b * 2 ^ 78 - sumOver 64 fun t => x.l kx a t * x.d (64 * row + t) * x.l ky b t
      u.setL kz a b (satTo 32 (divRne num (2 ^ 78)))) z) x

/-- FWD and BWD: unit triangular solves with a diagonal tile, forward or backward. -/
def LdltW.tri (x : LdltW) (k row : Nat) (fwd : Bool) : LdltW :=
  x.each fun x c => (List.range 64).foldl (fun (u : LdltW) n =>
    let a := if fwd then n else 63 - n
    let s := sumOver n fun t =>
      if fwd then u.l k a t * u.v c (64 * row + t) else u.l k (63 - t) a * u.v c (64 * row + (63 - t))
    u.setV c (64 * row + a) (satTo 64 (divRne (u.v c (64 * row + a) * 2 ^ 30 - s) (2 ^ 30)))) x

/-- FWDU and BWDU: y_dst ← y_dst − L y_src, or with Lᵀ. -/
def LdltW.triUpd (x : LdltW) (k dst src : Nat) (tr : Bool) : LdltW :=
  x.each fun x c => (List.range 64).foldl (fun (u : LdltW) a =>
    let s := sumOver 64 fun t => (if tr then x.l k t a else x.l k a t) * x.v c (64 * src + t)
    u.setV c (64 * dst + a) (satTo 64 (divRne (x.v c (64 * dst + a) * 2 ^ 30 - s) (2 ^ 30)))) x

/-- DIAG. -/
def LdltW.diag (x : LdltW) (row : Nat) : LdltW :=
  x.each fun x c => (List.range 64).foldl (fun (u : LdltW) a =>
    u.setV c (64 * row + a) (satTo 64 (divRne (u.v c (64 * row + a) * 2 ^ 48) (u.d (64 * row + a))))) x

/-- Whether the slots and tile rows of a schedule word are such that the engine takes it, END included (R267). -/
def wordFields (t w : Nat) : Bool :=
  decide (bits w 48 8 < 240) && decide (bits w 40 8 < 240) && decide (bits w 32 8 < 240) &&
    decide (bits w 24 8 < t) && decide (bits w 16 8 < t)

/-- One schedule word (Table 9.8): none for a word that R267 makes a fault. -/
def LdltW.word (x : LdltW) (t tau w : Nat) : Option LdltW :=
  let kx := bits w 48 8
  let ky := bits w 40 8
  let kz := bits w 32 8
  let i := bits w 24 8
  let j := bits w 16 8
  if !wordFields t w then none
  else
    match bits w 56 8 with
    | 0x01 => some (x.fact kx i tau)
    | 0x02 => some (x.trsm kx ky i)
    | 0x03 => some (x.upd kx ky kz i)
    | 0x08 => some (x.tri kx i true)
    | 0x09 => some (x.triUpd kx j i false)
    | 0x0A => some (x.diag i)
    | 0x0B => some (x.triUpd kx i j true)
    | 0x0C => some (x.tri kx i false)
    | _ => none

/-- Run a section: what it leaves, and whether its END was reached; a bad word or a missing END is a fault, and the words before it
have had their effect (R267). -/
def LdltW.section_ (t tau : Nat) : LdltW → List Nat → LdltW × Bool
  | x, [] => (x, false)
  | x, w :: ws =>
    if bits w 56 8 = 0 then (x, wordFields t w)
    else
      match x.word t tau w with
      | some y => LdltW.section_ t tau y ws
      | none => (x, false)

/-- The words after the first END. -/
def afterEnd : List Nat → List Nat
  | [] => []
  | w :: ws => if bits w 56 8 = 0 then ws else afterEnd ws

/-- Entry (i, j) of the stored matrix as FP32. -/
def storedEntry (p : LdltP) (a : List (Nat × BitVec 32)) (i j : Nat) : Nat :=
  let hi := Nat.max i j
  let lo := Nat.min i j
  match p.slot (hi / 64) (lo / 64) with
  | some k => (Sparse.get (fun _ => (0 : BitVec 32)) a (tileKey k (hi % 64) (lo % 64))).toNat
  | none => 0

/-- Write the normalised entries of the present tiles into the working factor. -/
def LdltP.load (p : LdltP) (entry : Nat → Nat → Int × Nat) (x : LdltW) : LdltW :=
  (List.range p.t).foldl (fun (z : LdltW) i =>
    (List.range (i + 1)).foldl (fun (z : LdltW) j =>
      match p.slot i j with
      | none => z
      | some k =>
        (List.range 64).foldl (fun (u : LdltW) r =>
          (List.range 64).foldl (fun (w : LdltW) c => w.setL k r c (entry (64 * i + r) (64 * j + c))) u) z) z) x

/-- Smallest r_c with 2^(r_c) at least every magnitude of a column; none for an all-zero column (R268). -/
def columnScale (vals : List FVal) : Option Int :=
  vals.foldl (fun (z : Option Int) v =>
    match v with
    | .fin _ k j =>
      if k = 0 then z
      else
        match z with
        | none => some (ceilLog2 k j)
        | some l => some (if l < ceilLog2 k j then ceilLog2 k j else l)
    | _ => z) none

/-- The columns of the right-hand sides enter the work vectors (R268): their scales by column. -/
def LdltW.enter (x : LdltW) (ar : Arith) : Nat → List (List Nat) → LdltW × List (Option Int)
  | _, [] => (x, [])
  | c, b :: bs =>
    let vals := b.map fun w => fin ar .fp32 w
    let scale := columnScale (vals.map Prod.fst)
    let y := vals.zipIdx.foldl (fun (z : LdltW) v =>
      match v.1.1 with
      | .fin n k j =>
        let (q, f) := toQ230 n k (j - scale.getD 0)
        z.setV c v.2 (q * 2 ^ 18, f ||| v.1.2)
      | _ => z) x
    let r := y.enter ar (c + 1) bs
    (r.1, scale :: r.2)

/-- The FP32 results of a column, and their flags (R268): an all-zero column yields zeros. -/
def LdltW.leave (x : LdltW) (ar : Arith) (m : Int) (c rows : Nat) (scale : Option Int) : List Nat × Nat :=
  match scale with
  | none => (List.replicate (4 * rows) 0, 0)
  | some rc =>
    let out := (List.range rows).map fun n =>
      let v := x.v c n
      roundWith ar .rne .fp32 (decide (v < 0)) v.natAbs (rc - m - 48)
    (out.flatMap fun e => leBytes 4 e.1, out.foldl (fun g e => g ||| e.2) 0)

/-- What an LDLT job leaves in the engine, or a fault cause with what it had done by then. -/
inductive LdltAns where
  | done (r : RnResult) (w : LdltW) (m : Int) (valid : Bool)
  | fault (cause : Nat) (w : LdltW) (m : Int)
deriving DecidableEq, Repr

/-- What a part of an LDLT job leaves: the engine's data, scale exponent, degradation cause and flags, and whether the schedule was
valid. -/
structure LdltPart where
  w : LdltW
  m : Int
  cause : Nat
  flags : Nat
  ok : Bool
  out : List Nat
deriving DecidableEq, Repr

/-- The engine's data before a part of a job. -/
def RenS.work (r : RenS) (p : LdltP) : LdltW := ⟨r.f, r.piv, r.y, p.r, 0, 0⟩

/-- The factor part of an LDLT job (R266, R269, R270). -/
def ldltFactor (ar : Arith) (r : RenS) (e : RnEntry) (p : LdltP) (skipped : Bool) : LdltPart :=
  let (c, f0, m, entry) := normalise ar 1 e.epsExp (64 * p.t) (storedEntry p r.a)
  if c ≠ 0 then ⟨{ r.work p with flags := f0 }, m, 1, f0, true, []⟩
  else
    let (w, ok) := LdltW.section_ p.t p.tau (p.load entry (r.work p)) p.sched
    let flags := f0 ||| w.flags
    ⟨w, m, if bit flags 4 then 2 else if e.limit < w.floored then 5 else if skipped then 6 else 0, flags, ok, []⟩

/-- The solve part (R268 to R270). -/
def ldltSolve (ar : Arith) (w : LdltW) (p : LdltP) (m : Int) (rhs : List Nat) : LdltPart :=
  let cols := chunks (64 * p.t) (p.r + 1) (elems 4 rhs)
  if cols.any fun b => b.any fun x => Fp.fp32.nonFinite x then ⟨w, m, 1, 0, true, []⟩
  else
    let (y, scales) := ({ w with flags := 0 } : LdltW).enter ar 0 cols
    let (z, ok) := LdltW.section_ p.t p.tau y (afterEnd p.sched)
    let outs := scales.zipIdx.map fun e => z.leave ar m e.2 (64 * p.t) e.1
    let f := outs.foldl (fun g e => g ||| e.2) z.flags
    ⟨z, m, if bit f 4 then 2 else if bit f 1 then 3 else 0, f, ok, outs.flatMap Prod.fst⟩

/-- An LDLT job (R266 to R270). -/
def ldltJob (ar : Arith) (r : RenS) (valid skipped : Bool) (e : RnEntry) (p : LdltP) (rhs : List Nat) : LdltAns :=
  if e.mode = 3 then
    if !valid then .done ⟨7, 0, 0, none, 0, []⟩ (r.work p) r.m false
    else
      let z := ldltSolve ar (r.work p) p r.m rhs
      if z.ok then .done ⟨z.cause, z.flags, z.w.floored % 65536, some r.m, z.w.floored, z.out⟩ z.w r.m true
      else .fault 0x06 { z.w with flags := z.flags } r.m
  else
    let a := ldltFactor ar r e p skipped
    let mid := a.w.floored % 65536
    let ms := if a.cause = 1 then none else some a.m
    if !a.ok then .fault 0x06 { a.w with flags := a.flags } a.m
    else if a.cause ≠ 0 ∨ e.mode = 2 then .done ⟨a.cause, a.flags, mid, ms, a.w.floored, []⟩ a.w a.m (a.cause == 0)
    else
      let z := ldltSolve ar a.w p a.m rhs
      let flags := a.flags ||| z.flags
      if z.ok then .done ⟨z.cause, flags, z.w.floored % 65536, ms, z.w.floored, z.out⟩ z.w a.m true
      else .fault 0x06 { z.w with flags := flags } a.m

/-! ### Jobs and publication (R259, R270 to R273) -/

/-- Addresses of the current and the shadow buffer of an engine. -/
def State.rnBuffers (s : State) (m e : Nat) : Nat × Nat :=
  let d := 0x40 + m
  let a := s.rg .RN_BUF0 d 0 e
  let b := s.rg .RN_BUF1 d 0 e
  if s.rg .RN_BUF_SEL d 0 e = 0 then (a, b) else (b, a)

/-- Bytes of a job's output. -/
def RnEntry.outLen (x : RnEntry) (p : Option LdltP) : Nat :=
  if x.mode = 1 then (if x.ofmt = 0 then 262144 else 131072)
  else if x.solves then
    match p with
    | some q => 256 * q.t * q.r
    | none => 0
  else 0

/-- Publish and wait for the decision of the latched instance (R255 step 4, R273). -/
def State.rnPublish (s : State) (m e : Nat) : State :=
  let d := 0x40 + m
  let h := bits (s.g .ROOT_CFG) 0 4
  let x := s.ren m e
  let pub := bit (s.rg .RN_TRIG d 0 e) 15
  let s1 := s.setRenState m e 4
  if x.decided then (if pub then s1.rennetMissed m e else s1).rennetArm m e
  else if !pub then s1
  else if !(s1.hoopUndecided h && s1.hoopInst h == x.inst) then s1.rennetMissed m e
  else
    match s1.hoopStage h 2 (BitVec.ofNat 64 (d * 256 + e)) (BitVec.ofNat 64 (1 - s1.rg .RN_BUF_SEL d 0 e)) with
    | (s2, 0) => (s2.hoopReady h).1
    | (s2, _) => s2.rennetMissed m e

/-- The output of an entry in the shadow buffer: the result, or where the job failed the current value again (R267, R273): a
fault cause where an access fails. -/
def State.rnCopy (s : State) (m : Fin 12) (e : Fin 4) (x : RnEntry) (len : Nat) (r : RnResult) : State × Option Nat :=
  let (cur, sh) := s.rnBuffers m e
  if len = 0 then (s, none)
  else if r.cause = 0 then
    let w := s.memWrite (.rennet m e) (sh + x.outOff) r.out
    (w.1, w.2.map fun _ => 0x03)
  else
    match s.readRaw (cur + x.outOff) len with
    | (s1, .error _) => (s1, some 0x02)
    | (s1, .ok bs) =>
      let w := s1.memWrite (.rennet m e) (sh + x.outOff) bs
      (w.1, w.2.map fun _ => 0x03)

/-- The bytes 48 to 63 of an entry after its job: a root job has no scale, so it leaves an open value there. [DEDUCED, log entry 12] -/
def State.rnResult (s : State) (m : Fin 12) (e : Fin 4) (i : Nat) (r : RnResult) : State × Option MemErr :=
  let (o, s1) := if r.m.isSome then ((0 : BitVec 64), s) else s.freshVal
  let scale : Int := match r.m with
    | some k => k * 2 ^ 48
    | none => o.toNat
  s1.rnWriteStatus m e i (if r.cause = 0 then 1 else 2) r.cause (r.flags % 512) r.mid scale

/-- The counters and the position of an engine after entry i: ENTRY names the next one, now in progress (Table 9.11), and the last
entry publishes the refresh. -/
def State.rnCounted (s : State) (m : Fin 12) (e : Fin 4) (i : Nat) (r : RnResult) : State :=
  let d := 0x40 + m.val
  let s4 := (s.raise d e r.flags).bump .RN_JOBS d 0 e 1
  let s5 := if r.cause = 0 then s4 else s4.bump .RN_DEGRADED d 0 e 1
  let s6 := if r.floored = 0 then s5 else s5.bump .RN_PIVOTS d 0 e r.floored
  let s7 := (s6.setFld .RN_STATUS d 0 e 16 16 (if i + 1 < s6.rnCount m e then i + 1 else i)).setRen m e { s6.ren m e with next := i + 1, arith := s6.arith d }
  if i + 1 < s7.rnCount m e then s7 else s7.rnPublish m e

/-- Deliver the result of entry i: output or copy of the current one, status bytes, counters (R256, R270). -/
def State.rnDeliver (s : State) (m : Fin 12) (e : Fin 4) (i : Nat) (x : RnEntry) (len : Nat) (r : RnResult) : State :=
  match s.rnCopy m e x len r with
  | (s1, some c) => s1.rennetFault m e c i
  | (s1, none) =>
    match s1.rnResult m e i r with
    | (s3, some _) => s3.rennetFault m e 0x03 i
    | (s3, none) => s3.rnCounted m e i r

/-- Whether the output of a job would wait for a capture's copy pointer (R400). -/
def State.rnGuarded (s : State) (m e : Nat) (x : RnEntry) (len : Nat) : Bool :=
  len != 0 && s.guarded ((s.rnBuffers m e).2 + x.outOff) len

/-- Run the job of the next entry. -/
def State.rnJob (s : State) (m : Fin 12) (e : Fin 4) : State :=
  let r := s.ren m e
  let i := r.next
  let d := 0x40 + m.val
  let ar := rnArith r.arith
  match s.rnEntryAt m e i with
  | (s1, .fault c) => s1.rennetFault m e c i
  | (s1, .ok x) =>
    if x.mode = 1 then
      let len := x.outLen none
      if s1.rnGuarded m e x len then s
      else
        match s1.rnRead m e x.src slotBytes with
        | (s2, .fault c) => s2.rennetFault m e c i
        | (s2, .ok b) => s2.rnDeliver m e i x len (rootJob ar x b)
    else
      match s1.ldltProblem m e x with
      | (s2, .fault c) => s2.rennetFault m e c i
      | (s2, .ok p) =>
        let len := x.outLen (some p)
        if s2.rg .RN_BUF_LEN d 0 e < x.outOff + len then s2.rennetFault m e 0x05 i
        else if s2.rnGuarded m e x len then s
        else
          let rhs : State × RnAns (List Nat) :=
            if x.solves ∧ p.r ≠ 0 then s2.rnRead m e p.rhs (256 * p.t * p.r) else (s2, .ok [])
          match rhs with
          | (s3, .fault c) => s3.rennetFault m e c i
          | (s3, .ok b) =>
            match ldltJob ar r (bit (s3.rg .RN_STATUS d 0 e) 8) (r.skipped.contains i) x p b with
            | .fault c w k =>
              let s4 := (s3.setRen m e { r with f := w.f, piv := w.piv, y := w.y, m := k }).raise d e w.flags
              (if w.floored = 0 then s4 else s4.bump .RN_PIVOTS d 0 e w.floored).rennetFault m e c i
            | .done res w k valid =>
              let left := if x.mode = 3 then r.skipped else r.skipped.filter (· != i)
              let s4 := s3.setRen m e { r with f := w.f, piv := w.piv, y := w.y, m := k, skipped := left }
              (s4.setFld .RN_STATUS d 0 e 8 1 (b2n valid)).rnDeliver m e i x len res

/-! ### Rows -/

/-- REFRESH (R255): the trigger is met; the engine latches the instance of its publication slot, and the arithmetic control for its
intake (R63). -/
def execRefresh (m : Fin 12) (e : Fin 4) (s : State) : Host.Outcome State Fault Refusal :=
  let d := 0x40 + m.val
  if s.renState m e ≠ 1 ∨ s.rnCount m e = 0 ∨ !s.granted d (.rennet e.val) then .next s
  else
    let h := bits (s.g .ROOT_CFG) 0 4
    let open_ := s.hoopUndecided h || (s.hoop h).opened == 0
    let s1 := (s.useGrant d (.rennet e.val)).bump .RN_REFRESH d 0 e 1
    let s2 := s1.setRen m e
      { s1.ren m e with
        inst := s1.hoopInst h, next := 0, decided := !open_, committed := !open_, arith := s1.arith d }
    .next (((s2.setFld .RN_STATUS d 0 e 16 16 0).setFld .RN_STATUS d 0 e 9 1 0).setRenState m e 2)

/-- Cause of Table 9.11. -/
def rnParityCause : RnParity → Nat
  | .block => 0x01
  | .cells => 0x07

/-- INTAKE_COMPLETE (R258, R274): with a parity error the intake of an open number of entries has been done. -/
def execIntakeComplete (m : Fin 12) (e : Fin 4) (flt : Option RnParity) (s : State) :
    Host.Outcome State Fault Refusal :=
  let d := 0x40 + m.val
  let n := s.rnCount m e
  if s.renState m e ≠ 2 ∨ s.intakeGuarded m e then .next s
  else
    match flt with
    | some p =>
      let (o, s1) := s.freshVal
      let k := o.toNat % n
      match s1.intakeRun m e k with
      | (s2, some (c, i)) => .next (s2.rennetFault m e c i)
      | (s2, none) => .next (s2.rennetFault m e (rnParityCause p) k)
    | none =>
      match s.intakeRun m e n with
      | (s1, some (c, i)) => .next (s1.rennetFault m e c i)
      | (s1, none) =>
        let r := s1.ren m e
        if r.decided && !r.committed then
          let s2 := (s1.rnAbandon m e n 0).rennetMissed m e
          .next (if s2.renState m e = 6 then s2 else s2.rennetArm m e)
        else .next ((s1.setRen m e { r with arith := s1.arith d }).setRenState m e 3)

/-- RENNET_JOB_COMPLETE (R259). [DESIGN CHOICE, log entry 28] -/
def execRennetJobComplete (m : Fin 12) (e : Fin 4) (flt : Option RnParity) (s : State) :
    Host.Outcome State Fault Refusal :=
  if s.renState m e ≠ 3 then .next s
  else
    match flt with
    | some p => .next (s.rennetFault m e (rnParityCause p) (s.ren m e).next)
    | none => .next (s.rnJob m e)

/-- RENNET_TRIGGER_TIMEOUT (R279). -/
def execRennetTriggerTimeout (m : Fin 12) (e : Fin 4) (s : State) : Host.Outcome State Fault Refusal :=
  let d := 0x40 + m.val
  match s.semWaits.find? fun w => w.die == d && w.who == Waiter.rennet e.val with
  | some w =>
    let limit := s.rg .VETCH_SEM_TO d 0 0
    if s.renState m e = 1 ∧ limit ≠ 0 ∧ limit ≤ w.lt then
      .next (s.rennetFault m e 0x08 (bits (s.rg .RN_STATUS d 0 e) 16 16))
    else .next s
  | none => .next s

end Sys2Proof.Machine
end

