-- ==== Sys2Proof/Machine/Elementary.lean ====
section
/-!
DEFINITION. The elementary functions of the vector engine (rows 0x12 to 0x1B of Table 4.5): their true values as fixed-point
approximations far finer than any format, the accuracy bounds of R118, and the open internal result within those bounds that
R119 rounds once by RNE.
-/

namespace Sys2Proof.Machine

/-- Fraction bits of the fixed-point values below: 2^-149, the smallest FP32 value, is exact in them. -/
def fxP : Nat := 320

/-- One in fixed point. -/
def fxOne : Int := (2 ^ fxP : Nat)

/-- Product of two fixed-point values. -/
def fxMul (x y : Int) : Int := x * y / fxOne

/-- Quotient of two fixed-point values. -/
def fxDiv (x y : Int) : Int := x * fxOne / y

/-- Sum of `n` terms z^(2i+1)/(2i+1) from index i, alternating when `alt`: the series of atanh and atan; `p` is z^(2i+1) and
`z2` z squared. -/
def fxAtanSum (alt : Bool) (z2 : Int) : Nat → Nat → Int → Int
  | 0, _, _ => 0
  | n + 1, i, p => p / (2 * i + 1 : Nat) + fxAtanSum alt z2 n (i + 1) (if alt then -fxMul p z2 else fxMul p z2)

/-- atanh z, for small z. -/
def fxAtanh (z : Int) : Int := fxAtanSum false (fxMul z z) 160 0 z

/-- atan z, for small z. -/
def fxAtan (z : Int) : Int := fxAtanSum true (fxMul z z) 160 0 z

/-- ln 2. -/
def fxLn2 : Int := 2 * fxAtanh (fxOne / 3)

/-- π, by Machin's formula. -/
def fxPi : Int := 16 * fxAtan (fxOne / 5) - 4 * fxAtan (fxOne / 239)

/-- Sum of `n` terms whose first is `t`, each the one before times `w` over (i+1)·…·(i+k): the exponential series (k = 1) and
those of sine and cosine (k = 2). -/
def fxTaylor (k : Nat) (w : Int) : Nat → Nat → Int → Int
  | 0, _, _ => 0
  | n + 1, i, t =>
    t + fxTaylor k w n (i + k) (fxMul t w / (if k = 1 then ((i + 1 : Nat) : Int) else ((i + 1) * (i + 2) : Nat)))

/-- A value m·2^e with m an integer. -/
structure FxVal where
  m : Int
  e : Int
deriving DecidableEq, Repr

/-- The fixed-point value of ±m·2^e (exact from 2^-320 up). -/
def fxOf (neg : Bool) (m : Nat) (e : Int) : Int :=
  sgnInt neg (if 0 ≤ e + fxP then m * 2 ^ (e + fxP).toNat else m / 2 ^ (-(e + fxP)).toNat)

/-- e^x of a fixed-point x, as a fixed-point mantissa and a power of two. -/
def fxExp (x : Int) : FxVal :=
  let k := x / fxLn2
  ⟨fxTaylor 1 (x - k * fxLn2) 90 0 fxOne, k - fxP⟩

/-- The fixed-point value of an FxVal. -/
def FxVal.fixed (v : FxVal) : Int :=
  if 0 ≤ v.e + fxP then v.m * (2 ^ (v.e + fxP).toNat : Nat) else v.m / (2 ^ (-(v.e + fxP)).toNat : Nat)

/-- ln of m·2^e, m not zero: the mantissa is taken into [3/4, 3/2). -/
def fxLn (m : Nat) (e : Int) : Int :=
  let l := Nat.log2 m
  let w : Int := fxOf false m (-(l : Int))
  let up : Bool := decide (3 * fxOne < 2 * w)
  let w' := if up then w / 2 else w
  2 * fxAtanh (fxDiv (w' - fxOne) (w' + fxOne)) + ((l : Int) + e + b2n up) * fxLn2

/-- Sum of the series of the normal distribution function from index i: t is (−1)^i x^(2i+1)/(2^i i!). -/
def fxPhiSum (x2 : Int) : Nat → Nat → Int → Int
  | 0, _, _ => 0
  | n + 1, i, t => t / (2 * i + 1 : Nat) + fxPhiSum x2 n (i + 1) (-(fxMul t x2 / (2 * (i + 1) : Nat)))

/-- Φ(x) for |x| below 12. -/
def fxPhi (x : Int) : Int :=
  fxOne / 2 + fxDiv (fxPhiSum (fxMul x x) 420 0 x) ((isqrt ((2 * fxPi * fxOne).toNat) : Nat) : Int)

/-- 1 / (1 + e^-x) for |x| below 200. -/
def fxSigmoid (x : Int) : Int := fxDiv fxOne (fxOne + (fxExp (-x)).fixed)

/-- Whether |x| is below `k`. -/
def fxBelow (x : Int) (k : Nat) : Bool := decide (x.natAbs < k * 2 ^ fxP)

/-- The true value of an elementary function of the finite non-zero value ±m·2^e, to about 2^-250: none where the manual
sets no bound. Where the argument is so large that the value leaves every format or meets its limit within every bound, a
value that rounds alike stands for it. -/
def trueValue (op : Nat) (neg : Bool) (m : Nat) (e : Int) : Option FxVal :=
  let x := fxOf neg m e
  let fixed (v : Int) : Option FxVal := some ⟨v, -(fxP : Int)⟩
  match op with
  | 0x12 => some (if fxBelow x 2000 then fxExp x else ⟨1, if neg then -4000 else 4000⟩)
  | 0x13 =>
    if fxBelow x 4000 then
      let k := x / fxOne
      some ⟨fxTaylor 1 (fxMul (x - k * fxOne) fxLn2) 90 0 fxOne, k - fxP⟩
    else some ⟨1, if neg then -4000 else 4000⟩
  | 0x14 => fixed (fxLn m e)
  | 0x15 => fixed (fxDiv (fxLn m e) fxLn2)
  | 0x16 =>
    if fxBelow x 60 then let t := (fxExp (2 * x)).fixed; fixed (fxDiv (t - fxOne) (t + fxOne))
    else fixed (sgnInt neg (2 ^ fxP))
  | 0x17 => if fxBelow x 200 then fixed (fxSigmoid x) else if neg then some ⟨1, -4000⟩ else fixed fxOne
  | 0x18 => if fxBelow x 200 then fixed (fxMul x (fxSigmoid x)) else if neg then some ⟨-1, -4000⟩ else some ⟨m, e⟩
  | 0x19 => if fxBelow x 12 then fixed (fxMul x (fxPhi x)) else if neg then some ⟨-1, -4000⟩ else some ⟨m, e⟩
  | _ =>
    if x.natAbs ≤ 65536 * 2 ^ fxP then
      let tau := 2 * fxPi
      let r := x - (2 * x + tau) / (2 * tau) * tau
      let w := -fxMul r r
      fixed (if op = 0x1A then fxTaylor 2 w 70 1 r else fxTaylor 2 w 70 0 fxOne)
    else none

/-- |a·2^ea − b·2^eb| ≤ k·2^u. -/
def fxWithin (a b : FxVal) (k : Nat) (u : Int) : Bool :=
  let z := min (min a.e b.e) u
  let d := a.m * (2 ^ (a.e - z).toNat : Nat) - b.m * (2 ^ (b.e - z).toNat : Nat)
  decide (d.natAbs ≤ k * 2 ^ (u - z).toNat)

/-- Exponent of the unit in the last place of a format at a value. -/
def Fp.ulpExp (f : Fp) (v : FxVal) : Int := max ((Nat.log2 v.m.natAbs : Int) + v.e) f.emin - f.fb

/-- Whether a result lies within the bound of its row of Table 4.5: 2 or 4 ulp in FP32 and 1 ulp of a narrower format, or the
row's absolute bound. [DESIGN CHOICE, log entry 25] -/
def withinBound (op : Nat) (g : Fp) (y r : FxVal) : Bool :=
  let ulps := if g = .fp32 then (if op = 0x18 ∨ op = 0x19 then 4 else 2) else 1
  fxWithin y r ulps (g.ulpExp y) ||
    ((op == 0x16 || op == 0x17) && decide (y.m.natAbs * 8 < 2 ^ (-y.e).toNat) && fxWithin y r 1 (-26)) ||
    ((op == 0x18 || op == 0x19) && fxWithin y r 1 (-24))

/-- A value rounded to a format's precision, its exponent unbounded above. -/
def Fp.nearest (f : Fp) (v : FxVal) : FxVal :=
  let u := f.ulpExp v
  ⟨sgnInt (decide (v.m < 0)) (roundUnits .rne (decide (v.m < 0)) v.m.natAbs v.e u).1, u⟩

/-- Code of a format in Table 4.2. -/
def Fp.code : Fp → Nat
  | .fp32 => 0 | .fp16 => 1 | .bf16 => 2 | .e4m3 => 3 | .e5m2 => 4

/-- Numeric code of the arithmetic control that rows 0x10 to 0x1B depend on: RM is not part of it (R119). -/
def Arith.code (a : Arith) : Nat := b2n a.strict + 2 * b2n a.ftz + 4 * b2n a.normal

/-- An elementary function of a finite non-zero value: an open internal result, fixed for operation, formats, arithmetic
control and input (R119), whose rounding lies within the bound, rounded once by RNE (R118, R51, R53 to R55). [DESIGN CHOICE, log entry 25] -/
def elementary (a : Arith) (op : Nat) (g src : Fp) (raw : Nat) (neg : Bool) (m : Nat) (e : Int) : Nat × Nat :=
  let o := Config.vecFn op g.code a.code src.code raw
  let open_ : FxVal := ⟨o.1, o.2⟩
  let r : FxVal :=
    match trueValue op neg m e with
    | none => open_
    | some y => if withinBound op g y (g.nearest open_) then open_ else y
  roundWith { a with rm := .rne } .rne g (decide (r.m < 0)) r.m.natAbs r.e

end Sys2Proof.Machine
end

