-- ==== Sys2Proof/Machine/Vector.lean ====
section
/-!
DEFINITION. The vector engine and its operand cache (chapter 4): acceptance checks, start, the elements of a chain, row
reductions, summary words and faults.
-/

namespace Sys2Proof.Machine

/-! ### Access -/

/-- The vector engine of a core, as stored. -/
def State.vec (s : State) (core : Nat) : VecS := Sparse.get (fun _ => VecS.init) s.vecs core

/-- Store the vector engine of a core. -/
def State.setVec (s : State) (core : Nat) (x : VecS) : State :=
  { s with vecs := Sparse.set (fun _ => VecS.init) s.vecs core x }

/-- Size of an operand cache (R114). -/
def ocSize : Nat := 262144

/-- Whether the engine has recorded a fault (R130). -/
def State.vecFaulted (s : State) (core : Nat) : Bool := bit (s.rg .VE_STATUS (core / 16) (core % 16) 0) 11

/-- The 256 bits of a stream descriptor slot. -/
def State.sdesc (s : State) (core slot : Nat) : Nat :=
  let w (i : Nat) := s.rg .VE_SDESC (core / 16) (core % 16) (slot * 4 + i)
  w 0 + w 1 * 2 ^ 64 + w 2 * 2 ^ 128 + w 3 * 2 ^ 192

/-- The sixteen words of a chain slot. -/
def State.chainWords (s : State) (core slot : Nat) : List Nat :=
  (List.range 16).map fun j => s.rg .VE_CHAIN (core / 16) (core % 16) (slot * 16 + j)

/-! ### Acceptance (R108 to R112, R115, R116, R125, R133, R149) -/

/-- Number of sources an operation reads. -/
def opSrcs : Nat → Nat
  | 0x00 => 0
  | 0x01 | 0x02 | 0x03 | 0x04 => 1
  | 0x05 => 2
  | 0x08 | 0x09 | 0x0A => 2
  | 0x0B => 3
  | 0x0C | 0x0D | 0x0E => 2
  | 0x0F | 0x10 | 0x11 | 0x12 | 0x13 | 0x14 | 0x15 | 0x16 | 0x17 | 0x18 | 0x19 | 0x1A | 0x1B => 1
  | 0x36 => 1
  | _ => 2

/-- Whether an operation code is listed in Table 4.5. -/
def opListed (op : Nat) : Bool :=
  decide (op ≤ 0x05) || (decide (0x08 ≤ op) && decide (op ≤ 0x1B)) || (decide (0x20 ≤ op) && decide (op ≤ 0x2C)) ||
  (decide (0x30 ≤ op) && decide (op ≤ 0x36)) || op == 0x38

/-- Compare operations. -/
def opIsCmp (op : Nat) : Bool := decide (0x30 ≤ op) && decide (op ≤ 0x33)

/-- Mask logic operations. -/
def opIsMask (op : Nat) : Bool := decide (0x34 ≤ op) && decide (op ≤ 0x36)

/-- Floating-point operations. -/
def opIsFloat (op : Nat) : Bool := decide (0x08 ≤ op) && decide (op ≤ 0x1B)

/-- Integer operations. -/
def opIsInt (op : Nat) : Bool := decide (0x20 ≤ op) && decide (op ≤ 0x2C)

/-- The source codes an operation reads as data: SEL reads SRC1 and SRC3. -/
def ChainOp.srcs (c : ChainOp) : List Nat :=
  if opIsMask c.op then []
  else if c.op = 0x05 then [c.s1, c.s3]
  else if c.op = 0x38 then [c.s1, c.s2]
  else ([c.s1, c.s2, c.s3]).take (opSrcs c.op)

/-- The mask registers an operation reads (0 to 3). -/
def ChainOp.maskSrcs (c : ChainOp) : List Nat :=
  (if c.men then [c.mreg] else []) ++
  (if opIsMask c.op then (([c.s1, c.s2]).take (opSrcs c.op)).map (· - 12) else [])

/-- The formats of what a source code names, as far as the chain before it fixes them. -/
structure ChainEnv where
  descs : List (Option StreamD)
  v : List (Option VFmt)
  m : List Bool
deriving DecidableEq, Repr

/-- Format of stream or cache operand `k` (A, B, D, C0, C1, E in that order). -/
def ChainEnv.descFmt (e : ChainEnv) (k : Nat) : Option VFmt :=
  match nth none e.descs k with
  | some d => vFmt d.fmt
  | none => none

/-- Static format of a source code: `none` where it names nothing; scalars take the format asked for. -/
def ChainEnv.srcFmt (e : ChainEnv) (scalar : VFmt) (code : Nat) : Option VFmt :=
  if code < 8 then nth none e.v code
  else match code with
    | 8 => e.descFmt 0
    | 9 => e.descFmt 1
    | 10 => e.descFmt 3
    | 11 => e.descFmt 4
    | 12 | 13 => some scalar
    | _ => some .int32

/-- The class a scalar is read in by an operation whose other sources have the formats given (R149). -/
def scalarFmt (op : Nat) (fmt : VFmt) (other : Option VFmt) : VFmt :=
  if op = 0x02 then (if fmt.isFloat then .int32 else .f .fp32)
  else if opIsCmp op then
    match other with
    | some o => if o.isFloat then .f .fp32 else .int32
    | none => .f .fp32
  else if opIsInt op then .int32
  else if opIsFloat op then .f .fp32
  else if op = 0x38 then .int32
  else if fmt.isFloat then .f .fp32 else .int32

/-- The format of the source of a compare that is not a scalar. -/
def ChainEnv.cmpOther (e : ChainEnv) (c : ChainOp) : Option VFmt :=
  if c.s1 = 12 ∨ c.s1 = 13 then (if c.s2 = 12 ∨ c.s2 = 13 then none else e.srcFmt .int32 c.s2)
  else e.srcFmt .int32 c.s1

/-- Whether R110 allows PAIR on an operation. -/
def ChainEnv.pairAllowed (e : ChainEnv) (c : ChainOp) : Bool :=
  (c.fmt == 1 || c.fmt == 2) &&
  ((decide (1 ≤ c.op) && decide (c.op ≤ 0x05) && c.op != 0x02) ||
    (decide (0x08 ≤ c.op) && decide (c.op ≤ 0x0D)) || opIsCmp c.op) &&
  c.srcs.all fun x => x == 12 || x == 13 || ((e.srcFmt .int32 x).map VFmt.size == some 2)

/-- Whether the sources of an operation have the class it takes (R109). -/
def ChainEnv.classOk (e : ChainEnv) (c : ChainOp) (fmt : VFmt) : Bool :=
  let sf := c.srcs.map (e.srcFmt (scalarFmt c.op fmt (e.cmpOther c)))
  let all (p : VFmt → Bool) := sf.all fun x =>
    match x with
    | some g => p g
    | none => false
  if c.op = 0x02 ∨ c.op = 0 then all fun _ => true
  else if opIsMask c.op then true
  else if opIsFloat c.op then fmt.isFloat && all VFmt.isFloat
  else if opIsInt c.op then !fmt.isFloat && all fun g => !g.isFloat
  else if opIsCmp c.op then all VFmt.isFloat || all fun g => !g.isFloat
  else if c.op = 0x38 then
    (match sf with
      | [some g, some x] => g.isFloat == fmt.isFloat && !x.isFloat
      | _ => false)
  else all fun g => g.isFloat == fmt.isFloat

/-- Whether a NOP inside a chain has no reserved field, no mask destination and no PAIR, which R110 does not allow it. -/
def ChainOp.nopOk (c : ChainOp) : Bool :=
  (vFmt c.fmt).isSome && decide (c.dst ≤ 8) && c.rsvd == 0 && !c.pair

/-- Check one operation; answers the environment after it, or none where the engine refuses (R108). -/
def ChainEnv.step (e : ChainEnv) (c : ChainOp) : Option ChainEnv :=
  if c.op = 0 then (if c.nopOk then some e else none)
  else
    match vFmt c.fmt with
    | none => none
    | some fmt =>
      let toMask := opIsCmp c.op || opIsMask c.op
      let dstOk := if toMask then decide (12 ≤ c.dst) else decide (c.dst ≤ 8)
      let vRead := c.srcs.all fun x => decide (8 ≤ x) || (nth none e.v x).isSome
      let mRead := c.maskSrcs.all fun x => decide (x < 4) && nth false e.m x
      let maskCodes := !opIsMask c.op || (([c.s1, c.s2]).take (opSrcs c.op)).all fun x => decide (12 ≤ x)
      let permOk := c.op != 0x38 || c.s1 == 10 || c.s1 == 11
      let selOk := c.op != 0x05 || c.men
      let dFmt := c.dst != 8 || toMask || e.descFmt 2 == some fmt
      if opListed c.op && c.rsvd == 0 && dstOk && vRead && mRead && maskCodes && permOk && selOk && dFmt &&
          e.classOk c fmt && (!c.pair || e.pairAllowed c) then
        if toMask then some { e with m := setAt e.m (c.dst - 12) true }
        else if c.dst < 8 then some { e with v := setAt e.v c.dst (some fmt) }
        else some e
      else none

/-- Check a chain. -/
def ChainEnv.run (e : ChainEnv) : List ChainOp → Option ChainEnv
  | [] => some e
  | c :: cs =>
    match e.step c with
    | some e' => e'.run cs
    | none => none

/-- Size of the space of a descriptor. -/
def StreamD.spaceSize (d : StreamD) : Nat := if d.space = 0 then spSize else ocSize

/-- Whether the fields of a descriptor are listed values and its reserved bits are 0 (Table 4.4). -/
def StreamD.listed (d : StreamD) : Bool :=
  (vFmt d.fmt).isSome && decide (d.space < 2) && bits d.raw 192 64 == 0 && bits d.raw 128 16 == 0 &&
  bits d.raw 64 32 == 0 && bits d.raw 25 31 == 0 && decide (1 ≤ d.len) && decide (d.len ≤ 16384) &&
  (d.elemStride == 0 || decide (d.es ≤ d.elemStride)) &&
  decide (d.base % d.es = 0) && decide (d.rowStride % (d.es : Int) = 0) && decide (d.elemStride % d.es = 0)

/-- Lowest and highest byte of `rows` × `len` elements of a descriptor (R116). -/
def StreamD.bounds (d : StreamD) (rows len : Nat) : Int × Int :=
  let lastRow : Int := ((rows : Int) - 1) * d.rowStride
  let w : Int := ((len : Int) - 1) * d.step + d.es
  ((d.base : Int) + (if lastRow < 0 then lastRow else 0), (d.base : Int) + (if lastRow < 0 then 0 else lastRow) + w)

/-- Whether every byte of `rows` × `len` elements lies in the descriptor's space (R112). -/
def StreamD.inside (d : StreamD) (rows len : Nat) : Bool :=
  let (lo, hi) := d.bounds rows len
  decide (0 ≤ lo) && decide (hi ≤ (d.spaceSize : Int))

/-- Rows and length over which a cache operand is read: COL and the vector of PERM its VL in one row, ROW its VL, TILE a
vector in every row (R115, R126). -/
def StreamD.cacheRows (d : StreamD) (rows : Nat) : Nat := if d.cmode = 2 then rows else 1

/-- Whether two byte ranges of one space meet. -/
def rangesMeet (a b : Int × Int) : Bool := decide (a.1 < b.2) && decide (b.1 < a.2)

/-- Whether a write stream coincides exactly with a read stream (R116). -/
def sameStream (a b : StreamD) : Bool :=
  a.space == b.space && a.base == b.base && decide (a.rowStride = b.rowStride) && a.step == b.step &&
  a.rows == b.rows && a.len == b.len && a.es == b.es

/-- The descriptors a VEC.RUN names: A, B, D, C0, C1, E; `none` of the outer option where a slot value is refused
(R149). -/
def State.vecDescs (s : State) (core : Nat) (f : VecF) : Option (List (Option Nat)) :=
  let slots := [f.a, f.b, f.d, f.c0, f.c1, f.e]
  if slots.all fun x => decide (x < 32) || x == 0x3F then
    some (slots.map fun x => if x < 32 then some (s.sdesc core x) else none)
  else none

/-- Shape of a command: ROWS and LEN of A, or of D when A is absent (R112). -/
def cmdShape (ds : List (Option StreamD)) : Option (Nat × Nat) :=
  match nth none ds 0, nth none ds 2 with
  | some a, _ => some (a.rows, a.len)
  | none, some d => some (d.rows, d.len)
  | none, none => none

/-- Whether a cache operand's descriptor is acceptable for the command's shape (R112, R115). -/
def cacheOk (ops : List ChainOp) (code rows len : Nat) (d : StreamD) : Bool :=
  let onlyPerm := (ops.any fun c => c.op == 0x38 && c.s1 == code) &&
    ops.all fun c => c.op == 0x38 || !(c.srcs.contains code)
  d.listed && d.space == 1 && d.cmode != 3 && d.inside (d.cacheRows rows) d.len &&
  (onlyPerm || (if d.cmode = 1 then decide (rows ≤ d.len) else decide (len ≤ d.len)))

/-- Whether the descriptors are acceptable together (R112, R115, R116). -/
def descsOk (ops : List ChainOp) (ds : List (Option StreamD)) (rows len : Nat) : Bool :=
  let get (k : Nat) := nth none ds k
  let stream (x : Option StreamD) :=
    match x with
    | none => true
    | some d => d.listed && d.rows == rows && d.len == len && decide (1 ≤ rows) && decide (rows ≤ 4096) && d.inside rows len
  let eOk :=
    match get 5 with
    | none => true
    | some d => d.listed && d.rows == rows && d.len == 1 && d.inside rows 1
  let cOk (k code : Nat) :=
    match get k with
    | none => true
    | some d => cacheOk ops code rows len d
  let reads := (([get 0, get 1]).filterMap fun x => x.map fun d => (d, d.bounds rows len, true)) ++
    (([get 3, get 4]).filterMap fun x => x.map fun d => (d, d.bounds (d.cacheRows rows) d.len, false))
  let writeOk (x : Option StreamD) (wlen : Nat) :=
    match x with
    | none => true
    | some w => reads.all fun r =>
      r.1.space != w.space || !rangesMeet (w.bounds rows wlen) r.2.1 || (r.2.2 && sameStream w r.1)
  stream (get 0) && stream (get 1) && stream (get 2) && eOk && cOk 3 10 && cOk 4 11 && writeOk (get 2) len &&
    writeOk (get 5) 1

/-- Whether the reduction and the summary mask of a command are acceptable (R108, R125, R149). -/
def reductionOk (f : VecF) (ops : List ChainOp) (env : ChainEnv) : Bool :=
  let wroteD := ops.any fun c => c.op != 0 && c.dst == 8 && !opIsCmp c.op && !opIsMask c.op
  let srcOk :=
    if f.rop = 0 then true
    else if f.rsrc < 8 then (nth none env.v f.rsrc).isSome
    else if f.rsrc = 8 then (env.descFmt 0).isSome
    else f.rsrc == 9 && wroteD
  let argE := !(f.rop == 5 || f.rop == 6) || (env.descFmt 5).isNone || env.descFmt 5 == some .int32
  decide (f.rop ≤ 6) && decide (f.rsrc ≤ 9) && srcOk && argE &&
    (!f.rmen || nth false env.m f.rmreg) && (!f.smen || nth false env.m f.smreg)

/-- Whether the vector engine refuses a VEC.RUN (command fault 0x03). -/
def State.vecRefused (s : State) (core : Nat) (x : BitVec 128) : Bool :=
  let f := vecFields x
  match s.vecDescs core f with
  | none => true
  | some raw =>
    let ds := raw.map fun o => o.map streamFields
    let ops := chainOps (s.chainWords core f.chain)
    let env0 : ChainEnv := ⟨ds, List.replicate 8 none, List.replicate 4 false⟩
    let dWrites := (ops.filter fun c => c.op != 0 && c.dst == 8 && !opIsCmp c.op && !opIsMask c.op).length
    match cmdShape ds, env0.run ops with
    | some (rows, len), some env =>
      ops == [] || bits (nth 0 (s.chainWords core f.chain) 0) 26 6 == 0 || decide (1 < dWrites) || !descsOk ops ds rows len || !reductionOk f ops env
    | _, _ => true

/-! ### Elements -/

/-- A value of a lane: its format and pattern. -/
structure VVal where
  fmt : VFmt
  bits : Nat
deriving DecidableEq, Repr

/-- A float source under the subnormal and signalling rules (R109). -/
def VVal.fval (a : Arith) (v : VVal) : FVal × Nat :=
  match v.fmt with
  | .f g => fin a g v.bits
  | .int8 => fin a .fp32 v.bits
  | .int32 => fin a .fp32 v.bits

/-- An integer source widened to INT32 (R109). -/
def VVal.int (v : VVal) : Int :=
  match v.fmt with
  | .int8 => toSigned 8 v.bits
  | _ => toSigned 32 v.bits

/-- Deliver an INT32 result in an integer format, wrapping (R122). -/
def wrapInt (g : VFmt) (i : Int) : VVal :=
  match g with
  | .int8 => ⟨.int8, ofSigned 8 i⟩
  | _ => ⟨.int32, ofSigned 32 i⟩

/-- The floating-point format of a result. -/
def VFmt.fp : VFmt → Fp
  | .f g => g
  | _ => .fp32

/-- MIN or MAX of two float values: −0 below +0, any NaN gives a NaN (R121). -/
def minMax (wantMax : Bool) (x y : FVal) : FVal :=
  match cmpVal x y with
  | none => .nan false
  | some .eq =>
    let xn := match x with
      | .fin n _ _ => n
      | .inf n => n
      | .nan _ => false
    if wantMax then (if xn then y else x) else (if xn then x else y)
  | some .lt => if wantMax then y else x
  | some .gt => if wantMax then x else y

/-- RECIP and RSQRT (R118): exact where representable, else one of the two neighbours, which one open. [DESIGN CHOICE, log entry 25] -/
def openNeighbour (a : Arith) (op : Nat) (g src : Fp) (x : Nat) (n : Bool) (m : Nat) (e : Int) : Nat × Nat :=
  let ar := { a with rm := .rne }
  let (lo, fl) := roundWith ar .rtz g n m e
  let (hi, fh) := roundWith ar (if n then .rdn else .rup) g n m e
  if lo = hi then (lo, fl)
  else if Config.vecNeighbour op g.code a.code src.code x then (hi, fh) else (lo, fl)

/-- The special values of the elementary functions (R120): none where the result is a value within the bound. -/
def specialVal (op : Nat) (v : FVal) : Option (FVal × Nat) :=
  let one : FVal := .fin false 1 0
  let zero (n : Bool) : FVal := .fin n 0 0
  match v with
  | .nan _ => some (.nan false, 0)
  | .inf n =>
    match op with
    | 0x12 | 0x13 => some (if n then zero false else .inf false, 0)
    | 0x14 | 0x15 => some (if n then (.nan false, flNVF) else (.inf false, 0))
    | 0x16 => some (.fin n 1 0, 0)
    | 0x17 => some (if n then zero false else one, 0)
    | 0x18 | 0x19 => some (if n then zero true else .inf false, 0)
    | _ => some (.nan false, flNVF)
  | .fin n m e =>
    if m = 0 then
      match op with
      | 0x12 | 0x13 => some (one, 0)
      | 0x14 | 0x15 => some (.inf true, 0)
      | 0x16 | 0x18 | 0x19 | 0x1A => some (zero n, 0)
      | 0x1B => some (one, 0)
      | _ => none
    else if op = 0x14 ∨ op = 0x15 then
      if n then some (.nan false, flNVF)
      else if cmpVal (.fin false m e) one = some .eq then some (zero false, 0) else none
    else none

/-- A float operation on FP32-widened sources, delivered in `g` (R109, R118 to R121). -/
def floatOp (a : Arith) (op : Nat) (g src : Fp) (raw : Nat) (x y z : FVal) : Nat × Nat :=
  let give (r : FVal × Nat) : Nat × Nat := let (p, fl) := deliver a g r.1; (p, fl ||| r.2)
  let arn := { a with rm := .rne }
  match op with
  | 0x08 => give (sumVal a x y)
  | 0x09 => give (sumVal a x y.neg)
  | 0x0A => give (mulVal x y)
  | 0x0B =>
    let (p, fp) := mulVal x y
    let (v, fv) := sumVal a p z
    give (v, fp ||| fv)
  | 0x0C => give (minMax false x y, 0)
  | 0x0D => give (minMax true x y, 0)
  | 0x0E => give (divVal x y)
  | 0x0F => give (sqrtVal x)
  | 0x10 =>
    match divVal (.fin false 1 0) x with
    | (.fin n m e, fl) =>
      if m = 0 then (g.signed n 0, fl)
      else let (p, f2) := openNeighbour a op g src raw n m e; (p, fl ||| f2)
    | (v, fl) => let (p, f2) := deliver arn g v; (p, fl ||| f2)
  | 0x11 =>
    match x with
    | .fin n m _ =>
      if m = 0 then let (p, f2) := deliver arn g (.inf n); (p, f2)
      else
        match sqrtVal x with
        | (.fin _ m' e', fl) =>
          -- 1/√x as √(1/x): the reciprocal of the root carried with sticky bits
          match divVal (.fin false 1 0) (.fin false m' e') with
          | (.fin n2 m2 e2, _) => let (p, f2) := openNeighbour a op g src raw n2 m2 e2; (p, fl ||| f2)
          | (v, f2) => let (p, f3) := deliver arn g v; (p, fl ||| f2 ||| f3)
        | (v, fl) => let (p, f2) := deliver arn g v; (p, fl ||| f2)
    | .inf n => if n then (g.canonNan, flNVF) else (g.signed false 0, 0)
    | .nan _ => (g.canonNan, 0)
  | _ =>
    match specialVal op x with
    | some (v, fl) => let (p, f2) := deliver arn g v; (p, fl ||| f2)
    | none =>
      match x with
      | .fin n m e => elementary a op g src raw n m e
      | _ => (g.canonNan, 0)

/-- An integer operation on INT32 sources, delivered in `g` (R122). -/
def intOp (op : Nat) (g : VFmt) (x y : Int) : VVal × Nat :=
  let ux := ofSigned 32 x
  let uy := ofSigned 32 y
  let w := match g with
    | .int8 => 8
    | _ => 32
  match op with
  | 0x20 => (wrapInt g (x + y), 0)
  | 0x21 => (wrapInt g (x - y), 0)
  | 0x22 => (wrapInt g (x * y), 0)
  | 0x23 => let (i, o) := clampSigned w (x + y); (wrapInt g i, flagIf o flSAT)
  | 0x24 => let (i, o) := clampSigned w (x - y); (wrapInt g i, flagIf o flSAT)
  | 0x25 => (wrapInt g (if x ≤ y then x else y), 0)
  | 0x26 => (wrapInt g (if x ≤ y then y else x), 0)
  | 0x27 => (wrapInt g ((ux &&& uy : Nat) : Int), 0)
  | 0x28 => (wrapInt g ((ux ||| uy : Nat) : Int), 0)
  | 0x29 => (wrapInt g ((ux ^^^ uy : Nat) : Int), 0)
  | 0x2A => (wrapInt g ((ux * 2 ^ (uy % 32) : Nat) : Int), 0)
  | 0x2B => (wrapInt g ((ux / 2 ^ (uy % 32) : Nat) : Int), 0)
  | _ => (wrapInt g (x / (2 ^ (uy % 32) : Nat)), 0)

/-- Convert a value to a format (Table 2.7). [DESIGN CHOICE, log entry 78] -/
def convVal (a : Arith) (v : VVal) (g : VFmt) : VVal × Nat :=
  match v.fmt, g with
  | .f x, .f y => let (r, fl) := fconv a x y v.bits; (⟨g, r⟩, fl)
  | .f x, .int8 => let (r, fl) := fToInt a x 8 v.bits; (⟨g, r⟩, fl)
  | .f x, .int32 => let (r, fl) := fToInt a x 32 v.bits; (⟨g, r⟩, fl)
  | .int8, .f y => let (r, fl) := intToF a 8 y v.bits; (⟨g, r⟩, fl)
  | .int32, .f y => let (r, fl) := intToF a 32 y v.bits; (⟨g, r⟩, fl)
  | .int8, .int8 => (v, 0)
  | .int8, .int32 => (⟨g, signExt 8 32 v.bits⟩, 0)
  | .int32, .int8 => let (r, fl) := int32To8 v.bits; (⟨g, r⟩, fl)
  | .int32, .int32 => (v, 0)

/-- MOV: in the source's own format a NaN is copied unchanged (R32); every other value follows R109, so that a subnormal
source is flushed where R54 and R55 flush it. [DESIGN CHOICE, log entry 78] -/
def moveVal (a : Arith) (v : VVal) (g : VFmt) : VVal × Nat :=
  match v.fmt with
  | .f x => if v.fmt = g ∧ x.isNan v.bits then (v, 0) else convVal a v g
  | _ => convVal a v g

/-- SEL and PERM deliver a value: its bits in its own format (R32), else converted to the result format. [DESIGN CHOICE, log entry 78] -/
def copyVal (a : Arith) (v : VVal) (g : VFmt) : VVal × Nat := if v.fmt = g then (v, 0) else convVal a v g

/-- NEG and ABS as bit operations on the source pattern, converted when the result format differs (R32). [DESIGN CHOICE, log entry 78] -/
def signOp (a : Arith) (clear : Bool) (v : VVal) (g : VFmt) : VVal × Nat :=
  let w : VVal :=
    match v.fmt with
    | .f x =>
      let k := x.width - 1
      ⟨v.fmt, if clear then v.bits % 2 ^ k else v.bits ^^^ 2 ^ k⟩
    | _ =>
      let i := v.int
      wrapInt v.fmt (if clear then (if i < 0 then -i else i) else -i)
  copyVal a w g

/-- Whether a compare holds (R121); an unordered pair makes only CMPNE hold. -/
def cmpHolds (op : Nat) : Option Ordering → Bool
  | none => op == 0x31
  | some o =>
    match op with
    | 0x30 => o == .eq
    | 0x31 => o != .eq
    | 0x32 => o == .lt
    | _ => o != .gt

/-- Order of two integers. -/
def intCmp (x y : Int) : Ordering := if x < y then .lt else if x = y then .eq else .gt

/-- What an element of a beat carries through a chain: lane registers, mask registers, the value for D if written, and
flags. -/
structure Lane where
  v : List VVal
  m : List Bool
  d : Option VVal
  flags : Nat
deriving DecidableEq, Repr

/-- The operands an element sees: streams A and B, the cache operands, scalars, indices. -/
structure Elem where
  a : VVal
  b : VVal
  c0 : VVal
  c1 : VVal
  s0 : Nat
  s1 : Nat
  i : Nat
  r : Nat
deriving DecidableEq, Repr

/-- The value of a source code, scalars read in the format given. [DESIGN CHOICE, log entry 78] -/
def srcVal (x : Elem) (l : Lane) (scalar : VFmt) (code : Nat) : VVal :=
  if code < 8 then nth ⟨.int32, 0⟩ l.v code
  else match code with
    | 8 => x.a
    | 9 => x.b
    | 10 => x.c0
    | 11 => x.c1
    | 12 => ⟨scalar, x.s0⟩
    | 13 => ⟨scalar, x.s1⟩
    | 14 => ⟨.int32, x.i⟩
    | _ => ⟨.int32, x.r⟩

/-- Whether a value is a non-finite floating-point number. -/
def VVal.nonFinite (v : VVal) : Bool :=
  match v.fmt with
  | .f g => g.nonFinite v.bits
  | _ => false

/-- Write an operation's result to its destination. -/
def Lane.put (l : Lane) (dst : Nat) (v : VVal) : Lane :=
  if dst < 8 then { l with v := setAt l.v dst v } else { l with d := some v }

/-- One operation on one element. `perm` reads element x of a cache operand: its value, or none out of bounds (R126);
`fill` is VE_FILL. [DESIGN CHOICE, log entry 78] -/
def laneOp (a : Arith) (perm : Nat → Int → Option VVal) (fill : Nat) (x : Elem) (l : Lane) (c : ChainOp) : Lane :=
  if c.op = 0 then l
  else
    let g := (vFmt c.fmt).getD .int32
    let off := c.men && c.op != 0x05 && !(nth false l.m c.mreg)
    if off then l
    else
      let other : Option VFmt :=
        if c.s1 = 12 ∨ c.s1 = 13 then
          (if c.s2 = 12 ∨ c.s2 = 13 then none else some (srcVal x l .int32 c.s2).fmt)
        else some (srcVal x l .int32 c.s1).fmt
      let sf := scalarFmt c.op g other
      let v1 := srcVal x l sf c.s1
      let v2 := srcVal x l sf c.s2
      let v3 := srcVal x l sf c.s3
      let finish (ins : List VVal) (r : VVal × Nat) : Lane :=
        let fl := r.2 ||| gradFlags c.grad (ins.any VVal.nonFinite) r.1.nonFinite r.2
        { l.put c.dst r.1 with flags := l.flags ||| fl }
      if opIsMask c.op then
        let m1 := nth false l.m (c.s1 - 12)
        let m2 := nth false l.m (c.s2 - 12)
        let r := if c.op = 0x34 then m1 && m2 else if c.op = 0x35 then m1 || m2 else !m1
        { l with m := setAt l.m (c.dst - 12) r }
      else if opIsCmp c.op then
        if v1.fmt.isFloat || v2.fmt.isFloat then
          let (x1, f1) := v1.fval a
          let (x2, f2) := v2.fval a
          let fl := f1 ||| f2
          { l with
            m := setAt l.m (c.dst - 12) (cmpHolds c.op (cmpVal x1 x2))
            flags := l.flags ||| fl ||| gradFlags c.grad (v1.nonFinite || v2.nonFinite) false fl }
        else { l with m := setAt l.m (c.dst - 12) (cmpHolds c.op (some (intCmp v1.int v2.int))) }
      else if c.op = 0x01 then finish [v1] (moveVal a v1 g)
      else if c.op = 0x02 then finish [v1] (convVal a v1 g)
      else if c.op = 0x03 then finish [v1] (signOp a false v1 g)
      else if c.op = 0x04 then finish [v1] (signOp a true v1 g)
      else if c.op = 0x05 then
        let v := if nth false l.m c.mreg then v1 else v3
        finish [v1, v3] (copyVal a v g)
      else if c.op = 0x38 then
        match perm c.s1 v2.int with
        | some v => finish [v] (copyVal a v g)
        | none => finish [] (⟨g, fill % 2 ^ (8 * g.size)⟩, flOOB)
      else if opIsInt c.op then finish [] (intOp c.op g v1.int v2.int)
      else
        let n := opSrcs c.op
        let (x1, f1) := v1.fval a
        let (x2, f2) := if 2 ≤ n then v2.fval a else (x1, 0)
        let (x3, f3) := if 3 ≤ n then v3.fval a else (x1, 0)
        let (r, fr) := floatOp a c.op g.fp v1.fmt.fp v1.bits x1 x2 x3
        finish (([v1, v2, v3]).take n) (⟨g, r⟩, f1 ||| f2 ||| f3 ||| fr)

/-! ### Reductions (R123 to R125) -/

/-- Widen a value exactly to FP32 or INT32 for the reduction and the summary word. -/
def widen (v : VVal) : Nat :=
  match v.fmt with
  | .f .fp32 => v.bits
  | .f g =>
    match g.unpack v.bits with
    | .nan _ => Fp.fp32.canonNan
    | .inf n => Fp.fp32.infPat n
    | .fin n m e => (roundWith ⟨false, .rne, false, true⟩ .rne .fp32 n m e).1
  | .int8 => signExt 8 32 v.bits
  | .int32 => v.bits

/-- An element as it enters a reduction: an FP32 or integer value unchanged (R123), a narrower one widened exactly to FP32 under
R109, where a signalling NaN sets NVF (R33) and a subnormal that R54 flushes is a zero with FLUSH. A BF16 subnormal that R55
keeps stays a subnormal FP32 value until it is combined. [DESIGN CHOICE, log entry 78] -/
def redEnter (a : Arith) (v : VVal) : Nat × Nat :=
  match v.fmt with
  | .f .fp32 => (v.bits, 0)
  | .f g =>
    let (x, fl) := fin a g v.bits
    match x with
    | .fin n 0 _ => (Fp.fp32.signed n 0, fl)
    | _ => (widen v, fl)
  | _ => (widen v, 0)

/-- Combine two partials of a reduction, left operand first: RSUM, RPROD, RMAX, RMIN in floating point or integer. [DESIGN CHOICE, log entry 78] -/
def combine (a : Arith) (rop : Nat) (isF : Bool) (x y : Nat) : Nat × Nat :=
  if isF then
    let (vx, f1) := fin a .fp32 x
    let (vy, f2) := fin a .fp32 y
    let (r, fl) :=
      match rop with
      | 1 => let (v, f) := sumVal a vx vy; let (p, g) := deliver a .fp32 v; (p, f ||| g)
      | 2 => let (v, f) := mulVal vx vy; let (p, g) := deliver a .fp32 v; (p, f ||| g)
      | 3 => deliver a .fp32 (minMax true vx vy)
      | _ => deliver a .fp32 (minMax false vx vy)
    (r, f1 ||| f2 ||| fl)
  else
    let ix := toSigned 32 x
    let iy := toSigned 32 y
    match rop with
    | 1 => let (i, o) := clampSigned 32 (ix + iy); (ofSigned 32 i, flagIf o flSAT)
    | 2 => let (i, o) := clampSigned 32 (ix * iy); (ofSigned 32 i, flagIf o flSAT)
    | 3 => (ofSigned 32 (if ix ≤ iy then iy else ix), 0)
    | _ => (ofSigned 32 (if ix ≤ iy then ix else iy), 0)

/-- Combine optional partials: a missing one passes the other unchanged (R124). -/
def combineOpt (a : Arith) (rop : Nat) (isF : Bool) (x y : Option Nat) : Option Nat × Nat :=
  match x, y with
  | none, y => (y, 0)
  | x, none => (x, 0)
  | some u, some w => let (r, fl) := combine a rop isF u w; (some r, fl)

/-- One level of the lane-end tree: neighbours 2j and 2j + 1 (R123). -/
def treeLevel (a : Arith) (rop : Nat) (isF : Bool) : List (Option Nat) → List (Option Nat) × Nat
  | x :: y :: rest =>
    let (r, fl) := combineOpt a rop isF x y
    let (rs, fl') := treeLevel a rop isF rest
    (r :: rs, fl ||| fl')
  | l => (l, 0)

/-- `n` levels of the tree. -/
def treeLevels (a : Arith) (rop : Nat) (isF : Bool) : Nat → List (Option Nat) → List (Option Nat) × Nat
  | 0, l => (l, 0)
  | n + 1, l =>
    let (l', fl) := treeLevel a rop isF l
    let (r, fl') := treeLevels a rop isF n l'
    (r, fl ||| fl')

/-- Lane accumulation: element i enters lane i mod 64, in increasing i (R123). -/
def laneAcc (a : Arith) (rop : Nat) (isF : Bool) (es : List (Nat × Nat)) : List (Option Nat) × Nat :=
  es.foldl (fun (z : List (Option Nat) × Nat) e =>
    let l := e.1 % 64
    let (r, fl) := combineOpt a rop isF (nth none z.1 l) (some e.2)
    (setAt z.1 l r, z.2 ||| fl)) (List.replicate 64 none, 0)

/-- The identity of a reduction (R124). -/
def redIdentity (rop : Nat) (isF : Bool) : Nat :=
  match rop with
  | 1 => 0
  | 2 => if isF then 0x3F800000 else 1
  | 3 => if isF then Fp.fp32.infPat true else 0x80000000
  | 4 => if isF then Fp.fp32.infPat false else 0x7FFFFFFF
  | _ => 0xFFFFFFFF

/-- Whether `y` is a strictly better extremum than `x`, −0 below +0. -/
def betterThan (wantMax isF : Bool) (a : Arith) (x y : Nat) : Bool :=
  if isF then
    let vx := (fin a .fp32 x).1
    let vy := (fin a .fp32 y).1
    match cmpVal vx vy with
    | some .lt => wantMax
    | some .gt => !wantMax
    | some .eq => if wantMax then bit x 31 && !bit y 31 else !bit x 31 && bit y 31
    | none => false
  else
    let ix := toSigned 32 x
    let iy := toSigned 32 y
    if wantMax then decide (ix < iy) else decide (iy < ix)

/-- RARGMAX and RARGMIN over contributing elements in increasing i (R125). -/
def argExt (a : Arith) (wantMax isF : Bool) (es : List (Nat × Nat)) : Nat :=
  match es.find? fun e => isF && Fp.fp32.isNan e.2 with
  | some e => e.1
  | none =>
    match es with
    | [] => 0xFFFFFFFF
    | e :: rest => (rest.foldl (fun z x => if betterThan wantMax isF a z.2 x.2 then x else z) e).1

/-- RMAX and RMIN with a NaN among the contributing elements give the canonical NaN, one element alone included (R125). -/
def extremumNan (rop : Nat) (isF : Bool) (es : List (Nat × Nat)) : Bool :=
  (rop == 3 || rop == 4) && isF && es.any fun e => Fp.fp32.isNan e.2

/-- The result of a row's reduction over its contributing elements (index, widened value), with flags: FP32, or INT32 for
integer and index reductions (R123 to R125). -/
def reduceRow (a : Arith) (rop : Nat) (isF : Bool) (es : List (Nat × Nat)) : Nat × Nat :=
  if es = [] then (redIdentity rop isF, flEMPTY)
  else if rop = 5 ∨ rop = 6 then
    let fl := es.foldl (fun z e => z ||| (if isF then (fin a .fp32 e.2).2 else 0)) 0
    (argExt a (rop == 5) isF es, fl)
  else
    let (l, f1) := laneAcc a rop isF es
    let (t, f2) := treeLevels a rop isF 6 l
    if extremumNan rop isF es then
      (Fp.fp32.canonNan, es.foldl (fun z e => z ||| ((fin a .fp32 e.2).2 &&& flNVF)) (f1 ||| f2))
    else ((nth none t 0).getD (redIdentity rop isF), f1 ||| f2)

/-! ### Commands -/

/-- Read `n` bytes of a stream's space. -/
def State.vecRead (s : State) (core space off n : Nat) : State × Option (List Nat) :=
  if space = 0 then
    match s.spRead core off n with
    | (s1, .ok bs) => (s1, some bs)
    | (s1, .error _) => (s1, none)
  else (s, some ((Sparse.getRun (fun _ => 0) s.ocache n (core * ocSize + off)).map BitVec.toNat))

/-- Write bytes of a stream's space. -/
def State.vecWrite (s : State) (core space off : Nat) (bs : List Nat) : State × Bool :=
  if space = 0 then
    match s.spWrite core off bs with
    | (s1, none) => (s1, true)
    | (s1, some _) => (s1, false)
  else
    ({ s with ocache := Sparse.setRun (fun _ => 0) s.ocache (core * ocSize + off) (bs.map (BitVec.ofNat 8)) }, true)

/-- Read element j of row r of a descriptor; an absent one reads as an INT32 0 that nothing uses. -/
def State.vecElem (s : State) (core : Nat) (d : Option StreamD) (r j : Nat) : State × Option VVal :=
  match d with
  | none => (s, some ⟨.int32, 0⟩)
  | some d =>
    match s.vecRead core d.space (d.at r j).toNat d.es with
    | (s1, some bs) => (s1, some ⟨(vFmt d.fmt).getD .int32, ofLeBytes bs⟩)
    | (s1, none) => (s1, none)

/-- Row and element at which a cache operand is read for element i of row r (R115). -/
def StreamD.cacheAt (d : StreamD) (r i : Nat) : Nat × Nat :=
  match d.cmode with
  | 0 => (0, i)
  | 1 => (0, r)
  | _ => (r, i)

/-- A cache operand's value for element i of row r; a position past its VL (an operand only PERM reads) reads as
nothing used. -/
def State.cacheElem (s : State) (core : Nat) (d : Option StreamD) (r i : Nat) : VVal :=
  match d with
  | none => ⟨.int32, 0⟩
  | some x =>
    let (cr, ci) := x.cacheAt r i
    if ci < x.len then ((s.vecElem core d cr ci).2).getD ⟨.int32, 0⟩ else ⟨(vFmt x.fmt).getD .int32, 0⟩

/-- PERM: element x of the cache operand for the current row, none out of bounds (R126). -/
def State.permElem (s : State) (core : Nat) (c0 c1 : Option StreamD) (r : Nat) (code : Nat) (x : Int) : Option VVal :=
  match (if code = 10 then c0 else c1) with
  | none => none
  | some d =>
    if x < 0 ∨ (d.len : Int) ≤ x then none
    else (s.vecElem core (some d) (if d.cmode = 2 then r else 0) x.toNat).2

/-- What the rows of a command have gathered: contributing elements of the current row, MCOUNT, flags. -/
structure RowAcc where
  red : List (Nat × Nat)
  mcount : Nat
  active : Nat
  flags : Nat
deriving DecidableEq, Repr

/-- A latched command, its descriptors and operations read. -/
structure VecRun where
  f : VecF
  cmd : VecCmd
  ds : List (Option StreamD)
  ops : List ChainOp
  rows : Nat
  len : Nat
  seed : Nat
deriving DecidableEq, Repr

/-- The command as latched at its start. -/
def VecRun.of (c : VecCmd) (seed : Nat) : VecRun :=
  let ds := c.descs.map fun o => o.map streamFields
  let sh := (cmdShape ds).getD (0, 0)
  ⟨vecFields c.word, c, ds, chainOps c.chain, sh.1, sh.2, seed⟩

/-- Descriptor k of a command. -/
def VecRun.d (v : VecRun) (k : Nat) : Option StreamD := nth none v.ds k

/-- Lane contents before the first operation: values nothing has written are open. [DESIGN CHOICE, log entry 26] -/
def staleLane (seed r i : Nat) : Lane :=
  ⟨(List.range 8).map fun k => ⟨.f .fp32, (Config.laneStale seed k r i).toNat⟩,
   (List.range 4).map fun k => (Config.laneStale seed (12 + k) r i).toNat % 2 == 1, none, 0⟩

/-- What a reduction over D takes for an element whose write of D its mask turned off: R124 does not exclude it, and no result
was rounded there, so that its value is open. [DESIGN CHOICE, log entry 26] -/
def VecRun.staleD (v : VecRun) (r i : Nat) : VVal :=
  let g := ((v.d 2).bind fun d => vFmt d.fmt).getD .int32
  ⟨g, (Config.laneStale v.seed 8 r i).toNat % 2 ^ (8 * g.size)⟩

/-- Elements j, j+1, … of row r, `n` of them: fault cause if a port fails. -/
def State.vecRow (s : State) (core : Nat) (v : VecRun) (r : Nat) : Nat → Nat → RowAcc → State × RowAcc × Option Nat
  | 0, _, z => (s, z, none)
  | n + 1, j, z =>
    match s.vecElem core (v.d 0) r j with
    | (s1, none) => (s1, z, some 0x06)
    | (s1, some va) =>
      match s1.vecElem core (v.d 1) r j with
      | (s2, none) => (s2, z, some 0x06)
      | (s2, some vb) =>
        let x : Elem := ⟨va, vb, s2.cacheElem core (v.d 3) r j, s2.cacheElem core (v.d 4) r j, v.cmd.s0.toNat,
          v.cmd.s1.toNat, j, r⟩
        let perm := s2.permElem core (v.d 3) (v.d 4) r
        let l := v.ops.foldl (laneOp v.cmd.arith perm v.cmd.fill.toNat x) (staleLane v.seed r j)
        let (s3, wok) : State × Bool :=
          match l.d, v.d 2 with
          | some w, some d => s2.vecWrite core d.space (d.at r j).toNat (leBytes d.es w.bits)
          | _, _ => (s2, true)
        let src : Option VVal :=
          if v.f.rop = 0 then none
          else if v.f.rsrc < 8 then some (nth ⟨.int32, 0⟩ l.v v.f.rsrc)
          else if v.f.rsrc = 8 then some va
          else some (l.d.getD (v.staleD r j))
        let contributes := !v.f.rmen || nth false l.m v.f.rmreg
        let (red, redFl) :=
          match src with
          | some w =>
            if contributes then let (p, fl) := redEnter v.cmd.arith w; (z.red ++ [(j, p)], fl) else (z.red, 0)
          | none => (z.red, 0)
        let z' : RowAcc :=
          ⟨red, z.mcount + b2n (v.f.smen && nth false l.m v.f.smreg), z.active + 1, z.flags ||| l.flags ||| redFl⟩
        if wok then s3.vecRow core v r n (j + 1) z' else (s3, z', some 0x07)

/-- Whether a command's reduction is floating point: the class of its source (R123). -/
def VecRun.redFloat (v : VecRun) : Bool :=
  if v.f.rsrc < 8 ∨ v.f.rsrc = 9 then
    let code := if v.f.rsrc = 9 then 8 else v.f.rsrc
    match (v.ops.filter fun c => c.op != 0 && c.dst == code && !opIsCmp c.op && !opIsMask c.op).getLast? with
    | some c => ((vFmt c.fmt).map VFmt.isFloat).getD true
    | none => true
  else
    match v.d 0 with
    | some d => ((vFmt d.fmt).map VFmt.isFloat).getD true
    | none => true

/-- Rows r, r+1, … of a command, `n` of them. Answers the state, MCOUNT, active elements, flags, the last row's summary
VALUE, and a fault (cause, row). -/
def State.vecRows (s : State) (core : Nat) (v : VecRun) :
    Nat → Nat → (Nat × Nat × Nat × Nat) → State × (Nat × Nat × Nat × Nat) × Option (Nat × Nat)
  | 0, _, z => (s, z, none)
  | n + 1, r, (mc, act, fl, _) =>
    match s.vecRow core v r v.len 0 ⟨[], mc, act, fl⟩ with
    | (s1, z, some c) => (s1, (z.mcount, z.active, z.flags, 0), some (c, r))
    | (s1, z, none) =>
      if v.f.rop = 0 then s1.vecRows core v n (r + 1) (z.mcount, z.active, z.flags, 0)
      else
        let isF := v.redFloat
        let (res, f1) := reduceRow v.cmd.arith v.f.rop isF z.red
        let idx := v.f.rop == 5 || v.f.rop == 6
        let fin : VVal := ⟨if isF && !idx then .f .fp32 else .int32, res⟩
        match v.d 5 with
        | none => s1.vecRows core v n (r + 1) (z.mcount, z.active, z.flags ||| f1, res)
        | some e =>
          let g := (vFmt e.fmt).getD .int32
          let (out, f2) := if fin.fmt = g then (fin, 0) else convVal v.cmd.arith fin g
          match s1.vecWrite core e.space (e.at r 0).toNat (leBytes e.es out.bits) with
          | (s2, true) => s2.vecRows core v n (r + 1) (z.mcount, z.active, z.flags ||| f1 ||| f2, widen out)
          | (s2, false) => (s2, (z.mcount, z.active, z.flags ||| f1 ||| f2, 0), some (0x07, r))

/-- The summary word (Table 4.6). -/
def summaryWord (value mc active flags : Nat) (smen stopped : Bool) : Nat :=
  value % 2 ^ 32 * 2 ^ 32 + Nat.min mc 65535 * 2 ^ 16 + b2n (mc != 0) * 2 ^ 15 + b2n (smen && mc == active) * 2 ^ 14 +
    b2n stopped * 2 ^ 13 + flags % 512

/-- A vector fault: every command is abandoned without a summary word, FAULT and OUT_INV are set, the first fault is
recorded, and the sequencer is told (R130). -/
def State.vecFault (s : State) (core cause row opidx : Nat) : State :=
  let d := core / 16
  let u := core % 16
  let s1 := if bit (s.rg .VE_FAULT d u 0) 31 then s
    else s.setRg .VE_FAULT d u 0 (2 ^ 31 + row % 4096 * 2 ^ 12 + opidx % 16 * 2 ^ 8 + cause)
  let s2 := s1.setRg .VE_STATUS d u 0 (s1.rg .VE_STATUS d u 0 ||| (2 ^ 12 + 2 ^ 11))
  (s2.setVec core { s2.vec core with queue := [], stopAt := false }).seqFault core 0x0D 4

/-- Whether `n` elements of `es` bytes, `step` apart from `base`, have a byte in the range: the first element that ends past the
range's start begins before the range's end. -/
def rowMeets (base : Int) (step es n : Nat) (g : Int × Int) : Bool :=
  let j := if g.1 < base + es then 0 else ((g.1 - base - es) / step + 1).toNat
  decide (j < n) && decide (base + j * step < g.2)

/-- Whether a command writes a byte of the range through a descriptor, over rows of `n` elements (R116). -/
def StreamD.writesIn (d : StreamD) (rows n : Nat) (g : Int × Int) : Bool :=
  (List.range rows).any fun r => rowMeets (d.at r 0) d.step d.es n g

/-- The streams a command writes, with the elements of a row: D where an operation of the chain writes it, E where the command
reduces. -/
def VecRun.writes (v : VecRun) : List (StreamD × Nat) :=
  let wroteD := v.ops.any fun c => c.op != 0 && c.dst == 8 && !opIsCmp c.op && !opIsMask c.op
  (if wroteD then ((v.d 2).map fun d => (d, v.len)).toList else []) ++
  (if v.f.rop != 0 then ((v.d 5).map fun d => (d, 1)).toList else [])

/-- Whether an earlier command writes a byte in a bounding range a later one reads (R116). -/
def hazard (e l : VecRun) : Bool :=
  let reads := (([l.d 0, l.d 1]).filterMap fun x => x.map fun d => (d.space, d.bounds l.rows l.len)) ++
    (([l.d 3, l.d 4]).filterMap fun x => x.map fun d => (d.space, d.bounds (d.cacheRows l.rows) d.len))
  e.writes.any fun w => reads.any fun r => w.1.space == r.1 && w.1.writesIn e.rows w.2 r.2

/-- What a command latches at its start (R105). -/
def State.vecLatch (s : State) (core : Nat) (c : VecCmd) : VecCmd :=
  let f := vecFields c.word
  { c with
    started := true
    chain := s.chainWords core f.chain
    descs := (s.vecDescs core f).getD [none, none, none, none, none, none]
    arith := s.arith (core / 16)
    fill := BitVec.ofNat 32 (s.rg .VE_FILL (core / 16) (core % 16) 0) }

/-- The first command that has not started, with those before it. -/
def splitStarted : List VecCmd → List VecCmd × Option (VecCmd × List VecCmd)
  | [] => ([], none)
  | c :: cs =>
    if c.started then let (a, b) := splitStarted cs; (c :: a, b) else ([], some (c, cs))

/-- Whether the first command not started is held under R116. -/
def State.vecHeld (s : State) (core : Nat) : Bool :=
  match splitStarted (s.vec core).queue with
  | (_, none) => false
  | (before, some (c, _)) => before.any fun e => hazard (VecRun.of e 0) (VecRun.of (s.vecLatch core c) 0)

/-- The next command starts its first beat, unless an earlier incomplete command writes what it reads (R105, R116). -/
def State.vecStart (s : State) (core : Nat) : State :=
  if s.vecFaulted core || (s.vec core).stopAt || s.vecHeld core then s
  else
    match splitStarted (s.vec core).queue with
    | (_, none) => s
    | (before, some (c, after)) =>
      s.setVec core { s.vec core with queue := before ++ [s.vecLatch core c] ++ after }

/-- Deliver a summary word: into SUMREG and SEQ_LASTSUM (R128, R142). -/
def State.deliverSummary (s : State) (core : Nat) (c : VecCmd) (word : Nat) : State :=
  (s.setSc core (vecFields c.word).sumreg word).setRg .SEQ_LASTSUM (core / 16) (core % 16) 0 word

/-- The oldest started command runs and ends. With `stop` a stop request takes effect while row `stop` is processed: that row
completes, and the command is stopped (no SEM signal) unless it was the last; once the last started command has ended, no request
is pending any more. A parity error (`flt`: cause, row, operation) or a port error abandons it (R128 to R130, R140, R66). [DEDUCED, log entry 5; DESIGN CHOICE, log entry 28] -/
def State.vecFinish (s : State) (core : Nat) (stop : Option Nat) (flt : Option (Nat × Nat × Nat)) : State :=
  let d := core / 16
  let u := core % 16
  match (s.vec core).queue with
  | [] => s
  | c :: rest =>
    if !c.started then s
    else
      let (o, s0) := s.freshVal
      let v := VecRun.of c s.freshCtr
      let rows :=
        match flt, stop with
        | some (_, r, _), _ => Nat.min r v.rows
        | none, some r => Nat.min (r + 1) v.rows
        | none, none => v.rows
      match s0.vecRows core v rows 0 (0, 0, 0, 0) with
      | (s1, (_, _, fl, _), some (cause, r)) =>
        (s1.raise d u (abandonedFlags o fl)).vecFault core cause r 0
      | (s1, (mc, act, fl, val), none) =>
        match flt with
        | some (cause, r, op) => (s1.raise d u (abandonedFlags o fl)).vecFault core cause r op
        | none =>
          let s2 := (s1.raise d u fl).bump .VE_ELEMS d u 0 act
          let s3 := s2.setVec core { s2.vec core with queue := rest, stopAt := stop.isSome && !rest.isEmpty }
          let early := decide (rows < v.rows)
          let s4 := s3.deliverSummary core c (summaryWord val mc act fl v.f.smen early)
          if early then s4
          else
            let s5 := s4.bump .VE_CMDS d u 0 1
            if v.f.sig then s5.addSem d v.f.sem 1 else s5

end Sys2Proof.Machine
end

