-- ==== Sys2Proof/Machine/Press.lean ====
section
/-!
DEFINITION. The update engines (Press) and the replica digests (Sorrel): update lists, programs, tiles, direction rings, working
copies, arrivals, and the exchange of digests (R282 to R321, R380, R408).
-/

namespace Sys2Proof.Machine

/-! ### Entries and programs (R285 to R291) -/

/-- An update-list entry (Table 10.2). -/
structure PrEntry where
  prog : Nat
  opt : Nat
  blm1 : Nat
  wfmt : Nat
  gfmt : Nat
  dfmt : Nat
  rsvd : Nat
  count : Nat
  pidx : Nat
  master : Nat
  mom1 : Nat
  mom2 : Nat
  wcOff : Nat
  gradOff : Nat
deriving DecidableEq, Repr

/-- The fields of Table 10.2. -/
def prEntry (bs : List Nat) : PrEntry :=
  ⟨nth 0 bs 0, nth 0 bs 1, nth 0 bs 2, nth 0 bs 3, nth 0 bs 4, nth 0 bs 5, fieldAt bs 6 2 + fieldAt bs 12 4, fieldAt bs 8 4,
   fieldAt bs 16 8, fieldAt bs 24 8, fieldAt bs 32 8, fieldAt bs 40 8, fieldAt bs 48 8, fieldAt bs 56 8⟩

/-- Per-block mode. -/
def PrEntry.block (x : PrEntry) : Bool := bit x.opt 0

/-- Stochastic re-derivation. -/
def PrEntry.sr (x : PrEntry) : Bool := bit x.opt 1

/-- Included in the digest. -/
def PrEntry.sorrel (x : PrEntry) : Bool := bit x.opt 2

/-- Working-copy format. -/
def PrEntry.wf (x : PrEntry) : Fp := (matFmt x.wfmt).getD .bf16

/-- Bytes of a direction value. -/
def PrEntry.dirSize (x : PrEntry) : Nat := if x.dfmt = 0 then 4 else if x.dfmt = 2 then 2 else 0

/-- Elements of a tile from element i on (R293, R294). -/
def PrEntry.tile (x : PrEntry) (i : Nat) : Nat := Nat.min (if x.block then x.blm1 + 1 else 256) (x.count - i)

/-- A Press instruction (R288). -/
structure PrIns where
  op : Nat
  d : Nat
  a : Nat
  b : Nat
  c : Nat
  x : Nat
deriving DecidableEq, Repr

/-- The fields of an instruction word. -/
def prIns (w : Nat) : PrIns := ⟨bits w 26 6, bits w 22 4, bits w 18 4, bits w 14 4, bits w 10 4, bits w 0 10⟩

/-- Fields an operation uses: D, the number of register sources, the values X may take (Table 10.3); none if not listed. -/
def prForm : Nat → Option (Bool × Nat × Nat)
  | 0x01 => some (true, 0, 5)
  | 0x02 => some (false, 1, 3)
  | 0x03 => some (true, 0, 32)
  | 0x04 => some (false, 0, 1)
  | 0x08 | 0x09 | 0x0A => some (true, 1, 1)
  | 0x10 | 0x11 | 0x12 => some (true, 2, 1)
  | 0x13 => some (true, 3, 1)
  | 0x14 => some (true, 2, 1)
  | 0x15 => some (true, 1, 1)
  | 0x16 | 0x17 => some (true, 2, 1)
  | 0x20 => some (true, 2, 1)
  | 0x21 => some (true, 1, 1)
  | 0x22 => some (true, 3, 1)
  | 0x30 | 0x31 => some (true, 1, 1)
  | _ => none

/-- Registers an instruction reads. -/
def PrIns.reads (i : PrIns) : List Nat :=
  match prForm i.op with
  | some (_, n, _) => [i.a, i.b, i.c].take n
  | none => []

/-- Whether an instruction's operation and fields are listed. -/
def PrIns.listed (i : PrIns) : Bool :=
  match prForm i.op with
  | some (d, n, xs) =>
    (d || i.d == 0) && (decide (1 ≤ n) || i.a == 0) && (decide (2 ≤ n) || i.b == 0) && (decide (3 ≤ n) || i.c == 0) &&
      decide (i.x < xs)
  | none => false

/-- Whether no instruction reads a register that no earlier one has written. -/
def prReadsOk : List Nat → List PrIns → Bool
  | _, [] => true
  | w, i :: is =>
    i.reads.all (fun r => w.contains r) &&
      prReadsOk (match prForm i.op with
        | some (true, _, _) => i.d :: w
        | _ => w) is

/-- Whether a program is valid (R291). -/
def prValid (p : List PrIns) : Bool :=
  let st (x : Nat) : Nat := (p.filter fun i => i.op == 2 && i.x == x).length
  p.all PrIns.listed && prReadsOk [] p && st 0 == 1 && decide (st 1 ≤ 1) && decide (st 2 ≤ 1) &&
    (p.filter fun i => i.op == 4).length == 1 && (p.getLast?.map PrIns.op) == some 4

/-- The program of a slot of an engine. -/
def State.prProg (s : State) (m e slot : Nat) : List PrIns :=
  let d := 0x40 + m
  let len := Nat.min (bits (s.rg .PR_PLEN d 0 e) (8 * slot) 8) 64
  (List.range len).map fun i => prIns (s.rg .PR_PROG d e (64 * slot + i))

/-- Whether a program loads a stream. -/
def loads (p : List PrIns) (x : Nat) : Bool := p.any fun i => i.op == 1 && i.x == x

/-- Whether an entry is invalid (R286). -/
def State.prEntryBad (s : State) (m e : Nat) (x : PrEntry) : Bool :=
  let d := 0x40 + m
  let n := 4 * x.count
  let array (a : Nat) : Bool := a % 256 == 0 && decide (a < 2 ^ 44) && s.inLocalPart 1 m a n
  let p := s.prProg m e x.prog
  !(decide (x.prog < 8) && decide (x.opt < 8) && (x.block || x.blm1 == 0) && decide (2 ≤ x.wfmt) && decide (x.wfmt ≤ 4) &&
    (x.gfmt == 1 || x.gfmt == 2) && (x.dfmt == 0 || x.dfmt == 2 || x.dfmt == 7) && x.rsvd == 0 && x.count != 0 &&
    decide (x.pidx < 2 ^ 48) && array x.master && array x.mom1 && array x.mom2 && !overlaps x.master n x.mom1 n &&
    !overlaps x.master n x.mom2 n && !overlaps x.mom1 n x.mom2 n && x.wcOff % 256 == 0 && x.gradOff % 256 == 0 &&
    decide (x.wcOff + x.count * x.wf.size ≤ s.rg .PR_WC_LEN d 0 e) &&
    decide (x.gradOff + 2 * x.count ≤ bits (s.rg .PR_GRAD_RING d 0 e) 0 40) &&
    prValid p && (x.block || !p.any fun i => i.op == 0x30 || i.op == 0x31) && (x.dfmt != 7 || !loads p 4))

/-! ### Running a program (R288 to R294) -/

/-- What a program sees and leaves of one element: registers, streams, what it would store. -/
structure PrElem where
  regs : List Nat
  master : Nat
  mom1 : Nat
  mom2 : Nat
  grad : Nat
  dir : Nat
  stMaster : Option Nat
  st1 : Option Nat
  st2 : Option Nat
deriving DecidableEq, Repr

/-- Register Fi. -/
def PrElem.f (x : PrElem) (i : Nat) : Nat := nth 0 x.regs i

/-- Write Fi. -/
def PrElem.set (x : PrElem) (i v : Nat) : PrElem := { x with regs := setAt x.regs i v }

/-- LD GRAD of an element: widened, and multiplied by 2^-e (R292). -/
def gradValue (ar : Arith) (gf : Fp) (e x : Nat) : Nat × Nat :=
  let (w, f) := fconv ar gf .fp32 x
  match fin ar .fp32 w with
  | (.fin n k j, g) =>
    let (r, h) := roundFin ar .fp32 n k (j - e)
    (r, f ||| g ||| h)
  | _ => (w, f)

/-- An arithmetic or selecting operation (Table 10.3). -/
def prOp (ar : Arith) (op a b c : Nat) : Nat × Nat :=
  let one := 0x3F800000
  match op with
  | 0x08 => (a, 0)
  | 0x09 => (a ^^^ 2 ^ 31, 0)
  | 0x0A => (a % 2 ^ 31, 0)
  | 0x10 => fadd ar .fp32 a b
  | 0x11 => fsub ar .fp32 a b
  | 0x12 => fmul ar .fp32 a b
  | 0x13 => ffma ar .fp32 a b c
  | 0x14 => fdiv ar .fp32 a b
  | 0x15 => fsqrt ar .fp32 a
  | 0x16 => combine ar 4 true a b
  | 0x17 => combine ar 3 true a b
  | 0x20 =>
    let (x, fx) := fin ar .fp32 a
    let (y, fy) := fin ar .fp32 b
    (if cmpVal x y = some .lt then one else 0, fx ||| fy)
  | 0x21 => (if Fp.fp32.nonFinite a then 0 else one, 0)
  | _ => (if c % 2 ^ 31 ≠ 0 then a else b, 0)

/-- What LD and LDK need beside the element: gradient format, loss-scale exponent, direction format, slot constants, step
record. -/
structure PrEnv where
  ar : Arith
  gf : Fp
  e : Nat
  dirBf : Bool
  ks : List Nat
  ss : List Nat
deriving DecidableEq, Repr

/-- One instruction on one element. -/
def prElemStep (v : PrEnv) (i : PrIns) (x : PrElem) : PrElem × Nat :=
  match i.op with
  | 0x01 =>
    let (w, f) :=
      match i.x with
      | 0 => (x.master, 0)
      | 1 => (x.mom1, 0)
      | 2 => (x.mom2, 0)
      | 3 => gradValue v.ar v.gf v.e x.grad
      | _ => if v.dirBf then fconv v.ar .bf16 .fp32 x.dir else (x.dir, 0)
    (x.set i.d w, f)
  | 0x02 =>
    (match i.x with
      | 0 => { x with stMaster := some (x.f i.a) }
      | 1 => { x with st1 := some (x.f i.a) }
      | _ => { x with st2 := some (x.f i.a) }, 0)
  | 0x03 => (x.set i.d (if i.x < 16 then nth 0 v.ks i.x else nth 0 v.ss (i.x - 16)), 0)
  | 0x04 => (x, 0)
  | _ =>
    let (r, f) := prOp v.ar i.op (x.f i.a) (x.f i.b) (x.f i.c)
    (x.set i.d r, f)

/-- One instruction on every element of a tile (R293, R294). -/
def prStep (v : PrEnv) (i : PrIns) (xs : List PrElem) : List PrElem × Nat :=
  if i.op = 0x30 ∨ i.op = 0x31 then
    let vals := takePad none 256 (xs.map fun x => some (x.f i.a))
    let (r, f) := treeLevels v.ar (if i.op = 0x30 then 1 else 3) true 8 vals
    let w := ((r.head?).getD none).getD 0
    (xs.map fun x => x.set i.d w, f)
  else
    let rs := xs.map fun x => prElemStep v i x
    (rs.map Prod.fst, rs.foldl (fun z r => z ||| r.2) 0)

/-- A program on a tile. -/
def prRun (v : PrEnv) : List PrIns → List PrElem → List PrElem × Nat
  | [], xs => (xs, 0)
  | i :: is, xs =>
    let (ys, f) := prStep v i xs
    let (zs, g) := prRun v is ys
    (zs, f ||| g)

/-- Whether an element is held (R293). -/
def PrElem.held (x : PrElem) : Bool :=
  [x.stMaster, x.st1, x.st2].any fun o => (o.map Fp.fp32.nonFinite) == some true

/-- The master value after the program. -/
def PrElem.newMaster (x : PrElem) : Nat := if x.held then x.master else x.stMaster.getD x.master

/-! ### Re-derivation (R304, R305) -/

/-- mix of R305. -/
def mix64 (z0 : Nat) : Nat :=
  let z1 := (z0 + 0x9E3779B97F4A7C15) % 2 ^ 64
  let z2 := ((z1 ^^^ (z1 >>> 30)) * 0xBF58476D1CE4E5B9) % 2 ^ 64
  let z3 := ((z2 ^^^ (z2 >>> 27)) * 0x94D049BB133111EB) % 2 ^ 64
  z3 ^^^ (z3 >>> 31)

/-- The working value of a master value, of parameter `idx` in the update of step `k` under a seed: RNE in either mode, or stochastic
(R304). -/
def rederive (ar : Arith) (x : PrEntry) (seed k idx master : Nat) : Nat × Nat :=
  if x.sr then fconvStoch ar .fp32 x.wf master (mix64 (mix64 (seed ^^^ k % 2 ^ 64) ^^^ idx) % 2 ^ 16)
  else fconv { ar with rm := .rne } .fp32 x.wf master

/-- Addresses of the current and the shadow working-copy buffer of an engine. -/
def State.prBuffers (s : State) (m e : Nat) : Nat × Nat :=
  let d := 0x40 + m
  let a := s.rg .PR_WC0 d 0 e
  let b := s.rg .PR_WC1 d 0 e
  if s.rg .PR_WC_SEL d 0 e = 0 then (a, b) else (b, a)

/-! ### Digests (R312, R313) -/

/-- One bit of the CRC-64 of R312. -/
def crc64Bit (c : Nat) : Nat := if bit c 63 then ((c * 2) % 2 ^ 64) ^^^ 0x42F0E1EBA9EA3693 else c * 2

/-- One byte of the CRC-64. -/
def crc64Byte (c b : Nat) : Nat :=
  (List.range 8).foldl (fun z _ => crc64Bit z) (c ^^^ (b % 256 * 2 ^ 56))

/-- The CRC-64 of bytes from state `c`. -/
def crc64From (c : Nat) (bs : List Nat) : Nat := bs.foldl crc64Byte c

/-- The CRC-64 of a list of digests. -/
def crc64Of (ds : List Nat) : Nat := crc64From 0 (ds.flatMap fun d => leBytes 8 d)

/-- Whether a step is a Sorrel step. -/
def State.sorrelStep (s : State) (k : Nat) : Bool :=
  let p := bits (s.g .SORREL_CFG) 0 16
  p != 0 && k % p == 0

/-- Bytes of a shard. -/
def shardBytes : Nat := 1048576

/-- Fold master bytes of an entry into an engine's digest from byte `at_` on: finished shard digests are appended. -/
def foldShards (x : PrEntry) (p : PressS) : Nat → Nat → List Nat → PressS
  | 0, _, _ => p
  | fuel + 1, at_, bs =>
    if bs.isEmpty then p
    else
      let room := shardBytes - p.crcLen
      let now := bs.take room
      let c := crc64From p.crc now
      let len := p.crcLen + now.length
      let pos := at_ + now.length
      if len = shardBytes ∨ pos = 4 * x.count then
        let first := x.pidx + (pos - len) / 4
        let d := crc64From c (leBytes 8 first)
        foldShards x { p with crc := 0, crcLen := 0, shards := p.shards ++ [d] } fuel pos (bs.drop room)
      else { p with crc := c, crcLen := len }

/-! ### Lists and memory of an engine -/

/-- Staging address of entry i of the map in use. -/
def State.prEntryAddr (s : State) (m e map i : Nat) : Nat := s.stAddr m (bits (s.prListOf m e map) 0 26 + 64 * i)

/-- Entries of the list of a map. -/
def State.prCount (s : State) (m e map : Nat) : Nat := bits (s.prListOf m e map) 32 16

/-- Read for an engine: a fault cause where it fails. -/
def State.prRead (s : State) (m : Fin 12) (e : Fin 8) (addr n : Nat) : State × RnAns (List Nat) :=
  if n = 0 then (s, .ok [])
  else
    match s.memRead (.press m e) addr n with
    | (s1, .ok bs) => (s1, .ok bs)
    | (s1, .error _) => (s1, .fault 0x01)

/-- Read and check entry i. -/
def State.prEntryAt (s : State) (m : Fin 12) (e : Fin 8) (map i : Nat) : State × RnAns PrEntry :=
  match s.prRead m e (s.prEntryAddr m e map i) 64 with
  | (s1, .fault c) => (s1, .fault c)
  | (s1, .ok bs) =>
    let x := prEntry bs
    if s1.prEntryBad m e x then (s1, .fault 0x04) else (s1, .ok x)

/-- Write for an engine. -/
def State.prWrite (s : State) (m : Fin 12) (e : Fin 8) (addr : Nat) (bs : List Nat) : State × Option Nat :=
  match s.memWrite (.press m e) addr bs with
  | (s1, none) => (s1, none)
  | (s1, some _) => (s1, some 0x02)

/-- Write several pieces in order. -/
def State.prWrites (s : State) (m : Fin 12) (e : Fin 8) : List (Nat × List Nat) → State × Option Nat
  | [] => (s, none)
  | (a, bs) :: ws =>
    match s.prWrite m e a bs with
    | (s1, none) => s1.prWrites m e ws
    | (s1, some c) => (s1, some c)

/-- Read several pieces in order. -/
def State.prReads (s : State) (m : Fin 12) (e : Fin 8) : List (Nat × Nat) → State × RnAns (List (List Nat))
  | [] => (s, .ok [])
  | (a, n) :: rs =>
    match s.prRead m e a n with
    | (s1, .fault c) => (s1, .fault c)
    | (s1, .ok bs) =>
      match s1.prReads m e rs with
      | (s2, .fault c) => (s2, .fault c)
      | (s2, .ok bss) => (s2, .ok (bs :: bss))

/-- Direction bytes of a step under a map: one value for each element of each entry that has one. -/
def State.dirTotal (s : State) (m e map : Nat) : Nat :=
  (List.range (s.prCount m e map)).foldl (fun z i =>
    let x := prEntry (s.bytes (s.prEntryAddr m e map i) 64)
    z + x.count * x.dirSize) 0

/-- Direction bytes that the next tile needs. -/
def State.dirNeed (s : State) (m e : Nat) : Nat :=
  let p := s.press m e
  if p.entry < s.prCount m e p.map then
    let x := prEntry (s.bytes (s.prEntryAddr m e p.map p.entry) 64)
    x.tile p.elem * x.dirSize
  else 0

/-- Whether the engine needs another direction chunk: in a discarded step while any is left, else while the next tile lacks
values (R284, R301). -/
def State.dirWanted (s : State) (m e : Nat) : Bool :=
  let p := s.press m e
  (p.gatePassed || p.skip) && decide (p.dirTaken < s.dirTotal m e p.map) && (p.skip || decide (p.dirBuf.length < s.dirNeed m e))

/-- Begin the wait on FULL for the next chunk, if it is needed and not yet begun (R284). -/
def State.dirArm (s : State) (m e : Nat) : State :=
  let d := 0x40 + m
  if s.prState m e = 2 ∧ s.dirWanted m e ∧ !s.granted d (.dirRing e) ∧
      !s.semWaits.any (fun w => w.die == d && w.who == Waiter.dirRing e) then
    s.unitWait d (bits (s.rg .PR_DIR_SEM d 0 e) 0 12) 1 (.dirRing e)
  else s

/-! ### Start (R296, R301, R306, R380) -/

/-- u(k) (R297). -/
def State.updateEpoch (s : State) (k : Nat) : Int :=
  s.boundary (k + bits (s.g .PR_CFG) 4 3) + (bits (s.g .PR_CFG) 8 8 : Nat)

/-- The map of step k (R380). -/
def State.mapOf (s : State) (k : Nat) : Nat :=
  let sel := s.g .SHARD_SEL % 2
  if s.g .SHARD_J0 ≤ k then sel else 1 - sel

/-- Whether the instance of step k is the undecided one of the update slot. -/
def State.updateOpen (s : State) (k : Nat) : Bool :=
  let h := bits (s.g .PR_CFG) 0 4
  s.hoopUndecided h && s.rg .HOOP_TAG 0x60 0 h == k

/-- PENDING clears when every engine with a non-empty list runs under the selected map (R380). -/
def State.gateCheck (s : State) : State :=
  let sel := s.g .SHARD_SEL % 2
  if (enginePairs 8).all fun q => !s.prActive q.1 q.2 || (s.press q.1 q.2).lastMap == some sel then
    s.setG .SHARD_STATUS (setBits (s.g .SHARD_STATUS) 0 1 0)
  else s

/-- Begin the update of a step, or its discard, which a digest pass follows in a Sorrel step: the shard gate stands before an update and
before a digest pass (R301, R380). -/
def State.pressBegin (s : State) (m e : Nat) (skip : Bool) : State :=
  let d := 0x40 + m
  let p := s.press m e
  let map := s.mapOf p.step
  let runs := !skip || s.sorrelStep p.step
  let gate := runs && p.lastMap.isSome && p.lastMap != some map
  let s1 := s.setPress m e { p with
    map := map, entry := 0, elem := 0, started := !skip, skip := skip, gatePassed := !gate
    lastMap := if gate || !runs then p.lastMap else some map
    crc := 0, crcLen := 0, shards := [], dirBuf := [], dirTaken := 0, arith := s.arith d
    ks := (List.range 128).map fun j => s.rg .PR_K d 0 j }
  let sweep := !skip && decide (s.g .PR_SWEEP_NEXT ≤ p.step)
  let s2 := ((s1.setPrState m e 2).setFld .PR_STATUS d 0 e 5 1 (b2n sweep)).setFld .PR_STATUS d 0 e 16 16 0
  let s3 := if gate then s2.unitWait d (bits (s2.g .SHARD_GATE) 0 12) 1 (.gate e) else s2.gateCheck
  s3.dirArm m e

/-- UPDATE_START (R296, R301): a step whose verdict is overflow is discarded, whether or not its instance has aborted yet; one whose
instance aborted for another cause before its update started is dropped. -/
def execUpdateStart (m : Fin 12) (e : Fin 8) (s : State) : Host.Outcome State Fault Refusal :=
  let d := 0x40 + m.val
  let p := s.press m e
  let k := p.step
  if s.prState m e ≠ 1 ∨ !s.prActive m e ∨ !bit (s.g .PR_CFG) 16 ∨ bit (s.g .RESTART_CTRL) 0 then .next s
  else if p.aborted.contains (k, true) || s.brineOverflow k then .next (s.pressBegin m e true)
  else if p.aborted.contains (k, false) then
    .next (s.setPress m e { p with step := k + 1, aborted := p.aborted.erase (k, false) })
  else
    let lag := bits (s.g .PR_CFG) 4 3
    let need := if lag < 2 then s.boundary (k + 1) else s.boundary (k + lag - 1)
    if s.updateOpen k ∧ need ≤ (s.epochOf d : Int) then .next (s.pressBegin m e false) else .next s

/-- SHARD_GATE_PASS (R380). [DEDUCED, log entry 69] -/
def execShardGatePass (m : Fin 12) (e : Fin 8) (s : State) : Host.Outcome State Fault Refusal :=
  let d := 0x40 + m.val
  let p := s.press m e
  if s.prState m e ≠ 2 ∨ p.gatePassed ∨ !s.granted d (.gate e.val) then .next s
  else
    let s1 := (s.useGrant d (.gate e.val)).setPress m e { p with gatePassed := true, lastMap := some p.map }
    .next (s1.gateCheck.dirArm m e)

/-! ### Directions (R284, R301) -/

/-- DIR_CHUNK (R284): the engine reads the next chunk, as much of it as the step has values for, and signals FREE. [DEDUCED, log entry 69] -/
def execDirChunk (m : Fin 12) (e : Fin 8) (s : State) : Host.Outcome State Fault Refusal :=
  let d := 0x40 + m.val
  let p := s.press m e
  if s.prState m e ≠ 2 ∨ !s.dirWanted m e then .next s
  else if !s.granted d (.dirRing e.val) then .next (s.dirArm m e)
  else
    let ring := s.rg .PR_DIR_RING d 0 e
    let chunk := bits ring 26 22 * 1024
    let n := Nat.min chunk (s.dirTotal m e p.map - p.dirTaken)
    let s1 := s.useGrant d (.dirRing e.val)
    match s1.prRead m e (s1.stAddr m (bits ring 0 26 + p.ringPos * chunk)) n with
    | (s2, .fault c) => .next (s2.pressFault m e c p.entry)
    | (s2, .ok bs) =>
      let s3 := s2.setPress m e { p with
        dirBuf := if p.skip then [] else p.dirBuf ++ bs
        dirTaken := p.dirTaken + n
        ringPos := (p.ringPos + 1) % Nat.max (bits ring 48 16) 1 }
      let sem := s3.rg .PR_DIR_SEM d 0 e
      let fdie := bits sem 24 8
      let s4 := if dieCode fdie then s3.signal d false fdie (bits sem 12 12) 1 else s3
      .next (s4.dirArm m e)

/-- DIR_RING_WAIT_TIMEOUT (R318). -/
def execDirRingWaitTimeout (m : Fin 12) (e : Fin 8) (s : State) : Host.Outcome State Fault Refusal :=
  let d := 0x40 + m.val
  match s.semWaits.find? fun w => w.die == d && w.who == Waiter.dirRing e.val with
  | some w =>
    let limit := s.rg .VETCH_SEM_TO d 0 0
    if limit ≠ 0 ∧ limit ≤ w.lt then .next (s.pressFault m e 0x05 (s.press m e).entry) else .next s
  | none => .next s

/-! ### Tiles (R293) -/

/-- Place the words of unheld elements over the stored ones. -/
def storeWords (old : List Nat) (new : List (Option Nat)) : List Nat :=
  ((old.zip new).map fun p => p.2.getD p.1).flatMap fun w => leBytes 4 w

/-- Whether any of the pieces of a tile would wait for a capture (R400). -/
def State.tileGuarded (s : State) (m e : Nat) (x : PrEntry) (i n : Nat) : Bool :=
  s.guards != [] &&
    (s.guarded (x.master + 4 * i) (4 * n) || s.guarded (x.mom1 + 4 * i) (4 * n) || s.guarded (x.mom2 + 4 * i) (4 * n) ||
      s.guarded ((s.prBuffers m e).2 + x.wcOff + i * x.wf.size) (n * x.wf.size) ||
      s.guarded (s.rg .PR_SORTAB (0x40 + m) 0 e + 8 * (s.press m e).shards.length) 16)

/-- The sweep comparison of a tile (R306): none, or a fault cause. -/
def State.sweepTile (s : State) (m : Fin 12) (e : Fin 8) (x : PrEntry) (ar : Arith) (i : Nat) (masters : List Nat) :
    State × Option Nat :=
  let sz := x.wf.size
  match s.readRaw ((s.prBuffers m e).1 + x.wcOff + i * sz) (masters.length * sz) with
  | (s1, .error _) => (s1, some 0x01)
  | (s1, .ok bs) =>
    let seed := s1.g .PR_SEED
    let k := s1.g .PR_LAST
    let want := ((List.range masters.length).zip masters).map fun p => (rederive ar x seed k (x.pidx + i + p.1) p.2).1
    if elems sz bs = want then (s1, none) else (s1, some 0x08)

/-- Store the finished shard digests of a tile in the Sorrel table (R313). -/
def State.shardWrites (s : State) (m e : Nat) (p q : PressS) : List (Nat × List Nat) :=
  let t := s.rg .PR_SORTAB (0x40 + m) 0 e
  ((List.range q.shards.length).drop p.shards.length).map fun j => (t + 8 * j, leBytes 8 (nth 0 q.shards j))

/-- The master copies and moments of list entry i of a map are undefined (R316). -/
def scrambleEntry (m e map : Nat) (s : State) (i : Nat) : State :=
  let x := prEntry (s.bytes (s.prEntryAddr m e map i) 64)
  if s.prEntryBad m e x then s
  else ((s.scramble x.master (4 * x.count)).scramble x.mom1 (4 * x.count)).scramble x.mom2 (4 * x.count)

/-- Master copies, moments and the shadow buffer of an engine with a list are undefined from a stop on (R316). -/
def State.pressUndefined (s : State) (m e : Nat) : State :=
  if !s.prActive m e then s
  else
    let s1 := (List.range 2).foldl (fun (z : State) map => (List.range (z.prCount m e map)).foldl (scrambleEntry m e map) z) s
    s1.scramble (s1.prBuffers m e).2 (s1.rg .PR_WC_LEN (0x40 + m) 0 e)

/-- An engine is STOPPED (R316, R320). -/
def State.pressStopped (s : State) (m e : Nat) : State :=
  ((s.setPrState m e 5).setFld .PR_STATUS (0x40 + m) 0 e 5 1 0).pressUndefined m e

/-- Whether an engine has a tile that it can be working on. -/
def State.tileAhead (s : State) (m e : Nat) : Bool :=
  let p := s.press m e
  s.prState m e == 2 && !p.skip && p.gatePassed && decide (p.entry < s.prCount m e p.map)

/-- Run the next tile with its operands read: masters, moments, gradients, directions as patterns. Under a stop request it is the last
one (R316). -/
def State.tileStore (s : State) (m : Fin 12) (e : Fin 8) (x : PrEntry) (i : Nat) (xs : List PrElem) (flags : Nat) : State :=
  let d := 0x40 + m.val
  let p := s.press m e
  let n := xs.length
  let k := p.step
  let ar := p.arith
  let seed := s.g .PR_SEED
  let wcs := ((List.range n).zip xs).map fun y => rederive ar x seed k (x.pidx + i + y.1) y.2.newMaster
  let fl := wcs.foldl (fun z w => z ||| w.2) flags
  let keep (f : PrElem → Option Nat) : List (Option Nat) := xs.map fun y => if y.held then none else f y
  let masters := storeWords (xs.map PrElem.master) (keep PrElem.stMaster)
  let put (a : Nat) (f : PrElem → Option Nat) : List (Nat × List Nat) :=
    if xs.any (fun y => (f y).isSome) then [(a + 4 * i, storeWords (elems 4 (s.bytes (a + 4 * i) (4 * n))) (keep f))] else []
  let digest := x.sorrel && s.sorrelStep k
  let q := if digest then foldShards x p (n + 2) (4 * i) masters else p
  let pieces := (x.master + 4 * i, masters) :: (put x.mom1 PrElem.st1 ++ put x.mom2 PrElem.st2 ++
    [((s.prBuffers m e).2 + x.wcOff + i * x.wf.size, wcs.flatMap fun w => leBytes x.wf.size w.1)] ++ s.shardWrites m e p q)
  match (s.raise d (4 + e.val) fl).prWrites m e pieces with
  | (s1, some c) => s1.pressFault m e c p.entry
  | (s1, none) =>
    let held := (xs.filter PrElem.held).length
    let s2 := (s1.bump .PR_ELEMS d 0 e n).bump .PR_HELD d 0 e held
    let last := decide (x.count ≤ i + n)
    let s3 := s2.setPress m e { q with
      entry := if last then p.entry + 1 else p.entry
      elem := if last then 0 else i + n
      dirBuf := p.dirBuf.drop (n * x.dirSize) }
    let s4 := s3.setFld .PR_STATUS d 0 e 16 16 p.entry
    if s.stopping then s4.pressStopped m e else s4.dirArm m e

/-- What a tile reads (R293): address and length of its master values, moments, gradients and schedule record, each where the
program loads it. -/
def State.tileSpans (s : State) (m : Fin 12) (e : Fin 8) (x : PrEntry) (i : Nat) : List (Nat × Nat) :=
  let d := 0x40 + m.val
  let k := (s.press m e).step
  let n := x.tile i
  let prog := s.prProg m e x.prog
  let ring := s.rg .PR_GRAD_RING d 0 e
  let gAddr := s.rg .PR_GRAD d 0 e + k % Nat.max (bits ring 56 3) 1 * bits ring 0 40 + x.gradOff + 2 * i
  let sch := s.g .PR_SCHED
  let rec_ := s.stAddr m (bits sch 0 26 + 64 * (k % Nat.max (bits sch 48 16) 1))
  let want (c : Bool) (len : Nat) : Nat := if c then len else 0
  [(x.master + 4 * i, want (loads prog 0) (4 * n)), (x.mom1 + 4 * i, want (loads prog 1) (4 * n)),
   (x.mom2 + 4 * i, want (loads prog 2) (4 * n)), (gAddr, want (loads prog 3) (2 * n)),
   (rec_, want (prog.any fun j => j.op == 3 && decide (16 ≤ j.x)) 64)]

/-- Read a tile's operands and run its program. -/
def State.tileRun (s : State) (m : Fin 12) (e : Fin 8) (x : PrEntry) (i : Nat) : State :=
  let d := 0x40 + m.val
  let p := s.press m e
  let k := p.step
  let n := x.tile i
  let prog := s.prProg m e x.prog
  let exp := if loads prog 3 then s.brineExp k else some 0
  match exp with
  | none => s.pressFault m e 0x0A p.entry
  | some ex =>
    match s.prReads m e (s.tileSpans m e x i) with
    | (s1, .fault c) => s1.pressFault m e c p.entry
    | (s1, .ok rs) =>
      let gf : Fp := if x.gfmt = 1 then .fp16 else .bf16
      let col (j sz : Nat) : List Nat := elems sz (nth [] rs j)
      let masters := elems 4 (s1.bytes (x.master + 4 * i) (4 * n))
      let grads := col 3 2
      if grads.any fun g => gf.nonFinite g then (s1.raise d (4 + e.val) flNONFIN).pressFault m e 0x06 p.entry
      else
        let swept : State × Option Nat :=
          if bit (s1.rg .PR_STATUS d 0 e) 5 then s1.sweepTile m e x p.arith i masters else (s1, none)
        match swept with
        | (s2, some c) => s2.pressFault m e c p.entry
        | (s2, none) =>
          let dirs := elems x.dirSize (p.dirBuf.take (n * x.dirSize))
          let xs := (List.range n).map fun j =>
            (⟨List.replicate 16 0, nth 0 masters j, nth 0 (col 1 4) j, nth 0 (col 2 4) j, nth 0 grads j, nth 0 dirs j,
              none, none, none⟩ : PrElem)
          let v : PrEnv := ⟨p.arith, gf, ex, x.dfmt == 2,
            (List.range 16).map fun j => nth 0 p.ks (16 * x.prog + j), col 4 4⟩
          let (ys, fl) := prRun v prog xs
          s2.tileStore m e x i ys fl

/-- PRESS_TILE (R293): one tile of the update; it needs its direction values, and no piece of it may wait for a capture. [DESIGN CHOICE, log entry 28; DEDUCED, log entry 69] -/
def execPressTile (m : Fin 12) (e : Fin 8) (parity : Bool) (s : State) : Host.Outcome State Fault Refusal :=
  let p := s.press m e
  if s.prState m e ≠ 2 ∨ p.skip ∨ !p.gatePassed ∨ s.prCount m e p.map ≤ p.entry then .next s
  else if parity then .next (s.pressFault m e 0x09 p.entry)
  else
    match s.prEntryAt m e p.map p.entry with
    | (s1, .fault c) => .next (s1.pressFault m e c p.entry)
    | (s1, .ok x) =>
      let n := x.tile p.elem
      if p.dirBuf.length < n * x.dirSize then .next (s.dirArm m e)
      else if s1.tileGuarded m e x p.elem n then .next s
      else .next (s1.tileRun m e x p.elem)

/-! ### End of an update, digest passes (R296, R301, R312, R313) -/

/-- Fold the shards of list entry i, where SORREL covers it: the fault cause and the entry where it fails. -/
def digestEntry (m : Fin 12) (e : Fin 8) (map : Nat) (s : State) (i : Nat) : State × Option (Nat × Nat) :=
  match s.prEntryAt m e map i with
  | (s1, .fault c) => (s1, some (c, i))
  | (s1, .ok x) =>
    if !x.sorrel then (s1, none)
    else
      match s1.prRead m e x.master (4 * x.count) with
      | (s2, .fault c) => (s2, some (c, i))
      | (s2, .ok bs) =>
        let p := s2.press m e
        let q := foldShards x p (bs.length + 1) 0 bs
        let w := (s2.setPress m e q).prWrites m e (s2.shardWrites m e p q)
        (w.1, w.2.map fun c => (c, i))

/-- Fold the digests of a list without an update (R301): none, or a fault cause with its entry. -/
def State.digestPass (s : State) (m : Fin 12) (e : Fin 8) (map n : Nat) : State × Option (Nat × Nat) :=
  s.untilFail (digestEntry m e map) (List.range n)

/-- The engine digest (R313). -/
def PressS.engineDigest (p : PressS) : Nat := if p.shards.isEmpty then 0 else crc64Of p.shards

/-- UPDATE_FINISHED (R296, R301): every write of the step has been accepted; a discarded step ends with its digest pass.
Under a stop request an engine with no tile in progress is STOPPED. -/
def execUpdateFinished (m : Fin 12) (e : Fin 8) (s : State) : Host.Outcome State Fault Refusal :=
  let d := 0x40 + m.val
  let p := s.press m e
  let k := p.step
  if s.stopping then .next (if s.prState m e = 2 then s.pressStopped m e else s)
  else if s.prState m e ≠ 2 ∨ !p.gatePassed then .next s
  else if p.skip then
    if p.dirTaken < s.dirTotal m e p.map then .next s
    else
      let sor := s.sorrelStep k
      let done := if sor then s.digestPass m e p.map (s.prCount m e p.map) else (s, none)
      match done with
      | (s1, some (c, i)) => .next (s1.pressFault m e c i)
      | (s1, none) =>
        let q := s1.press m e
        .next ((s1.setPress m e { q with
          step := k + 1, skip := false, aborted := q.aborted.erase (k, true)
          digest := if sor then some (k, q.engineDigest) else q.digest }).setPrState m e 1)
  else if p.entry < s.prCount m e p.map then .next s
  else
    let s1 := s.setPress m e { p with
      finished := some k, digest := if s.sorrelStep k then some (k, p.engineDigest) else p.digest }
    .next (((s1.setPrState m e 3).setFld .PR_STATUS d 0 e 5 1 0).bump .PR_UPDATES d 0 e 1)

/-! ### Arrivals (R297) -/

/-- Whether the arrival for the epoch in the making waits for this engine's update. -/
def State.arrivalHeld (s : State) (m e : Nat) : Option Nat :=
  let h := bits (s.g .PR_CFG) 0 4
  let k := s.rg .HOOP_TAG 0x60 0 h
  let next : Int := (s.epochOf (0x40 + m) : Int) + 1
  if s.prActive m e && s.hoopUndecided h && decide (s.updateEpoch k = next) then some k else none

/-- Count the engine's arrival for the current generation of context 0. -/
def State.pressArrive (s : State) (m e : Nat) : State :=
  match s.arriveAt (0x40 + m) 0 with
  | (s1, .counted g) => s1.setPress m e { s1.press m e with arrivedGen := some g }
  | _ => s

/-- PRESS_ARRIVAL (R297). -/
def execPressArrival (m : Fin 12) (e : Fin 8) (s : State) : Host.Outcome State Fault Refusal :=
  let d := 0x40 + m.val
  let p := s.press m e
  if !s.prActive m e ∨ !bit (s.g .PR_CFG) 16 ∨ 5 ≤ s.prState m e ∨ p.arrivedGen = some (s.barGen d 0) then .next s
  else
    match s.arrivalHeld m e with
    | none => .next (s.pressArrive m e)
    | some k =>
      if p.finished ≠ some k then .next s
      else if s.prState m e = 4 then .next (s.pressArrive m e)
      else
        let h := bits (s.g .PR_CFG) 0 4
        match s.hoopStage h 2 (BitVec.ofNat 64 (d * 256 + 8 + e.val))
            (BitVec.ofNat 64 (1 - s.rg .PR_WC_SEL d 0 e)) with
        | (s1, 0) =>
          match s1.hoopReady h with
          | (s2, true) => .next ((s2.setPrState m e 4).pressArrive m e)
          | (s2, false) => .next s2
        | (s1, _) => .next s1

/-! ### Restart (R408) -/

/-- Re-derive the working copies of list entry i: the fault cause and the entry where it fails. -/
def rederiveEntry (m : Fin 12) (e : Fin 8) (map : Nat) (s : State) (i : Nat) : State × Option (Nat × Nat) :=
  match s.prEntryAt m e map i with
  | (s1, .fault c) => (s1, some (c, i))
  | (s1, .ok x) =>
    match s1.prRead m e x.master (4 * x.count) with
    | (s2, .fault c) => (s2, some (c, i))
    | (s2, .ok bs) =>
      let ms := elems 4 bs
      let ar := s2.arith (0x40 + m)
      let rs := ((List.range ms.length).zip ms).map fun q =>
        rederive ar x (s2.g .PR_SEED) (s2.g .PR_LAST) (x.pidx + q.1) q.2
      let s3 := s2.raise (0x40 + m) (4 + e.val) (rs.foldl (fun z r => z ||| r.2) 0)
      let w := s3.prWrite m e ((s3.prBuffers m e).1 + x.wcOff) (rs.flatMap fun r => leBytes x.wf.size r.1)
      (w.1, w.2.map fun c => (c, i))

/-- Re-derive the working values of the first `n` entries into the current buffer. -/
def State.rederiveRun (s : State) (m : Fin 12) (e : Fin 8) (map n : Nat) : State × Option (Nat × Nat) :=
  s.untilFail (rederiveEntry m e map) (List.range n)

/-- RESTART_REDERIVE (R408): REDERIVE clears once every engine with entries in the map in use has done so. -/
def execRestartRederive (m : Fin 12) (e : Fin 8) (s : State) : Host.Outcome State Fault Refusal :=
  let map := s.g .SHARD_SEL % 2
  let p := s.press m e
  if !bit (s.g .RESTART_CTRL) 0 ∨ !s.loaded ∨ p.rederived ∨ 5 ≤ s.prState m e ∨ s.prCount m e map = 0 then .next s
  else
    match s.rederiveRun m e map (s.prCount m e map) with
    | (s1, some (c, i)) => .next (s1.pressFault m e c i)
    | (s1, none) =>
      let s2 := s1.setPress m e { s1.press m e with rederived := true }
      let all := (enginePairs 8).all fun q => s2.prCount q.1 q.2 map == 0 || (s2.press q.1 q.2).rederived
      .next (if all then s2.setG .RESTART_CTRL (setBits (s2.g .RESTART_CTRL) 0 1 0) else s2)

/-! ### Sorrel (R313, R314) -/

/-- Members of the replica set other than this module. -/
def State.sorrelOthers (s : State) : List Nat :=
  let c := s.g .SORREL_CFG
  (List.range (bits c 16 6)).filter (· != bits c 24 5)

/-- Node of a member (R337). -/
def State.sorrelNode (s : State) (i : Nat) : Nat :=
  let v := s.rg .SORREL_PEER 0x60 0 i
  bits v 16 1 * 128 + bits v 8 6 * 2 + bits v 0 1

/-- A Sorrel fault (Table 10.10). -/
def State.sorrelFault (s : State) (cause : Nat) : State :=
  let v := setBits (setBits (s.g .SORREL_STATUS) 2 2 2) 4 4 cause
  (s.setG .SORREL_STATUS v).dieFault s.headDie 0x68 0 cause

/-- Compare once every other member's slot holds the step's tag (R314). [DEDUCED, log entry 72] -/
def State.sorrelCompare (s : State) : State :=
  let k := s.g .SORREL_STEP
  let others := s.sorrelOthers
  if !bit (s.g .SORREL_STATUS) 2 ∨ !(others.all fun i => s.rg .SORREL_RX_TAG 0x60 0 i == k) then s
  else if others.all fun i => s.rg .SORREL_RX 0x60 0 i == s.g .SORREL_MOD then
    (s.setG .SORREL_STATUS (setBits (s.g .SORREL_STATUS) 2 1 0)).setG .SORREL_AGREED k
  else s.sorrelFault 1

/-- The step whose digest every engine with entries has formed, if it is new. -/
def State.digestReady (s : State) : Option Nat :=
  let act := (enginePairs 8).filter fun q => s.prActive q.1 q.2
  match act.head? with
  | none => none
  | some q =>
    match (s.press q.1 q.2).digest with
    | none => none
    | some (k, _) =>
      if act.all fun r => ((s.press r.1 r.2).digest.map Prod.fst) == some k then some k else none

/-- Forget a step's engine digests. -/
def State.clearDigests (s : State) : State :=
  { s with presses := Sparse.mapAll (fun _ => PressS.init) (fun _ p => { p with digest := none }) s.presses }

/-- SORREL_MODULE_DIGEST (R313, R314). [DEDUCED, log entry 72] -/
def execSorrelModuleDigest (s : State) : Host.Outcome State Fault Refusal :=
  match s.digestReady with
  | none => .next s
  | some k =>
    let ds := (enginePairs 8).map fun q => if s.prActive q.1 q.2 then ((s.press q.1 q.2).digest.map Prod.snd).getD 0 else 0
    let md := crc64Of ds
    let s1 := ((s.clearDigests).setG .SORREL_MOD md).setG .SORREL_STEP k
    if bits (s1.g .SORREL_CFG) 16 6 ≤ 1 then .next (s1.setG .SORREL_AGREED k)
    else
      let self := bits (s1.g .SORREL_CFG) 24 5
      let s2 := s1.sorrelOthers.foldl (fun z i =>
        (z.sendReg (s1.sorrelNode i) (loc .SORREL_RX 0x60 0 self) true md).sendReg (s1.sorrelNode i)
          (loc .SORREL_RX_TAG 0x60 0 self) true k) s1
      let s3 := { s2 with sorrelLt := 0 }
      .next ((s3.setG .SORREL_STATUS (setBits (s3.g .SORREL_STATUS) 2 1 1)).sorrelCompare)

/-- SORREL_TIMEOUT (R314). -/
def execSorrelTimeout (s : State) : Host.Outcome State Fault Refusal :=
  if bit (s.g .SORREL_STATUS) 2 ∧ s.g .SORREL_TO ≤ s.sorrelLt then .next (s.sorrelFault 2) else .next s

end Sys2Proof.Machine
end

