-- ==== Sys2Proof/Machine/Sequencer.lean ====
section
/-!
DEFINITION. The commands of the core sequencer (chapter 5). A row's meaning fetches the command word at SEQ_PC and runs it if
its opcode is the row's; the shared front `seqStep` makes every check that precedes a command.
-/

namespace Sys2Proof.Machine

/-! ### The front of every command (R138, R142, R143, R159, R160) -/

/-- The scalar registers a command reads and writes. -/
structure ScUse where
  reads : List Nat
  writes : List Nat
deriving DecidableEq, Repr

/-- Clear the fields (lowest bit, width) of a word. -/
def clearFields (v : Nat) (fs : List (Nat × Nat)) : Nat := fs.foldl (fun z f => setBits z f.1 f.2 0) v

/-- Whether a bit of the word that its table does not name is set (R143). -/
def reservedSet (x : BitVec 128) (fs : List (Nat × Nat)) : Bool := clearFields x.toNat ((120, 8) :: fs) != 0

/-- Whether a scalar register awaits a summary word (R142). -/
def State.pendingSum (s : State) (core i : Nat) : Bool :=
  i != 0 && (s.vec core).queue.any fun c => (vecFields c.word).sumreg == i

/-- Whether a sequencer runs commands: STATE is RUN or HELD. -/
def State.seqRuns (s : State) (core : Nat) : Bool := s.seqState core == 1 || s.seqState core == 2

/-- The command word at SEQ_PC; none at an uncorrectable word. -/
def State.fetch (s : State) (core : Nat) : State × Option (BitVec 128) :=
  match s.readRange (s.cmAddr core (16 * s.pc core)) 16 with
  | (s1, .ok bs) => (s1, some (BitVec.ofNat 128 (ofLeBytes bs)))
  | (s1, .error _) => (s1, none)

/-- Fetch the command at SEQ_PC and, if its opcode is `opc`, check reserved bits (all but `fields`) and values (`ok`), hold it
for a pending register, meet a parity error, and run it. [DEDUCED, log entries 39 and 40] -/
def State.seqStep (s : State) (core : Nat) (p : Parity) (opc : Nat) (fields : List (Nat × Nat))
    (ok : BitVec 128 → Bool) (use : BitVec 128 → ScUse) (run : State → BitVec 128 → State) : State :=
  if !s.seqRuns core then s
  else if p = .command then s.seqFault core 0x0A 7
  else
    match s.fetch core with
    | (s1, none) => s1.seqFault core 0x0A 7
    | (s1, some x) =>
      if opcodeOf x ≠ opc then s1
      else if reservedSet x fields || !ok x then s1.seqFault core 0x01 7
      else
        let u := use x
        if (u.reads ++ u.writes).any (s1.pendingSum core) then s1.holdSeq core 8
        else if p = .scalar ∧ u.reads ≠ [] then s1.seqFault core 0x0B 7
        else run s1 x

/-- No check of field values. -/
def anyWord (_ : BitVec 128) : Bool := true

/-- DST, SRC1, SRC2 of Table 5.3. -/
def cDst (x : BitVec 128) : Nat := cf x 115 5
/-- SRC1. -/
def cSrc1 (x : BitVec 128) : Nat := cf x 110 5
/-- SRC2. -/
def cSrc2 (x : BitVec 128) : Nat := cf x 105 5
/-- IMM. -/
def cImm (x : BitVec 128) : Nat := cf x 0 64
/-- TGT. -/
def cTgt (x : BitVec 128) : Nat := cf x 0 14

/-! ### Scalar commands (R144, R145) -/

/-- x FN y on 64-bit values; FN 15 is reserved (R144). -/
def aluFn (fn x y : Nat) : Nat :=
  let a := toSigned 64 x
  let b := toSigned 64 y
  let r :=
    match fn with
    | 0 => x + y
    | 1 => x + (2 ^ 64 - y % 2 ^ 64)
    | 2 => x * y
    | 3 => x &&& y
    | 4 => x ||| y
    | 5 => x ^^^ y
    | 6 => x <<< (y % 64)
    | 7 => x >>> (y % 64)
    | 8 => ofSigned 64 (a >>> (y % 64))
    | 9 => if a ≤ b then x else y
    | 10 => if a ≤ b then y else x
    | 11 => Nat.min x y
    | 12 => Nat.max x y
    | 13 => b2n (decide (a < b))
    | _ => b2n (decide (x < y))
  r % 2 ^ 64

/-- SCL.NOP. -/
def execSclNop (c : CoreId) (p : Parity) (s : State) : Host.Outcome State Fault Refusal :=
  .next (s.seqStep c.ix p 0x00 [] anyWord (fun _ => ⟨[], []⟩) fun s1 _ => s1.retire c.ix)

/-- SCL.LI. -/
def execSclLi (c : CoreId) (p : Parity) (s : State) : Host.Outcome State Fault Refusal :=
  .next (s.seqStep c.ix p 0x01 [(115, 5), (0, 64)] anyWord (fun x => ⟨[], [cDst x]⟩) fun s1 x =>
    (s1.setSc c.ix (cDst x) (cImm x)).retire c.ix)

/-- SCL.ALU. -/
def execSclAlu (c : CoreId) (p : Parity) (s : State) : Host.Outcome State Fault Refusal :=
  .next (s.seqStep c.ix p 0x02 [(115, 5), (110, 5), (105, 5), (101, 4)] (fun x => cf x 101 4 != 15)
    (fun x => ⟨[cSrc1 x, cSrc2 x], [cDst x]⟩) fun s1 x =>
    (s1.setSc c.ix (cDst x) (aluFn (cf x 101 4) (s1.sc c.ix (cSrc1 x)) (s1.sc c.ix (cSrc2 x)))).retire c.ix)

/-- SCL.ALUI. -/
def execSclAlui (c : CoreId) (p : Parity) (s : State) : Host.Outcome State Fault Refusal :=
  .next (s.seqStep c.ix p 0x03 [(115, 5), (110, 5), (101, 4), (0, 64)] (fun x => cf x 101 4 != 15)
    (fun x => ⟨[cSrc1 x], [cDst x]⟩) fun s1 x =>
    (s1.setSc c.ix (cDst x) (aluFn (cf x 101 4) (s1.sc c.ix (cSrc1 x)) (cImm x))).retire c.ix)

/-- Bytes of a space a sequencer addresses: 0 scratchpad, 1 command memory (R145). -/
def spaceSize (space : Nat) : Nat := if space = 0 then spSize else 262144

/-- Board address of a byte of a core's scratchpad or command memory. -/
def State.spaceAddr (s : State) (core space off : Nat) : Nat :=
  if space = 0 then s.spAddr core off else s.cmAddr core off

/-- Read bytes of a space at an address that must be a multiple of `al`: none where cause 0x07 applies. -/
def State.spaceRead (s : State) (core space addr al n : Nat) : State × Option (List Nat) :=
  if addr % al ≠ 0 ∨ spaceSize space < addr + n then (s, none)
  else
    match s.readRange (s.spaceAddr core space addr) n with
    | (s1, .ok bs) => (s1, some bs)
    | (s1, .error _) => (s1, none)

/-- SRC1 + IMM, wrapping. -/
def State.effAddr (s : State) (core : Nat) (x : BitVec 128) : Nat := (s.sc core (cSrc1 x) + cImm x) % 2 ^ 64

/-- SCL.LD. -/
def execSclLd (c : CoreId) (p : Parity) (s : State) : Host.Outcome State Fault Refusal :=
  .next (s.seqStep c.ix p 0x04 [(115, 5), (110, 5), (100, 1), (0, 64)] anyWord
    (fun x => ⟨[cSrc1 x], [cDst x]⟩) fun s1 x =>
    match s1.spaceRead c.ix (cf x 100 1) (s1.effAddr c.ix x) 8 8 with
    | (s2, some bs) => (s2.setSc c.ix (cDst x) (ofLeBytes bs)).retire c.ix
    | (s2, none) => s2.seqFault c.ix 0x07 7)

/-- SCL.ST. -/
def execSclSt (c : CoreId) (p : Parity) (s : State) : Host.Outcome State Fault Refusal :=
  .next (s.seqStep c.ix p 0x05 [(110, 5), (105, 5), (100, 1), (0, 64)] anyWord
    (fun x => ⟨[cSrc1 x, cSrc2 x], []⟩) fun s1 x =>
    let a := s1.effAddr c.ix x
    if a % 8 ≠ 0 ∨ spaceSize (cf x 100 1) < a + 8 then s1.seqFault c.ix 0x07 7
    else
      let addr := s1.spaceAddr c.ix (cf x 100 1) a
      ((s1.writeRange addr (leBytes 8 (s1.sc c.ix (cSrc2 x)))).1).retire c.ix)

/-- SCL.GETID. -/
def execSclGetid (c : CoreId) (p : Parity) (s : State) : Host.Outcome State Fault Refusal :=
  .next (s.seqStep c.ix p 0x06 [(115, 5)] anyWord (fun x => ⟨[], [cDst x]⟩) fun s1 x =>
    (s1.setSc c.ix (cDst x) (s1.identity c.ix)).retire c.ix)

/-- SCL.HALT (R142, R144): it waits for every pending register; at index 16,383 SEQ_PC stays there (DEDUCED: the program
has ended, so nothing passes the index). [DEDUCED, log entry 3] -/
def execSclHalt (c : CoreId) (p : Parity) (s : State) : Host.Outcome State Fault Refusal :=
  .next (s.seqStep c.ix p 0x0F [] anyWord (fun _ => ⟨[], []⟩) fun s1 _ =>
    if (List.range 32).any (s1.pendingSum c.ix) then s1.holdSeq c.ix 8
    else
      let pc := s1.pc c.ix
      let s2 := s1.setRg .SEQ_PC c.die.val c.core.val 0 (Nat.min (pc + 1) 16383)
      (s2.bump .SEQ_CMDS c.die.val c.core.val 0 1).setSeqState c.ix 5 0)

/-! ### Branches (R144) -/

/-- BR.J. -/
def execBrJ (c : CoreId) (p : Parity) (s : State) : Host.Outcome State Fault Refusal :=
  .next (s.seqStep c.ix p 0x10 [(0, 14)] anyWord (fun _ => ⟨[], []⟩) fun s1 x => s1.retireTo c.ix (cTgt x))

/-- Retire a branch: to its target where it is taken. -/
def State.branch (s : State) (core : Nat) (x : BitVec 128) (taken : Bool) : State :=
  if taken then s.retireTo core (cTgt x) else s.retire core

/-- Whether COND holds between two values. -/
def condHolds (cond x y : Nat) : Bool :=
  match cond with
  | 0 => x == y
  | 1 => x != y
  | 2 => decide (toSigned 64 x < toSigned 64 y)
  | 3 => decide (toSigned 64 y ≤ toSigned 64 x)
  | 4 => decide (x < y)
  | _ => decide (y ≤ x)

/-- BR.CMP. -/
def execBrCmp (c : CoreId) (p : Parity) (s : State) : Host.Outcome State Fault Refusal :=
  .next (s.seqStep c.ix p 0x11 [(110, 5), (105, 5), (102, 3), (0, 14)] (fun x => decide (cf x 102 3 < 6))
    (fun x => ⟨[cSrc1 x, cSrc2 x], []⟩) fun s1 x =>
    s1.branch c.ix x (condHolds (cf x 102 3) (s1.sc c.ix (cSrc1 x)) (s1.sc c.ix (cSrc2 x))))

/-- Whether a summary test holds on a summary word (Tables 4.6 and 5.3). -/
def testHolds (test mask v : Nat) : Bool :=
  match test with
  | 0 => bit v 15
  | 1 => !bit v 15
  | 2 => bit v 14
  | 3 => !bit v 14
  | 4 => bit v 13
  | 5 => bits v 0 9 &&& mask != 0
  | _ => bits v 0 9 &&& mask == 0

/-- BR.SUM. -/
def execBrSum (c : CoreId) (p : Parity) (s : State) : Host.Outcome State Fault Refusal :=
  .next (s.seqStep c.ix p 0x12 [(110, 5), (102, 3), (92, 9), (0, 14)] (fun x => cf x 102 3 != 7)
    (fun x => ⟨[cSrc1 x], []⟩) fun s1 x =>
    s1.branch c.ix x (testHolds (cf x 102 3) (cf x 92 9) (s1.sc c.ix (cSrc1 x))))

/-- BR.DEC: the new DST is what the register reads as, so SC0 never branches (R135). [DEDUCED, log entry 40] -/
def execBrDec (c : CoreId) (p : Parity) (s : State) : Host.Outcome State Fault Refusal :=
  .next (s.seqStep c.ix p 0x13 [(115, 5), (0, 14)] anyWord (fun x => ⟨[cDst x], [cDst x]⟩) fun s1 x =>
    let s2 := s1.setSc c.ix (cDst x) (aluFn 1 (s1.sc c.ix (cDst x)) 1)
    s2.branch c.ix x (s2.sc c.ix (cDst x) != 0))

/-- BR.CALL. -/
def execBrCall (c : CoreId) (p : Parity) (s : State) : Host.Outcome State Fault Refusal :=
  .next (s.seqStep c.ix p 0x14 [(115, 5), (0, 14)] anyWord (fun x => ⟨[], [cDst x]⟩) fun s1 x =>
    (s1.setSc c.ix (cDst x) (s1.pc c.ix + 1)).retireTo c.ix (cTgt x))

/-- BR.RET. -/
def execBrRet (c : CoreId) (p : Parity) (s : State) : Host.Outcome State Fault Refusal :=
  .next (s.seqStep c.ix p 0x15 [(110, 5)] anyWord (fun x => ⟨[cSrc1 x], []⟩) fun s1 x =>
    let v := s1.sc c.ix (cSrc1 x)
    if 16383 < v then s1.seqFault c.ix 0x06 7 else s1.retireTo c.ix v)

/-! ### Synchronisation (R154, R155) -/

/-- SEM of Table 5.7. -/
def cSem (x : BitVec 128) : Nat := cf x 96 12
/-- N of Table 5.7. -/
def cN (x : BitVec 128) : Nat := cf x 80 16

/-- The port that a frame to the twin leaves on, and the sequence that it will carry there. -/
def State.frameTicket (s : State) : Option (Nat × Nat) :=
  (s.pickPort s.twinNode 0).map fun p => (p, ((s.port p).fTx + (s.port p).fqueue.length) % 256)

/-- Whether the peer of a port has accepted the frame of a sequence: it waits nowhere on this side, and the port has not failed. -/
def State.frameTaken (s : State) (p seq : Nat) : Bool :=
  let x := s.port p
  s.portState p != 4 && !(x.freplay.any fun e => e.1 == seq) && !x.fallback.contains seq &&
    !((List.range x.fqueue.length).any fun i => (x.fTx + i) % 256 == seq)

/-- SYN.SIG of a core: within the module it waits behind an earlier message of its die to the same node; to the twin the frame is
sent once, and the command retires when its port's peer has accepted it (R194). [DEDUCED, log entry 42] -/
def State.synSig (s : State) (core : Nat) (twin : Bool) (die sem n : Nat) : State :=
  if !twin then
    if s.msgOnWay (core / 16) die then s else (s.signal (core / 16) false die sem n).retire core
  else
    match (s.seq core).sigSent with
    | some (p, seq) => if s.frameTaken p seq then s.retire core else s
    | none =>
      match s.frameTicket with
      | none => s
      | some t =>
        let z := s.signal (core / 16) true die sem n
        z.setSeq core { z.seq core with sigSent := some t }

/-- SYN.SIG. -/
def execSynSig (c : CoreId) (p : Parity) (s : State) : Host.Outcome State Fault Refusal :=
  .next (s.seqStep c.ix p 0x20 [(112, 8), (111, 1), (96, 12), (80, 16)]
    (fun x => cN x != 0 && (cf x 112 8 == 0xFF || dieCode (cf x 112 8))) (fun _ => ⟨[], []⟩) fun s1 x =>
    let die := if cf x 112 8 = 0xFF then c.die.val else cf x 112 8
    s1.synSig c.ix (cf x 111 1 == 1) die (cSem x) (cN x))

/-- SYN.WAIT (R197, R198): a wait once made stands in its place until it is served. -/
def execSynWait (c : CoreId) (p : Parity) (s : State) : Host.Outcome State Fault Refusal :=
  .next (s.seqStep c.ix p 0x21 [(96, 12), (80, 16)] (fun x => cN x != 0) (fun _ => ⟨[], []⟩) fun s1 x =>
    if s1.semWaits.any fun w => w.who == Waiter.seq c.ix then s1
    else
      match s1.takeSem c.die.val (cSem x) (cN x) with
      | some s2 => s2.retire c.ix
      | none =>
        let s2 := { s1 with semWaits := s1.semWaits ++ [SemWait.mk c.die.val (cSem x) (cN x) (.seq c.ix) 0] }
        (s2.setSeq c.ix { s2.seq c.ix with waitLt := 0 }).holdSeq c.ix 1)

/-- SYN.BAR (R202, R205). -/
def execSynBar (c : CoreId) (p : Parity) (s : State) : Host.Outcome State Fault Refusal :=
  .next (s.seqStep c.ix p 0x22 [(104, 8), (103, 1)] anyWord (fun _ => ⟨[], []⟩) fun s1 x =>
    if (s1.seq c.ix).barWait.isSome || s1.barHeld.any (fun h => h.core == c.ix) then s1
    else
      let wait := cf x 103 1 == 1
      match s1.arriveAt c.die.val (cf x 104 8) with
      | (s2, .counted gen) => s2.arrived c.ix (cf x 104 8) gen wait
      | (s2, .held) =>
        let s3 := { s2 with barHeld := s2.barHeld ++ [HeldArr.mk c.die.val (cf x 104 8) c.ix wait] }
        (s3.setSeq c.ix { s3.seq c.ix with waitLt := 0 }).holdSeq c.ix 2
      | (s2, .refused) => s2.seqFault c.ix 0x01 7)

/-- Whether every command retired to an array is complete. -/
def ArrayS.idle (x : ArrayS) : Bool := x.queue.isEmpty && x.flying.isEmpty

/-- Whether every unit that a SYN.FENCE marks is complete (R154). -/
def State.fenceDone (s : State) (core : Nat) (x : BitVec 128) : Bool :=
  ((List.range 4).all fun a => cf x (116 + a) 1 == 0 || (s.arr core a).idle) &&
  (cf x 115 1 == 0 || (s.vec core).queue.isEmpty) && (cf x 114 1 == 0 || (s.tea core).flushes.isEmpty)

/-- SYN.FENCE. -/
def execSynFence (c : CoreId) (p : Parity) (s : State) : Host.Outcome State Fault Refusal :=
  .next (s.seqStep c.ix p 0x23 [(116, 4), (115, 1), (114, 1)] anyWord (fun _ => ⟨[], []⟩) fun s1 x =>
    if s1.fenceDone c.ix x then s1.retire c.ix else s1.holdSeq c.ix 4)

/-- SYN.EPOCH. -/
def execSynEpoch (c : CoreId) (p : Parity) (s : State) : Host.Outcome State Fault Refusal :=
  .next (s.seqStep c.ix p 0x24 [(115, 5)] anyWord (fun x => ⟨[], [cDst x]⟩) fun s1 x =>
    (s1.setSc c.ix (cDst x) (s1.epochOf c.die.val)).retire c.ix)

/-! ### Hoop (R214, R215, R220) -/

/-- Note the instance of a slot that a sequencer last used. -/
def State.noteHoop (s : State) (core h : Nat) : State :=
  let q := s.seq core
  s.setSeq core { q with hoopUse := (h, s.hoopInst h) :: q.hoopUse.filter fun u => u.1 != h }

/-- HOOP.STAGE: an item type that Table 7.4 does not list is a reserved value. -/
def execHoopStage (c : CoreId) (p : Parity) (s : State) : Host.Outcome State Fault Refusal :=
  .next (s.seqStep c.ix p 0x30 [(116, 4), (108, 8), (103, 5), (98, 5), (93, 5)]
    (fun x => decide (1 ≤ cf x 108 8) && decide (cf x 108 8 ≤ 6))
    (fun x => ⟨[cf x 103 5, cf x 98 5], [cf x 93 5]⟩) fun s1 x =>
    let h := cf x 116 4
    let s0 := if s1.hoopUndecided h then s1.noteHoop c.ix h else s1
    let (s2, res) := s0.hoopStage h (cf x 108 8) (BitVec.ofNat 64 (s1.sc c.ix (cf x 98 5)))
      (BitVec.ofNat 64 (s1.sc c.ix (cf x 103 5)))
    (s2.setSc c.ix (cf x 93 5) res).retire c.ix)

/-- HOOP.READY. -/
def execHoopReady (c : CoreId) (p : Parity) (s : State) : Host.Outcome State Fault Refusal :=
  .next (s.seqStep c.ix p 0x31 [(116, 4)] anyWord (fun _ => ⟨[], []⟩) fun s1 x =>
    let h := cf x 116 4
    (((if s1.hoopUndecided h then s1.noteHoop c.ix h else s1).hoopReady h).1).retire c.ix)

/-- The outcome that HOOP.WAIT meets (R220). -/
inductive HoopAns where
  | decided (committed : Bool) (epoch : Nat)
  | undecided (inst : Nat)
deriving DecidableEq, Repr

/-- What a HOOP.WAIT of a core on a slot meets: the instance the core last used there, else the slot's own; one that is no
longer remembered, or a slot never opened, answers as aborted (DEDUCED). -/
def State.hoopOutcome (s : State) (core h : Nat) : HoopAns :=
  let x := s.hoop h
  if x.opened = 0 then .decided false 0
  else
    let inst :=
      match (s.seq core).hoopUse.find? fun u => u.1 == h with
      | some u => u.2
      | none => s.hoopInst h
    if inst = s.hoopInst h ∧ s.hoopUndecided h then .undecided inst
    else
      match x.hist.find? fun d => d.1 == inst with
      | some (_, true, e) => .decided true e
      | _ => .decided false 0

/-- HOOP.WAIT. [DEDUCED, log entry 41] -/
def execHoopWait (c : CoreId) (p : Parity) (s : State) : Host.Outcome State Fault Refusal :=
  .next (s.seqStep c.ix p 0x32 [(116, 4), (111, 5), (106, 5)] anyWord
    (fun x => ⟨[], [cf x 111 5, cf x 106 5]⟩) fun s1 x =>
    let h := cf x 116 4
    match s1.hoopOutcome c.ix h with
    | .decided ok e =>
      ((s1.setSc c.ix (cf x 111 5) (if ok then 1 else 2)).setSc c.ix (cf x 106 5) (if ok then e else 0)).retire c.ix
    | .undecided inst => (s1.setSeq c.ix { s1.seq c.ix with hoopWait := some (h, inst) }).holdSeq c.ix 3)

/-! ### DMA commands (R151 to R153) -/

/-- DMA.SUB. -/
def execDmaSub (c : CoreId) (p : Parity) (s : State) : Host.Outcome State Fault Refusal :=
  .next (s.seqStep c.ix p 0x40 [(115, 5), (114, 1), (109, 5)] anyWord (fun x => ⟨[cf x 109 5], []⟩) fun s1 x =>
    let a := s1.sc c.ix (cf x 109 5)
    let space := cf x 114 1
    let inside := decide (a + 64 ≤ spaceSize space)
    match s1.dmaSubmit c.die.val (cf x 115 5) c.core.val (s1.spaceAddr c.ix space a) inside (.core c) with
    | (s2, .accepted) => s2.retire c.ix
    | (s2, .full) => s2.holdSeq c.ix 7
    | (s2, .refused) => s2.seqFault c.ix 0x04 6)

/-- DMA.CLOAD (R153): `n` more words are copied, in increasing index; it retires with the last. -/
def execDmaCload (c : CoreId) (p : Parity) (n : Nat) (s : State) : Host.Outcome State Fault Refusal :=
  .next (s.seqStep c.ix p 0x41 [(115, 5), (100, 14), (86, 14)] anyWord (fun x => ⟨[cf x 115 5], []⟩) fun s1 x =>
    let src := s1.sc c.ix (cf x 115 5)
    let dst := cf x 100 14
    let cnt := cf x 86 14 + 1
    let pc := s1.pc c.ix
    if 16384 < dst + cnt ∨ (dst ≤ pc ∧ pc < dst + cnt) then s1.seqFault c.ix 0x06 7
    else if src % 16 ≠ 0 ∨ spSize < src + 16 * cnt then s1.seqFault c.ix 0x07 7
    else
      let done := (s1.seq c.ix).cload
      let k := Nat.min n (cnt - done)
      match s1.spRead c.ix (src + 16 * done) (16 * k) with
      | (s2, .error _) => s2.seqFault c.ix 0x07 7
      | (s2, .ok bs) =>
        let s3 := (s2.writeRange (s2.cmAddr c.ix (16 * (dst + done))) bs).1
        if done + k = cnt then (s3.setSeq c.ix { s3.seq c.ix with cload := 0 }).retire c.ix
        else (s3.setSeq c.ix { s3.seq c.ix with cload := done + k }).holdSeq c.ix 10)

/-! ### Matrix, vector and curvature commands (R147 to R152) -/

/-- MAT.PASS. -/
def execMatPass (c : CoreId) (p : Parity) (s : State) : Host.Outcome State Fault Refusal :=
  .next (s.seqStep c.ix p 0x50 [(42, 78)] anyWord
    (fun x =>
      let f := matFields x
      ⟨(if f.stat = 2 then [] else [f.ra]) ++ [f.rb] ++ (if f.acc = 2 then [f.rc] else []) ++
        (if f.dfmt = 7 then [] else [f.rd]), []⟩) fun s1 x =>
    let f := matFields x
    let sc (i : Nat) : BitVec 64 := BitVec.ofNat 64 (s1.sc c.ix i)
    let a := s1.arr c.ix f.array
    if s1.arrFaulted c.ix f.array || matParamsBad a f (sc f.ra) (sc f.rb) (sc f.rc) (sc f.rd) ||
        s1.snoopRefused c.ix f then s1.seqFault c.ix 0x02 f.array
    else if 8 ≤ a.queue.length then s1.holdSeq c.ix 5
    else
      let (s2, sn) := s1.snoopAssign c.ix f
      let pass : Pass := ⟨x, sc f.ra, sc f.rb, sc f.rc, sc f.rd, 0, none, false, sn, 0⟩
      (s2.setArr c.ix f.array (a.accept f pass)).retire c.ix)

/-- VEC.RUN: ROP and RSRC values that Table 5.5 reserves are command faults 0x01. -/
def execVecRun (c : CoreId) (p : Parity) (s : State) : Host.Outcome State Fault Refusal :=
  .next (s.seqStep c.ix p 0x60 [(37, 83)]
    (fun x => decide ((vecFields x).rop ≤ 6) && decide ((vecFields x).rsrc ≤ 9))
    (fun x => ⟨[(vecFields x).sca, (vecFields x).scb], [(vecFields x).sumreg]⟩) fun s1 x =>
    let f := vecFields x
    if s1.vecFaulted c.ix || s1.vecRefused c.ix x then s1.seqFault c.ix 0x03 4
    else if 4 ≤ (s1.vec c.ix).queue.length then s1.holdSeq c.ix 6
    else
      let cmd : VecCmd := ⟨x, BitVec.ofNat 32 (s1.sc c.ix f.sca), BitVec.ofNat 32 (s1.sc c.ix f.scb), false, [], [],
        s1.arith c.die.val, 0⟩
      (s1.setVec c.ix { s1.vec c.ix with queue := (s1.vec c.ix).queue ++ [cmd] }).retire c.ix)

/-- Commands that have retired and not yet started (R150). -/
def State.vecWaiting (s : State) (core : Nat) : List VecF :=
  ((s.vec core).queue.filter fun c => !c.started).map fun c => vecFields c.word

/-- VEC.LDS. -/
def execVecLds (c : CoreId) (p : Parity) (s : State) : Host.Outcome State Fault Refusal :=
  .next (s.seqStep c.ix p 0x61 [(115, 5), (114, 1), (109, 5)] anyWord (fun x => ⟨[cf x 109 5], []⟩) fun s1 x =>
    let slot := cf x 115 5
    if s1.vecFaulted c.ix then s1.seqFault c.ix 0x03 4
    else if (s1.vecWaiting c.ix).any fun f => [f.a, f.b, f.d, f.c0, f.c1, f.e].contains slot then s1.holdSeq c.ix 9
    else
      match s1.spaceRead c.ix (cf x 114 1) (s1.sc c.ix (cf x 109 5)) 32 32 with
      | (s2, none) => s2.seqFault c.ix 0x07 7
      | (s2, some bs) =>
        let v := ofLeBytes bs
        ((List.range 4).foldl (fun z i => z.setRg .VE_SDESC c.die.val c.core.val (4 * slot + i) (bits v (64 * i) 64))
          s2).retire c.ix)

/-- VEC.LDC. -/
def execVecLdc (c : CoreId) (p : Parity) (s : State) : Host.Outcome State Fault Refusal :=
  .next (s.seqStep c.ix p 0x62 [(115, 5), (114, 1), (109, 5)] anyWord (fun x => ⟨[cf x 109 5], []⟩) fun s1 x =>
    let slot := cf x 115 5
    if s1.vecFaulted c.ix then s1.seqFault c.ix 0x03 4
    else if (s1.vecWaiting c.ix).any fun f => f.chain == slot then s1.holdSeq c.ix 9
    else
      match s1.spaceRead c.ix (cf x 114 1) (s1.sc c.ix (cf x 109 5)) 64 64 with
      | (s2, none) => s2.seqFault c.ix 0x07 7
      | (s2, some bs) =>
        let v := ofLeBytes bs
        ((List.range 16).foldl (fun z i => z.setRg .VE_CHAIN c.die.val c.core.val (16 * slot + i) (bits v (32 * i) 32))
          s2).retire c.ix)

/-- VEC.FILL. -/
def execVecFill (c : CoreId) (p : Parity) (s : State) : Host.Outcome State Fault Refusal :=
  .next (s.seqStep c.ix p 0x63 [(115, 5)] anyWord (fun x => ⟨[cDst x], []⟩) fun s1 x =>
    if s1.vecFaulted c.ix then s1.seqFault c.ix 0x03 4
    else if s1.vecWaiting c.ix ≠ [] then s1.holdSeq c.ix 9
    else (s1.setRg .VE_FILL c.die.val c.core.val 0 (s1.sc c.ix (cDst x))).retire c.ix)

/-- TEA.SET of a register other than the two block registers; `blk` chooses the row. -/
def State.teaSetCmd (s : State) (c : CoreId) (p : Parity) (blk : Bool) : State :=
  s.seqStep c.ix p 0x70 [(116, 4), (111, 5)] anyWord (fun x => ⟨[cf x 111 5], []⟩) fun s1 x =>
    let i := cf x 116 4
    let v := s1.sc c.ix (cf x 111 5)
    if (i == 5 || i == 6) != blk then s1
    else if s1.teaInv c.ix || s1.teaBad c.ix i v then s1.seqFault c.ix 0x05 5
    else (s1.teaWrite c.ix i v).retire c.ix

/-- TEA_SET (R250). -/
def execTeaSet (c : CoreId) (p : Parity) (s : State) : Host.Outcome State Fault Refusal :=
  .next (s.teaSetCmd c p false)

/-- TEA_SET_BLK (R229). -/
def execTeaSetBlk (c : CoreId) (p : Parity) (s : State) : Host.Outcome State Fault Refusal :=
  .next (s.teaSetCmd c p true)

/-- TEA.FLUSH (R240). -/
def execTeaFlush (c : CoreId) (p : Parity) (s : State) : Host.Outcome State Fault Refusal :=
  .next (s.seqStep c.ix p 0x71 [(115, 5), (74, 1), (62, 12)] anyWord (fun x => ⟨[cDst x], []⟩) fun s1 x =>
    let a := s1.sc c.ix (cDst x)
    if s1.flushRefused c.ix a then s1.seqFault c.ix 0x05 5
    else (s1.flushAccept c.ix a (cf x 74 1 == 1) (cf x 62 12)).retire c.ix)

/-! ### Opcodes that no command has (R143) -/

/-- The opcodes of Table 5.2. -/
def opcodeListed (o : Nat) : Bool :=
  decide (o ≤ 0x06) || o == 0x0F || (decide (0x10 ≤ o) && decide (o ≤ 0x15)) || (decide (0x20 ≤ o) && decide (o ≤ 0x24)) ||
  (decide (0x30 ≤ o) && decide (o ≤ 0x32)) || o == 0x40 || o == 0x41 || o == 0x50 ||
  (decide (0x60 ≤ o) && decide (o ≤ 0x63)) || o == 0x70 || o == 0x71

/-- RESERVED_OPCODE (R143). -/
def execReservedOpcode (c : CoreId) (p : Parity) (s : State) : Host.Outcome State Fault Refusal :=
  if !s.seqRuns c.ix then .next s
  else if p = .command then .next (s.seqFault c.ix 0x0A 7)
  else
    match s.fetch c.ix with
    | (s1, none) => .next (s1.seqFault c.ix 0x0A 7)
    | (s1, some x) => .next (if opcodeListed (opcodeOf x) then s1 else s1.seqFault c.ix 0x01 7)

end Sys2Proof.Machine
end

