-- ==== Sys2Proof/Machine/Vat.lean ====
section
/-!
DEFINITION. The reduction units (Vat): submission, start, count exchange, chunks, the fixed-order reduction, completion and
faults (R345 to R360).
-/

namespace Sys2Proof.Machine

/-! ### Descriptors (R345, R348, R350) -/

/-- RECORD mode. -/
def VatDesc.record (d : VatDesc) : Bool := bit d.flags 1

/-- Element format. -/
def VatDesc.ef (d : VatDesc) : Fp := (matFmt d.fmt).getD .fp32

/-- Output format of a reduce-scatter. -/
def VatDesc.of_ (d : VatDesc) : Fp := (matFmt d.ofmt).getD .fp32

/-- Bytes of an input element or record. -/
def VatDesc.size (d : VatDesc) : Nat := if d.op = 1 ∧ d.record then slotBytes else d.ef.size

/-- Bytes of an output element or record. -/
def VatDesc.outSize (d : VatDesc) : Nat := if d.op = 1 then (if d.record then slotBytes else d.of_.size) else d.ef.size

/-- Members. -/
def VatDesc.p (d : VatDesc) : Nat := d.nodes.length

/-- n_j of R348. -/
def shardLen (n p j : Nat) : Nat := n / p + (if j < n % p then 1 else 0)

/-- o_j of R348. -/
def shardOff (n p j : Nat) : Nat := j * (n / p) + Nat.min j (n % p)

/-- Bytes of a chunk. -/
def chunkBytes : Nat := 65536

/-- Chunks of a stream of `n` bytes (R353). -/
def chunkCount (n : Nat) : Nat := ceilDiv n chunkBytes

/-- Length of chunk `c` of a stream of `n` bytes. -/
def chunkLen (n c : Nat) : Nat := Nat.min chunkBytes (n - chunkBytes * c)

/-- The fields of Table 11.6, without the member table. -/
def vatDesc (bs : List Nat) : VatDesc :=
  let trig := fieldAt bs 12 4
  let done := fieldAt bs 56 4
  { op := nth 0 bs 0, fmt := nth 0 bs 1, ofmt := nth 0 bs 2, flags := nth 0 bs 3, cid := fieldAt bs 4 2, window := nth 0 bs 6,
    self := fieldAt bs 10 2, trigSem := bits trig 0 12, trigN := bits trig 12 16, src := fieldAt bs 24 8,
    list := fieldAt bs 32 8, dst := fieldAt bs 40 8, count := fieldAt bs 48 8, doneDie := bits done 0 8,
    doneSem := bits done 8 12, tag := fieldAt bs 60 4, nodes := [] }

/-- Whether a range lies in the fast tier of this module. -/
def State.inFast (s : State) (addr n : Nat) : Bool :=
  decide (addr + n ≤ 2 ^ 44) && s.isOwn addr && regionOf addr == 0 && s.populated addr (Nat.max n 1)

/-- Whether a descriptor's fields lie within Table 11.6 (R345, R350, R351, R353). -/
def vatFieldsOk (bs : List Nat) (d : VatDesc) (p : Nat) : Bool :=
  let formats :=
    if d.op = 1 then
      if d.record then d.fmt == 0 && d.ofmt == 0
      else (d.fmt == 0 && d.ofmt == 0) || ((d.fmt == 1 || d.fmt == 2) && (d.ofmt == 0 || d.ofmt == d.fmt))
    else decide (d.fmt ≤ 4) && d.ofmt == 0
  let chunks_ :=
    if d.op = 1 then chunkCount (shardLen d.count (Nat.max p 1) 0 * d.size)
    else if d.op = 2 then chunkCount (d.count * d.size)
    else 0
  decide (1 ≤ d.op) && decide (d.op ≤ 3) && formats && decide (d.flags < 8) && decide (d.cid < 4096) &&
    decide (1 ≤ d.window) && decide (d.window ≤ 16) && nth 0 bs 7 == 0 && decide (1 ≤ p) && decide (p ≤ 256) &&
    decide (d.self < p) && d.trigN != 0 && bits (fieldAt bs 12 4) 28 4 == 0 &&
    (if d.op = 3 then d.list % 16 == 0 else d.list == 0) && bits (fieldAt bs 56 4) 20 12 == 0 &&
    (!bit d.flags 2 || dieCode d.doneDie) && decide (chunks_ ≤ 65536)

/-- Segments of a send list (R357). -/
def sendSegs (p : Nat) (bs : List Nat) : List (Nat × Nat × Nat) :=
  ((chunks 16 (bs.length + 1) bs).map fun e =>
    let w := ofLeBytes e
    (bits w 0 16, bits w 48 40, bits w 88 40)).filter fun g => decide (g.1 < p)

/-- Whether the addresses of a descriptor lie in the fast tier and a reduce-scatter's or permute's output keeps off its input
(R345), as far as the descriptor and its list tell. -/
def State.vatPlacesOk (s : State) (d : VatDesc) (p mtab : Nat) (segs : List (Nat × Nat × Nat)) : Bool :=
  let inLen :=
    if d.op = 3 then segs.foldl (fun z g => Nat.max z ((g.2.1 + g.2.2) * d.size)) 0 else d.count * d.size
  let outLen := if d.op = 1 then shardLen d.count (Nat.max p 1) d.self * d.outSize else 0
  let own := (segs.filter fun g => g.1 == d.self).foldl (fun z g => z + g.2.2 * d.size) 0
  s.inFast mtab p && s.inFast d.src inLen && s.inFast d.dst outLen && (d.op != 3 || s.inFast d.list (16 * d.count)) &&
    (if d.op = 1 then !(overlaps d.src inLen d.dst outLen)
     else if d.op = 3 then !(inLen != 0 && overlaps d.src inLen d.dst (Nat.max own 1))
     else true)

/-! ### Faults and refusals (R345, R360) -/

/-- Record the first fault or refusal of a Vat. -/
def State.vatRecord (s : State) (x cause cid chunk : Nat) : State :=
  let d := 0x50 + x
  if bit (s.rg .VAT_FAULT d 0 0) 63 then s
  else s.setRg .VAT_FAULT d 0 0 (2 ^ 63 + cause * 2 ^ 40 + cid % 4096 * 2 ^ 28 + chunk % 65536)

/-- Abandon every collective of a Vat and release its tickets. -/
def State.vatClear (s : State) (x : Nat) : State :=
  let v := s.vat x
  let s1 := s.setVat x { v with queue := [], granted := false, active := [], spillUse := 0, admLt := 0 }
  (s1.setFld .VAT_OCC (0x50 + x) 0 0 0 11 0).dropWait (0x50 + x) .vat

/-- A Vat fault. -/
def State.vatFault (s : State) (x cause cid chunk : Nat) : State :=
  let d := 0x50 + x
  let s1 := (s.vatRecord x cause cid chunk).vatClear x
  (s1.setFld .VAT_STATUS d 0 0 3 1 1).dieFault d 0x48 0 cause

/-- Whether a Vat has faulted since the job was loaded. -/
def State.vatFaulted (s : State) (x : Nat) : Bool := bit (s.rg .VAT_STATUS (0x50 + x) 0 0) 3

/-! ### Submission (R345, R346) -/

/-- The descriptor at the head of the queue begins its trigger wait. -/
def State.vatArm (s : State) (x : Nat) : State :=
  match (s.vat x).queue with
  | d :: _ => s.unitWait (0x50 + x) d.trigSem d.trigN .vat
  | [] => s

/-- A write of VAT_SUBMIT (R345): false where it is refused. [DEDUCED, log entry 50] -/
def State.vatSubmitWrite (s : State) (x : Fin 4) (val : Nat) : State × Bool :=
  let addr := bits val 0 44
  let v := s.vat x
  let refuse (z : State) (cid : Option Nat) : State × Bool :=
    match cid with
    | some c => (z.vatRecord x 0x10 c 0, false)
    | none =>
      let (o, z1) := z.freshVal
      (z1.vatRecord x 0x10 (o.toNat % 4096) 0, false)
  if s.vatFaulted x ∨ 64 ≤ v.queue.length ∨ addr % 64 ≠ 0 ∨ !s.inFast addr 64 then refuse s none
  else
    match s.memRead (.vat x) addr 64 with
    | (s1, .error _) => (s1.vatFault x 0x02 0 0, false)
    | (s1, .ok bs) =>
      let d := vatDesc bs
      let p := fieldAt bs 8 2
      let mtab := fieldAt bs 16 8
      if !vatFieldsOk bs d p ∨ bits d.cid 10 2 ≠ x.val then refuse s1 (some d.cid)
      else if !s1.inFast mtab p ∨ (d.op = 3 ∧ !s1.inFast d.list (16 * d.count)) then refuse s1 (some d.cid)
      else
        match s1.memRead (.vat x) mtab p with
        | (s2, .error _) => (s2.vatFault x 0x02 d.cid 0, false)
        | (s2, .ok nodes) =>
          let lst : State × Except MemErr (List Nat) :=
            if d.op = 3 ∧ d.count ≠ 0 then s2.memRead (.vat x) d.list (16 * d.count) else (s2, .ok [])
          match lst with
          | (s3, .error _) => (s3.vatFault x 0x02 d.cid 0, false)
          | (s3, .ok ls) =>
            let own := (nodes[d.self]?) == some s3.node
            let twice := (List.range p).any fun i => (List.range i).any fun j => nth 0 nodes i == nth 0 nodes j
            if !own ∨ twice ∨ !s3.vatPlacesOk d p mtab (sendSegs p ls) then refuse s3 (some d.cid)
            else
              let first := v.queue.isEmpty
              let s4 := s3.setVat x { s3.vat x with queue := v.queue ++ [{ d with nodes := nodes }] }
              (if first then s4.vatArm x else s4, true)

/-! ### Active collectives -/

/-- The collective of a CID. -/
def State.coll (s : State) (x cid : Nat) : Option Coll := (s.vat x).active.find? fun c => c.desc.cid == cid

/-- Replace the collective of a CID. -/
def State.setColl (s : State) (x : Nat) (c : Coll) : State :=
  let v := s.vat x
  s.setVat x { v with active := v.active.map fun a => if a.desc.cid = c.desc.cid then c else a }

/-- Elements of a permute that this member sends to another. -/
def Coll.segTotal (c : Coll) (j : Nat) : Nat := (c.segs.filter fun g => g.1 == j).foldl (fun z g => z + g.2.2) 0

/-- Count received from a member; the own one for this member. -/
def Coll.countOf (c : Coll) (i : Nat) : Nat :=
  if i = c.desc.self then (if c.desc.op = 3 then c.segTotal i else c.desc.count)
  else ((c.counts.find? fun e => e.1 == i).map Prod.snd).getD 0

/-- Bytes that this member sends to member j. -/
def Coll.sendLen (c : Coll) (j : Nat) : Nat :=
  let d := c.desc
  if d.op = 1 then shardLen d.count d.p j * d.size else if d.op = 2 then d.count * d.size else c.segTotal j * d.size

/-- Bytes that this member receives from member i. -/
def Coll.recvLen (c : Coll) (i : Nat) : Nat :=
  let d := c.desc
  if d.op = 1 then shardLen d.count d.p d.self * d.size else c.countOf i * d.size

/-- Where the bytes from member i are placed by an all-gather or permute (R356, R357). -/
def Coll.placeOf (c : Coll) (i : Nat) : Nat :=
  c.desc.dst + (List.range i).foldl (fun z h => z + c.countOf h * c.desc.size) 0

/-- The other members. -/
def Coll.others (c : Coll) : List Nat := (List.range c.desc.p).filter (· != c.desc.self)

/-- Send a collective flit to a member: CID, chunk and index stand in ADDR (Table 11.3). -/
def State.sendColl (s : State) (c : Coll) (typ j chunk idx : Nat) (bs : List Nat) : State :=
  let addr := c.desc.cid * 2 ^ 32 + chunk * 2 ^ 16 + idx * 2 ^ 8
  (s.sendFlit ⟨typ, 0, nth 0 c.desc.nodes j, s.node, bs.length - 1, 0, addr, bs⟩).1

/-- Pieces of the source that chunk `k` of the stream to member j takes: address and length. -/
def Coll.pieces (c : Coll) (j k : Nat) : List (Nat × Nat) :=
  let d := c.desc
  let len := chunkLen (c.sendLen j) k
  let from_ := chunkBytes * k
  if d.op = 1 then [(d.src + shardOff d.count d.p j * d.size + from_, len)]
  else if d.op = 2 then [(d.src + from_, len)]
  else
    ((c.segs.filter fun g => g.1 == j).foldl (fun (z : Nat × List (Nat × Nat)) g =>
      let n := g.2.2 * d.size
      let lo := Nat.max z.1 from_
      let hi := Nat.min (z.1 + n) (from_ + len)
      (z.1 + n, if lo < hi then z.2 ++ [(d.src + g.2.1 * d.size + (lo - z.1), hi - lo)] else z.2)) (0, [])).2

/-- Read pieces for a Vat. -/
def State.vatReads (s : State) (x : Fin 4) : List (Nat × Nat) → State × Option (List Nat)
  | [] => (s, some [])
  | (a, n) :: ps =>
    if n = 0 then s.vatReads x ps
    else
      match s.memRead (.vat x) a n with
      | (s1, .error _) => (s1, none)
      | (s1, .ok bs) =>
        match s1.vatReads x ps with
        | (s2, some cs) => (s2, some (bs ++ cs))
        | (s2, none) => (s2, none)

/-- Read chunk `k` for member j and send it: COLL_DATA from index 0 upward, then COLL_END (R353). -/
def State.sendChunk (s : State) (x : Fin 4) (cid j k : Nat) : State :=
  match s.coll x cid with
  | none => s
  | some c =>
    match s.vatReads x (c.pieces j k) with
    | (s1, none) => s1.vatFault x 0x02 cid k
    | (s1, some bs) =>
      let fl := chunks 256 (bs.length + 1) bs
      let s2 := ((List.range fl.length).zip fl).foldl (fun z e => z.sendColl c 0x12 j k e.1 e.2) s1
      let s3 := s2.sendColl c 0x13 j k 0 (leBytes 4 (crc32c bs) ++ leBytes 4 bs.length)
      s3.setColl x { c with tx := c.tx.map fun t => if t.dst = j ∧ t.chunk = k then { t with sent := true } else t }

/-- Grant a member the credits of the window's first chunks (R353). -/
def State.firstCredits (s : State) (c : Coll) : State :=
  c.others.foldl (fun z i =>
    (List.range (Nat.min c.desc.window (chunkCount (c.recvLen i)))).foldl (fun y k => y.sendColl c 0x11 i k 0 [0]) z) s

/-- Every member has started (R347): credits are granted, and chunks already credited are sent. [DEDUCED, log entry 50] -/
def State.openColl (s : State) (x : Fin 4) (cid : Nat) : State :=
  match s.coll x cid with
  | none => s
  | some c =>
    if c.opened ∨ !(c.others.all fun i => c.counts.any fun e => e.1 == i) then s
    else
      let s1 := (s.setColl x { c with opened := true }).firstCredits c
      (c.tx.filter fun t => !t.sent).foldl (fun z t => z.sendChunk x cid t.dst t.chunk) s1

/-- The payload of COLL_COUNT for member j (R347). -/
def Coll.countPayload (c : Coll) (j : Nat) : List Nat :=
  let d := c.desc
  leBytes 8 c.inst ++ leBytes 8 (if d.op = 3 then c.segTotal j else d.count) ++ [d.op, d.fmt, d.ofmt, d.flags] ++
    leBytes 2 d.p ++ [0, 0] ++ leBytes 8 (if d.op = 1 then d.count else 0)

/-- Tickets of a chunk's accumulators: A of R353. -/
def VatDesc.accTickets (d : VatDesc) : Nat := if d.ef.size = 2 then 2 else 1

/-- Tickets a collective needs (R353). -/
def VatDesc.tickets (d : VatDesc) : Nat := if d.op = 1 then d.window * (d.accTickets + d.p - 1) else 0

/-- Addresses of the 64 KiB that a collective takes of the reduction memory or, on the spill path, of the spill region: some that
no active collective holds, open which. [DESIGN CHOICE, log entry 83] -/
def State.vatPlaces (s : State) (x : Nat) (spill : Bool) (need : Nat) : State × List Nat :=
  if need = 0 then (s, [])
  else
    let dx := 0x50 + x
    let all := if spill then (List.range (s.rg .VAT_SPILL_LEN dx 0 0 / chunkBytes)).map (s.rg .VAT_SPILL_BASE dx 0 0 + chunkBytes * ·)
      else (List.range 1024).map fun i => s.rmAddr x (chunkBytes * i)
    let free := all.filter fun a => !((s.vat x).active.any fun c => c.places.contains a)
    let (o, s1) := s.freshVal
    let k := o.toNat % free.length
    (s1, (free.drop k ++ free.take k).take need)

/-- Admit the head of the queue (R346, R353, R354): none where it stays. -/
def State.vatAdmit (s : State) (x : Nat) (d : VatDesc) : Option (Bool × Nat) :=
  let occ := s.fld .VAT_OCC (0x50 + x) 0 0 0 11
  let need := d.tickets
  if occ + need ≤ s.ticketShare (0x50 + x) 0 then some (false, need)
  else if (s.vat x).spillUse + need * chunkBytes ≤ s.rg .VAT_SPILL_LEN (0x50 + x) 0 0 then some (true, need)
  else none

/-- Start the head of the queue. -/
def State.vatBegin (s : State) (x : Fin 4) (d : VatDesc) (rest : List VatDesc) (spill : Bool) (need : Nat) : State :=
  let dx := 0x50 + x.val
  let lst : State × Option (List Nat) := if d.op = 3 then s.vatReads x [(d.list, 16 * d.count)] else (s, some [])
  match lst with
  | (s1, none) => s1.vatFault x 0x02 d.cid 0
  | (s0, some ls) =>
    let (s1, places) := s0.vatPlaces x spill need
    let v := s1.vat x
    let inst := Sparse.get (fun _ => 0) v.insts d.cid + 1
    let c : Coll :=
      { desc := d, inst := inst, spill := spill, tickets := need, places := places, arith := s1.arith dx, segs := sendSegs d.p ls, counts := [],
        opened := false, rx := [], tx := [], red := [], progLt := 0 }
    let s2 := s1.setVat x { v with
      queue := rest, granted := false, admLt := 0, active := v.active ++ [c]
      insts := Sparse.set (fun _ => 0) v.insts d.cid inst
      spillUse := if spill then v.spillUse + need * chunkBytes else v.spillUse }
    let s3 := if spill then s2.bump .VAT_SPILLS dx 0 0 1
      else s2.setFld .VAT_OCC dx 0 0 0 11 (s2.fld .VAT_OCC dx 0 0 0 11 + need)
    let s4 := c.others.foldl (fun z j => z.sendColl c 0x10 j 0 0 (c.countPayload j)) s3
    (s4.openColl x d.cid).vatArm x

/-- COLLECTIVE_START (R346). -/
def execCollectiveStart (x : Fin 4) (s : State) : Host.Outcome State Fault Refusal :=
  let dx := 0x50 + x.val
  let v := s.vat x
  match v.queue with
  | [] => .next s
  | d :: rest =>
    if !v.granted ∧ !s.granted dx .vat then .next s
    else
      let s1 := if v.granted then s else (s.useGrant dx .vat).setVat x { v with granted := true }
      if 8 ≤ v.active.length ∨ v.active.any (fun c => c.desc.cid == d.cid) then .next s1
      else
        match s1.vatAdmit x d with
        | none => .next s1
        | some (spill, need) => .next (s1.vatBegin x d rest spill need)

/-! ### Flits of a collective (R347, R353, R356 to R359) -/

/-- The flit reaches the Vat of its CID: one whose CID is not active, or whose sender is no other member, is discarded and
counted (R360). -/
def State.collFlit (s : State) (r : Rx) (typ : Nat) (cid : BitVec 12) (addr : Nat) (bs : List Nat)
    (f : Fin 4 → Coll → Nat → State → State) : State :=
  s.rxFlit r (rxAsFlit r typ (bs.length - 1) (cid.toNat * 2 ^ 32 + addr) bs) fun s1 =>
    let x : Fin 4 := Fin.ofNat 4 (cid.toNat / 1024)
    match s1.coll x cid.toNat with
    | none => s1.bumpPort .SL_ROUTE_DROP r.port.val 1
    | some c =>
      match c.others.find? fun i => nth 0x100 c.desc.nodes i == r.src.toNat with
      | none => s1.bumpPort .SL_ROUTE_DROP r.port.val 1
      | some i => f x c i s1

/-- The 32 bytes of a COLL_COUNT payload. -/
def collCountBytes (b : CollCount) : List Nat :=
  leBytes 8 b.inst.toNat ++ leBytes 8 b.count.toNat ++ [b.op.toNat, b.fmt.toNat, b.ofmt.toNat, b.flags.toNat] ++
    leBytes 2 b.p.toNat ++ [0, 0] ++ leBytes 8 b.n.toNat

/-- COLL_COUNT (R347). -/
def execCollCount (r : Rx) (cid : BitVec 12) (b : CollCount) (s : State) : Host.Outcome State Fault Refusal :=
  .next (s.collFlit r 0x10 cid 0 (collCountBytes b) fun x c i s1 =>
    let d := c.desc
    if b.inst.toNat ≠ c.inst ∨ b.op.toNat ≠ d.op ∨ b.fmt.toNat ≠ d.fmt ∨ b.ofmt.toNat ≠ d.ofmt ∨ b.flags.toNat ≠ d.flags ∨
        b.p.toNat ≠ d.p ∨ (d.op = 1 ∧ b.n.toNat ≠ d.count) then s1.vatFault x 0x04 d.cid 0
    else
      let c1 := { c with counts := (c.counts.filter fun e => e.1 != i) ++ [(i, b.count.toNat)] }
      (s1.setColl x c1).openColl x d.cid)

/-- COLL_CREDIT (R353, R358): credit for a chunk, which is sent once every member has started; or its confirmation. -/
def execCollCredit (r : Rx) (cid : BitVec 12) (chunk : BitVec 16) (final : Bool) (s : State) :
    Host.Outcome State Fault Refusal :=
  .next (s.collFlit r 0x11 cid (chunk.toNat * 2 ^ 16) [b2n final] fun x c i s1 =>
    let k := chunk.toNat
    if final then
      s1.setColl x { c with
        progLt := 0
        tx := c.tx.map fun t => if t.dst = i ∧ t.chunk = k then { t with confirmed := true } else t }
    else if c.tx.any (fun t => t.dst == i && t.chunk == k) ∨ chunkCount (c.sendLen i) ≤ k then s1
    else
      let s2 := s1.setColl x { c with tx := c.tx ++ [⟨i, k, false, false⟩] }
      if c.opened then s2.sendChunk x c.desc.cid i k else s2)

/-- A chunk received from a member, as far as it has come. -/
def Coll.rxOf (c : Coll) (i k : Nat) : RxChunk :=
  (c.rx.find? fun e => e.src == i && e.chunk == k).getD ⟨i, k, [], 0, false, [], false⟩

/-- Replace a chunk received. -/
def Coll.setRx (c : Coll) (e : RxChunk) : Coll :=
  { c with rx := (c.rx.filter fun f => !(f.src == e.src && f.chunk == e.chunk)) ++ [e] }

/-- COLL_DATA (R353). -/
def execCollData (r : Rx) (cid : BitVec 12) (chunk : BitVec 16) (idx : BitVec 8) (data : List (BitVec 8)) (s : State) :
    Host.Outcome State Fault Refusal :=
  let bs := data.map BitVec.toNat
  .next (s.collFlit r 0x12 cid (chunk.toNat * 2 ^ 16 + idx.toNat * 2 ^ 8) bs fun x c i s1 =>
    let e := c.rxOf i chunk.toNat
    if e.ok then s1
    else s1.setColl x (c.setRx { e with flits := (e.flits.filter fun f => f.1 != idx.toNat) ++ [(idx.toNat, bs)] }))

/-- Confirm a delivered chunk to its sender and grant credit for the chunk a window on (R353, R358). [DEDUCED, log entry 50] -/
def State.creditAfter (s : State) (c : Coll) (i k : Nat) : State :=
  let s1 := s.sendColl c 0x11 i k 0 [1]
  let k' := k + c.desc.window
  if k' < chunkCount (c.recvLen i) then s1.sendColl c 0x11 i k' 0 [0] else s1

/-- Deliver a checked chunk of an all-gather or permute to its place (R356, R357), unless a capture holds it up (R400). -/
def State.deliverChunk (s : State) (x : Fin 4) (cid i k : Nat) : State :=
  match s.coll x cid with
  | none => s
  | some c =>
    let e := c.rxOf i k
    let addr := c.placeOf i + chunkBytes * k
    if !e.ok ∨ e.delivered ∨ s.guarded addr e.bytes.length then s
    else
      match s.memWrite (.vat x) addr e.bytes with
      | (s1, some _) => s1.vatFault x 0x03 cid k
      | (s1, none) =>
        let c1 := { c.setRx { e with bytes := [], flits := [], delivered := true } with progLt := 0 }
        (s1.setColl x c1).creditAfter c1 i k

/-- Write pieces for a Vat. -/
def State.vatWrites (s : State) (x : Fin 4) : List (Nat × List Nat) → State × Bool
  | [] => (s, true)
  | (a, bs) :: ps =>
    match s.memWrite (.vat x) a bs with
    | (s1, some _) => (s1, false)
    | (s1, none) => s1.vatWrites x ps

/-- Address of ticket `n` of chunk `k`, of the A + P − 1 that the chunk's place in the window has. -/
def Coll.ticket (c : Coll) (k n : Nat) : Nat :=
  nth 0 c.places (k % c.desc.window * (c.desc.accTickets + c.desc.p - 1) + n)

/-- The ticket that keeps member i's contribution. -/
def Coll.partTicket (c : Coll) (i k : Nat) : Nat :=
  c.ticket k (c.desc.accTickets + (if i < c.desc.self then i else i - 1))

/-- Vat fault cause of a read or write that failed in a collective's own memory: 0x01 in the reduction memory, that of the region's
tier on the spill path. [DESIGN CHOICE, log entry 83] -/
def Coll.memCause (c : Coll) (write : Bool) : Nat := if !c.spill then 0x01 else if write then 0x03 else 0x02

/-- A remote contribution that has passed its check is kept in the collective's memory until its turn (R353 step 4, R354); a
write that a capture holds up waits with its bytes (R400). -/
def State.keepPart (s : State) (x : Fin 4) (c : Coll) (i k : Nat) (bs : List Nat) : State :=
  let e := { c.rxOf i k with ok := true, flits := [] }
  if s.guarded (c.partTicket i k) bs.length then s.setColl x (c.setRx { e with bytes := bs })
  else
    match s.memWrite (.vat x) (c.partTicket i k) bs with
    | (s1, some _) => s1.vatFault x (c.memCause true) c.desc.cid k
    | (s1, none) => s1.setColl x (c.setRx { e with bytes := [] })

/-- COLL_END (R359). -/
def execCollEnd (r : Rx) (cid : BitVec 12) (chunk : BitVec 16) (crc count : BitVec 32) (s : State) :
    Host.Outcome State Fault Refusal :=
  .next (s.collFlit r 0x13 cid (chunk.toNat * 2 ^ 16) (leBytes 4 crc.toNat ++ leBytes 4 count.toNat) fun x c i s1 =>
    let k := chunk.toNat
    let e := c.rxOf i k
    if e.ok then s1
    else
      let bs := (List.range 256).flatMap fun j => ((e.flits.find? fun f => f.1 == j).map Prod.snd).getD []
      if bs.length = count.toNat ∧ bs.length = chunkLen (c.recvLen i) k ∧ crc32c bs = crc.toNat then
        if c.desc.op = 1 then s1.keepPart x c i k bs
        else (s1.setColl x (c.setRx { e with ok := true, bytes := bs, flits := [] })).deliverChunk x c.desc.cid i k
      else if e.tries = 3 then s1.vatFault x 0x05 c.desc.cid k
      else
        let c1 := c.setRx { e with tries := e.tries + 1, flits := [] }
        (s1.setColl x c1).sendColl c1 0x14 i k 0 [])

/-- COLL_RESEND (R359). -/
def execCollResend (r : Rx) (cid : BitVec 12) (chunk : BitVec 16) (s : State) : Host.Outcome State Fault Refusal :=
  .next (s.collFlit r 0x14 cid (chunk.toNat * 2 ^ 16) [] fun x c i s1 =>
    if c.tx.any fun t => t.dst == i && t.chunk == chunk.toNat && t.sent && !t.confirmed then
      (s1.sendChunk x c.desc.cid i chunk.toNat).bump .VAT_RESENDS (0x50 + x.val) 0 0 1
    else s1)

/-! ### The reduction (R349, R351, R352) -/

/-- Identity fields of a record header that must agree: BLOCK_ID, BETA, SIDE, FMT, WIDTH, FIRST_STEP, LAST_STEP. -/
def headerId (h : List Nat) : List Nat := h.take 16 ++ (h.drop 24).take 16

/-- Combine two record headers (R351): none for a disagreement. -/
def headerAdd (a b : List Nat) : Option (List Nat) :=
  let sa := nth 0 a 12
  let sb := nth 0 b 12
  if sa ≠ 0 ∧ sb ≠ 0 ∧ headerId a ≠ headerId b then none
  else
    let i := if sa = 0 ∧ sb ≠ 0 then b else a
    let rows := Nat.min (fieldAt a 16 8 + fieldAt b 16 8) (2 ^ 64 - 1)
    some (i.take 16 ++ leBytes 8 rows ++ (i.drop 24).take 16 ++ leBytes 4 (fieldAt a 40 4 ||| fieldAt b 40 4) ++
      (a.drop 44).take 4 ++ List.replicate 208 0)

/-- A contribution element widened (R349), with its flags and whether it is non-finite. -/
def widenElem (ar : Arith) (f : Fp) (x : Nat) : Nat × Nat × Bool :=
  if f = .fp32 then (x, 0, f.nonFinite x)
  else
    let (w, fl) := fconv ar f .fp32 x
    (w, fl, f.nonFinite x)

/-- Add one contribution element to the accumulator, or take it as the first. -/
def redElem (ar : Arith) (grad : Bool) (f : Fp) (acc : Option Nat) (x : Nat) : Nat × Nat :=
  let (w, fw, nf) := widenElem ar f x
  match acc with
  | none => (w, fw ||| gradFlags grad nf (Fp.fp32.nonFinite w) 0)
  | some a =>
    let (r, fr) := fadd ar .fp32 a w
    (r, fw ||| fr ||| gradFlags grad nf (Fp.fp32.nonFinite r) fr)

/-- Words of a chunk of records: (byte offset in the stream) of each 256-byte block that is a header. -/
def headerBlock (off : Nat) : Bool := off % slotBytes == 0

/-- Add a contribution to an accumulator of record bytes, block by block: none for a header disagreement. -/
def redRecords (ar : Arith) (grad first : Bool) : Nat → List (List Nat) → List (List Nat) → Option (List (List Nat) × Nat)
  | _, [], _ => some ([], 0)
  | _, _, [] => some ([], 0)
  | off, a :: as, b :: bs =>
    match redRecords ar grad first (off + 256) as bs with
    | none => none
    | some (rest, fl) =>
      if headerBlock off then
        if first then some ((b.take 48 ++ List.replicate 208 0) :: rest, fl)
        else
          match headerAdd a b with
          | none => none
          | some h => some (h :: rest, fl)
      else
        let es := ((elems 4 a).zip (elems 4 b)).map fun e => redElem ar grad .fp32 (if first then none else some e.1) e.2
        some ((es.flatMap fun e => leBytes 4 e.1) :: rest, es.foldl (fun z e => z ||| e.2) fl)

/-- Add contribution bytes to the accumulator of a chunk: FP32 patterns, or bytes in RECORD mode. -/
def Coll.addTo (c : Coll) (k : Nat) (acc : List Nat) (first : Bool) (bs : List Nat) : Option (List Nat × Nat) :=
  let grad := bit c.desc.flags 0
  if c.desc.record then
    let old := chunks 256 (bs.length + 1) (if first then bs else acc)
    match redRecords c.arith grad first (chunkBytes * k) old (chunks 256 (bs.length + 1) bs) with
    | none => none
    | some (r, fl) => some (r.flatten, fl)
  else
    let xs := elems c.desc.ef.size bs
    let es := ((List.range xs.length).zip xs).map fun e =>
      redElem c.arith grad c.desc.ef (if first then none else some (nth 0 acc e.1)) e.2
    some (es.map Prod.fst, es.foldl (fun z e => z ||| e.2) 0)

/-- The finished chunk as output bytes (R349, R352). -/
def Coll.output (c : Coll) (acc : List Nat) : List Nat × Nat :=
  let f := c.desc.of_
  if c.desc.record then (acc, 0)
  else if f = .fp32 then (acc.flatMap fun x => leBytes 4 x, 0)
  else
    let es := acc.map fun x =>
      let (r, fl) := fconv c.arith .fp32 f x
      (r, fl ||| gradFlags (bit c.desc.flags 0) false false fl)
    (es.flatMap fun e => leBytes f.size e.1, es.foldl (fun z e => z ||| e.2) 0)

/-- The reduction of a chunk, as far as it has come. -/
def Coll.redOf (c : Coll) (k : Nat) : RedChunk := (c.red.find? fun e => e.chunk == k).getD ⟨k, 0, 0, false⟩

/-- Bytes of the accumulator of chunk `k`: FP32 elements, or the records themselves. -/
def Coll.accLen (c : Coll) (k : Nat) : Nat :=
  let n := chunkLen (c.recvLen c.desc.self) k
  if c.desc.record then n else n / c.desc.size * 4

/-- The accumulator of chunk `k` as its tickets hold it, in pieces of 64 KiB. -/
def Coll.accPieces (c : Coll) (k : Nat) : List (Nat × Nat) :=
  let n := c.accLen k
  (List.range c.desc.accTickets).map fun i => (c.ticket k i, Nat.min chunkBytes (n - chunkBytes * i))

/-- Accumulator bytes from and to the elements that `Coll.addTo` takes. -/
def Coll.accOf (c : Coll) (bs : List Nat) : List Nat := if c.desc.record then bs else elems 4 bs

/-- The bytes of an accumulator. -/
def Coll.accBytes (c : Coll) (acc : List Nat) : List Nat := if c.desc.record then acc else acc.flatMap (leBytes 4)

/-- Replace the reduction of a chunk. -/
def Coll.setRed (c : Coll) (e : RedChunk) : Coll := { c with red := (c.red.filter fun f => f.chunk != e.chunk) ++ [e] }

/-- Whether a chunk of a collective is partly reduced: the chunk in progress that a stop lets finish (R360). -/
def Coll.half (c : Coll) : Bool := c.red.any fun e => decide (0 < e.next) && !e.done

/-- Whether a Vat has a chunk in progress. -/
def State.vatHalf (s : State) (x : Nat) : Bool := (s.vat x).active.any Coll.half

/-- Bytes of a collective's output, as far as its counts tell. -/
def Coll.outLen (c : Coll) : Nat :=
  let d := c.desc
  if d.op = 1 then shardLen d.count d.p d.self * d.outSize
  else (List.range d.p).foldl (fun z i => z + c.countOf i * d.size) 0

/-- A Vat with no chunk in progress stops: its collectives and its queue are abandoned and what DST of an active one holds is
undefined (R360). -/
def State.vatStopped (s : State) (x : Nat) : State :=
  let z := (s.vat x).active.foldl (fun (y : State) c => y.scramble c.desc.dst c.outLen) s
  z.vatClear x

/-- A stop request reaches a Vat (R360): the queue is discarded, and with no chunk in progress the collectives too. [DEDUCED, log entry 45] -/
def State.stopVat (s : State) (x : Nat) : State :=
  if (s.vat x).queue.isEmpty && (s.vat x).active.isEmpty then s
  else if s.vatHalf x then (s.setVat x { s.vat x with queue := [], granted := false, admLt := 0 }).dropWait (0x50 + x) .vat
  else s.vatStopped x

/-- Write a chunk whose last member has been added (R353, step 5). -/
def State.finishChunk (s : State) (x : Fin 4) (c : Coll) (k : Nat) (e : RedChunk) (acc : List Nat) : State :=
  let (out, fl) := c.output acc
  let addr := c.desc.dst + chunkBytes * k / c.desc.size * c.desc.outSize
  let addr := if c.desc.record then c.desc.dst + chunkBytes * k else addr
  match s.memWrite (.vat x) addr out with
  | (s1, some _) => s1.vatFault x 0x03 c.desc.cid k
  | (s1, none) =>
    let c1 := { c.setRed { e with done := true } with progLt := 0 }
    let s2 := (s1.raise (0x50 + x.val) 0 (e.flags ||| fl)).setColl x c1
    let s3 := c1.others.foldl (fun z i => z.creditAfter c1 i k) s2
    if s3.stopping && !s3.vatHalf x then s3.vatStopped x else s3

/-- The contribution of member i to chunk k, if it is there: the own one is read at SRC, another from the collective's memory; none
for a fault cause. -/
def State.partBytes (s : State) (x : Fin 4) (c : Coll) (i k : Nat) : State × Except Nat (Option (List Nat)) :=
  if i = c.desc.self then
    match s.vatReads x (c.pieces i k) with
    | (s1, some bs) => (s1, .ok (some bs))
    | (s1, none) => (s1, .error 0x02)
  else
    let q := c.rxOf i k
    if !q.ok ∨ q.delivered then (s, .ok none)
    else if q.bytes ≠ [] then (s, .ok (some q.bytes))
    else
      match s.vatReads x [(c.partTicket i k, chunkLen (c.recvLen i) k)] with
      | (s1, some bs) => (s1, .ok (some bs))
      | (s1, none) => (s1, .error (c.memCause false))

/-- One contribution of a chunk is added on its turn: it and the accumulator are read, the accumulator is written. [DESIGN CHOICE, log entry 28] -/
def State.reduceNext (s : State) (x : Fin 4) (c : Coll) (k : Nat) (e : RedChunk) : State :=
  let d := c.desc
  match s.partBytes x c e.next k with
  | (s1, .error cause) => s1.vatFault x cause d.cid k
  | (s1, .ok none) => s1
  | (s1, .ok (some bs)) =>
    match (if e.next = 0 then (s1, some []) else s1.vatReads x (c.accPieces k)) with
    | (s2, none) => s2.vatFault x (c.memCause false) d.cid k
    | (s2, some old) =>
      match c.addTo k (c.accOf old) (e.next == 0) bs with
      | none => s2.vatFault x 0x08 d.cid k
      | some (acc, fl) =>
        let e1 : RedChunk := { e with next := e.next + 1, flags := e.flags ||| fl }
        let c1 := if e.next = d.self then c else c.setRx { c.rxOf e.next k with bytes := [], delivered := true }
        let out := c.accBytes acc
        match s2.vatWrites x (((c.accPieces k).map Prod.fst).zip (chunks chunkBytes (out.length + 1) out)) with
        | (s3, false) => s3.vatFault x (c.memCause true) d.cid k
        | (s3, true) => if e1.next < d.p then s3.setColl x (c1.setRed e1) else s3.finishChunk x c1 k e1 acc

/-- CHUNK_REDUCE (R349, R353): the next contribution of a chunk of the own shard, in member order; for an all-gather or
permute, chunks that a capture held up are delivered. -/
def execChunkReduce (x : Fin 4) (cid : BitVec 12) (chunk : BitVec 16) (s : State) : Host.Outcome State Fault Refusal :=
  let k := chunk.toNat
  match s.coll x cid.toNat with
  | none => .next s
  | some c =>
    if c.desc.op ≠ 1 then .next (c.others.foldl (fun z i => z.deliverChunk x cid.toNat i k) s)
    else
      let e := c.redOf k
      if !c.opened ∨ e.done ∨ chunkCount (c.recvLen c.desc.self) ≤ k ∨ (s.stopping = true ∧ e.next = 0) ∨
          ((c.accPieces k).any fun g => s.guarded g.1 g.2) = true ∨
          s.guarded (c.desc.dst + chunkBytes * k / c.desc.size * c.desc.outSize) (2 * chunkBytes) then .next s
      else .next (s.reduceNext x c k e)

/-! ### Completion and timeouts (R358, R360) -/

/-- Whether every chunk this member receives has been delivered. -/
def Coll.allIn (c : Coll) : Bool :=
  if c.desc.op = 1 then (List.range (chunkCount (c.recvLen c.desc.self))).all fun k => (c.redOf k).done
  else c.others.all fun i => (List.range (chunkCount (c.recvLen i))).all fun k => (c.rxOf i k).delivered

/-- Whether every chunk this member sends has been confirmed. -/
def Coll.allOut (c : Coll) : Bool :=
  c.others.all fun j => (List.range (chunkCount (c.sendLen j))).all fun k =>
    c.tx.any fun t => t.dst == j && t.chunk == k && t.confirmed

/-- The own part of an all-gather or permute is copied in this module (R356, R357): none for a fault cause. -/
def State.ownCopy (s : State) (x : Fin 4) (c : Coll) : State × Option Nat :=
  let me := c.desc.self
  let len := c.sendLen me
  let dst := c.placeOf me
  if c.desc.op = 1 ∨ len = 0 ∨ (c.desc.op = 2 ∧ dst = c.desc.src) then (s, none)
  else
    let parts := (List.range (chunkCount len)).flatMap fun k => c.pieces me k
    match s.vatReads x parts with
    | (s1, none) => (s1, some 0x02)
    | (s1, some bs) =>
      match s1.memWrite (.vat x) dst bs with
      | (s2, none) => (s2, none)
      | (s2, some _) => (s2, some 0x03)

/-- COLLECTIVE_COMPLETE (R358). -/
def execCollectiveComplete (x : Fin 4) (cid : BitVec 12) (s : State) : Host.Outcome State Fault Refusal :=
  let dx := 0x50 + x.val
  match s.coll x cid.toNat with
  | none => .next s
  | some c =>
    if !c.opened ∨ !c.allIn ∨ !c.allOut ∨
        (c.desc.op ≠ 1 ∧ s.guarded (c.placeOf c.desc.self) (c.sendLen c.desc.self)) then .next s
    else
      match s.ownCopy x c with
      | (s1, some e) => .next (s1.vatFault x e cid.toNat 0)
      | (s1, none) =>
        let v := s1.vat x
        let s2 := s1.setVat x { v with
          active := v.active.filter fun a => a.desc.cid != c.desc.cid
          spillUse := if c.spill then v.spillUse - c.tickets * chunkBytes else v.spillUse }
        let s3 := if c.spill then s2
          else s2.setFld .VAT_OCC dx 0 0 0 11 (s2.fld .VAT_OCC dx 0 0 0 11 - c.tickets)
        let s4 := s3.bump .VAT_COLLS dx 0 0 1
        .next (if bit c.desc.flags 2 then s4.signal dx false c.desc.doneDie c.desc.doneSem 1 else s4)

/-- VAT_PROGRESS_TIMEOUT (R360). -/
def execVatProgressTimeout (x : Fin 4) (s : State) : Host.Outcome State Fault Refusal :=
  let v := s.vat x
  let limit := s.rg .VAT_PROG_TO (0x50 + x.val) 0 0
  match v.active.find? fun c => decide (limit ≤ c.progLt) with
  | some c => .next (s.vatFault x 0x06 c.desc.cid 0)
  | none =>
    match v.queue with
    | d :: _ =>
      if (v.granted ∨ s.granted (0x50 + x.val) .vat = true) ∧ limit ≤ v.admLt then .next (s.vatFault x 0x06 d.cid 0)
      else .next s
    | [] => .next s

/-- VAT_TRIGGER_TIMEOUT (R360). -/
def execVatTriggerTimeout (x : Fin 4) (s : State) : Host.Outcome State Fault Refusal :=
  let dx := 0x50 + x.val
  match s.semWaits.find? fun w => w.die == dx && w.who == Waiter.vat with
  | some w =>
    let limit := s.rg .VETCH_SEM_TO dx 0 0
    if limit ≠ 0 ∧ limit ≤ w.lt then
      .next (s.vatFault x 0x0A (((s.vat x).queue.head?.map VatDesc.cid).getD 0) 0)
    else .next s
  | none => .next s

end Sys2Proof.Machine
end

