-- ==== Sys2Proof/Machine/Stop.lean ====
section
/-!
DEFINITION. Module reset, fault classes, and stopping a job (R393 to R395, with the units' own stop
rules R96, R129, R157, R190, R247, R277, R316, R360).
-/

namespace Sys2Proof.Machine

/-! ### Module reset (R15, R469) -/

/-- Module reset: every register and unit at its reset value. What lies outside the module stays: the queue of commands, what
has been sent, the pins, the configuration flash and the fuses. [DEDUCED, log entry 57] -/
def State.moduleReset (s : State) : State :=
  let z : State :=
    { State.reset with
      pending := s.pending, flash := s.flash, floorFused := s.floorFused, resetN := s.resetN, aux12 := s.aux12,
      main54 := s.main54, auxGood := s.auxGood, mainGood := s.mainGood, outbox := s.outbox, freshCtr := s.freshCtr }
  if s.floorFused = 0 then z
  else (z.setRg .SEC_FUSE 0x50 0 0 s.floorFused).setRg .SEC_FUSE 0x52 0 0 s.floorFused

/-! ### Sequencers and units under a stop request -/

/-- The core whose SEQ_STATUS stands at a location. -/
def seqStatusAt (l : Nat) : Option Nat :=
  let die := l / 0x1000000
  let off := l % 0x1000000
  if die < 64 ∧ 0x100004 ≤ off ∧ (off - 0x100004) % 0x10000 = 0 ∧ (off - 0x100004) / 0x10000 < 16 then
    some (die * 16 + (off - 0x100004) / 0x10000)
  else none

/-- Cores whose sequencer is not as reset left it: every other core is IDLE. -/
def State.activeCores (s : State) : List Nat := s.regs.filterMap fun e => seqStatusAt e.1

/-- Cores that a stop has to look at. -/
def State.coresInUse (s : State) : List Nat :=
  (s.activeCores ++ s.arrays.map (fun (e : Nat × ArrayS) => e.1 / 4) ++ s.vecs.map Prod.fst ++ s.teas.map Prod.fst).eraseDups

/-- Whether a sequencer runs a program: RUN, HELD or STOPPING. -/
def State.seqBusy (s : State) (core : Nat) : Bool :=
  let st := s.seqState core
  st == 1 || st == 2 || st == 3

/-- Whether a core's arrays and vector engine are idle. -/
def State.unitsIdle (s : State) (core : Nat) : Bool :=
  ((List.range 4).all fun a => (s.arr core a).queue.isEmpty && (s.arr core a).flying.isEmpty) &&
    (s.vec core).queue.isEmpty

/-- Withdraw what a sequencer waits for (R157). -/
def State.seqWithdraw (s : State) (core : Nat) : State :=
  let s1 := s.dropWaits fun w => w.who == Waiter.seq core
  let z := { s1 with barHeld := s1.barHeld.filter fun h => h.core != core }
  z.setSeq core { z.seq core with waitLt := 0, barWait := none, hoopWait := none, cload := 0, sigSent := none }

/-- Queued updates and flushes are discarded; an update that runs, and a flush that no update holds up, end by themselves (R247):
captures of started passes go on. [DEDUCED, log entry 45] -/
def State.teaStop (s : State) (core : Nat) : State :=
  let t := s.tea core
  if t.closed.isEmpty && t.flushes.isEmpty then s
  else
    let flush := t.flushes.head?.filter fun g => g.posted || !t.flushWaits g
    s.setTea core { t with closed := t.closed.filter Sweep.updating, flushes := flush.toList }

/-- The stop request reaches a core (R96, R129, R157): passes not started are discarded, commands of the vector engine not
started too, SEQ_STOP is recorded, and a running sequencer is STOPPING. -/
def State.stopCore (s : State) (core : Nat) : State :=
  let d := core / 16
  let u := core % 16
  let mat := (List.range 4).map fun a => (s.arr core a).queue.length
  let v := s.vec core
  let disc := (v.queue.filter fun c => !c.started).length
  let st := s.seqState core
  let runs := st == 1 || st == 2
  let s1 := (List.range 4).foldl (fun z a =>
    if (z.arr core a).queue.isEmpty then z else z.setArr core a { z.arr core a with queue := [] }) s
  let s2 := if v.queue.isEmpty then s1
    else s1.setVec core { v with queue := v.queue.filter (·.started), stopAt := v.queue.any (·.started) }
  let s3 := if runs ∨ st = 4 ∨ disc ≠ 0 ∨ mat.any (· != 0) then
      s2.setRg .SEQ_STOP d u 0 (2 ^ 63 + disc * 2 ^ 32 + s2.pc core +
        (mat.zipIdx.foldl (fun z e => z + Nat.min e.1 8 * 2 ^ (16 + 4 * e.2)) 0))
    else s2
  let s4 := if runs then (s3.seqWithdraw core).setSeqState core 3 0 else s3
  s4.teaStop core

/-- A channel under a stop request (R190): its queue is discarded; with a burst in progress it finishes that first, else it is
STOPPED. One that has faulted stays so. [DEDUCED, log entry 45] -/
def DmaS.stop (x : DmaS) : DmaS :=
  if x.mode = 2 then x
  else
    match x.cur with
    | some e => if e.done < (dmaFields e.word).total then { x with queue := [e], mode := 4 } else { DmaS.init with mode := 3 }
    | none => { DmaS.init with mode := 3 }

/-- The stop request reaches every DMA channel (R190): what a channel asked the twin for outside its burst is forgotten. -/
def State.stopDmas (s : State) : State :=
  let chans := allDies.flatMap fun d => (List.range (dmaChannels d)).map fun c => (d * 32 + c, (s.dma d c).stop)
  let left := s.asked.filter fun a =>
    match a.who with
    | .dma d c => (s.dma d c).stop.flight.isSome
    | .dmaSub _ _ => false
    | _ => true
  { s with dmas := chans, asked := left }

/-- A Rennet engine stops at once (R277): what it has partly written of its output is undefined. -/
def State.rennetStop (s : State) (m e : Nat) : State :=
  let z := if s.renState m e = 3 then s.scramble (s.rnBuffers m e).2 (s.rg .RN_BUF_LEN (0x40 + m) 0 e) else s
  (z.setRenState m e 5).dropWait (0x40 + m) (.rennet e)

/-- A Press engine under a stop request (R316): one that can be at work on a tile finishes it first. -/
def State.pressStop (s : State) (m e : Nat) : State :=
  let st := s.prState m e
  if s.tileAhead m e then s
  else
    let z := if 1 ≤ st ∧ st ≤ 4 then s.pressStopped m e else s.pressUndefined m e
    (z.dropWait (0x40 + m) (.dirRing e)).dropWait (0x40 + m) (.gate e)

/-- The stop request reaches the Rennet and Press engines. -/
def State.stopEngines (s : State) : State :=
  (enginePairs 8).foldl (fun z p => z.pressStop p.1 p.2) ((enginePairs 4).foldl (fun z p => z.rennetStop p.1 p.2) s)

/-- The stop request reaches every Vat (R360). -/
def State.stopVats (s : State) : State := (List.range 4).foldl State.stopVat s

/-! ### Abandoning a capture (R406) -/

/-- A capture ends: its tickets are free and its guards released, so that waiting writes proceed (R400, R401). -/
def State.caveEnd (s : State) : State :=
  let s1 := (List.range 12).foldl State.caveGive s
  ({ s1 with capture := none, guards := [] } : State).serveHeld

/-- Abandon the capture in progress: the guards are released and waiting writes proceed; COMMIT of the slot stays 0. -/
def State.caveAbandon (s : State) : State :=
  match s.capture with
  | none => s
  | some _ =>
    ((s.bump .CAVE_FAILS 0x60 0 0 1).setG .CAVE_STATUS (setBits (s.g .CAVE_STATUS) 0 2 2)).caveEnd

/-! ### The stop (R395) -/

/-- Whether a Teasel has no update or flush left. -/
def TeaS.idle (t : TeaS) : Bool := t.closed.isEmpty && t.flushes.isEmpty

/-- Whether every unit of a core is idle. -/
def State.coreStopped (s : State) (core : Nat) : Bool := !s.seqBusy core && s.unitsIdle core && (s.tea core).idle

/-- Whether every unit reports idle or STOPPED. -/
def State.allStopped (s : State) : Bool :=
  s.coresInUse.all s.coreStopped && (s.dmas.all fun (e : Nat × DmaS) => e.2.mode != 4) &&
    ((enginePairs 8).all fun p => s.prState p.1 p.2 != 2) && (List.range 4).all fun x => !s.vatHalf x

/-- The slots of a Teasel are undefined for the next job (R247). -/
def State.slotsUndefined (s : State) (core : Nat) : State :=
  let v := s.teaCfg core 4
  s.scramble (s.spAddr core (bits v 0 25)) (slotBytes * bits v 48 16)

/-- Answer the requests that waited for the stop; a RESET among them resets the module (R447). -/
def State.stopReplies (s : State) : List (Nat × Nat × Bool) → State
  | [] => s
  | (n, i, r) :: rest =>
    let z := s.mgmtOut n (if r then 0x8070 else 0x8012) 0 i []
    if r then z.moduleReset else z.stopReplies rest

/-- The module has stopped when every unit has. -/
def State.stopDone (s : State) : State :=
  let job := s.job.map fun j => { j with started := false }
  let z := s.coresInUse.foldl State.slotsUndefined s
  ({ z with stopping := false, stopReply := [], job := job } : State).stopReplies s.stopReply

/-- Notice the end of a stop. [DEDUCED, log entry 45] -/
def State.stopCheck (s : State) : State := if s.stopping && s.allStopped then s.stopDone else s

/-- Record the first fault of the module in MOD_FAULT; the Rind alert FAULT is set with it. -/
def State.modFault (s : State) (die cause : Nat) : State :=
  if bit (s.g .MOD_FAULT) 63 then s
  else (s.setG .MOD_FAULT (setBits (setBits (setBits (s.g .MOD_FAULT) 63 1 1) 48 8 die) 0 8 cause)).alert 1

/-- The peer-stop signal to every other module of the job (R395, step 3; R344). -/
def State.stopPeers (s : State) : State :=
  let sem := bits (s.g .JOB_CTRL) 0 12
  s.peers.foldl (fun z n => z.sendReg n (loc .VETCH_SIGNAL 0x50 0 0) true (2 ^ 32 + sem)) s

/-- Stop the job: normal service gives way to recovery mode (R431: no other mode changes by a stop), the stop request on every
die, the peer-stop signals; a capture is abandoned and undecided Hoop instances abort with cause STOP. [DEDUCED, log entries 44 and 45] -/
def State.stopJob (s : State) : State :=
  let svc := if s.svc = .normal then Svc.recovery else s.svc
  let job := s.job.map fun j => { j with stopped := true }
  let s1 : State := { s with svc := svc, stopping := true, stopLt := 0, job := job }
  let s2 := s1.caveAbandon
  let s3 := s2.coresInUse.foldl State.stopCore s2
  (s3.stopDmas.stopEngines.stopVats.hoopStop).stopPeers.stopCheck

/-- Whether a fault now stops a job: one is loaded and has not been stopped yet. -/
def State.canStop (s : State) : Bool :=
  !s.stopping && (match s.job with
    | some j => !j.stopped
    | none => false)

/-- MOD_FAULT.CAUSE of a fault by the block that reports it (Table 13.7): block codes 0xFD and 0xFF stand for the loss of the
half in charge and a peer stop, 0xFC for a twin loss that the job does not survive, whose cause code the manual leaves open. [DEDUCED, log entry 8] -/
def State.faultClass (s : State) (f : FaultRec) : State × Nat :=
  if f.block = 0x40 then (s, 0x02)
  else if f.block = 0x68 then (s, if f.cause = 2 then 0x06 else 0x03)
  else if f.block = 0xFD then (s, 0x05)
  else if f.block = 0xFF then (s, 0x08)
  else if f.block = 0xFC then
    let (o, z) := s.freshVal
    (z, bits o.toNat 0 8)
  else (s, 0x01)

/-- MODULE_STOP (R395): the half in charge takes the next fault passed to it. One that arrives when the module is stopping or
has stopped, or has no job, stays recorded in DIE_FAULT only. [DEDUCED, log entry 44] -/
def execModuleStop (s : State) : Host.Outcome State Fault Refusal :=
  match s.faultQ with
  | [] => .next s
  | f :: rest =>
    let s1 := { s with faultQ := rest }
    if !s1.canStop then .next s1
    else
      let (s2, c) := s1.faultClass f
      .next ((s2.modFault f.die c).stopJob)

/-- SEQ_STOPPED (R157): every unit of a stopped core is idle. -/
def execSeqStopped (c : CoreId) (s : State) : Host.Outcome State Fault Refusal :=
  if s.seqState c.ix = 3 ∧ s.unitsIdle c.ix ∧ (s.tea c.ix).idle then
    let v := s.rg .SEQ_STATUS c.die.val c.core.val 0
    .next (s.setRg .SEQ_STATUS c.die.val c.core.val 0 (setBits (setBits (setBits v 0 3 5) 12 4 0) 10 1 1)).stopCheck
  else .next s

/-- A core that has not stopped in time is reset (R395): its units hold nothing, its sequencer is IDLE, and its scalar
registers, program counter and last summary word are undefined. [DEDUCED, log entry 46] -/
def State.resetCore (s : State) (core : Nat) : State :=
  let d := core / 16
  let u := core % 16
  let n := s.freshCtr
  let s1 := (List.range 4).foldl (fun z a => z.setArr core a .init) { s with freshCtr := n + 34 }
  let s2 := ((s1.setVec core .init).setTea core .init).seqWithdraw core
  let s3 := (List.range 32).foldl (fun z i => z.setSc core i (Config.fresh (n + i)).toNat) s2
  let s4 := (s3.setRg .SEQ_PC d u 0 (bits (Config.fresh (n + 32)).toNat 0 14)).setRg .SEQ_LASTSUM d u 0
    (Config.fresh (n + 33)).toNat
  s4.setSeqState core 0 0

/-- The units that have not stopped are reset (R395): cores, DMA channels, Press engines and Vats. [DEDUCED, log entry 46] -/
def State.resetUnits (s : State) : State :=
  let s1 := (s.coresInUse.filter fun c => !s.coreStopped c).foldl State.resetCore s
  let s2 : State := { s1 with
    dmas := s1.dmas.map fun (e : Nat × DmaS) => (e.1, if e.2.mode = 4 then DmaS.init else e.2)
    asked := s1.asked.filter fun a =>
      match a.who with
      | .dma _ _ => false
      | _ => true }
  let s3 := ((enginePairs 8).filter fun p => s2.prState p.1 p.2 == 2).foldl (fun (z : State) p =>
    ((z.setPrState p.1 p.2 0).setFld .PR_STATUS (0x40 + p.1) 0 p.2 5 1 0).pressUndefined p.1 p.2) s2
  (List.range 4).foldl (fun (z : State) x => if z.vatHalf x then z.vatStopped x else z) s3

/-- STOP_TIMEOUT (R395). [DEDUCED, log entry 46] -/
def execStopTimeout (s : State) : Host.Outcome State Fault Refusal :=
  if s.stopping ∧ bits (s.g .JOB_CTRL) 12 17 ≤ s.stopLt then
    let s1 := s.resetUnits
    let s2 := s1.modFault s1.headDie 0x07
    .next ((s2.setG .MOD_FAULT (setBits (s2.g .MOD_FAULT) 62 1 1)).stopDone)
  else .next s

/-- Whether the loaded job runs: its sequencers have been started and not all of them have ended (R449). [DEDUCED, log entry 47] -/
def State.jobRuns (s : State) : Bool :=
  s.canStop && (match s.job with
    | some j => j.started
    | none => false) && s.activeCores.any fun c => s.seqBusy c || s.seqState c == 4

/-- JOB_WATCHDOG_EXPIRY (R393): JOB_WD ticks without a step boundary while the job runs. [DEDUCED, log entry 47] -/
def execJobWatchdogExpiry (s : State) : Host.Outcome State Fault Refusal :=
  if s.jobRuns ∧ s.g .JOB_WD ≤ s.jobWdLt then .next ((s.modFault s.headDie 0x04).stopJob)
  else .next s

/-! ### Handshake watchdogs (R99, R131, R160, R189, R249, R279, R318, R360) -/

/-- The first part of an array with a pass in flight. -/
def ArrayS.busyPart (x : ArrayS) : Option Nat := (List.range 4).find? fun p => !(x.part p).inflight.isEmpty

/-- The part that the stationary load at an array's queue head fills, unless the array holds its beats or has faulted (R77, R99). -/
def ArrayS.loadPart (x : ArrayS) : Option Nat :=
  match x.queue with
  | [] => none
  | p :: _ => if (matFields p.word).stat != 2 && !x.headHeld then some (matFields p.word).part else none

/-- The first part with a pass in flight that drains. -/
def ArrayS.drainPart (x : ArrayS) : Option Nat :=
  (List.range 4).find? fun p => (x.part p).inflight.head?.any fun q => (matFields q.word).df.isSome

/-- A watchdog of an array expires at a part (R98): `entered` rows had entered before it. -/
def State.arrWatchdog (s : State) (c : CoreId) (a : Fin 4) (part : Option Nat) (cause row entered : Nat) : State :=
  match part with
  | some p => s.arrFault c.ix a.val p cause row entered
  | none => s

/-- A watchdog of a vector engine expires. -/
def State.vecWatchdog (s : State) (c : CoreId) (cause row op : Nat) : State := s.vecFault c.ix cause row op

/-- The slot that Teasel's oldest work concerns: an update that runs, a flush's next record, or the sweep of the next capture. -/
def State.teaSlot (s : State) (core : Nat) : Nat :=
  let t := s.tea core
  match t.closed.find? Sweep.updating, t.flushes with
  | some w, _ => w.slot
  | none, g :: _ => g.first
  | none, [] =>
    (((List.range 4).findSome? fun a => (List.range 4).findSome? fun p =>
      (firstUncaptured ((s.arr core a).part p).inflight 0).map fun q => t.slotOf q.2.2.sweep)).getD 0

/-- Whether a channel has a handshake to request: the unit it belongs to is at work there, and is not waiting on work of its own
(R99, R131, R160, R189, R249, R279, R318). [DESIGN CHOICE, log entry 23] -/
def State.chanAtWork (s : State) (ch : Chan) : Bool :=
  match ch with
  | .arrFeed c a _ => (s.arr c.ix a.val).busyPart.isSome
  | .arrLoad c a _ => !s.stopping && !s.arrFaulted c.ix a.val && (s.arr c.ix a.val).loadPart.isSome
  | .arrDrain c a _ => (s.arr c.ix a.val).drainPart.isSome
  | .vecRead c _ _ => (s.vec c.ix).queue.any (·.started)
  | .vecWrite c _ _ => (s.vec c.ix).queue.any (·.started)
  | .seqFetch c => s.seqState c.ix == 1
  | .teasel c =>
    let t := s.tea c.ix
    !s.teaInv c.ix && (((List.range 4).any fun a => s.captures c.ix a) || t.closed.any Sweep.updating ||
      (t.flushes.head?.any fun g => g.posted || !t.flushWaits g))
  | .dma d ch => let x := s.dma d.code ch.val; x.cur.isSome && (x.mode == 0 || x.mode == 4)
  | .rennet m e => let st := s.renState m.val e.val; st == 2 || st == 3
  | .press m e => s.prState m.val e.val == 2
  | .vat x => !(s.vat x.val).active.isEmpty

/-- Ticks of its die through which a channel has waited for an acknowledge. -/
def State.waited (s : State) (ch : Chan) : Nat := ((s.hsWait.find? fun e => e.1 == ch).map Prod.snd).getD 0

/-- Whether a channel's watchdog expires: it is at work and has waited DIE_HS_WD.LT ticks (R99, R392). -/
def State.hsExpired (s : State) (ch : Chan) : Bool :=
  s.chanAtWork ch && decide (1 ≤ s.waited ch) && decide (s.rg .DIE_HS_WD ch.die.code 0 0 ≤ s.waited ch)

/-- What a channel's watchdog does when it expires. -/
def State.hsFault (s : State) (ch : Chan) : State :=
  match ch with
  | .arrFeed c a row => s.arrWatchdog c a (s.arr c.ix a.val).busyPart 0x04 row.val row.val
  | .arrLoad c a row => s.arrWatchdog c a (s.arr c.ix a.val).loadPart 0x05 row.val 0
  | .arrDrain c a row => s.arrWatchdog c a (s.arr c.ix a.val).drainPart 0x06 row.val (row.val + 1)
  | .vecRead c row op => s.vecWatchdog c 0x04 row.val op.val
  | .vecWrite c row op => s.vecWatchdog c 0x05 row.val op.val
  | .seqFetch c => s.seqFault c.ix 0x0C 7
  | .teasel c => s.teaFault c.ix 0x05 (s.teaSlot c.ix)
  | .dma d ch => s.dmaFault d.code ch.val 0x13
  | .rennet m e => s.rennetFault m.val e.val 0x04 (s.ren m.val e.val).next
  | .press m e => s.pressFault m.val e.val 0x03 (s.press m.val e.val).entry
  | .vat x => s.vatFault x.val 0x0B (((s.vat x.val).active.head?.map fun c => c.desc.cid).getD 0) 0

/-- HANDSHAKE_WATCHDOG_EXPIRY (R99): a channel that is at work has waited DIE_HS_WD.LT ticks for its acknowledge; an idle one
requests no handshake. -/
def execHandshakeWatchdogExpiry (ch : Chan) (s : State) : Host.Outcome State Fault Refusal :=
  .next (if s.hsExpired ch then { s.hsFault ch with hsWait := s.hsWait.filter fun e => e.1 != ch } else s)

end Sys2Proof.Machine
end

