-- ==== Sys2Proof/Machine/Twin.lean ====
section
/-!
DEFINITION. The twins and the halves: leases and their renewals, takeover, the fence (R387 to R391, R456), and the cave capture as
it runs (R400 to R406).
-/

namespace Sys2Proof.Machine

/-! ### Half lease (R389, R390) -/

/-- Registers of the module-global blocks that an unplanned takeover may lose, with their bits (R395). [DEDUCED, log entry 30] -/
def lostRegs : List (Reg × Nat) :=
  [(.HOOP_CFG, 0xffff07ff), (.HOOP_STATUS, 0xffffffffff0fffff), (.HOOP_EC, 2 ^ 64 - 1), (.HOOP_TAG, 2 ^ 64 - 1),
   (.HOOP_PERIOD, 0xffffffff), (.HOOP_TO, 0xffffffff), (.HOOP_DEC_EPOCH, 2 ^ 64 - 1), (.HOOP_STG_TGT, 2 ^ 64 - 1),
   (.HOOP_STG_VAL, 2 ^ 64 - 1), (.HOOP_STG_RES, 3), (.STEP_EPS, 0xffffffff), (.STEP_E0, 2 ^ 64 - 1),
   (.STEP_K0, 2 ^ 64 - 1), (.BRINE_CFG, 0x1fffff), (.BRINE_PUB, 0x1ffffff), (.BRINE_SCALE, 0x1f), (.BRINE_CLEAN, 0xffff),
   (.BRINE_OVF_COUNT, 2 ^ 64 - 1), (.BRINE_HIST, 2 ^ 64 - 1), (.BRINE_OVF_LOG, 2 ^ 64 - 1), (.SORREL_CFG, 0x1f3fffff),
   (.SORREL_TO, 0xffffffff), (.SORREL_STATUS, 0xff), (.SORREL_MOD, 2 ^ 64 - 1), (.SORREL_STEP, 2 ^ 64 - 1),
   (.SORREL_AGREED, 2 ^ 64 - 1), (.SORREL_PEER, 0x1ff01), (.SORREL_RX, 2 ^ 64 - 1), (.SORREL_RX_TAG, 2 ^ 64 - 1)]

/-- The state of the module-global blocks is an open value from here on: it may not have survived (R395). [DEDUCED, log entry 30] -/
def State.loseGlobals (s : State) : State :=
  let s1 := (lostRegs.flatMap fun r => (List.range r.1.row.n2).map fun j => (r, j)).foldl (fun z e =>
    let (o, z1) := z.freshVal
    z1.setRg e.1.1 0x60 0 e.2 (o.toNat &&& e.1.2)) s
  let (o, s2) := s1.freshVal
  let v := o.toNat
  { s2 with
    hoops := []
    rind := { s2.rind with last := bits v 0 4, result := bits v 4 4, count := bits v 8 8, inLow := 0, cap := bits v 16 16 } }

/-- LEASE_TAKEOVER of the half lease: its watcher has accepted no renewal for 3,000 lt. The job stops for control loss. [DEDUCED, log entry 8] -/
def State.halfTakeover (s : State) : State :=
  let east := bit (s.g .LEASE_STATUS) 0
  if s.leases.halfLt < 3000 ∨ s.leases.fencedEast = some (!east) then s
  else
    let s1 := s.loseGlobals.halfChange (!east) ((s.leases.watcherEpoch + 1) % 2 ^ 64) 0x05 true
    { s1 with faultQ := s1.faultQ ++ [⟨s1.headDie, 0xFD, 0, 5⟩] }

/-- HALF_LEASE_RENEWAL (R390): from the holder it reaches the watcher; from the other half it reaches the holder, which gives
way to a higher epoch; at equal epochs the west half wins, and the tie is reported by the LEASE alert. [DEDUCED, log entry 52] -/
def execHalfLeaseRenewal (fromEast : Bool) (epoch : BitVec 64) (s : State) : Host.Outcome State Fault Refusal :=
  let e := epoch.toNat
  let own := s.g .HALF_LEASE
  if fromEast = bit (s.g .LEASE_STATUS) 0 then
    if s.leases.watcherEpoch ≤ e then .next { s with leases := { s.leases with watcherEpoch := e, halfLt := 0 } }
    else .next s
  else if own < e then
    let s1 := s.loseGlobals.halfChange fromEast e 0x05 false
    .next { s1 with faultQ := s1.faultQ ++ [⟨s1.headDie, 0xFD, 0, 5⟩] }
  else if own = e then
    let s1 := s.setG .LEASE_STATUS (setBits (s.g .LEASE_STATUS) 4 1 1)
    let s2 : State := { s1 with leases := { s1.leases with fencedEast := some true } }
    if fromEast then .next (s2.alert 3)
    else
      let s3 := s2.loseGlobals.halfChange false e 0x05 false
      .next { s3 with faultQ := s3.faultQ ++ [⟨s3.headDie, 0xFD, 0, 5⟩] }
  else .next s

/-! ### Board lease (R389, R390, R456) -/

/-- Whether this module holds the board lease. -/
def State.boardHolder (s : State) : Bool := bit (s.g .LEASE_STATUS) 3

/-- Renew the board lease by a REG_WR of its epoch over every UP pair port. -/
def State.boardRenew (s : State) : State :=
  let e := s.g .BOARD_LEASE
  [32, 33, 34, 35].foldl (fun z p =>
    if z.portState p = 2 then
      let (tag, z1) := z.nextTag
      let z2 := z1.enqueue p ⟨0x05, 0, z1.twinNode, z1.node, 7, tag, loc .BOARD_LEASE 0x60 0 0, leBytes 8 e⟩
      { z2 with asked := z2.asked ++ [⟨tag, .unit, false⟩] }
    else z) s

/-- A board-lease renewal reaches this module: a watcher accepts one that carries at least its copy; a holder gives way to a
higher epoch, and to an equal one of the twin itself when it is twin B. [DEDUCED, log entries 51 and 52] -/
def State.boardRenewal (s : State) (e : Nat) (fromHolder : Bool) : State :=
  let own := s.g .BOARD_LEASE
  if e < own then s
  else if !s.boardHolder then
    let z := s.setG .BOARD_LEASE e
    { z with leases := { z.leases with boardLt := 0 } }
  else if own < e then
    let z := ((s.setG .BOARD_LEASE e).setG .LEASE_STATUS (setBits (s.g .LEASE_STATUS) 3 1 0)).alert 3
    { z with leases := { z.leases with boardLt := 0 } }
  else if fromHolder ∧ s.twinB then
    let z := (s.setG .LEASE_STATUS (setBits (setBits (s.g .LEASE_STATUS) 3 1 0) 5 1 1)).alert 3
    { z with leases := { z.leases with boardLt := 0 } }
  else s

/-- Whether the loaded job uses the twin: the twin is one of its modules. -/
def State.usesTwin (s : State) : Bool := s.peers.contains s.twinNode

/-- Whether the loaded job found its slots to differ from the twin's (R397). -/
def State.slotsDiffer (s : State) : Bool := (s.job.map Job.slotsDiffer).getD false

/-- Set or clear TWIN_FENCE.EN; a fence abandons a capture (R388, R406), and CAVE_STATUS.MISMATCH, which keeps captures from running,
shows that the twin is fenced or the slots differ (R397). -/
def State.setFence (s : State) (on : Bool) : State :=
  let z := s.setG .TWIN_FENCE (b2n on)
  let y := z.setG .CAVE_STATUS (setBits (z.g .CAVE_STATUS) 3 1 (b2n (on || s.slotsDiffer)))
  if on then y.caveAbandon else y

/-- A write of TWIN_FENCE.EN (R388): only the holder of the board lease may set it, and clear it while no job uses the
twin. -/
def State.twinFenceWrite (s : State) (on : Bool) : State × Bool :=
  if !s.boardHolder || (!on && s.usesTwin) then (s, false) else (s.setFence on, true)

/-- LEASE_TAKEOVER of the board lease: the watcher becomes holder, renews at once and fences the twin; its job goes on unless it
uses the twin (Table 13.2). [DEDUCED, log entry 8] -/
def State.boardTakeover (s : State) : State :=
  if s.boardHolder ∨ s.leases.boardLt < 3000 ∨ bit (s.g .LEASE_STATUS) 5 then s
  else
    let s1 := (s.setG .BOARD_LEASE ((s.g .BOARD_LEASE + 1) % 2 ^ 64)).setG .LEASE_STATUS
      (setBits (s.g .LEASE_STATUS) 3 1 1)
    let s2 := ((s1.setFence true).alert 3).boardRenew
    if s2.usesTwin then { s2 with faultQ := s2.faultQ ++ [⟨s2.headDie, 0xFC, 0, 0⟩] } else s2

/-- LEASE_TAKEOVER (R390). -/
def execLeaseTakeover (board : Bool) (s : State) : Host.Outcome State Fault Refusal :=
  .next (if board then s.boardTakeover else s.halfTakeover)

/-- LEASE_RENEW (R389): 1,000 lt after the last one the holder renews its half lease, and the board lease where this module holds
it. -/
def execLeaseRenew (s : State) : Host.Outcome State Fault Refusal :=
  if s.leases.renewLt < 1000 then .next s
  else
    let s1 : State := { s with
      leases := { s.leases with renewLt := 0 }, outbox := s.outbox ++ [.lease (s.g .HALF_LEASE)] }
    .next (if s1.boardHolder then s1.boardRenew else s1)

/-! ### The cave capture (R400 to R406) -/

/-- Bytes of a chunk at most. -/
def caveChunkBytes : Nat := 65536

/-- Offset in the slot at which a range begins (R401). -/
def Capture.place (c : Capture) (i : Nat) : Nat := 65536 + (c.ranges.take i).foldl (fun z r => z + r.2) 0

/-- Board addresses of bytes at an offset of a slot: the slow-tier part is filled first (R401). -/
def State.slotPieces (s : State) (slot off : Nat) (bs : List Nat) : List (Nat × List Nat) :=
  let w (j : Nat) : Nat := s.rg .CAVE_SLOT 0x60 slot j
  let n := w 1 - off
  let slow := if off < w 1 then blockPieces (bs.length + 1) (w 0 + off) (bs.take n) else []
  let fast := if w 1 ≤ off then blockPieces (bs.length + 1) (w 2 + (off - w 1)) bs
    else blockPieces (bs.length + 1) (w 2) (bs.drop n)
  slow ++ fast

/-- Write bytes at an offset of a slot in the twin by WR flits; the event that sends them also says how the twin answers them, so
they are not asked for: false where no port takes them. -/
def State.slotWrite (s : State) (slot off : Nat) (bs : List Nat) : State × Bool :=
  match s.sendWrites .unit (s.slotPieces slot off bs) with
  | (z, ok) => ({ z with asked := s.asked }, ok)

/-- Fold a chunk of range i into its shard digests (R401): a shard of 1 MiB, or the range's last one, is finished. -/
def Capture.fold (c : Capture) (i at_ : Nat) (bs : List Nat) : Capture :=
  let crc := crc64From (nth 0 c.crc i) bs
  let pos := at_ + bs.length
  if pos % shardBytes = 0 ∨ pos = (nth (0, 0) c.ranges i).2 then
    let shard := at_ / shardBytes
    let d := crc64From crc (leBytes 8 (i * 2 ^ 32 + shard))
    { c with crc := setAt c.crc i 0, digests := c.digests ++ [(i, shard, d)] }
  else { c with crc := setAt c.crc i crc }

/-- Guards of a capture: what its copy pointers have not passed. -/
def Capture.guards (c : Capture) : List (Nat × Nat) :=
  (c.ranges.zip c.done).filterMap fun e => if e.2 < e.1.2 then some (e.1.1 + e.2, e.1.1 + e.1.2) else none

/-- A chunk of n bytes is read under R173 into a free place of the reduction memory of its X-die, from which it is sent (R401): none
where a read fails. [DESIGN CHOICE, log entry 66] -/
def State.caveRead (s : State) (m addr n : Nat) : State × Option (List Nat) :=
  match s.readRaw addr n with
  | (s1, .error _) => (s1, none)
  | (s1, .ok bs) =>
    let x := caveDie m - 0x50
    let (s2, places) := s1.vatPlaces x false 1
    match s2.vatWrites (Fin.ofNat 4 x) (places.map fun a => (a, bs)) with
    | (s3, false) => (s3, none)
    | (s3, true) =>
      match s3.readRaw (places.headD 0) n with
      | (s4, .error _) => (s4, none)
      | (s4, .ok cs) => (s4, some cs)

/-- CAVE_CHUNK (R401): M-die m, which holds a CAVE ticket, copies its next chunk into the slot in the twin; `accepted`: the twin
acknowledged every write. The first write of a capture makes COMMIT 0 (R402). A failed read, a refused write or a fenced twin
abandons the capture (R406). [DESIGN CHOICE, log entry 66] -/
def execCaveChunk (m : Fin 12) (accepted : Bool) (s : State) : Host.Outcome State Fault Refusal :=
  let s0 := s.caveTake m.val
  match s0.capture with
  | none => .next s0
  | some c =>
    match s0.caveNext c m.val with
    | none => .next s0
    | some (i, nxt) =>
      if !c.held.contains m.val then .next s0
      else
        let (addr, len) := nth (0, 0) c.ranges i
        let at_ := nth 0 c.done i
        let n := Nat.min caveChunkBytes (len - at_)
        match s0.caveRead m.val (addr + at_) n with
        | (s1, none) => .next s1.caveAbandon
        | (s1, some bs) =>
          let (s2, ok0) := if c.done.all (· == 0) then s1.slotWrite c.slot 48 (leBytes 8 0) else (s1, true)
          let (s3, ok1) := if ok0 then s2.slotWrite c.slot (c.place i + at_) bs else (s2, false)
          if !ok1 || !accepted || bit (s3.g .TWIN_FENCE) 0 then .next s3.caveAbandon
          else
            let c1 := c.fold i at_ bs
            let c2 := { c1 with done := setAt c1.done i (at_ + n), next := setAt c1.next m.val nxt, progLt := 0 }
            let s4 : State := { s3 with capture := some c2, guards := c2.guards }
            .next ((s4.caveGive m.val).caveTakeFrom (m.val + 1)).serveHeld

/-- The shard digests in range and shard order. -/
def Capture.digestList (c : Capture) : List Nat :=
  (List.range c.ranges.length).flatMap fun i => (c.digests.filter fun d => d.1 == i).map fun d => d.2.2

/-- The header of Table 13.3 but for COMMIT and AGREED: the bytes before them and those after. -/
def State.caveHeader (s : State) (c : Capture) : List Nat × List Nat :=
  let map_ := c.ranges.flatMap fun r => leBytes 8 r.1 ++ leBytes 8 r.2
  let regs := c.regs.flatMap fun r => leBytes 8 r.1 ++ leBytes 8 r.2
  let ds := c.digestList
  (leBytes 4 0x00010001 ++ leBytes 4 c.ranges.length ++ leBytes 8 c.step ++
      leBytes 8 (c.ranges.foldl (fun z r => z + r.2) 0) ++ [s.node, 0, 0, 0, 0, 0, 0, 0] ++ leBytes 8 c.cstep ++
      leBytes 8 (crc64Of ds),
   leBytes 8 0 ++ List.replicate 4032 0 ++ takePad 0 4096 map_ ++ regs ++ List.replicate 8 0)

/-- The write of COMMIT = k is acknowledged: the capture commits, CAVE_LAST becomes k and the guards are released (R402). -/
def State.caveCommitted (s : State) (c : Capture) : State :=
  let s1 := (s.setG .CAVE_LAST c.step).setG .CAVE_STATUS (setBits (s.g .CAVE_STATUS) 0 2 0)
  let info : SlotInfo := ⟨c.step, 0⟩
  let slots := if c.slot = 0 then (info, s1.slots.2) else (s1.slots.1, info)
  ({ s1 with slots := slots, agree := some (c.step, c.slot) } : State).caveEnd

/-- CAVE_COMMIT (R402): when every range has been copied, the digests and the header are written and, once they are acknowledged,
COMMIT = k; with the twin's acknowledge the capture commits. Where the twin refuses a write, which one is open: COMMIT is not
written after one before it. [DESIGN CHOICE, log entry 6] -/
def execCaveCommit (accepted : Bool) (s : State) : Host.Outcome State Fault Refusal :=
  match s.capture with
  | none => .next s
  | some c =>
    if !((c.ranges.zip c.done).all fun e => e.2 == e.1.2) then .next s
    else
      let (h, t) := s.caveHeader c
      let end_ := c.place c.ranges.length
      let (s1, ok1) := s.slotWrite c.slot end_ (c.digestList.flatMap (leBytes 8))
      let (s2, ok2) := s1.slotWrite c.slot 0 h
      let (s3, ok3) := s2.slotWrite c.slot 56 t
      let (o, s4) := if accepted then (0, s3) else s3.freshVal
      if !(ok1 && ok2 && ok3) || bit o.toNat 0 then .next s4.caveAbandon
      else
        let (s5, ok4) := s4.slotWrite c.slot 48 (leBytes 8 c.step)
        if !ok4 || !accepted || bit (s5.g .TWIN_FENCE) 0 then .next s5.caveAbandon else .next (s5.caveCommitted c)

/-- CAVE_AGREED (R404): once SORREL_AGREED has reached the step, at once where there is one member, AGREED is written. -/
def execCaveAgreed (accepted : Bool) (s : State) : Host.Outcome State Fault Refusal :=
  match s.agree with
  | none => .next s
  | some (k, slot) =>
    if bits (s.g .SORREL_CFG) 16 6 ≤ 1 ∨ k ≤ s.g .SORREL_AGREED then
      let (s1, ok) := s.slotWrite slot 56 (leBytes 8 k)
      if ok && accepted && !bit (s1.g .TWIN_FENCE) 0 then
        let slots := if slot = 0 then ((⟨s1.slots.1.commit, k⟩ : SlotInfo), s1.slots.2)
          else (s1.slots.1, (⟨s1.slots.2.commit, k⟩ : SlotInfo))
        .next { s1 with agree := none, slots := slots }
      else .next { s1 with agree := none }
    else .next s

/-- CAVE_PROGRESS_TIMEOUT (R406): no chunk for CAVE_PROG_TO ticks. -/
def execCaveProgressTimeout (s : State) : Host.Outcome State Fault Refusal :=
  match s.capture with
  | none => .next s
  | some c => .next (if s.g .CAVE_PROG_TO ≤ c.progLt then s.caveAbandon else s)

end Sys2Proof.Machine
end

