-- ==== Sys2Proof/Machine/RegRead.lean ====
section
/-!
DEFINITION. Reading the register space: the values that a read returns where the state itself is the register's home (status
fields derived from what a unit holds), the half's copies that die code 0x60 reaches, and the access rules of reads
(R15, R16, R481, R482).
-/

namespace Sys2Proof.Machine

/-! ### Start-up and management facts that status registers show -/

/-- BOOT_STATUS of the half in charge. -/
def State.boot (s : State) : Nat := s.rg .BOOT_STATUS s.headDie 0 0

/-- The step of Table 14.1 that start-up is in or has failed in. -/
def State.bootStep (s : State) : Nat := bits s.boot 40 8

/-- Whether the fallback settings of the management port are in force (R433, R443). -/
def State.fallback (s : State) : Bool := s.mgmtRecord.isEmpty

/-- The station address in use (Table 15.1): that of the record, its byte 0 the most significant of MGMT_MAC, or 0x02 and the low 40
bits of the serial number. [DESIGN CHOICE, log entry 85] -/
def State.macOf (s : State) : Nat :=
  let own := ofLeBytes ((s.mgmtRecord.take 6).map BitVec.toNat).reverse
  if own = 0 then 0x02 * 2 ^ 40 + bits (s.rg .SEC_SERIAL s.headDie 0 0) 0 40 else own

/-! ### Derived status fields -/

/-- Whether the last local tick of a die found a stall. -/
def State.stalled (s : State) (die : Nat) (x : Stall) : Bool := s.stalls.contains (die, x)

/-- Core number u below 16. -/
def coreFin (u : Nat) : Fin 16 := ⟨u % 16, Nat.mod_lt _ (by decide)⟩

/-- Array number a below 4. -/
def arrFin (a : Nat) : Fin 4 := ⟨a % 4, Nat.mod_lt _ (by decide)⟩

/-- Whether the feeder of an array keeps a pass waiting: for its own channels, or for a capture (R93, R94, R233). -/
def State.feedStalled (s : State) (die u a : Nat) : Bool :=
  let core := die * 16 + u
  s.stalled die (.arrFeed (coreFin u) (arrFin a)) || s.captureHeld core a ||
    (s.captures core a && s.stalled die (.teaBank (coreFin u) (arrFin a)))

/-- Whether an array holds a load beat under R77 that the feeder has sent. -/
def State.loadStalled (s : State) (die u a : Nat) : Bool :=
  (s.arr (die * 16 + u) a).headHeld && s.stalled die (.arrHold (coreFin u) (arrFin a))

/-- ARR_STATUS as read (Table 3.8). -/
def State.arrStatus (s : State) (die u a : Nat) : Nat :=
  let x := s.arr (die * 16 + u) a
  let fly := x.flying.length
  let v := s.rg .ARR_STATUS die u a
  let v1 := setBits (setBits v 0 1 (b2n (fly != 0 || !x.queue.isEmpty))) 1 4 fly
  let v2 := setBits (setBits v1 7 1 (b2n (fly != 0 && s.feedStalled die u a)))
    8 1 (b2n (fly != 0 && s.stalled die (.arrDrain (coreFin u) (arrFin a))))
  setBits (setBits v2 9 1 (b2n (s.loadStalled die u a))) 10 1 (b2n (s.stopping && fly != 0))

/-- VE_STATUS as read (Table 4.8). -/
def State.veStatus (s : State) (die u : Nat) : Nat :=
  let core := die * 16 + u
  let x := s.vec core
  let n := x.queue.length
  let v := s.rg .VE_STATUS die u 0
  let v1 := setBits (setBits v 0 1 (b2n (n != 0))) 1 3 n
  let v2 := setBits (setBits v1 8 1 (b2n (s.stalled die (.vecPort (coreFin u))))) 9 1 (b2n (s.vecHeld core))
  setBits v2 10 1 (b2n x.stopAt)

/-- Whether a started snooping pass of a core has rows to capture, and whether a capture waits, for a panel or for scratchpad banks
(R233). -/
def State.snoops (s : State) (core : Nat) : Bool × Bool :=
  let held := (List.range 4).any fun a => s.captureHeld core a ||
    (s.captures core a && s.stalled (core / 16) (.teaBank (coreFin core) (arrFin a)))
  (((List.range 4).any fun a => s.captureHeld core a || s.captures core a), held)

/-- TEA_STATUS as read (Table 8.4). -/
def State.teaStatus (s : State) (die u : Nat) : Nat :=
  let core := die * 16 + u
  let t := s.tea core
  let (cap, wait) := s.snoops core
  let v := s.rg .TEA_STATUS die u 0
  let v1 := setBits (setBits v 0 1 (b2n (cap || !t.idle))) 1 3 (Nat.min 4 t.closed.length)
  setBits (setBits (setBits v1 4 3 t.flushes.length) 7 1 (b2n wait)) 8 1 (b2n (s.stopping && !t.idle))

/-- SEQ_STATUS as read (Table 5.10). -/
def State.seqStatus (s : State) (die u : Nat) : Nat :=
  setBits (s.rg .SEQ_STATUS die u 0) 11 1 (b2n ((List.range 32).any fun i => s.pendingSum (die * 16 + u) i))

/-- DMA_CH_STATUS as read (Table 6.6). -/
def State.dmaStatus (s : State) (die ch : Nat) : Nat :=
  let x := s.dma die ch
  let n := x.queue.length
  x.state + n * 2 ^ 6 + b2n (n == 8) * 2 ^ 10 + b2n (x.mode == 2) * 2 ^ 11

/-- VAT_STATUS as read (Table 11.8). -/
def State.vatStatus (s : State) (x : Nat) : Nat :=
  let v := s.vat x
  let r := s.rg .VAT_STATUS (0x50 + x) 0 0
  let r1 := setBits (setBits r 0 1 (b2n (!v.queue.isEmpty || !v.active.isEmpty))) 1 1 (b2n (v.active.any (·.spill)))
  setBits (setBits (setBits r1 2 1 (b2n (s.stopping && s.vatHalf x))) 12 4 v.active.length) 16 7 v.queue.length

/-- PR_STATUS as read (Table 10.8). -/
def State.prStatus (s : State) (die e : Nat) : Nat :=
  setBits (s.rg .PR_STATUS die 0 e) 3 1 (b2n (s.stopping && s.prState (die - 0x40) e == 2))

/-- Whether a Press engine waits on the shard gate (Table 12.9). -/
def State.gateWaits (s : State) : Bool :=
  s.semWaits.any fun w => match w.who with
    | .gate _ => true
    | _ => false

/-- MGMT_STATUS of a half as read (Table 15.10): the half in charge serves the port. -/
def State.mgmtStatus (s : State) (die : Nat) : Nat :=
  if die = s.headDie then
    s.sessions.length * 2 ^ 8 + b2n (s.fallback && decide (10 ≤ s.bootStep)) * 2 ^ 3 + b2n s.mgmtUp * 7
  else 0

/-- The value of a register element as a read returns it: WO fields read as 0, reserved bits are never stored. [DEDUCED, log entries 4 and 38] -/
def State.regValue (s : State) (r : Reg) (die i j : Nat) : Nat :=
  let v := s.rg r die i j
  match r with
  | .ARITH_CTRL => setBits v 4 2 s.svc.code
  | .SEQ_STATUS => s.seqStatus die i
  | .SEQ_SC => if j = 0 then 0 else v
  | .ARR_STATUS => s.arrStatus die i j
  | .VE_STATUS => s.veStatus die i
  | .TEA_STATUS => s.teaStatus die i
  | .DMA_CH_STATUS => s.dmaStatus die j
  | .SHARD_STATUS => setBits v 1 1 (b2n s.gateWaits)
  | .VAT_STATUS => s.vatStatus (die - 0x50)
  | .PR_STATUS => s.prStatus die j
  | .VETCH_BAR_CFG => if j = 0 then setBits v 8 2 3 else v
  | .VETCH_BAR_STATUS => setBits v 16 1 (b2n (s.barHeld.any fun h => h.die == die && h.ctx == j))
  | .MGMT_STATUS => s.mgmtStatus die
  | .MGMT_MAC => if die = s.headDie ∧ 10 ≤ s.bootStep then s.macOf else 0
  | .CC_STATUS => if 10 ≤ s.bootStep then 0xF else 0
  | .ID_PUB => if 7 ≤ s.bootStep then (Config.idPub (BitVec.ofNat 6 (s.rg .SEC_FUSE die 0 0)) j).toNat else 0
  | _ => v

/-! ### Access rules -/

/-- The location that an access reaches: blocks 0x50 and 0x58 at die code 0x60 reach the copy of the half in charge
(R482). -/
def State.resolve (s : State) (l : Nat) : Nat :=
  let blk := l / 0x10000 % 0x100
  if l / 0x1000000 = 0x60 ∧ (blk = 0x50 ∨ blk = 0x58) then s.headDie * 0x1000000 + l % 0x1000000 else l

/-- Whether an access of 8 or 4 bytes at a location breaks R16: misaligned, of the wrong width for the register there, or over a
part of one. -/
def badAccess (l : Nat) (wide : Bool) : Bool :=
  let n := if wide then 8 else 4
  l % n != 0 ||
    match locate l with
    | some (r, _, _, _) => r.row.w64 != wide
    | none =>
      if wide then (locate (l + 4)).isSome
      else decide (4 ≤ l) && ((locate (l - 4)).map fun x => x.1.row.w64) == some true

/-- Whether die code 0x60 is not served: the half lease is changing hands (R482). [DEDUCED, log entry 13] -/
def State.unserved (s : State) (l : Nat) : Bool := s.leases.changing && l / 0x1000000 == 0x60

/-- A register read: none for an access error. [DEDUCED, log entry 38] -/
def State.busRead (s : State) (l : Nat) (wide : Bool) : Option (BitVec 64) :=
  let k := s.resolve l
  if 2 ^ 32 ≤ l ∨ badAccess k wide ∨ s.unserved l then none
  else
    match locate k with
    | some (r, d, i, j) => some (BitVec.ofNat 64 (s.regValue r d i j))
    | none => some 0

/-- The width of the register at a location: an access that names no width takes it, or 32 bits where none begins (Table 15.2
gives REG_READ and REG_WRITE offsets only). [DEDUCED, log entry 61] -/
def State.widthAt (s : State) (l : Nat) : Bool :=
  match locate (s.resolve l) with
  | some (r, _, _, _) => r.row.w64
  | none => false

end Sys2Proof.Machine
end

