-- ==== Sys2Proof/Machine/Trust.lean ====
section
/-!
DEFINITION. The configuration flash, slot verification, the security block's writes, attestation and test mode (R416 to R423,
R428 to R434).
-/

namespace Sys2Proof.Machine

/-! ### The configuration flash (R416, R417) -/

/-- Bytes of an ASCII text. -/
def ascii (t : String) : List Nat := t.toList.map fun c => c.toNat % 256

/-- Size of a slot, and the offset of its commit sector. -/
def slotSize : Nat := 0x2000000

/-- Offset of the commit sector in a slot. -/
def commitSector : Nat := 0x1FFF000

/-- `n` bytes of a slot: erased flash reads as 0xFF. -/
def State.flashBytes (s : State) (slot off n : Nat) : List Nat :=
  (Sparse.getRun (fun _ => 0xFF) s.flash n (slot * slotSize + off)).map BitVec.toNat

/-- Write bytes of a slot. -/
def State.flashPut (s : State) (slot off : Nat) (bs : List Nat) : State :=
  { s with flash := Sparse.setRun (fun _ => 0xFF) s.flash (slot * slotSize + off) (bs.map (BitVec.ofNat 8)) }

/-- Erase every sector of a slot (R418, step 1). -/
def State.flashErase (s : State) (slot : Nat) : State :=
  { s with flash := s.flash.filter fun e => e.1 / slotSize != slot }

/-- The value of COMMIT that commits a slot. -/
def commitWord : Nat := 0x5A5A00000000A5A5

/-- Whether a slot is committed. -/
def State.slotCommitted (s : State) (slot : Nat) : Bool :=
  ofLeBytes (s.flashBytes slot (commitSector + 2048) 8) == commitWord

/-- SEQ in a slot's header. -/
def State.slotSeq (s : State) (slot : Nat) : Nat := ofLeBytes (s.flashBytes slot 8 8)

/-- BODY_LEN in a slot's header. -/
def State.slotBody (s : State) (slot : Nat) : Nat := ofLeBytes (s.flashBytes slot 16 4)

/-- The section table of a slot: type, offset, length. -/
def State.slotTable (s : State) (slot : Nat) : List (Nat × Nat × Nat) :=
  (List.range 7).map fun i =>
    let e := s.flashBytes slot (64 + 32 * i) 12
    (ofLeBytes (e.take 4), ofLeBytes ((e.drop 4).take 4), ofLeBytes (e.drop 8))

/-- Bytes of a section of a slot. -/
def State.slotSection (s : State) (slot typ : Nat) : List Nat :=
  match (s.slotTable slot).find? fun e => e.1 == typ with
  | some (_, o, n) => s.flashBytes slot o n
  | none => []

/-- The length that R417 gives a section type, where it gives one. -/
def sectionLen (typ : Nat) : Option Nat :=
  if typ = 1 then some 256 else if typ = 2 then some 1952 else if typ = 3 then some 3309 else none

/-- Check 1 of R422: MAGIC, FORMAT and section table. -/
def State.slotHeaderOk (s : State) (slot : Nat) : Bool :=
  let t := s.slotTable slot
  let body := s.slotBody slot
  let seq := s.slotSeq slot
  ofLeBytes (s.flashBytes slot 0 4) == 0x4E504137 && ofLeBytes (s.flashBytes slot 4 4) == 0x00010001 &&
  decide (1 ≤ seq) && decide (seq < 2 ^ 48) && decide (body ≤ commitSector) &&
  ofLeBytes (s.flashBytes slot 20 4) == 7 && (s.flashBytes slot 24 40).all (· == 0) &&
  ((List.range 7).all fun i => (s.flashBytes slot (64 + 32 * i + 12) 20).all (· == 0)) &&
  (s.flashBytes slot 288 3808).all (· == 0) &&
  ((List.range 7).all fun i => (t.filter fun e => e.1 == i + 1).length == 1) &&
  (t.all fun e => e.2.1 % 4096 == 0 && decide (4096 ≤ e.2.1) && decide (e.2.1 + e.2.2 ≤ body) &&
    (match sectionLen e.1 with
      | some n => e.2.2 == n
      | none => true)) &&
  (t.zipIdx.all fun a => t.zipIdx.all fun b =>
    a.2 == b.2 || !overlaps a.1.2.1 a.1.2.2 b.1.2.1 b.1.2.2)

/-- The manifest's part code, "NPA-7264-L" followed by two zero bytes (Table 14.3). -/
def partCode : List Nat := ascii "NPA-7264-L" ++ [0, 0]

/-- The stepping code of this part (R2): every die of the model reports it. -/
def steppingCode : Nat := 0x21

/-- Verification of a slot against a floor (R422): 0 when it passes, else the code of Table 14.11. -/
def State.verifySlot (s : State) (slot floor : Nat) : Nat :=
  let m := s.slotSection slot 1
  let key := s.slotSection slot 2
  let bv (l : List Nat) : List (BitVec 8) := l.map (BitVec.ofNat 8)
  let dig (o typ : Nat) : Bool := (m.drop o).take 64 == shakeBytes (s.slotSection slot typ)
  if !s.slotHeaderOk slot then 8
  else if s.flashBytes slot commitSector 64 ≠ shakeBytes (s.flashBytes slot 0 (s.slotBody slot)) then 3
  else if (shakeBytes key).take 32 ≠ leBytes 32 Config.vendorKey.toNat then 4
  else if !Config.verify (bv key) (bv (ascii "Abrath-FW")) (bv m) (bv (s.slotSection slot 3)) then 5
  else if nth 0 m 32 < floor then 6
  else if (m.drop 4).take 12 ≠ partCode ∨ !((m.drop 17).take (nth 0 m 16)).contains steppingCode then 7
  else if !(dig 48 4 && dig 112 5 && dig 176 6) then 3
  else 0

/-- Committed slots, newest first; at equal SEQ slot 0 comes first (R420). -/
def State.slotOrder (s : State) : List Nat :=
  let c0 := s.slotCommitted 0
  let c1 := s.slotCommitted 1
  if c0 && c1 then (if s.slotSeq 0 < s.slotSeq 1 then [1, 0] else [0, 1])
  else if c0 then [0] else if c1 then [1] else []

/-! ### The fused floor (R423) -/

/-- The fused floor of the half in charge. -/
def State.floor (s : State) : Nat := bits (s.rg .SEC_FUSE s.headDie 0 0) 0 8

/-- The floor that staging checks against: the higher of the fused floor and the one that RAISE_FLOOR will set. -/
def State.stagingFloor (s : State) : Nat := Nat.max s.floor s.floorFused

/-- FLOOR flag of the manifest that the half in charge runs. -/
def State.floorFlag (s : State) : Bool := if s.headDie = 0x52 then s.floorFlags.2 else s.floorFlags.1

/-- A write of 1 to SEC_CTRL.RAISE_FLOOR: false for an access error. [DEDUCED, log entry 62] -/
def State.raiseFloor (s : State) : State × Bool :=
  let svn := bits (s.rg .BOOT_SLOT s.headDie 0 0) 8 8
  if s.svc = .normal ∧ s.floorFlag = true ∧ s.stagingFloor < svn then ({ s with floorFused := svn }, true) else (s, false)

/-! ### Watcher reload (R412, R432) -/

/-- X-die of the watching half. -/
def State.watchDie (s : State) : Nat := if s.headDie = 0x52 then 0x50 else 0x52

/-- A write of LEASE_CTRL.RELOAD_WATCHER: the newest committed slot is read and verified; one that fails is not loaded. [DEDUCED, log entries 37 and 62] -/
def State.reloadWatcher (s : State) : State :=
  match s.slotOrder with
  | [] => s
  | slot :: _ =>
    if s.verifySlot slot s.floor ≠ 0 then s
    else
      let m := s.slotSection slot 1
      let w := s.watchDie
      let s1 := s.setRg .BOOT_SLOT w 0 0 (setBits (s.rg .BOOT_SLOT w 0 0) 8 8 (nth 0 m 32))
      let flag := bit (nth 0 m 33) 0
      let flags := if w = 0x52 then (s1.floorFlags.1, flag) else (flag, s1.floorFlags.2)
      ({ s1 with floorFlags := flags } : State).mrEvent 0x03 ((shakeBytes m).take 32)

/-- A write of LEASE_CTRL.YIELD: the handover is pending until the next step boundary (R412). -/
def State.yieldWrite (s : State) : State :=
  { s.setG .LEASE_STATUS (setBits (s.g .LEASE_STATUS) 2 1 1) with yieldPending := true }

/-! ### Attestation (R429, R430) -/

/-- Whether the service mode is test. -/
def State.attFlags (s : State) : Nat :=
  b2n (bit (s.g .LEASE_STATUS) 0) + 2 * b2n (bit (s.g .TWIN_FENCE) 0) + 4 * b2n s.testEntered +
    8 * b2n (bit (s.rg .CFG_REFUSE s.headDie 0 0) 63)

/-- The 64 bytes of a digest register. -/
def State.digestBytes (s : State) (r : Reg) : List Nat :=
  (List.range 8).flatMap fun w => leBytes 8 (s.rg r s.headDie 0 w)

/-- Bytes 0 to 767 of a report for a nonce of 32 bytes (Table 14.7). -/
def State.reportBody (s : State) (nonce : List Nat) : List Nat :=
  let slot := s.rg .BOOT_SLOT s.headDie 0 0
  leBytes 4 0x00010001 ++ leBytes 4 768 ++ takePad 0 32 nonce ++ partCode ++
  [steppingCode, s.svc.code, s.node, s.attFlags] ++ leBytes 8 (s.rg .SEC_SERIAL s.headDie 0 0) ++
  leBytes 8 (setBits slot 8 8 0) ++ [bits slot 8 8, s.floor] ++ List.replicate 14 0 ++ s.digestBytes .CFG_DIGEST ++
  (List.range 8).flatMap s.mrBytes ++ (if s.loaded then s.digestBytes .JOB_DIGEST else List.replicate 64 0) ++
  List.replicate 40 0

/-- A report for a nonce: the body and its hedged signature under the identity key. -/
def State.report (s : State) (nonce : List Nat) : State × List Nat :=
  let body := s.reportBody nonce
  let sig := Config.sign s.freshCtr (BitVec.ofNat 6 s.floor) ((ascii "Abrath-ATT").map (BitVec.ofNat 8))
    (body.map (BitVec.ofNat 8))
  ({ s with freshCtr := s.freshCtr + 1 }, body ++ takePad 0 3309 (sig.map BitVec.toNat))

/-- Whether a half's security block forms or writes a report. -/
def State.attBusy (s : State) (die : Nat) : Bool := bit (s.rg .ATT_STATUS die 0 0) 0

/-- Whether reports are given: in start-up from step 10 on, and in every other service mode (R430). -/
def State.reportsGiven (s : State) : Bool := s.svc != .startup || decide (10 ≤ s.bootStep)

/-- A write of ATT_CTRL of a half (R430): with GO the nonce and the registers are latched. False for an access error. [DEDUCED, log entry 20] -/
def State.attCtrlWrite (s : State) (die v : Nat) : State × Bool :=
  if s.attBusy die then (s, false)
  else if !bit v 31 then (s, true)
  else if !s.reportsGiven then (s, false)
  else
    let nonce := (List.range 4).flatMap fun w => leBytes 8 (s.rg .ATT_NONCE die 0 w)
    let (s1, bs) := s.report nonce
    let s2 := s1.setFld .ATT_STATUS die 0 0 0 1 1
    ({ s2 with att := some (takePad 0 4096 bs, bits (s.rg .ATT_DST die 0 0) 0 44, bits v 12 8, bits v 0 12) }, true)

/-- End a report: BUSY clears in the half that formed it, and ERR shows a refused write. -/
def State.attEnd (s : State) (err : Bool) : State :=
  let done (z : State) (d : Nat) : State := if z.attBusy d then z.setRg .ATT_STATUS d 0 0 (2 * b2n err) else z
  { done (done s 0x50) 0x52 with att := none }

/-- ATTEST_REPORT_DONE (R430): the report is written to ATT_DST; `accepted`: the twin acknowledged every write. Then 1 is added
to the semaphore of the module that ATT_DST names. [DEDUCED, log entry 63] -/
def execAttestReportDone (accepted : Bool) (s : State) : Host.Outcome State Fault Refusal :=
  match s.att with
  | none => .next s
  | some (bs, dst, die, sem) =>
    let (s1, ok) :=
      if s.isOwn dst then
        match s.memWrite .mgmt dst bs with
        | (z, e) => (z, e.isNone)
      else
        match s.sendWrites .unit (blockPieces 4096 dst bs) with
        | (z, sent) => ({ z with asked := s.asked }, sent && accepted)
    .next (if ok then (s1.attEnd false).signal s.headDie (!s.isOwn dst) die sem 1 else s1.attEnd true)

/-! ### Test mode (R434) -/

/-- Enter test mode: a loaded job is stopped as a unit fault of the security block. -/
def State.enterTest (s : State) (code : Nat) (data : List Nat) : State :=
  let s1 : State := { s with svc := .test, testEntered := true }
  let s2 := s1.mrEvent code data
  if s2.loaded then s2.dieFault s2.headDie 0x50 0 0x01 else s2

/-- IDCODE of an X-die: stepping letter, part code, the vendor's manufacturer identity, 1 (R464). [DESIGN CHOICE, log entry 77] -/
def idcode : BitVec 32 :=
  BitVec.ofNat 32 (steppingCode / 16 * 2 ^ 28 + 0x7264 * 2 ^ 12 + Config.manufacturer.toNat * 2 + 1)

/-- SCAN_TEST_ENTRY (R434, R464): any instruction but BYPASS, IDCODE and SAMPLE/PRELOAD. [DESIGN CHOICE, log entry 77] -/
def execScanTestEntry (ir : ScanIr) (s : State) : Host.Outcome State Fault Refusal :=
  match ir with
  | .bypass => .next s
  | .idcode => .next { s with outbox := s.outbox ++ [.scan (List.replicate 4 idcode)] }
  | .sample => .next s
  | .extest => .next (if s.svc = .test then s else s.enterTest 0x01 [])
  | .other => .next (if s.svc = .test then s else s.enterTest 0x01 [])

end Sys2Proof.Machine
end

