-- ==== Sys2Proof/Machine/VetchRows.lean ====
section
/-!
DEFINITION. Vetch and Hoop events: messages, automatic arrivals, timeouts, and the effects of writes to their registers
(chapter 7).
-/

namespace Sys2Proof.Machine

/-! ### Register actions -/

/-- A write of VETCH_SIGNAL on a die, from this module or a node (R200, R344, R395): false for an amount of 0. -/
def State.vetchSignalWrite (s : State) (remote : Option Nat) (die v : Nat) : State × Bool :=
  let n := bits v 32 16
  if n = 0 then (s, false)
  else
    match remote with
    | some node => (s.signalFrom node die (bits v 0 12) n, true)
    | none => (s.addSem die (bits v 0 12) n, true)

/-- A write of VETCH_ARRIVE on a die (R202, R205): false where the die takes no part or the arrival would wait. -/
def State.vetchArriveWrite (s : State) (die v : Nat) : State × Bool :=
  match s.arriveAt die (bits v 0 8) with
  | (s1, .counted _) => (s1, true)
  | _ => (s, false)

/-- A write of HOOP_CTRL (R213, R217): false for OPEN with ABORT, and for OPEN on an undecided slot. -/
def State.hoopCtrlWrite (s : State) (h v : Nat) : State × Bool :=
  if bit v 0 && bit v 1 then (s, false)
  else if bit v 0 then (if s.hoopUndecided h then (s, false) else (s.hoopOpen h, true))
  else if bit v 1 then (s.hoopAbort h 3, true)
  else (s, true)

/-- A write of HOOP_STG_CMD in a window (R214, R215): the result goes to HOOP_STG_RES. -/
def State.hoopStgWrite (s : State) (win v : Nat) : State :=
  let h := bits v 0 4
  let kind := bits v 8 8
  let ready := bit v 16
  let (s1, res) :=
    if kind = 0 then
      if ready then
        match s.hoopReady h with
        | (z, true) => (z, 0)
        | (z, false) => (z, 1)
      else (s, 0)
    else if 6 < kind then (s, 2)
    else
      let (z, r) := s.hoopStage h kind (BitVec.ofNat 64 (s.rg .HOOP_STG_TGT 0x60 0 win))
        (BitVec.ofNat 64 (s.rg .HOOP_STG_VAL 0x60 0 win))
      if r = 0 ∧ ready then ((z.hoopReady h).1, 0) else (z, r)
  s1.setRg .HOOP_STG_RES 0x60 0 win res

/-! ### Messages (R194, R204, R210, R217) -/

/-- Take the first message that is wanted, unless one that must arrive before it stands in front. -/
def takeMsg (want blocks : VMsg → Bool) : List VMsg → Option (VMsg × List VMsg)
  | [] => none
  | m :: ms =>
    if want m then some (m, ms)
    else if blocks m then none
    else (takeMsg want blocks ms).map fun p => (p.1, m :: p.2)

/-- Whether a message travels down from a root of this module to a die; a die-scope COMPLETE does not leave its die. -/
def State.downTo (s : State) (die : Nat) : VMsg → Bool
  | .complete d c _ => d == die && s.barScope d c != 0
  | .advance d _ _ _ _ => d == die
  | .arrive .. => false
  | .signal .. => false

/-- Once the last die has seen an epoch, the module root looks at the arrivals it holds for the next one (R208). -/
def State.heldAdvance (s : State) : State :=
  match s.rootArr.find? fun a => a.ctx == 0 && decide (a.src < 0x100) with
  | some a => s.moduleCheck 0 a.gen
  | none => s

/-- SIGNAL (R197): a message of a unit of this module, or a frame from another. -/
def execSignal (src : VSrc) (d : Die) (sem : Fin 4096) (n : BitVec 16) (s : State) : Host.Outcome State Fault Refusal :=
  match src with
  | .here => .next (s.addSem d.code sem.val n.toNat)
  | .lane r => .next (s.rxFrame r (.signal (BitVec.ofNat 8 d.code) sem n))

/-- ARRIVE (R204, R209): the arrival of a die reaches its module root, or that of another module the root of the context. [DEDUCED, log entry 42] -/
def execArrive (src : VSrc) (d : Die) (ctx : Fin 256) (gen : BitVec 32) (ready : BitVec 16) (flags : BitVec 8)
    (s : State) : Host.Outcome State Fault Refusal :=
  match src with
  | .here =>
    let want : VMsg → Bool
      | .arrive die c g _ _ => die == d.code && c == ctx.val && g == gen.toNat
      | _ => false
    let blocks : VMsg → Bool
      | .arrive die _ _ _ _ => die == d.code
      | _ => false
    match takeMsg want blocks s.vmsgs with
    | some (.arrive die c g rd fl, rest) => .next (({ s with vmsgs := rest } : State).arriveDie die c g rd fl).passSignals
    | _ => .next s
  | .lane r => .next (s.rxFrame r (.arrive ctx gen ready flags))

/-- COMPLETE (R204). [DEDUCED, log entry 42] -/
def execComplete (src : VSrc) (d : Die) (ctx : Fin 256) (gen : BitVec 32) (s : State) :
    Host.Outcome State Fault Refusal :=
  match src with
  | .here =>
    let want : VMsg → Bool
      | .complete die c g => die == d.code && c == ctx.val && g == gen.toNat
      | _ => false
    let blocks : VMsg → Bool := if s.barScope d.code ctx.val = 0 then fun _ => false else s.downTo d.code
    match takeMsg want blocks s.vmsgs with
    | some (.complete die c g, rest) => .next (({ s with vmsgs := rest } : State).completeAt die c g).passSignals
    | _ => .next s
  | .lane r => .next (s.rxFrame r (.complete ctx gen))

/-- ADVANCE (R210): the message that carries the epoch reaches a die, or a frame from the job root this module. [DEDUCED, log entry 42] -/
def execAdvance (src : VSrc) (d : Die) (epoch : BitVec 64) (commits aborts : BitVec 16) (flags : BitVec 8) (s : State) :
    Host.Outcome State Fault Refusal :=
  match src with
  | .here =>
    let want : VMsg → Bool
      | .advance die e _ _ _ => die == d.code && e == epoch.toNat
      | _ => false
    match takeMsg want (s.downTo d.code) s.vmsgs with
    | some (.advance die e _ _ items, rest) => .next (({ s with vmsgs := rest } : State).advanceDie die e items).passSignals.heldAdvance
    | _ => .next s
  | .lane r => .next (s.rxFrame r (.advance epoch commits aborts flags))

/-- ABORT (R217): a frame between this module and the job root; inside a module an abort is no message. [DEDUCED, log entry 42] -/
def execAbort (src : VSrc) (h : Fin 16) (inst : BitVec 32) (s : State) : Host.Outcome State Fault Refusal :=
  match src with
  | .here => .next s
  | .lane r => .next (s.rxFrame r (.abort h inst))

/-! ### Automatic arrivals and timeouts (R155, R203, R217, R223) -/

/-- AUTO_ARRIVAL (R203). -/
def execAutoArrival (d : Die) (s : State) : Host.Outcome State Fault Refusal :=
  .next (s.autoArrive d.code)

/-- Whether a wait of `lt` ticks has reached a timeout; 0 is none (R223). -/
def expired (lt limit : Nat) : Bool := limit != 0 && decide (limit ≤ lt)

/-- AUTO_ARRIVAL_GATE_TIMEOUT (R203). -/
def execAutoArrivalGateTimeout (d : Die) (s : State) : Host.Outcome State Fault Refusal :=
  match s.semWaits.find? fun w => w.die == d.code && w.who == Waiter.auto with
  | some w =>
    if expired w.lt (s.rg .VETCH_SEM_TO d.code 0 0) then
      .next ((s.dropWait d.code .auto).vetchFault d.code 0x05 w.sem)
    else .next s
  | none => .next s

/-- SEMAPHORE_WAIT_TIMEOUT (R155). -/
def execSemaphoreWaitTimeout (c : CoreId) (s : State) : Host.Outcome State Fault Refusal :=
  if s.seqState c.ix = 2 ∧ s.semWaits.any (fun w => w.who == Waiter.seq c.ix) ∧
      expired (s.seq c.ix).waitLt (s.rg .VETCH_SEM_TO c.die.val 0 0) then
    .next (s.seqFault c.ix 0x08 7)
  else .next s

/-- BARRIER_WAIT_TIMEOUT (R155): only a SYN.BAR with W = 1 runs it. -/
def execBarrierWaitTimeout (c : CoreId) (s : State) : Host.Outcome State Fault Refusal :=
  if s.seqState c.ix = 2 ∧ ((s.seq c.ix).barWait.isSome ∨ s.barHeld.any fun h => h.core == c.ix && h.wait) ∧
      expired (s.seq c.ix).waitLt (s.rg .VETCH_BAR_TO c.die.val 0 0) then
    .next (s.seqFault c.ix 0x09 7)
  else .next s

/-- HOOP_TIMEOUT (R217): counted from the opening until the module is ready. -/
def execHoopTimeout (h : Fin 16) (s : State) : Host.Outcome State Fault Refusal :=
  if s.hoopUndecided h.val ∧ s.hoopSt h.val 28 1 = 0 ∧ s.rg .HOOP_TO 0x60 0 h.val ≤ (s.hoop h.val).ticks then
    .next (s.hoopAbort h.val 1)
  else .next s

end Sys2Proof.Machine
end

