-- ==== Sys2Proof/Machine/RegWrite.lean ====
section
/-!
DEFINITION. Writing the register space: the order of the checks (width and alignment R16, lease epochs R391 and R441, who may
write R344 and R435), locks (R15, R63, R133, R137, R201, R213, R225, R250, R280, R299, R319, R377, R385, R413), and what each
register does when it is written.
-/

namespace Sys2Proof.Machine

/-- What becomes of a register write: done, an access error, or no answer now (another module still owes it, or a fenced half
has not issued the write, R390). -/
inductive WAns where
  | done | error | later
deriving DecidableEq, Repr

/-- The answer of an action that is done or refused. -/
def wans (p : State × Bool) : State × WAns := (p.1, if p.2 then .done else .error)

/-! ### Locks -/

/-- Registers that accept a write only while no job is loaded (R63, R133, R225, R250, R280, R319, R385, R413); of those that a
Hoop changes while a job is loaded, SL_ADMIT, VAT_SHARE and ROUTE_SEL too (R341, R362). [DEDUCED, log entry 17] -/
def Reg.jobLocked : Reg → Bool
  | .ARITH_CTRL | .VETCH_SEM_TO | .VETCH_BAR_TO | .VETCH_BAR_CFG | .VETCH_AUTO | .VETCH_QMON | .SHARD_SEL | .SHARD_J0
  | .SHARD_PUB | .SHARD_GATE | .RN_LIST | .RN_TRIG | .RN_BUF0 | .RN_BUF1 | .RN_BUF_LEN | .RN_BUF_SEL | .ROOT_CFG
  | .PR_LIST | .PR_WC0 | .PR_WC1 | .PR_WC_LEN | .PR_WC_SEL | .PR_DIR_SEM | .PR_DIR_RING | .PR_GRAD | .PR_GRAD_RING
  | .PR_SORTAB | .PR_PLEN | .PR_PROG | .PR_K | .PR_CFG | .PR_SEED | .PR_SCHED | .PR_SWEEP | .PR_LAST | .PR_SWEEP_NEXT
  | .STEP_EPS | .STEP_E0 | .STEP_K0 | .BRINE_CFG | .BRINE_PUB | .BRINE_SCALE | .BRINE_CLEAN | .BRINE_HIST
  | .BRINE_OVF_LOG | .SORREL_CFG | .SORREL_TO | .SORREL_PEER | .DIE_HS_WD | .JOB_WD | .JOB_CTRL | .RESTART_CTRL
  | .CAVE_CFG | .CAVE_PROG_TO | .CAVE_MAP | .CAVE_SLOT | .CAVE_HOST | .VE_FILL | .VE_SDESC | .VE_CHAIN | .TEA_CFG
  | .SL_ADMIT | .VAT_SHARE | .ROUTE_SEL => true
  | _ => false

/-- Whether map 1 of the update lists is in use (R377). -/
def State.altInUse (s : State) : Bool := bit (s.g .SHARD_SEL) 0 || bit (s.g .SHARD_STATUS) 0

/-- Whether some sequencer of a die runs, is held or is stopping (R201). -/
def State.dieRuns (s : State) (die : Nat) : Bool :=
  decide (die < 0x40) && (List.range 16).any fun u => s.seqBusy (die * 16 + u)

/-- Whether a sequencer is IDLE or HALTED (R137). -/
def State.seqAtRest (s : State) (core : Nat) : Bool := s.seqState core == 0 || s.seqState core == 5

/-- Whether a Hoop slot is the publication or the update slot in use of the loaded job (R299). -/
def State.slotNamed (s : State) (h : Nat) : Bool :=
  let root := s.g .ROOT_CFG
  let pr := s.g .PR_CFG
  s.loaded && ((bit root 8 && bits root 0 4 == h) || (bit pr 16 && bits pr 0 4 == h))

/-- Whether a lock refuses a write of value v to element (i, j) of a register on a die. [DEDUCED, log entry 17] -/
def State.lockedReg (s : State) (r : Reg) (die i j v : Nat) : Bool :=
  (s.loaded && r.jobLocked) ||
  match r with
  | .PR_LIST_ALT => s.loaded && s.altInUse
  | .ROUTE_ENT => s.loaded && s.g .ROUTE_SEL % 2 == i
  | .SEQ_START | .SEQ_SC => !s.seqAtRest (die * 16 + i)
  | .VETCH_SEM => s.dieRuns die
  | .HOOP_CFG | .HOOP_EC | .HOOP_TAG | .HOOP_PERIOD | .HOOP_TO => s.hoopUndecided j
  | .HOOP_CTRL => bit v 0 && s.slotNamed j && s.hoopSt j 29 3 != 0
  | .ATT_DST | .ATT_NONCE => s.attBusy die
  | .TEA_CFG => s.teaBad (die * 16 + i) j v
  | _ => false

/-! ### Effects -/

/-- A stored value after a write under access masks: `wr` bits are set, `w1c` bits written 1 are cleared. -/
def writeBits (old v wr w1c : Nat) : Nat :=
  (old ^^^ (old &&& wr) ^^^ (old &&& (w1c &&& v))) ||| (v &&& wr)

/-- A write under the register's access masks (Table 0.7): RWL bits are set in start-up mode only; afterwards a write that
would set them returns an access error. OWNER of a channel on an M- or X-die is fixed at 16 (R181). -/
def State.plainWrite (s : State) (r : Reg) (die i j v : Nat) : State × Bool :=
  let w := r.row
  let old := s.rg r die i j
  let start := s.svc == .startup
  let mask := if start then w.wr ||| w.lock else w.wr
  let v1 := if r = .DMA_CH_CTRL ∧ 0x40 ≤ die then setBits v 0 5 16 else v
  (s.setRg r die i j (writeBits old v1 mask w.w1c), start || w.lock == 0)

/-- SEQ_CTRL.GO (R137): the sequencer starts at SEQ_START in RUN; the instances it used during the job stay known (R220). Outside
normal service no sequencer of a loaded job starts: no job steps run there (R431). [DEDUCED, log entry 44] -/
def State.seqGo (s : State) (core : Nat) : State × Bool :=
  let d := core / 16
  let u := core % 16
  if !s.seqAtRest core || (s.loaded && s.svc != .normal) then (s, false)
  else
    let v := setBits (setBits (setBits (s.rg .SEQ_STATUS d u 0) 0 3 1) 12 4 0) 10 1 0
    let s1 := (s.setRg .SEQ_PC d u 0 (s.rg .SEQ_START d u 0)).setRg .SEQ_STATUS d u 0 v
    let s2 := s1.setSeq core { SeqS.init with hoopUse := (s1.seq core).hoopUse }
    match s2.job with
    | some j => ({ s2 with job := some { j with started := true }, jobWdLt := if j.started then s2.jobWdLt else 0 }, true)
    | none => (s2, true)

/-- A write of DIE_LEASE (R391): it never decreases; the new holder's write brings die code 0x60 closer to being served
again (R482). -/
def State.leaseWrite (s : State) (holder : Bool) (die v : Nat) : State :=
  let z := s.setRg .DIE_LEASE die 0 0 (Nat.max v (s.rg .DIE_LEASE die 0 0))
  if holder && z.leases.changing then
    let left := z.leases.unwritten.filter (· != die)
    { z with leases := { z.leases with unwritten := left, changing := !left.isEmpty } }
  else z

/-- A write of LEASE_CTRL (R412, R432). -/
def State.leaseCtrlWrite (s : State) (v : Nat) : State :=
  let z := if bit v 0 then s.yieldWrite else s
  if bit v 1 then z.reloadWatcher else z

/-- A write of SL_CFG (R15, R326): EN always; the RWL fields in start-up mode, where they are set first. After start-up a write that
leaves the RWL bits as they are sets EN and is no access error. [DESIGN CHOICE, log entry 84] -/
def State.slCfgWrite (s : State) (p v : Nat) : State × Bool :=
  let lock := Reg.row .SL_CFG |>.lock
  let old := s.portReg .SL_CFG p
  if s.svc = .startup then (s.setPortReg .SL_CFG p (writeBits old v lock 0)).portEnableWrite p v
  else
    let (z, ok) := s.portEnableWrite p v
    (z, ok && (old &&& lock) == (v &&& lock))

/-- Port of a port register (R322). -/
def portOf (die j : Nat) : Nat := if j < 8 then (die - 0x50) * 8 + j else 32 + (die - 0x50)

/-- Whether a writer is the holder of the half lease. -/
def State.holds (s : State) : Writer → Bool
  | .cc east _ _ => east == bit (s.g .LEASE_STATUS) 0
  | .mgmt => true
  | _ => false

/-- The node of another module that a write comes from. -/
def State.farNode (s : State) : Writer → Option Nat
  | .twin => some s.twinNode
  | .node n => some n.toNat
  | _ => none

/-- What a write of value v to element (i, j) of a register does, past every check. -/
def State.regAct (s : State) (w : Writer) (r : Reg) (die i j v : Nat) : State × WAns :=
  match r with
  | .SEQ_CTRL => if bit v 0 then wans (s.seqGo (die * 16 + i)) else (s, .done)
  | .TEA_CFG => (s.teaWrite (die * 16 + i) j v, .done)
  | .VETCH_SIGNAL => wans (s.vetchSignalWrite (s.farNode w) die v)
  | .VETCH_ARRIVE => wans (s.vetchArriveWrite die v)
  | .VETCH_SEM =>
    let z := s.setRg .VETCH_SEM die 0 j v
    (z.serve die j z.semWaits.length, .done)
  | .VETCH_BAR_CFG =>
    (s.setRg .VETCH_BAR_CFG die 0 j (if j = 0 then setBits (v &&& 0x3ff) 8 2 3 else v &&& 0x3ff), .done)
  | .DMA_CH_SUBMIT =>
    if h : die < 0x40 then
      match s.dmaRegSubmit (.c ⟨die, h⟩) j v with
      | (z, some .ok) => (z, .done)
      | (z, none) => (z, .later)
      | (z, _) => (z, .error)
    else
      let d : Die := if die < 0x50 then .m (Fin.ofNat 12 (die - 0x40)) else .x (Fin.ofNat 4 (die - 0x50))
      match s.dmaRegSubmit d j v with
      | (z, some .ok) => (z, .done)
      | (z, none) => (z, .later)
      | (z, _) => (z, .error)
  | .VAT_SUBMIT => wans (s.vatSubmitWrite (Fin.ofNat 4 (die - 0x50)) v)
  | .MC_RETIRE => wans (s.mcRetire (die - 0x40) v)
  | .HOOP_CTRL => wans (s.hoopCtrlWrite j v)
  | .HOOP_STG_CMD => (s.hoopStgWrite j v, .done)
  | .SL_CFG => wans (s.slCfgWrite (portOf die j) v)
  | .DIE_LEASE => (s.leaseWrite (s.holds w) die v, .done)
  | .BOARD_LEASE => (s.boardRenewal v (w == .twin), .done)
  | .TWIN_FENCE => wans (s.twinFenceWrite (bit v 0))
  | .LEASE_CTRL => (s.leaseCtrlWrite v, .done)
  | .SEC_CTRL => if bit v 0 then wans s.raiseFloor else (s, .done)
  | .ATT_CTRL => wans (s.attCtrlWrite die v)
  | .CC_CACHE => (s.ccCacheOp (die == 0x52) (bits v 62 2) (bits v 0 44), .done)
  | .SORREL_RX_TAG => ((s.setRg .SORREL_RX_TAG 0x60 0 j v).sorrelCompare, .done)
  | _ => wans (s.plainWrite r die i j v)

/-! ### Who may write -/

/-- The die whose DIE_LEASE judges a write to a location (R391, R482): none where no die is. -/
def State.leaseDie (s : State) (l : Nat) : Option Nat :=
  let d := l / 0x1000000
  if d = 0x60 then some s.headDie else if DieSet.all.has d then some d else none

/-- Whether a control core of the watching half writes a block of its own X-dies that carries no epoch check (R441). -/
def State.watcherBlock (s : State) (east : Bool) (l : Nat) : Bool :=
  let d := l / 0x1000000
  let blk := l / 0x10000 % 0x100
  east != bit (s.g .LEASE_STATUS) 0 && (blk == 0x50 || blk == 0x58) &&
    (if east then d == 0x52 || d == 0x53 else d == 0x50 || d == 0x51)

/-- The epoch check of a write to a location with an epoch (R391). -/
def State.epochCheck (s : State) (l e : Nat) : State × Bool :=
  match s.leaseDie l with
  | none => (s, true)
  | some d =>
    let cur := s.rg .DIE_LEASE d 0 0
    if e < cur then (s.bump .DIE_STALE d 0 0 1, false)
    else if cur < e then (s.setRg .DIE_LEASE d 0 0 e, true)
    else (s, true)

/-- Whether a node other than the twin may write a register (R344). -/
def Reg.nodeWritable : Reg → Bool
  | .SORREL_RX | .SORREL_RX_TAG | .VETCH_SIGNAL => true
  | _ => false

/-- Registers of block 0x50 that the twin may write (R435). -/
def Reg.attWritable : Reg → Bool
  | .ATT_NONCE | .ATT_DST | .ATT_CTRL => true
  | _ => false

/-- A write that has passed the checks on its requester. -/
def State.regWriteAt (s : State) (w : Writer) (k v : Nat) : State × WAns :=
  match locate k with
  | none => (s, match w with
    | .node _ => .error
    | _ => .done)
  | some (r, d, i, j) =>
    match w with
    | .node _ => if !r.nodeWritable || s.lockedReg r d i j v then (s, .error) else s.regAct w r d i j v
    | .twin =>
      if k / 0x10000 % 0x100 = 0x50 ∧ d < 0x60 ∧ 0x50 ≤ d ∧ !r.attWritable then (s, .done)
      else if s.lockedReg r d i j v then (s, .error)
      else s.regAct w r d i j v
    | _ => if s.lockedReg r d i j v then (s, .error) else s.regAct w r d i j v

/-- A register write of 4 or 8 bytes by a requester at a location: width and alignment, the service of die code 0x60, the
lease epoch, then the register's own rules. [DEDUCED, log entry 51] -/
def State.busWrite (s : State) (w : Writer) (l : Nat) (wide : Bool) (v : Nat) : State × WAns :=
  let k := s.resolve l
  if 2 ^ 32 ≤ l ∨ badAccess k wide ∨ s.unserved l then (s, .error)
  else
    match w with
    | .cc east _ e =>
      if s.leases.fencedEast = some east then (s, .later)
      else if s.watcherBlock east l then s.regWriteAt w k v
      else
        match s.epochCheck l e.toNat with
        | (z, false) => (z, .error)
        | (z, true) => z.regWriteAt w k v
    | .mgmt =>
      match s.epochCheck l (s.g .HALF_LEASE) with
      | (z, false) => (z, .error)
      | (z, true) => z.regWriteAt w k v
    | .twin => s.regWriteAt w k v
    | .node _ => s.regWriteAt w k v
    | .unit _ => s.regWriteAt w k v

end Sys2Proof.Machine
end

