-- ==== Sys2Proof/Machine/Image.lean ====
section
/-!
DEFINITION. Configuration images: their records, what each record may say, and their application (R181, R201, R424, R425, R443,
R485, with the field tables of the chapters).
-/

namespace Sys2Proof.Machine

/-! ### Records (R424) -/

/-- A record of an image; `bad`: its header is malformed, and no record follows. -/
structure Rec where
  typ : Nat
  target : Nat
  data : List Nat
  bad : Bool
deriving DecidableEq, Repr

/-- The records of an image, at most `fuel` of them. -/
def parseImage : Nat → List Nat → List Rec
  | 0, _ => []
  | _ + 1, [] => []
  | fuel + 1, b :: bs =>
    let all := b :: bs
    let len := ofLeBytes ((all.drop 4).take 4)
    let typ := ofLeBytes (all.take 2)
    if all.length < 16 ∨ ofLeBytes ((all.drop 2).take 2) ≠ 0 ∨ len < 16 ∨ len % 8 ≠ 0 ∨ all.length < len then
      [⟨typ, 0, [], true⟩]
    else
      ⟨typ, ofLeBytes ((all.drop 8).take 8), (all.take len).drop 16, false⟩ :: parseImage fuel (all.drop len)

/-- The records of an image. -/
def imageRecs (bs : List Nat) : List Rec := parseImage (bs.length + 1) bs

/-! ### Registers an image may set (Table 14.4) -/

/-- Registers that the job-load image may set (R63, R225, R280, R298, R319, R355, R385, R408, R413,
R485). -/
def Reg.jobSettable : Reg → Bool
  | .DIE_HS_WD | .JOB_WD | .JOB_CTRL | .RESTART_CTRL | .VETCH_SEM_TO | .VETCH_BAR_TO | .VETCH_AUTO | .VETCH_QMON
  | .VETCH_BAR_CFG | .ARITH_CTRL | .RN_LIST | .RN_TRIG | .RN_BUF_SEL | .RN_BUF0 | .RN_BUF1 | .RN_BUF_LEN | .ROOT_CFG
  | .PR_LIST | .PR_WC0 | .PR_WC1 | .PR_WC_LEN | .PR_WC_SEL | .PR_DIR_SEM | .PR_DIR_RING | .PR_GRAD | .PR_GRAD_RING
  | .PR_SORTAB | .PR_PLEN | .PR_PROG | .PR_K | .PR_LIST_ALT | .PR_CFG | .PR_SEED | .PR_SCHED | .PR_SWEEP | .PR_LAST
  | .PR_SWEEP_NEXT | .SHARD_SEL | .SHARD_J0 | .SHARD_PUB | .SHARD_GATE | .CAVE_CFG | .CAVE_PROG_TO | .CAVE_MAP
  | .CAVE_SLOT | .CAVE_HOST | .HOOP_CFG | .HOOP_EC | .HOOP_TAG | .HOOP_PERIOD | .HOOP_TO | .STEP_EPS | .STEP_E0
  | .STEP_K0 | .BRINE_CFG | .BRINE_PUB | .BRINE_SCALE | .BRINE_CLEAN | .BRINE_HIST | .BRINE_OVF_LOG | .SORREL_CFG
  | .SORREL_TO | .SORREL_AGREED | .SORREL_PEER | .VAT_SHARE | .ROUTE_SEL => true
  | _ => false

/-- Registers of the register image of R403. [DEDUCED, log entry 67] -/
def Reg.restartOnly : Reg → Bool
  | .RN_BUF_SEL | .PR_WC_SEL | .PR_LAST | .PR_SWEEP_NEXT | .BRINE_SCALE | .BRINE_CLEAN | .BRINE_HIST | .BRINE_OVF_LOG
  | .SHARD_SEL | .SHARD_J0 | .SORREL_AGREED => true
  | _ => false

/-- Bits of a register that a REG record sets. -/
def Reg.imageMask (r : Reg) : Nat := r.row.wr ||| r.row.lock

/-- A violation of a range (0x03) or an alignment (0x04), where the first that is met counts; 0 for none. -/
def fieldViol (range align : Bool) : Nat := if range then 0x03 else if align then 0x04 else 0

/-- What a value of a register breaks by itself: a reason of Table 14.12, 0 for none (the ranges of Tables 6.6, 7.8, 9.11, 10.8,
10.10, 11.8, 12.9, 13.7 and 16.10; R167, R207, R337, R355). [DEDUCED, log entry 56] -/
def State.regViol (s : State) (r : Reg) (die j v : Nat) : Nat :=
  let off (x : Nat) : Nat := fieldViol (decide (25165816 < x)) (x % 8 != 0)
  let addr (region a k : Nat) : Nat := fieldViol (a != 0 && (regionOf a != region || !s.isOwn a)) (a % k != 0)
  match r with
  | .PWR_CFG =>
    let t := bits v 16 8
    let l := bits v 0 16
    fieldViol (decide (t < 70) || decide (95 < t) || decide (l < 400) || decide (750 < l)) false
  | .DMA_CFG => fieldViol (bits v 0 16 == 0) false
  | .DMA_CH_CTRL => fieldViol (if die < 0x40 then decide (16 < bits v 0 5) else bits v 0 5 != 16) false
  | .DIE_HS_WD | .JOB_WD | .HOOP_TO | .STEP_EPS | .PR_SWEEP => fieldViol (v == 0) false
  | .JOB_CTRL => fieldViol (bits v 12 17 == 0) false
  | .BRINE_CFG => fieldViol (decide (24 < bits v 16 5) || bits v 0 16 == 0) false
  | .SORREL_CFG => fieldViol (bits v 0 16 == 0 || bits v 16 6 == 0 || decide (32 < bits v 16 6)) false
  | .BRINE_PUB | .SHARD_PUB => off (bits v 0 25)
  | .VETCH_AUTO => fieldViol (bit v 30 && bits v 12 16 == 0) false
  | .VETCH_BAR_CFG => fieldViol (j == 0 && bits v 8 2 != 3) false
  | .RN_LIST => fieldViol (decide (4096 < bits v 32 16)) (bits v 0 26 % 64 != 0)
  | .RN_TRIG => fieldViol (bits v 16 16 == 0) false
  | .RN_BUF0 | .RN_BUF1 | .PR_WC0 | .PR_WC1 | .PR_GRAD => addr 0 v 256
  | .PR_SORTAB => addr 1 v 256
  | .RN_BUF_LEN | .PR_WC_LEN => fieldViol false (v % 256 != 0)
  | .PR_LIST | .PR_LIST_ALT => fieldViol false (bits v 0 26 % 64 != 0)
  | .PR_DIR_SEM => fieldViol (!DieSet.all.has (bits v 24 8)) false
  | .PR_DIR_RING => fieldViol (bits v 48 16 == 0 || bits v 26 22 == 0) (bits v 0 26 % 256 != 0)
  | .PR_GRAD_RING => fieldViol (decide (bits v 56 3 < 2)) (bits v 0 40 % 256 != 0)
  | .PR_PLEN => fieldViol ((List.range 8).any fun i => decide (64 < bits v (8 * i) 8)) false
  | .PR_CFG => fieldViol (bits v 4 3 == 0 || decide (4 < bits v 4 3)) false
  | .PR_SCHED => fieldViol (bits v 48 16 == 0 || decide (4096 < bits v 48 16)) (bits v 0 26 % 64 != 0)
  | .CAVE_CFG => fieldViol (bit v 16 && bits v 0 16 == 0) false
  | .CAVE_MAP => if 256 < bits v 52 12 then 0x03 else addr 0 (bits v 0 44) 256
  | .VAT_SPILL_BASE => addr 0 v 65536
  | .CAVE_SLOT | .CAVE_HOST | .VAT_SPILL_LEN => fieldViol false (v % 65536 != 0)
  | .VAT_SHARE => if 1024 < bits v 16 11 + bits v 0 11 then 0x06 else 0
  | .SL_CFG => fieldViol (bits v 16 8 == 0 || bits v 0 8 == 0) false
  | .SL_NODE => if bit v 0 = s.twinB then 0 else 0x07
  | .TIER_FAST => if 16515072 < bits v 0 28 + b2n (bit v 32) * 1032192 then 0x06 else 0
  | .TIER_SLOW => if 66060288 < bits v 0 28 + b2n (bit v 32) * 8257536 then 0x06 else 0
  | _ => 0

/-! ### What each record may say -/

/-- MGMT data (Table 15.1). -/
def mgmtViol (d : List Nat) : Nat :=
  let n := nth 0 d 58
  let zero (o k : Nat) : Bool := ((d.drop o).take k).all (· == 0)
  if d.length < 64 then 0x01
  else if n = 0 ∨ 8 < n then 0x03
  else if d.length ≠ 64 + 32 * n then 0x01
  else if !(zero 25 3 && zero 33 1 && zero 59 5) ∨ 1 < nth 0 d 6 ∨ 1 < nth 0 d 7 ∨ 128 < nth 0 d 24 ∨ 32 < nth 0 d 32 ∨
      ofLeBytes ((d.drop 34).take 2) = 0 ∨ 4094 < ofLeBytes ((d.drop 56).take 2) then 0x03
  else 0

/-- A REG record. -/
def State.regRecViol (s : State) (startup : Bool) (target : Nat) (d : List Nat) : Nat :=
  if d.length ≠ 8 then 0x01
  else if 2 ^ 32 ≤ target then 0x02
  else
    match locate target with
    | none => 0x02
    | some (r, die, _, j) =>
      let v := if r.row.w64 then ofLeBytes d else ofLeBytes d % 2 ^ 32
      if !(if startup then r.row.lock != 0 else r.jobSettable) then 0x02
      else if v &&& r.imageMask ≠ v then 0x03
      else s.regViol r die j v

/-- A DATA record: bytes inside one tier or one staging SRAM of this module, outside the operating-system regions (R438). -/
def State.dataViol (s : State) (target : Nat) (d : List Nat) : Nat :=
  let n := d.length
  let staging (o : Nat) : Bool := match sramLoc o with
    | some (.staging _ _) => true
    | _ => false
  if n = 0 then 0
  else if 2 ^ 44 ≤ target + n - 1 ∨ !s.populated target n then 0x02
  else if regionOf target = 2 ∧ !(staging (offOf target) && staging (offOf target + (n - 1))) then 0x02
  else if osRegions target n ≠ [] then 0x05
  else 0

/-- What a record breaks by itself, given the records before it. -/
def State.recViol (s : State) (startup : Bool) (before : List Rec) (r : Rec) : Nat :=
  if r.bad ∨ before.any (fun p => p.typ == 0xFF) then 0x01
  else
    match r.typ with
    | 0x01 => s.regRecViol startup r.target r.data
    | 0x02 => s.dataViol r.target r.data
    | 0x03 =>
      if !startup then 0x02
      else if r.data ≠ [] then 0x01
      else if !DieSet.m.has (r.target / 256) ∨ 23 < r.target % 256 then 0x03
      else 0
    | 0x04 => if !startup then 0x02 else if r.target ≠ 0 then 0x01 else mgmtViol r.data
    | 0x05 => if !startup then 0x02 else if r.target ≠ 0 ∨ r.data.length ≠ 32 then 0x01 else 0
    | 0x06 =>
      if startup then 0x02
      else if r.data.length ≠ 8 then 0x01
      else if !DieSet.all.has (r.target / 65536) ∨ 4095 < r.target % 65536 then 0x03
      else if before.any (fun p => p.typ == 0x06 && p.target == r.target) then 0x08
      else 0
    | 0xFF => if r.target ≠ 0 ∨ r.data ≠ [] then 0x01 else 0
    | _ => 0x01

/-- The records' own violations: index and reason. [DEDUCED, log entry 15] -/
def State.recViols (s : State) (startup : Bool) : List Rec → List Rec → Nat → List (Nat × Nat)
  | _, [], _ => []
  | before, r :: rs, i =>
    let c := s.recViol startup before r
    (if c = 0 then [] else [(i, c)]) ++ s.recViols startup (before ++ [r]) rs (i + 1)

/-- A missing END is reported where it would stand. [DEDUCED, log entry 15] -/
def endViol (rs : List Rec) : List (Nat × Nat) :=
  if rs.any (fun r => r.bad || r.typ == 0xFF) then [] else [(rs.length, 0x01)]

/-- The first violation in record order. -/
def firstViol : List (Nat × Nat) → Option (Nat × Nat)
  | [] => none
  | x :: xs =>
    match firstViol xs with
    | none => some x
    | some y => if y.1 < x.1 then some y else some x

/-! ### Application -/

/-- Apply a REG record. -/
def State.applyReg (s : State) (target v : Nat) : State :=
  match locate target with
  | some (r, die, i, j) => s.setRg r die i j (writeBits (s.rg r die i j) v r.imageMask 0)
  | none => s

/-- Apply the REG, DATA and SEMINIT records of an image, in order. -/
def State.applyRecs (s : State) : List Rec → State
  | [] => s
  | r :: rs =>
    (match r.typ with
      | 0x01 => s.applyReg r.target (ofLeBytes r.data)
      | 0x02 => (s.writeRange r.target r.data).1
      | 0x06 => s.setRg .VETCH_SEM (r.target / 65536) 0 (r.target % 65536) (ofLeBytes (r.data.take 4))
      | _ => s).applyRecs rs

/-- The registers of the register image (R403) at the values from which a job without re-derivation starts (R485). [DEDUCED, log entry 67] -/
def State.fixedStart (s : State) : State :=
  let z := imageRegs.foldl (fun y r => y.setRg r.1 r.2.1 0 r.2.2 (r.1.resetVal r.2.1 r.2.2)) s
  z.setG .BRINE_SCALE (bits (z.g .BRINE_CFG) 16 5)

/-- The last record that writes one of some registers or a byte of some ranges; else the last record of the image. [DEDUCED, log entry 15] -/
def lastNamed (rs : List Rec) (locs : List Nat) (rngs : List (Nat × Nat)) : Nat :=
  let hit (r : Rec) : Bool :=
    (r.typ == 0x01 && locs.contains r.target) ||
      (r.typ == 0x02 && rngs.any fun g => overlaps r.target r.data.length g.1 g.2)
  (rs.zipIdx.foldl (fun z e => if hit e.1 then e.2 else z) (rs.length - 1))

end Sys2Proof.Machine
end

