-- ==== Sys2Proof/Machine/JobLoad.lean ====
section
/-!
DEFINITION. Loading a job: the state every unit takes (R137, R201, R254, R284, R296, R309, R370, R379, R449, R485), and the
configuration check of the job image over the state as it would stand (R425, with every refusal the chapters assign to it).
-/

namespace Sys2Proof.Machine

/-! ### The state a job starts from -/

/-- Whether a register keeps its value when a job is loaded; the occupancy of a Vat that works on is its own. [DEDUCED, log entry 68] -/
def keepsValue (l : Nat) : Bool :=
  match locate l with
  | some (r, _, _, _) => r.row.keep || r == .VAT_OCC
  | none => false

/-- The state of a module as job load leaves it before any record of the image applies. [DEDUCED, log entry 68] -/
def State.jobReset (s : State) : State :=
  let regs := s.regs.filter fun e => keepsValue e.1
  let dmas := s.dmas.filter fun e => e.2.mode != 2 && e.2.mode != 3
  let z : State :=
    { s with
      regs := regs, job := none, svc := .normal, seqs := [], arrays := [], vecs := [], ocache := [], teas := [],
      dmas := dmas, dmaLast := [], semWaits := [], grants := [], autoGen := [], barHeld := [], rootArr := [],
      vmsgs := [], hoops := [], guards := [], faultQ := [], rens := [], presses := [], capture := none, agree := none,
      sorrelLt := 0, jobWdLt := 0, stopping := false, stopLt := 0, stopReply := [], tokens := [], gen := [], batch := [],
      decLt := 0, stalls := [], hsWait := [] }
  let z1 := (List.range 4).foldl (fun (y : State) x => y.setVat x { y.vat x with insts := [] }) z
  (allDies.foldl (fun y d => y.setRg .DIE_FAULT d 0 0 0) z1).fixedStart

/-! ### The queue table (R370 to R372) -/

/-- An entry of the queue table (Table 12.2). -/
structure QEntry where
  upDie : Nat
  upTwin : Nat
  credit : Nat
  downDie : Nat
  downTwin : Nat
  full : Nat
  depth : Nat
  mon : Nat
  slotBytes : Nat
  base : Nat
  rsvd : Nat
deriving DecidableEq, Repr

/-- The fields of an entry. -/
def qEntry (w : BitVec 256) : QEntry :=
  let v := w.toNat
  ⟨bits v 0 8, bits v 8 8, bits v 16 16, bits v 32 8, bits v 40 8, bits v 48 16, bits v 64 16, bits v 80 8, bits v 96 32,
   bits v 128 64, bits v 88 8 + bits v 192 64⟩

/-- Bytes of a queue's ring. -/
def QEntry.bytes (q : QEntry) : Nat := q.depth * q.slotBytes

/-- A field of an entry outside Table 12.2: reason, 0 for none. -/
def QEntry.viol (q : QEntry) : Nat :=
  fieldViol (decide (0x3F < q.upDie) || decide (0x3F < q.downDie) || decide (1 < q.upTwin) || decide (1 < q.downTwin) ||
      decide (4095 < q.credit) || decide (4095 < q.full) || decide (q.depth < 2) || decide (64 < q.depth) ||
      (decide (15 < q.mon) && q.mon != 0xFF) || q.rsvd != 0 ||
      !(decide (q.downTwin * 2 ^ 43 + 2 * 2 ^ 41 + q.downDie * 0x20000000 ≤ q.base) &&
        decide (q.base + q.bytes ≤ q.downTwin * 2 ^ 43 + 2 * 2 ^ 41 + q.downDie * 0x20000000 + 0x18000000)))
    (q.slotBytes % 256 != 0 || q.base % 256 != 0)

/-- The semaphores an entry uses: twin bit, die, semaphore. -/
def QEntry.sems (q : QEntry) : List (Nat × Nat × Nat) := [(q.upTwin, q.upDie, q.credit), (q.downTwin, q.downDie, q.full)]

/-- Set a queue's semaphores and monitor where its dies are this module's. -/
def State.applyQueue (s : State) (q : QEntry) : State :=
  let own := b2n s.twinB
  let s1 := if q.upTwin = own then s.setRg .VETCH_SEM q.upDie 0 q.credit q.depth else s
  let s2 := if q.downTwin = own then s1.setRg .VETCH_SEM q.downDie 0 q.full 0 else s1
  if q.upTwin = own ∧ q.mon < 16 then s2.setRg .VETCH_QMON q.upDie 0 q.mon (2 ^ 31 + q.credit) else s2

/-- Whether some two members of a list at different places stand in a relation. -/
def anyPair {α : Type} (f : α → α → Bool) : List α → Bool
  | [] => false
  | x :: xs => xs.any (fun y => f x y) || anyPair f xs

/-- What a queue table breaks (R371): reasons. [PRESUMED, log entry 33] -/
def State.queueViols (s : State) (nodes : List Nat) (recs : List Rec) (qs : List QEntry) : List Nat :=
  let own := b2n s.twinB
  let node (t : Nat) : Nat := if t = own then s.node else s.twinNode
  let inits := recs.filter fun r => r.typ == 0x06
  (qs.filterMap fun q => if q.viol = 0 then none else some q.viol) ++
  (if anyPair (fun a b => overlaps a.base a.bytes b.base b.bytes) qs then [0x05] else []) ++
  (if anyPair (fun (a b : Nat × Nat × Nat) => a == b) (qs.flatMap QEntry.sems) then [0x08] else []) ++
  (if (qs.flatMap QEntry.sems).any fun m =>
      m.1 == own && inits.any fun r => r.target == m.2.1 * 65536 + m.2.2 then [0x08] else []) ++
  (if qs.any fun q => !(nodes.contains (node q.upTwin) && nodes.contains (node q.downTwin)) then [0x08] else []) ++
  (if anyPair (fun a b => a.upTwin == b.upTwin && a.upDie == b.upDie && a.mon == b.mon && decide (a.mon < 16)) qs
    then [0x08] else [])

/-! ### Checks over the state as it would stand -/

/-- A check: the registers and ranges it names, its reason, and whether the image breaks it. -/
structure Check where
  locs : List Nat
  rngs : List (Nat × Nat)
  reason : Nat
  broken : Bool
deriving DecidableEq, Repr

/-- Location of a module-global register element. -/
def gLoc (r : Reg) (j : Nat) : Nat := loc r 0x60 0 j

/-- Timeouts against the job watchdog (R223, R393). -/
def State.timeoutChecks (t : State) : List Check :=
  let wd := t.g .JOB_WD
  let one (r : Reg) (d j : Nat) : Check := ⟨[loc r d 0 j, gLoc .JOB_WD 0], [], 0x08, decide (wd < t.rg r d 0 j)⟩
  (allDies.flatMap fun d => [one .VETCH_SEM_TO d 0, one .VETCH_BAR_TO d 0]) ++
  ((List.range 16).map fun h => one .HOOP_TO 0x60 h) ++ [one .SORREL_TO 0x60 0, one .CAVE_PROG_TO 0x60 0] ++
  ((List.range 4).map fun x => one .VAT_PROG_TO (0x50 + x) 0)

/-- Barrier contexts and automatic arrivals (R202, R203): the contexts that records name. -/
def State.barrierChecks (t : State) (recs : List Rec) (vatDies : List Nat) : List Check :=
  let autos := (allDies.filter fun d => DieSet.mx.has d).map fun d =>
    (⟨[loc .VETCH_AUTO d 0 0, loc .VETCH_BAR_CFG d 0 0], [], 0x08,
      bit (t.rg .VETCH_AUTO d 0 0) 31 && bits (t.rg .VETCH_BAR_CFG d 0 0) 0 8 == 0⟩ : Check)
  let vats := vatDies.map fun x =>
    (⟨[loc .VETCH_AUTO (0x50 + x) 0 0], [], 0x08, !bit (t.rg .VETCH_AUTO (0x50 + x) 0 0) 31⟩ : Check)
  let named := recs.filterMap fun r =>
    match (if r.typ = 0x01 then locate r.target else none) with
    | some (.VETCH_BAR_CFG, d, _, c) => some (d, c)
    | _ => none
  let scopes := (named.map Prod.snd).eraseDups.map fun c =>
    let ds := ((named.filter fun p => p.2 == c).map Prod.fst).eraseDups
    let take := ds.filter fun d => bits (t.rg .VETCH_BAR_CFG d 0 c) 0 8 != 0
    let scope (d : Nat) : Nat := if c = 0 then 3 else bits (t.rg .VETCH_BAR_CFG d 0 c) 8 2
    (⟨take.map fun d => loc .VETCH_BAR_CFG d 0 c, [], 0x08,
      take.any fun a => scope a != 0 && take.any fun b => scope b != scope a⟩ : Check)
  autos ++ vats ++ scopes

/-- Steps (C, T, K), the publication and update slots, their distinctness, UOFF (R243, R244, R276, R297 to R299, R315). The first refresh
of a restart image for K0 = jT + 1 is that of step jT (Table 13.4, step 8). -/
def State.slotChecks (t : State) (x : JobExtra) (recs : List Rec) : List Check :=
  let cave := t.g .CAVE_CFG
  let c := bits cave 0 16
  let ti := x.interval.toNat
  let d_ := x.rootLag.toNat
  let k := bits (t.g .SORREL_CFG) 0 16
  let eps := t.g .STEP_EPS
  let e0 := t.g .STEP_E0
  let k0 := t.g .STEP_K0
  let root := t.g .ROOT_CFG
  let pr := t.g .PR_CFG
  let rh := bits root 0 4
  let ph := bits pr 0 4
  let d := bits pr 4 3
  let uoff := bits pr 8 8
  let ren := bit root 8
  let pen := bit pr 16
  let named (r : Reg) (h reason : Nat) (ok : Nat → Bool) : Check :=
    ⟨[gLoc r h], [], reason,
      (recs.any fun q => q.typ == 0x01 && q.target == gLoc r h) && !ok (t.rg r 0x60 0 h)⟩
  let pubs := ((enginePairs 4).filter fun p =>
    bits (t.rg .RN_LIST (0x40 + p.1) 0 p.2) 32 16 != 0 && bit (t.rg .RN_TRIG (0x40 + p.1) 0 p.2) 15).length
  let acts := ((enginePairs 8).filter fun p => t.prActive p.1 p.2).length
  let first := Nat.max 1 (ceilDiv (if bit (t.g .RESTART_CTRL) 0 then k0 - 1 else k0) ti)
  [⟨[], [], 0x03, !x.generation && ti == 0⟩,
   ⟨[gLoc .CAVE_CFG 0], [], 0x08, if ti = 0 then c != 0 else c % ti != 0⟩,
   ⟨[gLoc .CAVE_CFG 0, gLoc .SORREL_CFG 0], [], 0x08, k != 0 && c % k != 0⟩,
   ⟨[gLoc .ROOT_CFG 0, gLoc .PR_CFG 0], [], 0x08, ren && pen && rh == ph⟩] ++
  (if pen then
    [⟨[gLoc .PR_CFG 0, gLoc .STEP_EPS 0], [], 0x08,
        decide ((d - 1) * eps + uoff < 2) || decide (eps ≤ uoff) || (decide (2 ≤ d) && uoff != 0)⟩,
     named .HOOP_CFG ph 0x08 fun v => bit v 31 && bit v 30 && bit v 29 && !bit v 28 && decide (acts ≤ bits v 0 11),
     named .HOOP_EC ph 0x08 fun v => v == e0 + d * eps + uoff,
     named .HOOP_PERIOD ph 0x08 fun v => v == eps,
     named .HOOP_TAG ph 0x08 fun v => v == k0]
  else []) ++
  (if ren then
    [⟨[gLoc .ROOT_CFG 0], [], 0x03, d_ == 0 || decide (ti < d_)⟩,
     named .HOOP_CFG rh 0x08 fun v => bit v 31 && bit v 28 && !bit v 30 && decide (pubs ≤ bits v 0 11),
     named .HOOP_PERIOD rh 0x08 fun v => v == ti * eps,
     named .HOOP_EC rh 0x08 fun v => v == e0 + (first * ti + d_ - k0) * eps]
  else [])

/-- The holder group of this module (R365): with P replicas, h holders, g = P / h and this module at a place of replica j, the modules at
that place of replicas j mod g, j mod g + g and so on; none where h does not divide P or no replica has this module. [PRESUMED, log entry 33] -/
def State.holderGroup (t : State) (x : JobExtra) : Option (List Nat) :=
  let reps := x.replicas.map fun r => r.map BitVec.toNat
  let h := (x.holders.map BitVec.toNat).eraseDups.length
  match reps.findIdx? fun r => r.contains t.node with
  | none => none
  | some j =>
    let g := reps.length / h
    if h = 0 ∨ reps.length % h ≠ 0 then none
    else some ((List.range h).map fun i => nth 0x100 (nth [] reps (j % g + i * g)) ((nth [] reps j).idxOf t.node))

/-- Placement, holders and the Sorrel replica set (R364 to R366). -/
def State.placeChecks (t : State) (x : JobExtra) : List Check :=
  let nat (l : List (BitVec 8)) : List Nat := (l.map BitVec.toNat).eraseDups
  let cfg := t.g .SORREL_CFG
  let members := bits cfg 16 6
  let peer (i : Nat) : Nat :=
    let v := t.rg .SORREL_PEER 0x60 0 i
    bits v 16 1 * 128 + bits v 8 6 * 2 + bits v 0 1
  let peers := (List.range members).map peer
  let group := nat x.holders
  let locs := gLoc .SORREL_CFG 0 :: (List.range members).map (gLoc .SORREL_PEER)
  [⟨[], [], 0x08, x.tensors.any fun g => decide (1 < (nat g).length)⟩,
   ⟨[], [], 0x08, x.replicas.any fun g => decide (1 < ((nat g).map (· / 2)).eraseDups.length)⟩,
   ⟨[], [], 0x08, x.replicas != [] &&
     match t.holderGroup x with
     | none => true
     | some g => g.length != group.length || !(g.all (group.contains ·))⟩,
   ⟨locs, [], 0x08,
     if members = 1 then decide (1 < group.length)
     else !(members == group.length && peers.all (group.contains ·) && group.all (peers.contains ·) &&
       nth 0x100 peers (bits cfg 24 5) == t.node)⟩]

/-- A read of memory that an image names: refused where it cannot be read (R425). -/
def State.readCheck (t : State) (locs : List Nat) (addr n : Nat) : Check :=
  ⟨locs, [(addr, n)], 0x0A,
    match t.readRange addr n with
    | (_, .error .readError) => true
    | _ => false⟩

/-- The arrays of update-list entries of an engine under a map: address and length. -/
def State.prEntries (t : State) (m : Fin 12) (e : Fin 8) (map : Nat) : List PrEntry :=
  (List.range (bits (t.prListOf m e map) 32 16)).map fun i => prEntry (t.bytes (t.prEntryAddr m e map i) 64)

/-- The update lists of an engine (R283, R286): each entry readable and valid, the ring deep enough. -/
def State.pressChecks (t : State) (m : Fin 12) (e : Fin 8) : List Check :=
  let d := 0x40 + m.val
  let lag := Nat.max 2 (bits (t.g .PR_CFG) 4 3)
  let ring : Check :=
    ⟨[loc .PR_GRAD_RING d 0 e, gLoc .PR_CFG 0], [], 0x03, decide (bits (t.rg .PR_GRAD_RING d 0 e) 56 3 < lag)⟩
  let of_ (map : Nat) : List Check :=
    let l := loc (if map = 0 then .PR_LIST else .PR_LIST_ALT) d 0 e
    (List.range (bits (t.prListOf m e map) 32 16)).flatMap fun i =>
      let a := t.prEntryAddr m e map i
      let x := prEntry (t.bytes a 64)
      [t.readCheck [l] a 64,
       ⟨[l, loc .PR_PLEN d 0 e, loc .PR_WC_LEN d 0 e, loc .PR_GRAD_RING d 0 e], [(a, 64)], 0x03,
        !t.inStaging m a 64 || t.prEntryBad m e x⟩]
  if t.prActive m e then ring :: (of_ 0 ++ of_ 1) else []

/-- Whether an FP32 pattern lies in 0 ≤ β < 1. -/
def betaOk (v : Nat) : Bool := v == 2 ^ 31 || decide (v < 0x3F800000)

/-- The refresh list of an engine (R246, R257, R264): entries, problems and decay factors. -/
def State.rennetChecks (t : State) (m : Fin 12) (e : Fin 4) : List Check :=
  let d := 0x40 + m.val
  let l := loc .RN_LIST d 0 e
  (List.range (t.rnCount m e)).flatMap fun i =>
    let a := t.rnEntryAddr m e i
    let x := rnEntry (t.bytes a 64)
    let beta (b : Nat) : Check := ⟨[l], [(b, 256)], 0x03, t.inTier b 256 && !betaOk (ofLeBytes (t.bytes (b + 8) 4))⟩
    let prob :=
      if x.mode ≠ 1 ∧ !t.rnEntryBad m e x then
        match t.ldltProblem m e x with
        | (_, .ok p) =>
          [(⟨[l, loc .RN_BUF_LEN d 0 e], [(a, 64), (x.src, 64)], 0x03,
            decide (t.rg .RN_BUF_LEN d 0 e < x.outOff + x.outLen (some p))⟩ : Check)]
        | (_, .fault c) => [(⟨[l], [(x.src, 64)], if c = 0x02 then 0x0A else 0x03, true⟩ : Check)]
      else []
    [t.readCheck [l] a 64,
     ⟨[l, loc .RN_BUF_LEN d 0 e], [(a, 64)], 0x03, !t.inStaging m a 64 || t.rnEntryBad m e x⟩] ++ prob ++
    (if x.intake then [beta x.record, beta x.src] else [])

/-- The buffer pairs that the job uses: engine locations, addresses, length, M-die, and whether the engine has entries. -/
def State.pairList (t : State) : List (List Nat × Nat × Nat × Nat × Nat × Bool) :=
  ((enginePairs 4).map fun p =>
    let d := 0x40 + p.1
    ([loc .RN_BUF0 d 0 p.2, loc .RN_BUF1 d 0 p.2, loc .RN_BUF_LEN d 0 p.2], t.rg .RN_BUF0 d 0 p.2,
      t.rg .RN_BUF1 d 0 p.2, t.rg .RN_BUF_LEN d 0 p.2, p.1, bits (t.rg .RN_LIST d 0 p.2) 32 16 != 0)) ++
  ((enginePairs 8).map fun p =>
    let d := 0x40 + p.1
    ([loc .PR_WC0 d 0 p.2, loc .PR_WC1 d 0 p.2, loc .PR_WC_LEN d 0 p.2], t.rg .PR_WC0 d 0 p.2, t.rg .PR_WC1 d 0 p.2,
      t.rg .PR_WC_LEN d 0 p.2, p.1, t.prActive p.1 p.2))

/-- Buffer pairs lie in their part, do not overlap, and are there where an engine has entries (R271, R300). -/
def State.pairChecks (t : State) : List Check :=
  let ps := t.pairList.filter fun p => p.2.2.2.1 != 0 || p.2.2.2.2.2
  let bufs := ps.flatMap fun p => [(p.1, p.2.1, p.2.2.2.1), (p.1, p.2.2.1, p.2.2.2.1)]
  (ps.map fun p =>
    (⟨p.1, [], 0x03, p.2.2.2.1 == 0 || !(t.inLocalPart 0 p.2.2.2.2.1 p.2.1 p.2.2.2.1 &&
      t.inLocalPart 0 p.2.2.2.2.1 p.2.2.1 p.2.2.2.1)⟩ : Check)) ++
  [⟨bufs.flatMap Prod.fst, [], 0x05, anyPair (fun (a b : List Nat × Nat × Nat) => overlaps a.2.1 a.2.2 b.2.1 b.2.2) bufs⟩]

/-- The gradient rings in use: location, address, bytes. -/
def State.ringList (t : State) : List (Nat × Nat × Nat) :=
  ((enginePairs 8).filter fun p => t.prActive p.1 p.2).map fun p =>
    let d := 0x40 + p.1
    let r := t.rg .PR_GRAD_RING d 0 p.2
    (loc .PR_GRAD d 0 p.2, t.rg .PR_GRAD d 0 p.2, bits r 56 3 * bits r 0 40)

/-- The cave map as it would stand. -/
def State.mapRanges (t : State) : List (Nat × Nat) :=
  let v := t.g .CAVE_MAP
  (List.range (bits v 52 12)).map fun i =>
    let b := t.bytes (bits v 0 44 + 16 * i) 16
    (ofLeBytes (b.take 8), ofLeBytes (b.drop 8))

/-- Whether a range is covered by others, at most `fuel` of them in turn. -/
def covered (rs : List (Nat × Nat)) : Nat → Nat → Nat → Bool
  | 0, _, n => n == 0
  | fuel + 1, a, n =>
    n == 0 ||
      match rs.find? fun r => decide (r.1 ≤ a) && decide (a < r.1 + r.2) with
      | some r => covered rs fuel (r.1 + r.2) (n - (r.1 + r.2 - a))
      | none => false

/-- Ranges a cave map must hold (R396). -/
def State.mustKeep (t : State) : List (Nat × Nat) :=
  (enginePairs 8).flatMap (fun p =>
    let m : Fin 12 := Fin.ofNat 12 p.1
    let e : Fin 8 := Fin.ofNat 8 p.2
    (t.prEntries m e 0 ++ t.prEntries m e 1).flatMap fun x =>
      [(x.master, 4 * x.count), (x.mom1, 4 * x.count), (x.mom2, 4 * x.count)]) ++
  (enginePairs 4).flatMap (fun p =>
    (List.range (t.rnCount p.1 p.2)).flatMap fun i =>
      let x := rnEntry (t.bytes (t.rnEntryAddr p.1 p.2 i) 64)
      if x.mode = 1 then (x.src, slotBytes) :: (if x.intake then [(x.record, slotBytes)] else []) else []) ++
  ((t.pairList.take 48).flatMap fun p => [(p.2.1, p.2.2.2.1), (p.2.2.1, p.2.2.2.1)]) ++
  (t.ringList.map fun r => (r.2.1, r.2.2))

/-- The parts of a cave slot: slow and fast, address and length. -/
def State.slotParts (t : State) (r : Reg) (i : Nat) : List (Nat × Nat) :=
  let w (j : Nat) : Nat := t.rg r 0x60 i j
  [(w 0, w 1), (w 2, w 3)]

/-- Every location of a slot register. -/
def slotLocs (r : Reg) (i : Nat) : List Nat := (List.range 4).map fun j => loc r 0x60 i j

/-- The cave: map and capacity, also of a map that no capture uses yet; shares, lags and holders where capture is enabled; hosted slots
(R396, R397, R401, R405). -/
def State.caveChecks (t : State) (x : JobExtra) : List Check :=
  let cfg := t.g .CAVE_CFG
  let v := t.g .CAVE_MAP
  let rs := t.mapRanges
  let mapLoc := gLoc .CAVE_MAP 0
  let mem := [(bits v 0 44, 16 * bits v 52 12)]
  let total := rs.foldl (fun z r => z + r.2) 0
  let need := total + 65536 + 8 * rs.foldl (fun z r => z + ceilDiv r.2 1048576) 0
  let d := bits (t.g .PR_CFG) 4 3
  let lag := x.rootLag.toNat
  let other := x.holders.any fun h => h.toNat / 2 != t.node / 2
  let hosted := t.slotParts .CAVE_HOST 0 ++ t.slotParts .CAVE_HOST 1
  let own := (t.pairList.flatMap fun p => [(p.2.1, p.2.2.2.1), (p.2.2.1, p.2.2.2.1)]) ++
    (t.ringList.map fun r => (r.2.1, r.2.2)) ++
    (List.range 4).map fun i => (t.rg .VAT_SPILL_BASE (0x50 + i) 0 0, t.rg .VAT_SPILL_LEN (0x50 + i) 0 0)
  let meet (a b : Nat × Nat) : Bool := a.2 != 0 && b.2 != 0 && overlaps a.1 a.2 b.1 b.2
  let hostLocs := slotLocs .CAVE_HOST 0 ++ slotLocs .CAVE_HOST 1
  let host : List Check :=
    [⟨hostLocs, [], 0x05, anyPair meet hosted⟩,
     ⟨mapLoc :: hostLocs, mem, 0x05, hosted.any fun h => rs.any (meet h) || own.any (meet h)⟩,
     ⟨hostLocs, [], 0x03, hosted.zipIdx.any fun h =>
       h.1.2 != 0 && !(t.populated h.1.1 h.1.2 && regionOf h.1.1 == (if h.2 % 2 = 0 then 1 else 0))⟩]
  let map_ : List Check :=
    [t.readCheck [mapLoc] (bits v 0 44) (16 * bits v 52 12),
     ⟨[mapLoc], mem, 0x03, rs.any fun r => decide (2 ^ 40 < r.2) || decide (2 ^ 44 ≤ r.1) ||
       !((List.range 12).any fun m => t.inLocalPart (regionOf r.1) m r.1 r.2)⟩,
     ⟨[mapLoc], mem, 0x04, rs.any fun r => r.2 % 256 != 0⟩,
     ⟨[mapLoc], mem, 0x05, anyPair meet rs⟩,
     ⟨[mapLoc], mem, 0x08, t.mustKeep.any fun r => !covered rs (rs.length + 1) r.1 r.2⟩,
     ⟨mapLoc :: slotLocs .CAVE_SLOT 0, mem, 0x06, decide (t.rg .CAVE_SLOT 0x60 0 1 + t.rg .CAVE_SLOT 0x60 0 3 < need)⟩,
     ⟨mapLoc :: slotLocs .CAVE_SLOT 1, mem, 0x06, decide (t.rg .CAVE_SLOT 0x60 1 1 + t.rg .CAVE_SLOT 0x60 1 3 < need)⟩]
  let capture : List Check :=
    [⟨gLoc .CAVE_CFG 0 :: (List.range 4).map fun i => loc .VAT_SHARE (0x50 + i) 0 0, [], 0x08,
       (List.range 4).any fun i => bits (t.rg .VAT_SHARE (0x50 + i) 0 0) 16 11 == 0⟩,
     ⟨[gLoc .CAVE_CFG 0, gLoc .PR_CFG 0], [], 0x08,
       decide (3 ≤ d) && !(decide (2 ≤ lag) && decide (lag ≤ x.interval.toNat + 3 - d))⟩,
     ⟨[gLoc .CAVE_CFG 0], [], 0x08, x.nodes.any (fun n => n.toNat == t.twinNode) && !other⟩]
  (if bit cfg 16 || bits v 52 12 != 0 then map_ else []) ++ (if bit cfg 16 then capture else []) ++ host

/-- Nothing that the job places lies over an operating-system region (R438). -/
def State.osChecks (t : State) (x : JobExtra) : List Check :=
  let one (locs : List Nat) (a n : Nat) : Check := ⟨locs, [], 0x05, n != 0 && t.isOwn a && osRegions a n != []⟩
  (t.pairList.flatMap fun p => [one p.1 p.2.1 p.2.2.2.1, one p.1 p.2.2.1 p.2.2.2.1]) ++
  (t.ringList.map fun r => one [r.1] r.2.1 r.2.2) ++ (t.mapRanges.map fun r => one [gLoc .CAVE_MAP 0] r.1 r.2) ++
  [one [gLoc .CAVE_MAP 0] (bits (t.g .CAVE_MAP) 0 44) (16 * bits (t.g .CAVE_MAP) 52 12)] ++
  ((List.range 2).flatMap fun i => (t.slotParts .CAVE_HOST i).map fun p => one (slotLocs .CAVE_HOST i) p.1 p.2) ++
  [one [] x.cacheBase.toNat x.cachePool.toNat, one [] x.tokenBase.toNat x.tokenLen.toNat]

/-- DEC_MAX_ROWS of a job, 256 where it gives none (Table 12.4). -/
def decRows (x : JobExtra) : Nat := (x.maxRows.map BitVec.toNat).getD 256

/-- DEC_WAIT of a job, 2,000 lt where it gives none (Table 12.4). -/
def decWaitOf (x : JobExtra) : Nat := (x.decWait.map BitVec.toNat).getD 2000

/-- Decode parameters of a generation job, and the shard maps (R377, R382). -/
def State.restChecks (t : State) (x : JobExtra) : List Check :=
  let alt := (enginePairs 8).any fun p => bits (t.prListOf p.1 p.2 1) 32 16 != 0
  let locs := (enginePairs 8).flatMap fun p => [loc .PR_LIST (0x40 + p.1) 0 p.2, loc .PR_LIST_ALT (0x40 + p.1) 0 p.2]
  [⟨locs, [], 0x08, alt && (enginePairs 8).any fun p =>
      (bits (t.prListOf p.1 p.2 0) 32 16 != 0) != (bits (t.prListOf p.1 p.2 1) 32 16 != 0)⟩] ++
  (if x.generation then
    [⟨[], [], 0x03, decide (decRows x < 32) || decide (4096 < decRows x) || decWaitOf x == 0 ||
        !(regionOf x.cacheBase.toNat == 0 && t.populated x.cacheBase.toNat (Nat.max 1 x.cachePool.toNat))⟩,
     ⟨[], [], 0x04, x.cachePool.toNat % 256 != 0 || x.cacheBase.toNat % 256 != 0⟩]
  else [])

/-- A REG record of the register image in an image that is no restart image (R485). [DEDUCED, log entry 67] -/
def State.restartViols (t : State) (recs : List Rec) : List (Nat × Nat) :=
  if bit (t.g .RESTART_CTRL) 0 then []
  else recs.zipIdx.filterMap fun e =>
    match (if e.1.typ = 0x01 then locate e.1.target else none) with
    | some (r, _, _, _) => if r.restartOnly then some (e.2, 0x02) else none
    | none => none

/-- Every check over the state as it would stand. [PRESUMED, log entry 33] -/
def State.jobChecks (t : State) (x : JobExtra) (recs : List Rec) : List Check :=
  t.timeoutChecks ++ t.barrierChecks recs (x.vatDies.map fun d => d.val) ++ t.slotChecks x recs ++ t.placeChecks x ++
  (enginePairs 8).flatMap (fun p => t.pressChecks (Fin.ofNat 12 p.1) (Fin.ofNat 8 p.2)) ++
  (enginePairs 4).flatMap (fun p => t.rennetChecks (Fin.ofNat 12 p.1) (Fin.ofNat 4 p.2)) ++ t.pairChecks ++ t.caveChecks x ++
  t.osChecks x ++ t.restChecks x

/-- The state as it would stand once the image has applied. -/
def State.jobTrial (s : State) (x : JobExtra) (recs : List Rec) : State :=
  let z := s.jobReset.applyRecs recs
  let restart := bit (z.g .RESTART_CTRL) 0
  let z1 := if restart then z else z.fixedStart
  (x.queues.map qEntry).foldl State.applyQueue z1

/-- The first violation of a job image (R425): record index and reason. What the image gives beside its records counts with its last
record. [DEDUCED, log entry 15] -/
def State.jobRefusal (s : State) (image : List Nat) (x : JobExtra) : Option (Nat × Nat) :=
  let recs := imageRecs image
  let own := s.recViols false [] recs 0 ++ endViol recs
  let t := s.jobTrial x ((recs.zipIdx.filter fun e => !own.any fun v => v.1 == e.2).map Prod.fst)
  let last := recs.length - 1
  let cross := (t.jobChecks x recs).filterMap fun c =>
    if c.broken then some (lastNamed recs c.locs c.rngs, c.reason) else none
  let queues := (s.queueViols (s.node :: x.nodes.map BitVec.toNat) recs (x.queues.map qEntry)).map fun c => (last, c)
  firstViol (own ++ t.restartViols recs ++ cross ++ queues)

/-! ### Acceptance -/

/-- Whether a capturing module's slots differ from those that its twin hosts (R397). -/
def State.hostDiffers (s : State) (twinHost : Option (List (BitVec 64))) : Bool :=
  bit (s.g .CAVE_CFG) 16 && twinHost.map (fun l => l.map BitVec.toNat) !=
    some ((List.range 2).flatMap fun i => (List.range 4).map fun j => s.rg .CAVE_SLOT 0x60 i j)

/-- Whether captures cannot run: the slots differ from the twin's, or the twin is fenced (R397). -/
def State.caveMismatch (s : State) (twinHost : Option (List (BitVec 64))) : Bool :=
  bit (s.g .TWIN_FENCE) 0 || s.hostDiffers twinHost

/-- The job record of an accepted image: the east half holds the barrier roots, its first step is k0, the slots differ. -/
def jobOf (x : JobExtra) (east : Bool) (k0 : Nat) (differs : Bool) : Job :=
  let nat (l : List (BitVec 8)) : List Nat := l.map BitVec.toNat
  { generation := x.generation, root := x.root.toNat, nodes := nat x.nodes,
    contexts := x.contexts.map fun c => (c.1.val, nat c.2), barRootEast := east, maxRows := decRows x,
    decWait := decWaitOf x, cachePool := x.cachePool.toNat, cacheBase := x.cacheBase.toNat,
    tokenBase := x.tokenBase.toNat, tokenLen := x.tokenLen.toNat,
    tokenSem := x.tokenSem.map fun t => (t.1.code, t.2.val), tokenNext := k0, slotsDiffer := differs, cacheBytes := x.cacheBytes.toNat,
    interval := x.interval.toNat, rootLag := x.rootLag.toNat, started := false, stopped := false }

/-- Units begin: Rennet engines with entries wait for their trigger, Press engines for their first step, gated automatic arrivals for
their gate (R203, R255, R296). -/
def State.jobArm (s : State) : State :=
  let s1 := (enginePairs 4).foldl (fun z p => if z.rnCount p.1 p.2 = 0 then z else z.rennetArm p.1 p.2) s
  let k0 := s.g .STEP_K0
  let s2 := (enginePairs 8).foldl (fun z p =>
    if z.prActive p.1 p.2 then (z.setPrState p.1 p.2 1).setPress p.1 p.2 { PressS.init with step := k0 } else z) s1
  allDies.foldl State.autoArm s2

/-- The words written at job load into the scratchpads: the scale where b(STEP_K0) is visible already (R309), the shard word
(R379). -/
def State.jobPublish (s : State) : State :=
  let scale := s.g .STEP_E0 == 0
  let map := bits (s.g .SHARD_SEL) 0 1 + bits (s.g .SHARD_J0) 0 48 * 2 ^ 16
  (List.range 64).foldl (fun z d =>
    let y := if scale then z.publish d (bits (z.g .BRINE_PUB) 0 25) z.scaleWord else z
    y.publish d (bits (y.g .SHARD_PUB) 0 25) map) s

/-- The image measured and its records applied (R405, R457). -/
def State.jobMeasured (s : State) (image : List Nat) (x : JobExtra) : State :=
  let digest := shakeBytes image
  ((s.mrExtend 6 digest).setDigest .JOB_DIGEST 0 digest).jobTrial x (imageRecs image)

/-- What the headers of this module's slots in the twin hold, where the twin has told it (R401). -/
def State.learnSlots (s : State) (x : JobExtra) : State :=
  match x.twinSlots with
  | some (a, b) => { s with slots := (⟨a.1.toNat, a.2.toNat⟩, ⟨b.1.toNat, b.2.toNat⟩) }
  | none => s

/-- The registers that the load itself sets after the records. -/
def State.jobStarted (s : State) (x : JobExtra) : State :=
  let z := s.learnSlots x
  let s1 := z.setG .CAVE_STATUS (setBits (z.g .CAVE_STATUS) 3 1 (b2n (z.caveMismatch x.twinHost)))
  (s1.brineRecord (s1.g .STEP_K0) (bits (s1.g .BRINE_SCALE) 0 5)).jobPublish

/-- An accepted job image is loaded: measured, applied, and every unit made ready. -/
def State.jobAccept (s : State) (image : List Nat) (x : JobExtra) : State :=
  let s1 := (s.jobMeasured image x).jobStarted x
  ({ s1 with job := some (jobOf x (bit (s1.g .LEASE_STATUS) 0) (s1.g .STEP_K0) (s1.hostDiffers x.twinHost)) } : State).jobArm

end Sys2Proof.Machine
end

