-- ==== Sys2Proof/Machine/Batch.lean ====
section
/-!
DEFINITION. The batch scheduler of decode and the token buffers (R24, R29, R382 to R384, R450), and the replies of the management
protocol (R446, R448).
-/

namespace Sys2Proof.Machine

/-! ### Replies (R446) -/

/-- Reply to a request: its TYPE with the reply bit. -/
def State.reply (s : State) (q : Req) (typ status : Nat) (body : List Nat) : State :=
  s.mgmtOut q.session.val (0x8000 + typ) status q.id.toNat body

/-- Whether a session is open. -/
def State.sessionOpen (s : State) (n : Nat) : Bool := s.sessions.any fun x => x.id == n

/-- A request of a session reaches the module: only an open session carries one. -/
def State.asks (s : State) (q : Req) (serve : State) : State := if s.sessionOpen q.session.val then serve else s

/-- A request that is not served in start-up mode or under fallback settings (R448). -/
def State.asksNormal (s : State) (q : Req) (typ : Nat) (serve : State) : State :=
  s.asks q (if s.svc = .startup ∨ s.fallback = true then s.reply q typ 0x3 [] else serve)

/-- Change a session. -/
def State.onSession (s : State) (n : Nat) (f : Session → Session) : State :=
  { s with sessions := s.sessions.map fun x => if x.id = n then f x else x }

/-! ### Cache regions (R383) -/

/-- Bytes of a request's cache region: its prompt and its largest permitted number of new tokens, in whole blocks. -/
def regionBytes (j : Job) (prompt maxNew : Nat) : Nat := alignUp ((prompt + maxNew) * j.cacheBytes) 256

/-- The lowest free place in the pool for `n` bytes, from `at_` on. [DEDUCED, log entry 71] -/
def poolPlace (j : Job) (used : List (Nat × Nat)) (n : Nat) : Nat → Nat → Option Nat
  | 0, _ => none
  | fuel + 1, at_ =>
    if j.cachePool < at_ + n then none
    else
      match used.find? fun u => overlaps at_ n u.1 u.2 with
      | some u => poolPlace j used n fuel (u.1 + u.2)
      | none => some at_

/-- Allocate regions in arrival order, without overtaking. [DEDUCED, log entry 71] -/
def admitGen (j : Job) : List (Nat × Nat) → List GenReq → List GenReq
  | _, [] => []
  | used, g :: gs =>
    if g.region.isSome || g.inBatch then g :: admitGen j used gs
    else
      let n := regionBytes j g.prompt.length g.maxNew
      match poolPlace j used n (used.length + 1) 0 with
      | some a => { g with region := some (a, n) } :: admitGen j ((a, n) :: used) gs
      | none => g :: gs

/-- Allocate what can be allocated now. -/
def State.genAdmit (s : State) : State :=
  match s.job with
  | some j => { s with gen := admitGen j (s.gen.filterMap GenReq.region) s.gen }
  | none => s

/-! ### Batches (R29) -/

/-- Requests that wait for the next batch. -/
def State.genHeld (s : State) : Nat := (s.gen.filter fun g => g.region.isSome && !g.inBatch).length

/-- Whether a batch is in progress. -/
def State.batchRuns (s : State) : Bool := s.gen.any (·.inBatch)

/-- Mark the first `n` requests that hold a region. [DEDUCED, log entry 71] -/
def markBatch : Nat → List GenReq → List GenReq
  | 0, gs => gs
  | _ + 1, [] => []
  | n + 1, g :: gs => if g.region.isSome then { g with inBatch := true } :: markBatch n gs else g :: markBatch (n + 1) gs

/-- Rows of a pass at least: absent ones are masked and hold zeros (R29). -/
def minRows : Nat := 32

/-- The rows of a pass over the requests in the batch. [DEDUCED, log entry 71] -/
def batchRows (gs : List GenReq) : List (Option (Nat × Nat × Nat)) :=
  let rows := (gs.filter (·.inBatch)).map fun g => some (g.session, g.id, g.pos)
  rows ++ List.replicate (minRows - rows.length) none

/-- Issue a batch with the rows held, at most DEC_MAX_ROWS (R382). -/
def State.issueBatch (s : State) : State :=
  match s.job with
  | some j =>
    let gs := markBatch j.maxRows s.gen
    { s with gen := gs, batch := batchRows gs, decLt := 0 }
  | none => s

/-- The wait ends with the last held request. -/
def State.waitReset (s : State) : State := if s.genHeld = 0 then { s with decLt := 0 } else s

/-- Issue a batch as soon as one would have at least 32 rows. -/
def State.genIssue (s : State) : State := if !s.batchRuns && decide (minRows ≤ s.genHeld) then s.issueBatch else s

/-- End a request's stream (R446): a message with STATUS 0 and LENGTH 0. -/
def State.genEnd (s : State) (g : GenReq) : State := s.mgmtOut g.session 0x8021 0 g.id []

/-- GEN_REQUEST (R383). -/
def execGenRequest (q : Req) (seed : BitVec 64) (maxNew : BitVec 32) (prompt : List (BitVec 32)) (s : State) :
    Host.Outcome State Fault Refusal :=
  .next (s.asksNormal q 0x21 (
    match s.job with
    | none => s.reply q 0x21 0x5 []
    | some j =>
      if !j.generation then s.reply q 0x21 0x5 []
      else if j.cachePool < regionBytes j prompt.length maxNew.toNat then s.reply q 0x21 0x8 []
      else if maxNew = 0 then s.reply q 0x21 0 []
      else
        let g : GenReq := ⟨q.session.val, q.id.toNat, seed.toNat, maxNew.toNat, 0, prompt.map BitVec.toNat, none, false⟩
        ({ s with gen := s.gen ++ [g] } : State).genAdmit.genIssue))

/-- DECODE_WAIT_EXPIRY (R29). -/
def execDecodeWaitExpiry (s : State) : Host.Outcome State Fault Refusal :=
  match s.job with
  | some j => .next (if j.decWait ≤ s.decLt ∧ s.genHeld ≠ 0 ∧ s.batchRuns = false then s.issueBatch else s)
  | none => .next s

/-- The requests of a batch take their tokens in order: each is sent with its position; a request that is finished, or has all its
tokens, ends and frees its region; the others go back to the queue. [DESIGN CHOICE, log entry 60; DEDUCED, log entry 71] -/
def State.batchTokens (s : State) : List GenReq → List (BitVec 32 × Bool) → State × List GenReq
  | [], _ => (s, [])
  | g :: gs, toks =>
    if !g.inBatch then
      let (z, l) := s.batchTokens gs toks
      (z, g :: l)
    else if g.region.isNone then s.batchTokens gs toks.tail
    else
      let (o, s1) := s.freshVal
      let (t, fin) := toks.head?.getD (o.setWidth 32, false)
      let s2 := s1.mgmtOut g.session 0x8021 0 g.id (leBytes 4 g.pos ++ leBytes 4 t.toNat)
      if fin || decide (g.maxNew ≤ g.pos + 1) then (s2.genEnd g).batchTokens gs toks.tail
      else
        let (z, l) := s2.batchTokens gs toks.tail
        (z, { g with pos := g.pos + 1, inBatch := false } :: l)

/-- DECODE_BATCH_COMPLETE (R29): a token by request of the batch, and whether it ends the request. -/
def execDecodeBatchComplete (toks : List (BitVec 32 × Bool)) (s : State) : Host.Outcome State Fault Refusal :=
  if !s.batchRuns then .next s
  else
    let (z, l) := s.batchTokens s.gen toks
    .next ({ z with gen := l, batch := [] } : State).genAdmit.genIssue

/-- Drop a request: one in the batch in progress keeps its row, whose token is discarded. -/
def dropGen (hit : GenReq → Bool) (gs : List GenReq) : List GenReq :=
  gs.filterMap fun g => if hit g then (if g.inBatch then some { g with region := none } else none) else some g

/-- GEN_CANCEL: the request leaves its next batch, its stream ends, its cache region is freed (Table 15.2). -/
def execGenCancel (q : Req) (target : BitVec 64) (s : State) : Host.Outcome State Fault Refusal :=
  .next (s.asksNormal q 0x23 (
    let hit (g : GenReq) : Bool :=
      g.session == q.session.val && g.id == target.toNat && (g.region.isSome || !g.inBatch)
    let s1 := (s.gen.filter hit).foldl State.genEnd s
    (({ s1 with gen := dropGen hit s1.gen } : State).reply q 0x23 0 []).genAdmit.genIssue.waitReset))

/-! ### Token buffers (R24, R450) -/

/-- Whether a step has begun: it lies before the first step whose tokens the operating system has still to copy. [DESIGN CHOICE, log entry 86] -/
def State.stepBegun (_s : State) (j : Job) (k : Nat) : Bool := decide (k < j.tokenNext)

/-- Whether the tokens kept for a step are all of it: the region holds one step's tokens. [DESIGN CHOICE, log entry 86] -/
def State.tokensWhole (s : State) (j : Job) (k : Nat) : Bool :=
  let now := s.tokens.filter fun t => t.step == k
  covered (now.map fun t => (t.off, t.toks.length)) (now.length + 1) 0 (j.tokenLen / 4)

/-- The operating system of the half in charge copies a step's tokens into the region that the job image names, once the boundary of
the step is visible and every token of it is there, and then signals the first stage (R24, R450). Until then the step does not begin. [DESIGN CHOICE, log entry 86] -/
def State.copyTokens (s : State) : State :=
  match s.job with
  | none => s
  | some j =>
    let k := j.tokenNext
    if j.generation || !j.started || decide ((s.epochOf s.headDie : Int) < s.boundary k) || !s.tokensWhole j k ||
        s.guarded j.tokenBase j.tokenLen then s
    else
      let now := s.tokens.filter fun t => t.step == k
      let s1 : State := { s with
        tokens := s.tokens.filter fun t => t.step != k
        job := some { j with tokenNext := k + 1 } }
      let s2 := now.foldl (fun z t =>
        (z.memWrite (.cc (bit (z.g .LEASE_STATUS) 0)) (j.tokenBase + 4 * t.off) (t.toks.flatMap (leBytes 4))).1) s1
      match j.tokenSem with
      | some (d, i) => s2.signal s2.headDie false d i 1
      | none => s2

/-- TOKENS (R450): the tokens are kept in the buffer of their step, until they are copied into the region that the job image
names. -/
def execTokens (q : Req) (step off : BitVec 64) (toks : List (BitVec 32)) (s : State) : Host.Outcome State Fault Refusal :=
  .next (s.asksNormal q 0x20 (
    match s.job with
    | none => s.reply q 0x20 0x5 []
    | some j =>
      if j.generation then s.reply q 0x20 0x5 []
      else if s.stepBegun j step.toNat then s.reply q 0x20 0x7 []
      else if j.tokenLen < 4 * (off.toNat + toks.length) then s.reply q 0x20 0xC []
      else
        ({ s with tokens := s.tokens ++ [⟨step.toNat, off.toNat, toks.map BitVec.toNat⟩] } : State).reply q 0x20 0 []))

end Sys2Proof.Machine
end

