-- ==== Sys2Proof/Machine/Startup.lean ====
section
/-!
DEFINITION. Start-up from release of reset to normal service or a failing step (R415 to R422, R424 to R428, R433), and the events
of the power inputs and pins that reset the module or release its GOOD signals (R468, R469, R476).
-/

namespace Sys2Proof.Machine

/-! ### What start-up records -/

/-- Store a register in the security block copies of both halves. [DEDUCED, log entry 37] -/
def State.setBoth (s : State) (r : Reg) (v : Nat) : State := (s.setRg r 0x50 0 0 v).setRg r 0x52 0 0 v

/-- BOOT_STATUS of a step with its cause and the slots' results (Table 14.10). -/
def bootWord (done step cause slot0 slot1 : Nat) : Nat :=
  done * 2 ^ 63 + step * 2 ^ 40 + cause * 2 ^ 32 + slot1 * 2 ^ 12 + slot0 * 2 ^ 8

/-- Start-up fails in a step (R415): it stays in start-up mode, and the Rind alert BOOT is set (Table 15.6). [DEDUCED, log entry 54] -/
def State.bootFail (s : State) (step cause slot0 slot1 : Nat) : State :=
  (s.setBoth .BOOT_STATUS (bootWord 0 step cause slot0 slot1)).alert 0

/-- Scratchpad, command memory, staging SRAM and reduction memory are cleared to zero with valid SEC-DED codes (Table 14.1, step 2). -/
def State.zeroSrams (s : State) : State :=
  { s with mem := s.mem.filter fun e => decide (regionOf e.1 < 2), ecc := [] }

/-- The state sampled from the straps at the rising edge of RESET_N (R389, R462): twin A holds the board lease, the strapped half
the half lease; MAIN_GOOD is released; the twin letter stands in SL_NODE bit [0] (R387). -/
def State.strapped (s : State) (b : Boot) : State :=
  (({ s with twinB := b.twinB, strapEast := b.east, resetN := true, mainGood := true } : State).setG .LEASE_STATUS
    (b2n b.east + (if b.twinB then 0 else 8))).setG .SL_NODE (b2n b.twinB)

/-! ### Steps 5 to 7: measurement and slot selection -/

/-- Try slots in order (R420): the selected one, and the result code of each slot tried. -/
def State.trySlots (s : State) (bad : List Nat) : List Nat → Option Nat × List (Nat × Nat)
  | [] => (none, [])
  | i :: is =>
    let c := if bad.contains i then 9 else s.verifySlot i s.floor
    if c = 0 then (some i, [(i, 1)])
    else
      let (r, l) := s.trySlots bad is
      (r, (i, c) :: l)

/-- The result codes of the two slots (Table 14.11): 9 where the slot cannot be read, 2 where it is not committed, what trying it
gave, or 0. -/
def State.slotCode (s : State) (bad : List Nat) (tried : List (Nat × Nat)) (i : Nat) : Nat :=
  if bad.contains i then 9
  else if !s.slotCommitted i then 2
  else ((tried.find? fun e => e.1 == i).map Prod.snd).getD 0

/-- Steps 6 and 7 for the selected slot: BOOT_SLOT, the flag of its manifest, and the measurements of Table 14.5. -/
def State.measureSlot (s : State) (i : Nat) : State :=
  let m := s.slotSection i 1
  let flag := bit (nth 0 m 33) 0
  let cfg := shakeBytes (s.slotSection i 7)
  let s1 := s.setBoth .BOOT_SLOT (s.slotSeq i * 2 ^ 16 + nth 0 m 32 * 2 ^ 8 + i)
  let s2 : State := { s1 with floorFlags := (flag, flag) }
  let d (o : Nat) : List Nat := takePad 0 64 (m.drop o)
  let s3 := (s2.mrExtend 1 (shakeBytes m)).mrExtend 2 (d 48)
  let s4 := (s3.mrExtend 3 (d 112)).mrExtend 4 (d 176)
  (s4.mrExtend 5 cfg).setDigest .CFG_DIGEST 0 cfg

/-! ### Steps 9 to 11: the configuration image -/

/-- Mark a local channel that failed to train (Table 6.6, step 9). -/
def State.markChannel (s : State) (m ch : Nat) : State :=
  s.setRg .MC_CH_STATE (0x40 + m) 0 ch (setBits (s.rg .MC_CH_STATE (0x40 + m) 0 ch) 4 1 1)

/-- The spill regions that an image sets lie outside the operating-system regions (R438). -/
def State.spillViols (s : State) (rs : List Rec) : List (Nat × Nat) :=
  let z := s.applyRecs (rs.filter fun r => r.typ == 0x01 && !r.bad && r.data.length == 8)
  ((List.range 4).filterMap fun x =>
    let a := z.rg .VAT_SPILL_BASE (0x50 + x) 0 0
    let n := z.rg .VAT_SPILL_LEN (0x50 + x) 0 0
    if n != 0 && osRegions a n != [] then
      some (lastNamed rs [loc .VAT_SPILL_BASE (0x50 + x) 0 0, loc .VAT_SPILL_LEN (0x50 + x) 0 0] [], 0x05)
    else none)

/-- Channels of one M-die and tier. -/
def sameTier (a b : Nat) : Bool := a / 256 == b / 256 && decide (a % 256 < 16) == decide (b % 256 < 16)

/-- What the RETIRE records break together: at most one channel of an M-die and tier, and only of a tier with spare lines (R175,
R176). [DEDUCED, log entry 56] -/
def State.retireViols (s : State) (rs : List Rec) : List (Nat × Nat) :=
  let z := s.applyRecs (rs.filter fun r => r.typ == 0x01 && !r.bad && r.data.length == 8)
  let rets := rs.zipIdx.filter fun e => e.1.typ == 0x03 && !e.1.bad
  rets.filterMap fun e =>
    let t := e.1.target
    if rets.any fun f => decide (f.2 < e.2) && f.1.target != t && sameTier f.1.target t then some (e.2, 0x08)
    else
      let r : Reg := if t % 256 < 16 then .TIER_FAST else .TIER_SLOW
      if bit (z.g r) 32 then none
      else
        let last := (rs.zipIdx.filter fun f => f.1.typ == 0x01 && f.1.target == gLoc r 0).map Prod.snd
        some (last.foldl Nat.max e.2, 0x08)

/-- The first violation of a start-up image (R425). [DEDUCED, log entry 56] -/
def State.startRefusal (s : State) (rs : List Rec) : Option (Nat × Nat) :=
  firstViol (s.recViols true [] rs 0 ++ endViol rs ++ s.spillViols rs ++ s.retireViols rs)

/-- Data of the MGMT record of an image, where it has one that passes its own check (R433). -/
def mgmtOf (rs : List Rec) : List (BitVec 8) :=
  match rs.find? fun r => r.typ == 0x04 && !r.bad && r.target == 0 && mgmtViol r.data == 0 with
  | some r => r.data.map (BitVec.ofNat 8)
  | none => []

/-- The last TESTKEY record of an image. -/
def testKeyOf (rs : List Rec) : Option (BitVec 256) :=
  (rs.reverse.find? fun r => r.typ == 0x05).map fun r => BitVec.ofNat 256 (ofLeBytes r.data)

/-- The channels that an image retires: M-die and local channel. -/
def retiredOf (rs : List Rec) : List (Nat × Nat) :=
  (rs.filter fun r => r.typ == 0x03).map fun r => (r.target / 256 - 0x40, r.target % 256)

/-- Set SL_CFG.EN of the ports that the image lists with it. [DEDUCED, log entry 54] -/
def State.enableListed (s : State) : State :=
  (List.range 36).foldl (fun z p =>
    let v := z.portReg .SL_CFG p
    if bit v 31 then ((z.setPortReg .SL_CFG p (setBits v 31 1 0)).portEnableWrite p v).1 else z) s

/-- Every block of both tiers holds zeros with a valid sidecar (R174). -/
def State.zeroTiers (s : State) : State :=
  let sram (a : Nat) : Bool := decide (2 ≤ regionOf a)
  { s with mem := s.mem.filter (fun e => sram e.1), sidecar := s.sidecar.filter (fun e => sram (256 * e.1)),
           noise := s.noise.filter (fun e => sram (256 * e.1)) }

/-- Step 11: the tiers hold zeros; then the records apply in order, listed channels are retired without copying, listed ports are
enabled. [DEDUCED, log entry 54] -/
def State.applyStart (s : State) (rs : List Rec) : State :=
  let s1 := (retiredOf rs).foldl (fun z c =>
    z.setRg .MC_CH_STATE (0x40 + c.1) 0 c.2 (setBits (z.rg .MC_CH_STATE (0x40 + c.1) 0 c.2) 0 2 2)) s.zeroTiers
  let s2 := s1.applyRecs rs
  ({ s2 with mgmtRecord := mgmtOf rs, testKey := testKeyOf rs } : State).enableListed

/-! ### The sequence (Table 14.1) -/

/-- Steps 9 to 13 on the selected slot. -/
def State.bootImage (s : State) (b : Boot) (i slot0 slot1 : Nat) : State :=
  let rs := imageRecs (s.slotSection i 7)
  let s1 := b.badChannels.foldl (fun z c => z.markChannel c.1.val c.2.val) s
  match s1.startRefusal rs with
  | some (ix, why) =>
    let s2 := s1.setBoth .CFG_REFUSE (2 ^ 63 + why * 2 ^ 48 + ix)
    ({ s2 with mgmtRecord := mgmtOf rs } : State).bootFail 10 0x03 slot0 slot1
  | none =>
    let s2 := s1.applyStart rs
    let stuck := b.badChannels.any fun c => !(retiredOf rs).contains (c.1.val, c.2.val)
    if !b.zeroOk ∨ stuck then s2.bootFail 11 0x04 slot0 slot1
    else if !b.selfTestOk then s2.bootFail 12 0x08 slot0 slot1
    else
      let s3 := s2.setBoth .BOOT_STATUS (bootWord 1 13 0 slot0 slot1)
      ({ s3 with svc := .normal } : State).alert 0

/-- Steps 3 to 13. [DESIGN CHOICE, log entry 14; DEDUCED, log entry 55] -/
def State.bootRun (s : State) (b : Boot) : State :=
  if !b.trimOk then s.bootFail 3 0x06 0 0
  else if !b.diesAnswer then s.bootFail 4 0x05 0 0
  else if !b.steppingsOk then s.bootFail 4 0x01 0 0
  else
    let fuse := leBytes 64 (Config.fuseRecord (BitVec.ofNat 6 s.floor)).toNat
    let s1 := s.mrExtend 0 (shakeBytes fuse)
    if !b.flashOk then s1.bootFail 6 0x07 9 9
    else
      let bad := b.badSlots.map Fin.val
      let (sel, tried) := s1.trySlots bad (s1.slotOrder)
      let c (i : Nat) : Nat := s1.slotCode bad tried i
      match sel with
      | none => s1.bootFail 6 0x02 (c 0) (c 1)
      | some i => (s1.measureSlot i).bootImage b i (c 0) (c 1)

/-- Whether start-up has not begun since the last module reset. -/
def State.bootIdle (s : State) : Bool := s.svc == .startup && s.boot == 0

/-- RESET_RELEASE (R415): with both supplies in range, start-up runs to its end. [DESIGN CHOICE, log entries 14 and 32] -/
def execResetRelease (b : Boot) (s : State) : Host.Outcome State Fault Refusal :=
  if s.bootIdle ∧ s.aux12 = true ∧ s.main54 = true then .next ((s.zeroSrams.strapped b).bootRun b)
  else .next s

/-! ### Power inputs and pins (R468, R469, R476) -/

/-- RESET_N_LOW (R469). [DEDUCED, log entry 57; DESIGN CHOICE, log entry 58] -/
def execResetNLow (s : State) : Host.Outcome State Fault Refusal :=
  .next ({ s with resetN := false, mainGood := false } : State).moduleReset

/-- POWER_INPUT_OUT_OF_RANGE (R469). [DEDUCED, log entry 57] -/
def execPowerInputOutOfRange (main : Bool) (s : State) : Host.Outcome State Fault Refusal :=
  .next (if main then ({ s with main54 := false, mainGood := false } : State).moduleReset
    else ({ s with aux12 := false, auxGood := false, mainGood := false } : State).moduleReset)

/-- POWER_INPUT_IN_RANGE (R468): the 12 V input releases AUX_GOOD; the 54 V input, after it, MAIN_GOOD. -/
def execPowerInputInRange (main : Bool) (s : State) : Host.Outcome State Fault Refusal :=
  .next (if main then { s with main54 := true, mainGood := s.auxGood }
    else { s with aux12 := true, auxGood := true })

/-- THERM_TRIP (R476): whichever die trips, THERM_TRIP_N stays low until module reset. -/
def execThermTrip (_d : Die) (s : State) : Host.Outcome State Fault Refusal :=
  .next { s with thermTripN := false }

end Sys2Proof.Machine
end

