-- ==== Sys2Proof/Machine/Mgmt.lean ====
section
/-!
DEFINITION. The management port: its link, its sessions, and the messages of Table 15.2 (R418, R429, R434, R442 to R449).
-/

namespace Sys2Proof.Machine

/-! ### The link and its sessions (R442, R444, R445) -/

/-- The sessions that `gone` names are lost, with their subscriptions, nonces and generation requests; what waited for a stop is
answered to no one, but a reset asked for still follows. [DEDUCED, log entry 61] -/
def State.loseSessions (s : State) (gone : Nat → Bool) : State :=
  let s1 : State := { s with
    sessions := s.sessions.filter fun x => !gone x.id
    stopReply := s.stopReply.filter fun r => r.2.2 || !gone r.1
    gen := dropGen (fun g => gone g.session) s.gen }
  s1.genAdmit.genIssue

/-- MGMT_LINK_UP (R442): from step 10 of start-up on the port is served. -/
def execMgmtLinkUp (s : State) : Host.Outcome State Fault Refusal :=
  .next (if 10 ≤ s.bootStep then { s with mgmtUp := true } else s)

/-- MGMT_LINK_DOWN (R442). -/
def execMgmtLinkDown (s : State) : Host.Outcome State Fault Refusal :=
  .next (({ s with mgmtUp := false } : State).loseSessions fun _ => true)

/-- SESSION_CLOSE (R444). -/
def execSessionClose (session : Fin 8) (s : State) : Host.Outcome State Fault Refusal :=
  .next (s.loseSessions fun n => n == session.val)

/-- Whether a client key digest is listed in the MGMT record, or no record is in force (R444). -/
def State.keyListed (s : State) (k : BitVec 256) : Bool :=
  s.fallback ||
    let d := s.mgmtRecord.map BitVec.toNat
    (List.range (nth 0 d 58)).any fun i => ofLeBytes ((d.drop (64 + 32 * i)).take 32) == k.toNat

/-- The lowest session number that is free. -/
def State.freeSession (s : State) : Option Nat := (List.range 8).find? fun n => !s.sessionOpen n

/-- MGMT_CONNECT (R444, R445): with the link up, a session is opened or the handshake refused. [DESIGN CHOICE, log entry 31] -/
def execMgmtConnect (h : Hello) (s : State) : Host.Outcome State Fault Refusal :=
  if !s.mgmtUp then .next s
  else
    let refused : State := { s with outbox := s.outbox ++ [.tlsRefused] }
    if !(h.group && h.mldsa && h.rawKey && h.suite && h.proven && s.keyListed h.key) then .next refused
    else
      match s.freeSession with
      | none => .next refused
      | some n => .next { s with sessions := s.sessions ++ [⟨n, none, none, 0⟩] }

/-- MALFORMED (R446). [DESIGN CHOICE, log entry 31] -/
def execMalformed (q : Req) (typ : BitVec 16) (s : State) : Host.Outcome State Fault Refusal :=
  .next (s.asks q (s.mgmtOut q.session.val (typ.toNat ||| 0x8000) 0x1 q.id.toNat []))

/-! ### Status and registers -/

/-- The job's state: loaded, running, stopping. -/
def State.jobWord (s : State) : Nat :=
  b2n s.loaded + 2 * b2n ((s.job.map Job.started).getD false) + 4 * b2n s.stopping

/-- STATUS: its values in the order of Table 15.2, 8 bytes each. [DESIGN CHOICE, log entry 60] -/
def execStatus (q : Req) (s : State) : Host.Outcome State Fault Refusal :=
  let vs := [s.svc.code, s.boot, s.g .MOD_FAULT, s.jobWord, s.g .CAVE_LAST, s.g .SORREL_AGREED, s.g .ROOT_MISSED,
    s.g .ROOT_PUBLISHED]
  .next (s.asks q (s.reply q 0x01 0 (vs.flatMap (leBytes 8))))

/-- Read registers in order: the values, or the index of the first access error. -/
def State.readRegs (s : State) : Nat → List Nat → Except Nat (List Nat)
  | _, [] => .ok []
  | i, o :: os =>
    match s.busRead o (s.widthAt o) with
    | none => .error i
    | some v =>
      match s.readRegs (i + 1) os with
      | .ok l => .ok (v.toNat :: l)
      | .error k => .error k

/-- REG_READ. [DEDUCED, log entry 61] -/
def execRegRead (q : Req) (offs : List (BitVec 64)) (s : State) : Host.Outcome State Fault Refusal :=
  .next (s.asksNormal q 0x02 (
    if 256 < offs.length then s.reply q 0x02 0xC []
    else
      match s.readRegs 0 (offs.map BitVec.toNat) with
      | .ok vs => s.reply q 0x02 0 (vs.flatMap (leBytes 8))
      | .error i => s.reply q 0x02 0xB (leBytes 4 i)))

/-- Write registers in order, up to the first access error. -/
def State.writeRegs (s : State) : Nat → List (Nat × Nat) → State × Option Nat
  | _, [] => (s, none)
  | i, (o, v) :: rest =>
    let wide := s.widthAt o
    match s.busWrite .mgmt o wide (if wide then v else v % 2 ^ 32) with
    | (z, .error) => (z, some i)
    | (z, _) => z.writeRegs (i + 1) rest

/-- REG_WRITE. [DEDUCED, log entry 61] -/
def execRegWrite (q : Req) (writes : List (BitVec 64 × BitVec 64)) (s : State) : Host.Outcome State Fault Refusal :=
  .next (s.asksNormal q 0x03 (
    if 256 < writes.length then s.reply q 0x03 0xC []
    else
      match s.writeRegs 0 (writes.map fun w => (w.1.toNat, w.2.toNat)) with
      | (z, none) => z.reply q 0x03 0 []
      | (z, some i) => z.reply q 0x03 0xB (leBytes 4 i)))

/-! ### Jobs (R425, R431, R449) -/

/-- JOB_LOAD (R425). [DESIGN CHOICE, log entry 32; PRESUMED, log entry 33; DEDUCED, log entry 59] -/
def execJobLoad (q : Req) (image : List (BitVec 8)) (x : JobExtra) (s : State) : Host.Outcome State Fault Refusal :=
  .next (s.asksNormal q 0x10 (
    if s.svc ≠ .normal ∧ s.svc ≠ .recovery then s.reply q 0x10 0x3 []
    else if s.loaded then s.reply q 0x10 0x4 []
    else
      let bs := image.map BitVec.toNat
      match s.jobRefusal bs x with
      | some (i, why) => s.reply q 0x10 0x6 (leBytes 4 i ++ [why])
      | none => (s.jobAccept bs x).reply q 0x10 0 []))

/-- The sequencers of the loaded job: the cores whose command memory holds a program. [DEDUCED, log entry 18] -/
def State.jobCores (s : State) : List Nat :=
  (s.mem.filterMap fun e =>
    if s.isOwn e.1 && regionOf e.1 == 2 then
      match sramLoc (offOf e.1) with
      | some (.cmd d u _) => some (d * 16 + u)
      | _ => none
    else none).eraseDups

/-- JOB_START: SEQ_CTRL.GO to every sequencer of the job. [DEDUCED, log entries 18 and 59] -/
def execJobStart (q : Req) (s : State) : Host.Outcome State Fault Refusal :=
  .next (s.asksNormal q 0x11 (
    if !s.loaded then s.reply q 0x11 0x5 []
    else if s.svc ≠ .normal then s.reply q 0x11 0x3 []
    else
      let cores := s.jobCores
      if !cores.all s.seqAtRest then s.reply q 0x11 0x4 []
      else (cores.foldl (fun z c => (z.seqGo c).1) s).reply q 0x11 0 []))

/-- Stop the loaded job for a request that is answered when the stop is complete, with a reset to follow or not. -/
def State.stopFor (s : State) (q : Req) (reset : Bool) : State :=
  let z : State := { s with stopReply := s.stopReply ++ [(q.session.val, q.id.toNat, reset)] }
  if s.stopping then z
  else if s.canStop then z.stopJob
  else z.stopDone

/-- JOB_STOP: the stop of R395 with no fault recorded. [DESIGN CHOICE, log entry 60] -/
def execJobStop (q : Req) (s : State) : Host.Outcome State Fault Refusal :=
  .next (s.asksNormal q 0x12 (if s.loaded then s.stopFor q false else s.reply q 0x12 0x5 []))

/-- Whether a Teasel is idle, stopped or faulted. -/
def State.teaIdle (s : State) (core : Nat) : Bool := bits (s.teaStatus (core / 16) (core % 16)) 0 1 == 0

/-- Whether every unit is idle, stopped or faulted (R449). -/
def State.unitsAtRest (s : State) : Bool :=
  (s.coresInUse.all fun c => !s.seqBusy c && s.unitsIdle c && s.teaIdle c) &&
  (s.dmas.all fun (e : Nat × DmaS) => e.2.mode == 2 || e.2.mode == 3 || e.2.queue.isEmpty) &&
  ((enginePairs 4).all fun p => let st := s.renState p.1 p.2; st == 0 || st == 5 || st == 6) &&
  ((enginePairs 8).all fun p => let st := s.prState p.1 p.2; st == 0 || st == 5 || st == 6) &&
  (s.vats.all fun (e : Nat × VatS) => e.2.queue.isEmpty && e.2.active.isEmpty)

/-- Abort the undecided instance of a slot with cause STOP at an unloading module, and tell the other modules. -/
def State.hoopUnload (s : State) (h : Nat) : State :=
  if !s.hoopUndecided h then s
  else
    let to_ := if s.isRoot then s.peers else (s.job.map Job.root).toList
    (s.hoopDecide h (some 7) 7 0).sendAborts h (s.hoopInst h) to_

/-- Unload the job: its Hoop instances abort, its generation requests end. -/
def State.unload (s : State) : State :=
  let s1 := (List.range 16).foldl State.hoopUnload s
  let s2 := (s1.gen.filter fun g => g.region.isSome || !g.inBatch).foldl State.genEnd s1
  { s2 with job := none, gen := [], batch := [], tokens := [], decLt := 0 }

/-- JOB_UNLOAD (R449). -/
def execJobUnload (q : Req) (s : State) : Host.Outcome State Fault Refusal :=
  .next (s.asksNormal q 0x13 (
    if !s.loaded then s.reply q 0x13 0x5 []
    else if s.stopping || !s.unitsAtRest then s.reply q 0x13 0x4 []
    else s.unload.reply q 0x13 0 []))

/-- RESET: module reset after the reply; FORCE stops a loaded job first. [DEDUCED, log entry 57] -/
def execReset (q : Req) (force : Bool) (s : State) : Host.Outcome State Fault Refusal :=
  .next (s.asks q (
    if !s.loaded then (s.reply q 0x70 0 []).moduleReset
    else if force then s.stopFor q true
    else s.reply q 0x70 0x4 []))

/-! ### Telemetry (R10) -/

/-- TELE_SUB: the session's subscription is replaced. -/
def execTeleSub (q : Req) (period : BitVec 64) (offs : List (BitVec 64)) (s : State) : Host.Outcome State Fault Refusal :=
  .next (s.asksNormal q 0x30 (
    if period.toNat < 1000 ∨ 2 ^ 32 ≤ period.toNat then s.reply q 0x30 0x1 []
    else if 64 < offs.length then s.reply q 0x30 0xC []
    else
      (s.onSession q.session.val fun x => { x with tele := some (period.toNat, offs.map BitVec.toNat), teleLt := 0 }).reply
        q 0x30 0 []))

/-- The values of a subscription in its order: an open value where a register cannot be read. [DESIGN CHOICE, log entry 60] -/
def State.teleValues (s : State) : List Nat → State × List Nat
  | [] => (s, [])
  | o :: os =>
    let (v, s1) := match s.busRead o (s.widthAt o) with
      | some v => (v, s)
      | none => s.freshVal
    let (s2, l) := s1.teleValues os
    (s2, v.toNat :: l)

/-- TELEMETRY: at each period, the X-die in charge, its tick count and the values. [DESIGN CHOICE, log entry 60] -/
def execTelemetry (session : Fin 8) (s : State) : Host.Outcome State Fault Refusal :=
  match s.sessions.find? fun x => x.id == session.val with
  | none => .next s
  | some x =>
    match x.tele with
    | none => .next s
    | some (period, offs) =>
      if x.teleLt < period then .next s
      else
        let die := s.headDie
        let (s1, vs) := s.teleValues offs
        let body := [die] ++ leBytes 8 (nth 0 s1.xTicks (die - 0x50)) ++ vs.flatMap (leBytes 8)
        .next ((s1.onSession session.val fun y => { y with teleLt := 0 }).mgmtOut session.val 0x31 0 0 body)

/-! ### Firmware staging (R418, R419) -/

/-- FW_BEGIN: the slot is erased. [DEDUCED, log entry 61] -/
def execFwBegin (q : Req) (slot : BitVec 8) (len : BitVec 32) (s : State) : Host.Outcome State Fault Refusal :=
  .next (s.asks q (
    if 1 < slot.toNat then s.reply q 0x40 0x1 []
    else if s.staging.isSome then s.reply q 0x40 0x4 []
    else if bits (s.rg .BOOT_SLOT s.headDie 0 0) 0 1 = slot.toNat then s.reply q 0x40 0x9 []
    else if commitSector < len.toNat then s.reply q 0x40 0xC []
    else ({ s.flashErase slot.toNat with staging := some ⟨slot.toNat, len.toNat, 0⟩ } : State).reply q 0x40 0 []))

/-- FW_DATA: bytes written as given, at ascending offsets. -/
def execFwData (q : Req) (off : BitVec 32) (data : List (BitVec 8)) (s : State) : Host.Outcome State Fault Refusal :=
  .next (s.asks q (
    match s.staging with
    | none => s.reply q 0x41 0x4 []
    | some g =>
      let end_ := off.toNat + data.length
      if off.toNat < g.off then s.reply q 0x41 0x1 []
      else if g.len < end_ then s.reply q 0x41 0xC []
      else
        let s1 := s.flashPut g.slot off.toNat (data.map BitVec.toNat)
        ({ s1 with staging := some { g with off := end_ } } : State).reply q 0x41 0 []))

/-- FW_COMMIT: DIGEST is written, the slot is read back and verified, and COMMIT is written when it passes. -/
def execFwCommit (q : Req) (s : State) : Host.Outcome State Fault Refusal :=
  .next (s.asks q (
    match s.staging with
    | none => s.reply q 0x42 0x4 []
    | some g =>
      let digest := shakeBytes (s.flashBytes g.slot 0 (Nat.min (s.slotBody g.slot) commitSector))
      let s1 : State := { s.flashPut g.slot commitSector digest with staging := none }
      let c := s1.verifySlot g.slot s1.stagingFloor
      if c ≠ 0 then s1.reply q 0x42 0xA [c]
      else (s1.flashPut g.slot (commitSector + 2048) (leBytes 8 commitWord)).reply q 0x42 0 []))

/-! ### Attestation and test mode (R429, R434) -/

/-- ATTEST. -/
def execAttest (q : Req) (nonce : BitVec 256) (s : State) : Host.Outcome State Fault Refusal :=
  let (s1, bs) := s.report (leBytes 32 nonce.toNat)
  .next (s.asks q (s1.reply q 0x50 0 bs))

/-- TEST_NONCE: a fresh nonce of the session. -/
def execTestNonce (q : Req) (s : State) : Host.Outcome State Fault Refusal :=
  .next (s.asksNormal q 0x51 (
    let n := s.freshCtr
    let v := (List.range 4).foldl (fun z i => z + (Config.fresh (n + i)).toNat * 2 ^ (64 * i)) 0
    let s1 : State := { s with freshCtr := n + 4 }
    (s1.onSession q.session.val fun x => { x with nonce := some (BitVec.ofNat 256 v, 0) }).reply q 0x51 0 (leBytes 32 v)))

/-- How long a nonce is valid. [DEDUCED, log entry 73] -/
def nonceLife : Nat := 60000000

/-- The session's nonce while it is valid. -/
def State.nonceOf (s : State) (n : Nat) : Option (BitVec 256) :=
  match (s.sessions.find? fun x => x.id == n).bind Session.nonce with
  | some (v, age) => if age < nonceLife then some v else none
  | none => none

/-- TEST_ENTER (R434): the signature over serial and nonce, under the key whose digest the TESTKEY record holds. [DEDUCED, log entry 59] -/
def execTestEnter (q : Req) (sig : List (BitVec 8)) (s : State) : Host.Outcome State Fault Refusal :=
  .next (s.asksNormal q 0x52 (
    if s.svc = .test then s.reply q 0x52 0x3 []
    else
      let used := s.onSession q.session.val fun x => { x with nonce := none }
      match s.testKey, s.nonceOf q.session.val with
      | some k, some nonce =>
        let msg := leBytes 8 (s.rg .SEC_SERIAL s.headDie 0 0) ++ leBytes 32 nonce.toNat
        let bv (l : List Nat) : List (BitVec 8) := l.map (BitVec.ofNat 8)
        if Config.verify (Config.keyOf k) (bv (ascii "Abrath-TEST")) (bv msg) sig then
          (used.enterTest 0x02 ((shakeBytes msg).take 32)).reply q 0x52 0 []
        else used.reply q 0x52 0x2 []
      | _, _ => used.reply q 0x52 0x2 []))

/-! ### Memory in recovery mode -/

/-- Largest length of a MEM_READ. -/
def memLimit : Nat := 16777216

/-- Whether a range lies in one tier of either module: the register space and the SRAMs are not reached. -/
def inTier (addr n : Nat) : Bool := decide (addr + n ≤ 2 ^ 44) && decide (regionOf addr < 2) &&
  (addr + (n - 1)) / 2 ^ 41 == addr / 2 ^ 41

/-- MEM_READ: data of the module's own tiers; those of the twin by RD_REQ flits, answered as `r` says. [DEDUCED, log entry 59; DESIGN CHOICE, log entry 60] -/
def execMemRead (q : Req) (addr : BitVec 64) (len : BitVec 32) (r : Remote) (s : State) : Host.Outcome State Fault Refusal :=
  let a := addr.toNat
  let n := len.toNat
  .next (s.asksNormal q 0x60 (
    if s.svc ≠ .recovery then s.reply q 0x60 0x3 []
    else if memLimit < n then s.reply q 0x60 0xC []
    else if n = 0 then s.reply q 0x60 0 []
    else if !inTier a n then s.reply q 0x60 0xB (leBytes 4 0)
    else if s.isOwn a then
      match s.memRead .mgmt a n with
      | (z, .ok bs) => z.reply q 0x60 0 bs
      | (z, .error _) => z.reply q 0x60 0xB (leBytes 4 0)
    else
      match s.sendReads .unit (blockPieces (n + 1) a (List.replicate n 0)), r with
      | (z, true), .ok d => ({ z with asked := s.asked } : State).reply q 0x60 0 (takePad 0 n (d.map BitVec.toNat))
      | (z, _), _ => ({ z with asked := s.asked } : State).reply q 0x60 0xB (leBytes 4 0)))

/-- MEM_WRITE: to the module's own tiers; to those of the twin by WR flits, answered as `r` says. [DEDUCED, log entry 59; DESIGN CHOICE, log entry 60] -/
def execMemWrite (q : Req) (addr : BitVec 64) (data : List (BitVec 8)) (r : Remote) (s : State) :
    Host.Outcome State Fault Refusal :=
  let a := addr.toNat
  let bs := data.map BitVec.toNat
  .next (s.asksNormal q 0x61 (
    if s.svc ≠ .recovery then s.reply q 0x61 0x3 []
    else if memLimit < bs.length then s.reply q 0x61 0xC []
    else if bs = [] then s.reply q 0x61 0 []
    else if !inTier a bs.length then s.reply q 0x61 0xB (leBytes 4 0)
    else if s.isOwn a then
      match s.memWrite .mgmt a bs with
      | (z, none) => z.reply q 0x61 0 []
      | (z, some _) => z.reply q 0x61 0xB (leBytes 4 0)
    else
      match s.sendWrites .unit (blockPieces (bs.length + 1) a bs), r with
      | (z, true), .ok _ => ({ z with asked := s.asked } : State).reply q 0x61 0 []
      | (z, _), _ => ({ z with asked := s.asked } : State).reply q 0x61 0xB (leBytes 4 0)))

end Sys2Proof.Machine
end

