-- ==== Sys2Proof/Machine/Fec.lean ====
section
/-!
DEFINITION. The Reed–Solomon code RS(544,512) of the payload lanes (R324): its field, its generator, the codeword of 640 data bytes,
and what a receiver makes of one that arrives with errors.
-/

namespace Sys2Proof.Machine

/-- Multiply by α in GF(2¹⁰) modulo x¹⁰ + x³ + 1. -/
def gfShift (a : Nat) : Nat := if a < 512 then 2 * a else (2 * a) ^^^ 0x409

/-- Multiply in GF(2¹⁰): the low `n` bits of `b`. -/
def gfMulBits (a b : Nat) : Nat → Nat
  | 0 => 0
  | n + 1 => (if bit b 0 then a else 0) ^^^ gfMulBits (gfShift a) (b / 2) n

/-- Multiply in GF(2¹⁰). -/
def gfMul (a b : Nat) : Nat := gfMulBits a b 10

/-- α to a power. -/
def gfPow : Nat → Nat
  | 0 => 1
  | n + 1 => gfShift (gfPow n)

/-- Multiply a polynomial, highest power first, by x − c. -/
def rsTimes (c : Nat) (p : List Nat) : List Nat := (p ++ [0]).zipWith (· ^^^ ·) (0 :: p.map (gfMul c))

/-- The generator polynomial: the product of x − αⁱ for i = 0 to 31, without its leading 1. -/
def rsGenerator : List Nat := ((List.range 32).foldl (fun p i => rsTimes (gfPow i) p) [1]).tail

/-- The remainder register after one more data symbol. -/
def rsStep (r : List Nat) (x : Nat) : List Nat :=
  let f := x ^^^ r.headD 0
  (r.tail ++ [0]).zipWith (· ^^^ ·) (rsGenerator.map (gfMul f))

/-- The 10-bit symbols of data bytes, taken in order and least significant bit first. -/
def rsSymbols (bs : List Nat) : List Nat := (List.range (8 * bs.length / 10)).map fun i => bits (ofLeBytes bs) (10 * i) 10

/-- The codeword of 640 data bytes: 512 data symbols, the first the coefficient of the highest power, and 32 parity symbols. -/
def rsEncode (bs : List Nat) : List Nat :=
  let d := rsSymbols bs
  d ++ d.foldl rsStep (List.replicate 32 0)

/-- Symbols in which two words differ. -/
def rsDistance (a b : List Nat) : Nat := ((a.zip b).filter fun e => e.1 != e.2).length

/-- A codeword arrives with errors at places of its symbols: what the decoder passes on, and the symbols it corrects. Up to 16 it
corrects: at distance 33 no other codeword is as near. One with more is passed on as received. [DEDUCED, log entry 82] -/
def rsReceive (sent : List Nat) (noise : List (Nat × Nat)) : List Nat × Nat :=
  let got := noise.foldl (fun w e => setAt w e.1 (nth 0 w e.1 ^^^ e.2)) sent
  let n := rsDistance sent got
  if n ≤ 16 then (sent, n) else (got, 0)

/-- A codeword arrives on a port: SL_FEC_CORR counts the symbols corrected (R324). What flits an uncorrectable one touches shows in
their own CRC check (DAMAGED_FLIT_OR_FRAME). -/
def State.rsArrive (s : State) (p : Nat) (data : List Nat) (noise : List (Nat × Nat)) : State :=
  if s.portState p = 2 then s.bumpPort .SL_FEC_CORR p (rsReceive (rsEncode (takePad 0 640 data)) noise).2 else s

end Sys2Proof.Machine
end

