-- ==== Sys2Proof/Machine/Rind.lean ====
section
/-!
DEFINITION. The Rind port: cycles, words, the relay of the board lease, and the fence commands (R451 to R457).
-/

namespace Sys2Proof.Machine

/-! ### Words (Table 15.6) -/

/-- Highest junction temperature of the module, in units of 0.5 °C. -/
def State.hottest (s : State) : Int :=
  (allDies.map fun d => toSigned 16 (s.rg .DIE_TEMP d 0 0)).foldl max (toSigned 16 (s.rg .DIE_TEMP 0 0 0))

/-- The STATE word 0x02. -/
def State.rindState (s : State) : Nat :=
  let l := s.g .LEASE_STATUS
  let run := (s.job.map fun j => j.started && !j.stopped).getD false
  s.svc.code * 2 ^ 14 + b2n (bit s.boot 63) * 2 ^ 13 + b2n s.loaded * 2 ^ 12 + b2n run * 2 ^ 11 +
    b2n s.stopping * 2 ^ 10 + b2n (bit (s.g .MOD_FAULT) 63) * 2 ^ 9 + b2n (bit l 0) * 2 ^ 8 + b2n (bit l 3) * 2 ^ 7 +
    b2n (bit (s.g .TWIN_FENCE) 0) * 2 ^ 6 + b2n s.fabricHeld * 2 ^ 5

/-- A word as a read cycle returns it. [DEDUCED, log entry 64] -/
def State.rindWord (s : State) (a : Nat) : Nat :=
  let r := s.rind
  match a with
  | 0x00 => 0x7264
  | 0x01 => steppingCode * 2 ^ 8 + s.node
  | 0x02 => s.rindState
  | 0x03 => bits (s.g .MOD_FAULT) 0 8 * 2 ^ 8 + bits (s.g .MOD_FAULT) 48 8
  | 0x04 => ofSigned 16 s.hottest
  | 0x05 => bits (s.g .PWR_INPUT) 0 16
  | 0x06 => bits (s.g .PWR_STATUS) 0 4 * 2 ^ 12
  | 0x08 => bits (s.g .BOARD_LEASE) 0 16
  | 0x09 => bits r.out.toNat 16 16
  | 0x0A => bits r.out.toNat 32 16
  | 0x0B => bits r.out.toNat 48 16
  | 0x11 => r.last * 2 ^ 12 + r.result * 2 ^ 8 + r.count
  | 0x12 => r.cap
  | 0x13 => r.alerts
  | 0x14 => r.mask
  | _ => 0

/-- Whether RIND_ALERT_N is driven low. -/
def State.rindAlert (s : State) : Bool := s.rind.alerts &&& s.rind.mask != 0

/-! ### Cycles (R453, R454, R468) -/

/-- A cycle is served and counted by the half in charge; before MAIN_GOOD is released none is. [DESIGN CHOICE, log entry 58] -/
def State.rindCycle (s : State) (serve : State → State) : State :=
  if s.mainGood then serve (s.bump .RIND_CYCLES s.headDie 0 0 1) else s

/-- RIND_LEASE_OUT_LATCH (R453): a read of word 0x08 latches all four words of LEASE_OUT. -/
def execRindLeaseOutLatch (s : State) : Host.Outcome State Fault Refusal :=
  .next (s.rindCycle fun z =>
    ({ z with rind := { z.rind with out := BitVec.ofNat 64 (z.g .BOARD_LEASE) } } : State).answer
      (.value (BitVec.ofNat 64 (z.rindWord 0x08))))

/-- A write to word 0x0F commits LEASE_IN, which counts as a board-lease renewal (R456). -/
def State.leaseIn (s : State) (v : Nat) : State := s.boardRenewal (s.rind.inLow.toNat + v * 2 ^ 48) false

/-- RIND_LEASE_IN (R456). -/
def execRindLeaseIn (v : BitVec 16) (s : State) : Host.Outcome State Fault Refusal :=
  .next (s.rindCycle fun z => z.leaseIn v.toNat)

/-! ### Fence commands (R457) -/

/-- Record a fence command with its result. [DESIGN CHOICE, log entry 21] -/
def State.fenceResult (s : State) (code result : Nat) : State :=
  let s1 : State := { s with rind := { s.rind with last := code, result := result, count := (s.rind.count + 1) % 256 } }
  if result = 1 then s1 else s1.bump .RIND_REFUSED s1.headDie 0 0 1

/-- A fence command with its key: `act` gives its effect, none where it is refused to this module. [DESIGN CHOICE, log entry 21] -/
def State.fence (s : State) (code key : Nat) (act : State → Option State) : State :=
  if bits (s.g .BOARD_LEASE) 0 12 ≠ key then s.fenceResult code 2
  else
    match act s with
    | some z => z.fenceResult code 1
    | none => s.fenceResult code 3

/-- FENCE_TWIN: only the board-lease holder executes it (R388). -/
def State.actFenceTwin (s : State) : Option State := if s.boardHolder then some (s.setFence true) else none

/-- UNFENCE_TWIN: under the conditions of R388. -/
def State.actUnfenceTwin (s : State) : Option State :=
  match s.twinFenceWrite false with
  | (z, true) => some z
  | (_, false) => none

/-- FENCE_FABRIC: SL0 to SL31 are DOWN and stay so. -/
def State.actFenceFabric (s : State) : Option State :=
  let z := (List.range 32).foldl (fun y p => (y.portEnableWrite p 0).1) s
  some { z with fabricHeld := true }

/-- UNFENCE_FABRIC. -/
def State.actUnfenceFabric (s : State) : Option State := some { s with fabricHeld := false }

/-- STOP_JOB: a peer stop with cause 0x08. -/
def State.actStopJob (s : State) : Option State :=
  some (if s.canStop then (s.modFault s.headDie 0x08).stopJob else s)

/-- FENCE_TWIN. -/
def execFenceTwin (key : BitVec 12) (s : State) : Host.Outcome State Fault Refusal :=
  .next (s.rindCycle fun z => z.fence 1 key.toNat State.actFenceTwin)

/-- UNFENCE_TWIN. -/
def execUnfenceTwin (key : BitVec 12) (s : State) : Host.Outcome State Fault Refusal :=
  .next (s.rindCycle fun z => z.fence 2 key.toNat State.actUnfenceTwin)

/-- FENCE_FABRIC. [DEDUCED, log entry 64] -/
def execFenceFabric (key : BitVec 12) (s : State) : Host.Outcome State Fault Refusal :=
  .next (s.rindCycle fun z => z.fence 3 key.toNat State.actFenceFabric)

/-- UNFENCE_FABRIC. -/
def execUnfenceFabric (key : BitVec 12) (s : State) : Host.Outcome State Fault Refusal :=
  .next (s.rindCycle fun z => z.fence 4 key.toNat State.actUnfenceFabric)

/-- STOP_JOB. -/
def execStopJob (key : BitVec 12) (s : State) : Host.Outcome State Fault Refusal :=
  .next (s.rindCycle fun z => z.fence 5 key.toNat State.actStopJob)

/-- A write to word 0x10: the command its CODE names; a reserved code gives RESULT 4. -/
def State.fenceWord (s : State) (v : Nat) : State :=
  let code := bits v 12 4
  let key := bits v 0 12
  match code with
  | 1 => s.fence 1 key State.actFenceTwin
  | 2 => s.fence 2 key State.actUnfenceTwin
  | 3 => s.fence 3 key State.actFenceFabric
  | 4 => s.fence 4 key State.actUnfenceFabric
  | 5 => s.fence 5 key State.actStopJob
  | _ => s.fenceResult code (if bits (s.g .BOARD_LEASE) 0 12 ≠ key then 2 else 4)

/-- A write to a Rind word. -/
def State.rindPut (s : State) (a v : Nat) : State :=
  let r := s.rind
  let low (i : Nat) : BitVec 48 := BitVec.ofNat 48 (setBits r.inLow.toNat (16 * i) 16 v)
  match a with
  | 0x0C => { s with rind := { r with inLow := low 0 } }
  | 0x0D => { s with rind := { r with inLow := low 1 } }
  | 0x0E => { s with rind := { r with inLow := low 2 } }
  | 0x0F => s.leaseIn v
  | 0x10 => s.fenceWord v
  | 0x12 => { s with rind := { r with cap := v } }
  | 0x13 => { s with rind := { r with alerts := r.alerts ^^^ (r.alerts &&& v) } }
  | 0x14 => { s with rind := { r with mask := v % 16 } }
  | _ => s

/-- RIND_WRITE (R453). -/
def execRindWrite (a : BitVec 6) (v : BitVec 16) (s : State) : Host.Outcome State Fault Refusal :=
  .next (s.rindCycle fun z => z.rindPut a.toNat v.toNat)

end Sys2Proof.Machine
end

