-- ==== Sys2Proof/Machine/Power.lean ====
section
/-!
DEFINITION. Throttling, thermal sensing and the local tick (R9, R470 to R473, R476 to R479, and the counters of local ticks that the
chapters give).
-/

namespace Sys2Proof.Machine

/-! ### Demands and level (R470, R471) -/

/-- The two demands (Table 16.10). -/
def State.powerDem (s : State) : Nat := bits (s.g .PWR_STATUS) 4 4

/-- The thermal demand. -/
def State.thermDem (s : State) : Nat := bits (s.g .PWR_STATUS) 8 4

/-- The level in force. -/
def State.level (s : State) : Nat := bits (s.g .PWR_STATUS) 0 4

/-- Set both demands: the larger is in force; the THERMAL alert is set when the level rises from 0. -/
def State.setDemands (s : State) (pd td : Nat) : State :=
  let v := setBits (setBits (setBits (s.g .PWR_STATUS) 0 4 (Nat.max pd td)) 4 4 pd) 8 4 td
  let z := s.setG .PWR_STATUS v
  if s.level = 0 ∧ 0 < Nat.max pd td then z.alert 2 else z

/-- The limit P in watts (R472). -/
def State.powerLimit (s : State) : Nat :=
  let l := bits (s.g .PWR_CFG) 0 16
  let c := s.rind.cap
  Nat.max 6400 (16 * if c = 0 then l else Nat.min l c)

/-- POWER_SAMPLE (R471, R472): input power in watts, and the 54 V input in units of 0.1 V. [DEDUCED, log entry 22] -/
def execPowerSample (watts decivolts : BitVec 16) (s : State) : Host.Outcome State Fault Refusal :=
  let p := s.power
  let lim := s.powerLimit
  let sum := p.sum + watts.toNat
  let jump := if 14000 < watts.toNat then Nat.min 8 (s.powerDem + 2) else s.powerDem
  let s1 := s.setG .PWR_INPUT (setBits (s.g .PWR_INPUT) 16 16 decivolts.toNat)
  if p.count + 1 < 10 then
    .next (({ s1 with power := { p with sum := sum, count := p.count + 1 } } : State).setDemands jump s.thermDem)
  else
    let above := decide (10 * lim < sum)
    let lows := if decide (100 * sum < 950 * lim) then p.lowRuns + 1 else 0
    let dem := if above then Nat.min 8 (jump + 1) else if lows = 10 then jump - 1 else jump
    let s2 := s1.setG .PWR_INPUT (setBits (s1.g .PWR_INPUT) 0 16 (sum / 160))
    let s3 := s2.setG .PWR_STATUS (setBits (s2.g .PWR_STATUS) 12 1 (b2n (above && s.level == 8)))
    .next (({ s3 with power := { p with sum := 0, count := 0, lowRuns := lows % 10 } } : State).setDemands dem s.thermDem)

/-! ### Temperature (R471, R476) -/

/-- Number of a die's sensors (R476). -/
def sensors (die : Nat) : Nat := if die < 0x40 then 4 else 2

/-- A reading of a die within the sensors' range is its temperature; one outside it is that of a failed sensor. [DEDUCED, log entry 65] -/
def State.readTemp (s : State) (die : Nat) (v : BitVec 16) : State :=
  let t := v.toInt
  if t < -80 ∨ 300 < t then
    let (o, s1) := s.freshVal
    s1.dieFault die 0x00 (o.toNat % sensors die) 0x21
  else
    let old := s.rg .DIE_TEMP die 0 0
    let peak := max t (toSigned 16 (bits old 16 16))
    s.setRg .DIE_TEMP die 0 0 (ofSigned 16 peak * 2 ^ 16 + ofSigned 16 t)

/-- Dies above 105 °C. -/
def State.hotDies (s : State) : List Nat := allDies.filter fun d => decide (210 < toSigned 16 (s.rg .DIE_TEMP d 0 0))

/-- Dies that stayed above 105 °C through a window at level 8 raise their unit fault (R476). [DEDUCED, log entry 65] -/
def State.hotFaults (s : State) : List Nat → State
  | [] => s
  | d :: ds =>
    let (o, s1) := s.freshVal
    (s1.dieFault d 0x00 (o.toNat % sensors d) 0x20).hotFaults ds

/-- THERMAL_SAMPLE (R471, R476): the highest sensor of each die read, and a sensor that has failed. [DEDUCED, log entry 22] -/
def execThermalSample (readings : List (Die × BitVec 16)) (failed : Option (Die × Fin 4)) (s : State) :
    Host.Outcome State Fault Refusal :=
  let s1 := readings.foldl (fun z r => z.readTemp r.1.code r.2) s
  let s2 := match failed with
    | some (d, i) => s1.dieFault d.code 0x00 i.val 0x21
    | none => s1
  let p := s2.power
  let top := s2.hottest
  let t := bits (s2.g .PWR_CFG) 16 8
  let above := p.tAbove && decide (((2 * t : Nat) : Int) < top)
  let below := p.tBelow && decide (top < ((2 * (t - 5) : Nat) : Int))
  let now := if s2.level = 8 then s2.hotDies else []
  let hot := if p.tCount = 0 then now else p.hot.filter fun d => now.contains d
  if p.tCount + 1 < 10 then
    .next { s2 with power := { p with tCount := p.tCount + 1, tAbove := above, tBelow := below, hot := hot } }
  else
    let lows := if below then p.tLowRuns + 1 else 0
    let dem := if above then Nat.min 8 (s2.thermDem + 1) else if lows = 10 then s2.thermDem - 1 else s2.thermDem
    let p1 := { p with tCount := 0, tAbove := true, tBelow := true, tLowRuns := lows % 10, hot := [] }
    .next ((({ s2 with power := p1 } : State).setDemands s2.powerDem dem).hotFaults hot)

/-! ### The local tick (R9) -/

/-- Whether M-die m serves a block of a tier of this module (R169, R175, R177). -/
def State.servedBy (s : State) (m addr : Nat) : Bool :=
  s.isOwn addr && decide (regionOf addr < 2) && ((s.tierServe (regionOf addr) (offOf addr)).map Prod.fst == some m)

/-- Whether what a tick finds can stand at a die: the unit is there and at work. -/
def State.stallFits (s : State) (d : Die) (x : Stall) : Bool :=
  match d, x with
  | .c n, .arrFeed u a => !(s.arr (n.val * 16 + u.val) a.val).flying.isEmpty
  | .c n, .arrDrain u a => !(s.arr (n.val * 16 + u.val) a.val).flying.isEmpty
  | .c n, .arrHold u a => (s.arr (n.val * 16 + u.val) a.val).headHeld
  | .c n, .teaBank u a => s.captures (n.val * 16 + u.val) a.val
  | d, .channel ch => ch.die == d && s.chanAtWork ch
  | .c n, .vecPort u => (s.vec (n.val * 16 + u.val)).queue.any (·.started)
  | .m m, .rennetMem e => let st := s.renState m.val e.val; st == 2 || st == 3
  | .m m, .pressMem e => s.prState m.val e.val == 2
  | d, .guard => d.code == s.headDie && s.capture.isSome
  | .m m, .reread addr _ => s.servedBy m.val addr.toNat
  | _, .nodeParity _ => true
  | _, .itemLost _ => true
  | .x _, .fec _ _ _ => true
  | _, _ => false

/-- Whether a stall shows in status registers until the die's next tick. -/
def Stall.stands : Stall → Bool
  | .reread _ _ => false
  | .nodeParity _ => false
  | .itemLost _ => false
  | .fec _ _ _ => false
  | _ => true

/-- What a tick finds takes effect: a stall is counted (those of a feeder, a held load and a capture by tickCore, a guard's by
tickHead, a channel's by tickChannels), a block's next reads mismatch (R173), a node or an item faults (Table 7.8), a codeword is corrected (R324). -/
def State.countStall (s : State) (die : Nat) (x : Stall) : State :=
  match x with
  | .arrFeed _ _ | .arrHold _ _ | .teaBank _ _ | .channel _ | .guard => s
  | .arrDrain u a => s.bump .ARR_DRAIN_STALL die u.val a.val 1
  | .vecPort u => s.bump .VE_SP_STALL die u.val 0 1
  | .rennetMem e => s.bump .RN_MEM_STALL die 0 e.val 1
  | .pressMem e => s.bump .PR_MEM_STALL die 0 e.val 1
  | .reread addr n => s.disturb (s.blockOf addr.toNat) n.val
  | .nodeParity i => s.vetchFault die 0x03 i.val
  | .itemLost i => s.vetchFault die 0x04 i.val
  | .fec p data noise =>
    s.rsArrive (portOf die p.val) (data.map BitVec.toNat) (noise.map fun e => (e.1.val, e.2.toNat))

/-- The handshake watchdogs of a die count the channels that wait; a channel that does not wait, or has been acknowledged since the last
tick, starts afresh (R99). [DESIGN CHOICE, log entry 23] -/
def State.tickChannels (s : State) (d : Die) (st : List Stall) : State :=
  let chans := st.filterMap fun x => match x with
    | .channel ch => some ch
    | _ => none
  { s with hsWait := (s.hsWait.filter fun e => e.1.die != d) ++ chans.map fun ch => (ch, s.waited ch + 1) }

/-- The waits on semaphores of a die, and its queue monitors (R155, R372). -/
def State.tickWaits (s : State) (die : Nat) : State :=
  let watched (v : Nat) : Bool := bit v 31 && s.semWaits.any fun w => w.die == die && w.sem == bits v 0 12
  let s1 := (List.range 16).foldl (fun z i =>
    if watched (s.rg .VETCH_QMON die 0 i) then z.bump .VETCH_QSTALL die 0 i 1 else z) s
  { s1 with semWaits := s1.semWaits.map fun w => if w.die = die then { w with lt := w.lt + 1 } else w }

/-- A sequencer's holds (Table 5.10). -/
def State.tickSeq (s : State) (core : Nat) : State :=
  if s.seqState core ≠ 2 then s
  else
    let h := s.fld .SEQ_STATUS (core / 16) (core % 16) 0 12 4
    if 1 ≤ h ∧ h ≤ 3 then
      (s.bump .SEQ_SYNC_WAIT (core / 16) (core % 16) 0 1).setSeq core
        { s.seq core with waitLt := (s.seq core).waitLt + 1 }
    else if 4 ≤ h ∧ h ≤ 10 then s.bump .SEQ_ISSUE_HOLD (core / 16) (core % 16) 0 1
    else s

/-- The waits of a core's array feeders, and the holds of its arrays, vector engine and Teasel (R77, R94, R116, R233): at most one tick of
each. -/
def State.tickCore (s : State) (core : Nat) : State :=
  let d := core / 16
  let u := core % 16
  let s1 := (List.range 4).foldl (fun z a =>
    let z1 := if s.loadStalled d u a then z.bump .ARR_LOAD_HOLD d u a 1 else z
    if s.feedStalled d u a then z1.bump .ARR_FEED_STALL d u a 1 else z1) s
  let s2 := if s.vecHeld core then s1.bump .VE_HAZARD_HOLD d u 0 1 else s1
  let s3 := if (s.snoops core).2 then s2.bump .TEA_SNOOP_HOLD d u 0 1 else s2
  s3.tickSeq core

/-- DMA channels with a descriptor in progress (R189). -/
def State.tickDma (s : State) (die : Nat) : State :=
  (List.range (dmaChannels die)).foldl (fun z c =>
    let x := z.dma die c
    if x.cur.isSome ∧ x.mode = 0 then z.setDma die c { x with progLt := x.progLt + 1 } else z) s

/-- Direction-ring waits of an M-die (Table 10.8). -/
def State.tickPress (s : State) (die : Nat) : State :=
  (List.range 8).foldl (fun z e =>
    if s.semWaits.any fun w => w.die == die && w.who == Waiter.dirRing e then z.bump .PR_DIR_WAIT die 0 e 1 else z) s

/-- A port's timers, and the acknowledges it still owes (R326, R332, R335). -/
def State.tickPort (s : State) (p : Nat) : State :=
  let x := s.port p
  let st := s.portState p
  let y := { x with
    trainLt := if st = 1 ∨ st = 3 then x.trainLt + 1 else x.trainLt
    ackLt := if x.replay = [] then x.ackLt else x.ackLt + 1
    fAckLt := if x.freplay = [] then x.fAckLt else x.fAckLt + 1 }
  (if y = x then s else s.setPort p y).sendOwed p

/-- A Vat's timers (R360). -/
def State.tickVat (s : State) (x : Nat) : State :=
  let v := s.vat x
  let y := { v with
    admLt := if v.granted || s.granted (0x50 + x) .vat then v.admLt + 1 else v.admLt
    active := v.active.map fun c => { c with progLt := c.progLt + 1 } }
  if y = v then s else s.setVat x y

/-- Ports of an X-die (R322). -/
def portsOf (die : Nat) : List Nat := (List.range 36).filter fun p => (portAt p).1 == die

/-- The timers that the half in charge owns: Hoop, Sorrel, job watchdog, stop, leases, decode, sessions, capture, throttle level; and
the token copies of its operating system. -/
def State.tickHead (s : State) : State :=
  let s1 := (List.range 16).foldl (fun z h =>
    if z.hoopUndecided h then z.setHoop h { z.hoop h with ticks := (z.hoop h).ticks + 1 } else z) s
  let s2 := if 0 < s1.level then s1.bump .PWR_LEVEL_LT 0x60 0 0 1 else s1
  let s3 := if s2.heldWr = [] ∧ s2.stalled s2.headDie .guard = false then s2 else s2.bump .CAVE_GUARD_WAIT 0x60 0 0 1
  let l := s3.leases
  let sess (x : Session) : Session :=
    { x with nonce := x.nonce.map fun n => (n.1, n.2 + 1), teleLt := if x.tele.isSome then x.teleLt + 1 else x.teleLt }
  let s4 : State := { s3 with
    sorrelLt := if bit (s3.g .SORREL_STATUS) 2 then s3.sorrelLt + 1 else s3.sorrelLt
    jobWdLt := if s3.jobRuns then s3.jobWdLt + 1 else s3.jobWdLt
    stopLt := if s3.stopping then s3.stopLt + 1 else s3.stopLt
    leases := { l with renewLt := l.renewLt + 1, boardLt := if s3.boardHolder then l.boardLt else l.boardLt + 1 }
    decLt := if s3.genHeld = 0 then 0 else s3.decLt + 1
    sessions := s3.sessions.map sess
    capture := s3.capture.map fun c => { c with progLt := c.progLt + 1 } }
  s4.copyTokens

/-- The watcher counts ticks since the last renewal it accepted (R390). -/
def State.tickWatcher (s : State) : State := { s with leases := { s.leases with halfLt := s.leases.halfLt + 1 } }

/-- The timers of an X-die. -/
def State.tickX (s : State) (x : Nat) : State :=
  let die := 0x50 + x
  let s1 := (portsOf die).foldl State.tickPort s
  let s2 := s1.tickVat x
  let s3 : State := { s2 with xTicks := setAt s2.xTicks x (nth 0 s2.xTicks x + 1) }
  let s4 := if die = s3.headDie then s3.tickHead else s3
  if die = s4.watchDie then s4.tickWatcher else s4

/-- LOCAL_TICK (R9): the timers that the die owns, its counters of stalls and waits, and what its hardware meets. [DESIGN CHOICE, log entries 23 and 35; DEDUCED, log entry 73] -/
def execLocalTick (d : Die) (st : List Stall) (s : State) : Host.Outcome State Fault Refusal :=
  let die := d.code
  let now := (st.filter fun x => s.stallFits d x).eraseDups
  let s1 : State := { s with stalls := (s.stalls.filter fun e => e.1 != die) ++
    (now.filter Stall.stands).map fun x => (die, x) }
  let s2 := (((now.foldl (fun z x => z.countStall die x) s1).tickChannels d now).tickWaits die).tickDma die
  let s3 := match d with
    | .c n => (List.range 16).foldl (fun (z : State) u => z.tickCore (n.val * 16 + u)) s2
    | .m _ => s2.tickPress die
    | .x x => s2.tickX x.val
  .next s3.stopCheck

end Sys2Proof.Machine
end

