-- ==== Sys2Proof/Machine/RegRows.lean ====
section
/-!
DEFINITION. The rows that are register writes: the write of any register, and those of the registers whose writes act (a row names
the register; its effect is the write of that register).
-/

namespace Sys2Proof.Machine

/-- Answer the requester of a register write. -/
def State.wrote (p : State × WAns) : State :=
  match p with
  | (s, .done) => s.answer .ok
  | (s, .error) => s.answer .accessError
  | (s, .later) => s

/-- A write of element (i, j) of a register on a die, at its location and width. -/
def State.writeReg (s : State) (w : Writer) (r : Reg) (die i j v : Nat) : State :=
  State.wrote (s.busWrite w (loc r die i j) r.row.w64 v)

/-- A register write of a width (R16): one of another width than 4 or 8 bytes has no effect and returns an access error. -/
def State.widthWrite (s : State) (w : Writer) (l : Nat) (width : Width) (v : Nat) : State × WAns :=
  match width with
  | .w4 => s.busWrite w l false (v % 2 ^ 32)
  | .w8 => s.busWrite w l true v
  | .other _ => (s, .error)

/-- The REG_WR of a store to the twin: an access error where no port takes it (R338). -/
def State.farStore (s : State) (l : Nat) (wide : Bool) (v : Nat) : State × WAns :=
  match s.sendRegFor .cc s.twinNode l wide v with
  | (z, true) => (z, .later)
  | (z, false) => (z, .error)

/-- A store of a control core to a register of the twin travels as a REG_WR flit, whose WR_ACK answers it (R163, R344); no other
requester has that address. A half that is fenced issues no write (R390). [DEDUCED, log entry 51] -/
def State.farWrite (s : State) (w : Writer) (l : Nat) (width : Width) (v : Nat) : State × WAns :=
  match w, width with
  | .cc east _ _, .w4 => if s.leases.fencedEast = some east then (s, .later) else s.farStore l false (v % 2 ^ 32)
  | .cc east _ _, .w8 => if s.leases.fencedEast = some east then (s, .later) else s.farStore l true v
  | _, _ => (s, .error)

/-- REGISTER_WRITE (R16). -/
def execRegisterWrite (w : Writer) (addr : RegPlace) (width : Width) (v : BitVec 64) (s : State) :
    Host.Outcome State Fault Refusal :=
  .next (State.wrote (if addr.far then s.farWrite w addr.off.toNat width v.toNat
    else s.widthWrite w addr.off.toNat width v.toNat))

/-- DIE_LEASE_WRITE (R391, R482). [DEDUCED, log entry 13] -/
def execDieLeaseWrite (w : Writer) (d : Die) (v : BitVec 64) (s : State) : Host.Outcome State Fault Refusal :=
  .next (s.writeReg w .DIE_LEASE d.code 0 0 v.toNat)

/-- SEQ_CTRL_GO (R137). [DESIGN CHOICE, log entry 32] -/
def execSeqCtrlGo (w : Writer) (c : CoreId) (s : State) : Host.Outcome State Fault Refusal :=
  .next (s.writeReg w .SEQ_CTRL c.die.val c.core.val 0 1)

/-- DMA_CH_SUBMIT (R182, R185). -/
def execDmaChSubmit (w : Writer) (d : Die) (ch : Fin 32) (v : BitVec 64) (s : State) : Host.Outcome State Fault Refusal :=
  .next (s.writeReg w .DMA_CH_SUBMIT d.code 0 ch.val v.toNat)

/-- MC_RETIRE (R176). -/
def execMcRetire (w : Writer) (m : Fin 12) (v : BitVec 32) (s : State) : Host.Outcome State Fault Refusal :=
  .next (s.writeReg w .MC_RETIRE (0x40 + m.val) 0 0 v.toNat)

/-- VETCH_SIGNAL (R200). -/
def execVetchSignal (w : Writer) (d : Die) (v : BitVec 64) (s : State) : Host.Outcome State Fault Refusal :=
  .next (s.writeReg w .VETCH_SIGNAL d.code 0 0 v.toNat)

/-- VETCH_ARRIVE (R202, R205). -/
def execVetchArrive (w : Writer) (d : Die) (v : BitVec 32) (s : State) : Host.Outcome State Fault Refusal :=
  .next (s.writeReg w .VETCH_ARRIVE d.code 0 0 v.toNat)

/-- HOOP_OPEN (R213, R299): a write of HOOP_CTRL with OPEN set. -/
def execHoopOpen (w : Writer) (h : Fin 16) (v : BitVec 32) (s : State) : Host.Outcome State Fault Refusal :=
  .next (s.writeReg w .HOOP_CTRL 0x60 0 h.val (setBits v.toNat 0 1 1))

/-- HOOP_ABORT (R217): a write of HOOP_CTRL with ABORT set. -/
def execHoopAbort (w : Writer) (h : Fin 16) (v : BitVec 32) (s : State) : Host.Outcome State Fault Refusal :=
  .next (s.writeReg w .HOOP_CTRL 0x60 0 h.val (setBits v.toNat 1 1 1))

/-- HOOP_STG_STAGE (R214): a write of HOOP_STG_CMD in a window. [DEDUCED, log entry 43] -/
def execHoopStgStage (w : Writer) (win : Fin 16) (v : BitVec 32) (s : State) : Host.Outcome State Fault Refusal :=
  .next (s.writeReg w .HOOP_STG_CMD 0x60 0 win.val v.toNat)

/-- HOOP_STG_READY (R215): a write of HOOP_STG_CMD with READY set. [DEDUCED, log entry 43] -/
def execHoopStgReady (w : Writer) (win : Fin 16) (v : BitVec 32) (s : State) : Host.Outcome State Fault Refusal :=
  .next (s.writeReg w .HOOP_STG_CMD 0x60 0 win.val (setBits v.toNat 16 1 1))

/-- PORT_ENABLE (R326): a write of SL_CFG. -/
def execPortEnable (w : Writer) (p : Fin 36) (v : BitVec 32) (s : State) : Host.Outcome State Fault Refusal :=
  .next (s.writeReg w .SL_CFG (portAt p.val).1 0 (portAt p.val).2 v.toNat)

/-- REG_WR (R344): a register write that a flit carries, answered by WR_ACK. A descriptor submission that waits for the twin's own
memory is acknowledged when it has been taken up. -/
def execRegWr (r : Rx) (off : BitVec 32) (width : Width) (v : BitVec 64) (s : State) : Host.Outcome State Fault Refusal :=
  let n := width.bytes
  let src := r.src.toNat
  .next (s.rxFlit r (rxAsFlit r 0x05 (n - 1) off.toNat (leBytes n v.toNat)) fun s1 =>
    let w : Writer := if src = s1.twinNode then .twin else .node r.src
    match s1.widthWrite w off.toNat width v.toNat with
    | (s2, .error) => s2.respond 0x04 src r.tag.toNat true []
    | (s2, _) => s2.respond 0x04 src r.tag.toNat false [])

/-- VAT_SUBMIT (R345). -/
def execVatSubmit (w : Writer) (x : Fin 4) (v : BitVec 64) (s : State) : Host.Outcome State Fault Refusal :=
  .next (s.writeReg w .VAT_SUBMIT (0x50 + x.val) 0 0 v.toNat)

/-- TWIN_FENCE (R388). -/
def execTwinFence (w : Writer) (v : BitVec 32) (s : State) : Host.Outcome State Fault Refusal :=
  .next (s.writeReg w .TWIN_FENCE 0x60 0 0 v.toNat)

/-- YIELD (R412): a write of LEASE_CTRL.YIELD. [DEDUCED, log entry 53] -/
def execYield (w : Writer) (s : State) : Host.Outcome State Fault Refusal :=
  .next (s.writeReg w .LEASE_CTRL 0x60 0 0 1)

/-- RELOAD_WATCHER (R432): a write of LEASE_CTRL.RELOAD_WATCHER. -/
def execReloadWatcher (w : Writer) (s : State) : Host.Outcome State Fault Refusal :=
  .next (s.writeReg w .LEASE_CTRL 0x60 0 0 2)

/-- RAISE_FLOOR (R423): a write of SEC_CTRL.RAISE_FLOOR of the half in charge. -/
def execRaiseFloor (w : Writer) (s : State) : Host.Outcome State Fault Refusal :=
  .next (s.writeReg w .SEC_CTRL s.headDie 0 0 1)

/-- ATT_GO (R430): a write of ATT_CTRL of the half in charge with GO set. -/
def execAttGo (w : Writer) (v : BitVec 32) (s : State) : Host.Outcome State Fault Refusal :=
  .next (s.writeReg w .ATT_CTRL s.headDie 0 0 (setBits v.toNat 31 1 1))

/-- CC_CACHE of a half. -/
def State.ccCacheRow (s : State) (w : Writer) (east : Bool) (op addr : Nat) : State :=
  s.writeReg w .CC_CACHE (if east then 0x52 else 0x50) 0 0 (op * 2 ^ 62 + addr)

/-- CC_CACHE_INVALIDATE (R439). -/
def execCcCacheInvalidate (w : Writer) (east : Bool) (addr : BitVec 44) (s : State) : Host.Outcome State Fault Refusal :=
  .next (s.ccCacheRow w east 1 addr.toNat)

/-- CC_CACHE_CLEAN (R439). -/
def execCcCacheClean (w : Writer) (east : Bool) (addr : BitVec 44) (s : State) : Host.Outcome State Fault Refusal :=
  .next (s.ccCacheRow w east 2 addr.toNat)

/-- CC_CACHE_CLEAN_INVALIDATE (R439). -/
def execCcCacheCleanInvalidate (w : Writer) (east : Bool) (addr : BitVec 44) (s : State) :
    Host.Outcome State Fault Refusal :=
  .next (s.ccCacheRow w east 3 addr.toNat)

end Sys2Proof.Machine
end

