-- ==== Sys2Proof/Machine/Units.lean ====
section
/-!
DEFINITION. What the units of a core do once a command has been accepted: passes, vector commands, curvature updates and
flushes.
-/

namespace Sys2Proof.Machine

/-- Cause of Table 3.9. -/
def arrParityCause : ArrParity → Nat
  | .bank => 0x01
  | .store => 0x02
  | .column => 0x03

/-- Cause of Table 4.9. -/
def vecParityCause : VecParity → Nat
  | .cache => 0x01
  | .lane => 0x02
  | .reduction => 0x03

/-- PASS_START (R73). [DESIGN CHOICE, log entry 28] -/
def execPassStart (c : CoreId) (a part : Fin 4) (s : State) : Host.Outcome State Fault Refusal :=
  .next (s.passStart c.ix a.val part.val)

/-- LOAD_BEAT_RELEASE (R77). -/
def execLoadBeatRelease (c : CoreId) (a part : Fin 4) (s : State) : Host.Outcome State Fault Refusal :=
  .next (s.loadRelease c.ix a.val part.val)

/-- PASS_COMPLETE (R90, R98). -/
def execPassComplete (c : CoreId) (a part : Fin 4) (flt : Option (ArrParity × Fin 4096)) (s : State) :
    Host.Outcome State Fault Refusal :=
  .next (s.passComplete c.ix a.val part.val (flt.map fun f => (arrParityCause f.1, f.2.val)))

/-- VEC_COMMAND_START (R105, R116). -/
def execVecCommandStart (c : CoreId) (s : State) : Host.Outcome State Fault Refusal :=
  .next (s.vecStart c.ix)

/-- VEC_COMMAND_COMPLETE (R128, R130): not while a stop request stands, which ends commands at a row (R129). -/
def execVecCommandComplete (c : CoreId) (flt : Option (VecParity × Fin 4096 × Fin 16)) (s : State) :
    Host.Outcome State Fault Refusal :=
  if (s.vec c.ix).stopAt && flt.isNone then .next s
  else .next (s.vecFinish c.ix none (flt.map fun f => (vecParityCause f.1, f.2.1.val, f.2.2.val)))

/-- VEC_STOP_AT_ROW (R129): a stop request takes effect while the row given is processed; that row completes. -/
def execVecStopAtRow (c : CoreId) (row : Fin 4096) (s : State) : Host.Outcome State Fault Refusal :=
  if (s.vec c.ix).stopAt then .next (s.vecFinish c.ix (some row.val) none) else .next s

/-- TEASEL_CAPTURE (R231). [DEDUCED, log entry 70] -/
def execTeaselCapture (c : CoreId) (a part : Fin 4) (parity : Bool) (s : State) : Host.Outcome State Fault Refusal :=
  .next (s.teaCapture c.ix a.val part.val parity)

/-- TEASEL_UPDATE (R235). -/
def execTeaselUpdate (c : CoreId) (parity : Bool) (s : State) : Host.Outcome State Fault Refusal :=
  .next (s.teaUpdate c.ix parity)

/-- TEASEL_UPDATE_COMPLETE (R237). -/
def execTeaselUpdateComplete (c : CoreId) (parity : Bool) (s : State) : Host.Outcome State Fault Refusal :=
  .next (s.teaUpdateDone c.ix parity)

/-- FLUSH_COMPLETE (R242). [DEDUCED, log entry 70] -/
def execFlushComplete (c : CoreId) (parity : Bool) (s : State) : Host.Outcome State Fault Refusal :=
  .next (s.flushDone c.ix parity)

end Sys2Proof.Machine
end

