-- ==== Sys2Proof/Machine/Dispatch.lean ====
section
/-!
DEFINITION. One arm for every command of the table, in its order.
-/

namespace Sys2Proof.Machine

/-- The effect of a command on everything but the queue. -/
def exec (i : Instr) (s : State) : Host.Outcome State Fault Refusal :=
  match i with
  | .resetRelease b => Sys2Proof.Machine.execResetRelease b s
  | .resetNLow => Sys2Proof.Machine.execResetNLow s
  | .powerInputOutOfRange main => Sys2Proof.Machine.execPowerInputOutOfRange main s
  | .thermTrip d => Sys2Proof.Machine.execThermTrip d s
  | .localTick d st => Sys2Proof.Machine.execLocalTick d st s
  | .powerSample watts decivolts => Sys2Proof.Machine.execPowerSample watts decivolts s
  | .thermalSample readings failed => Sys2Proof.Machine.execThermalSample readings failed s
  | .registerWrite w addr width v => Sys2Proof.Machine.execRegisterWrite w addr width v s
  | .dieLeaseWrite w d v => Sys2Proof.Machine.execDieLeaseWrite w d v s
  | .seqCtrlGo w c => Sys2Proof.Machine.execSeqCtrlGo w c s
  | .sclNop c p => Sys2Proof.Machine.execSclNop c p s
  | .sclLi c p => Sys2Proof.Machine.execSclLi c p s
  | .sclAlu c p => Sys2Proof.Machine.execSclAlu c p s
  | .sclAlui c p => Sys2Proof.Machine.execSclAlui c p s
  | .sclLd c p => Sys2Proof.Machine.execSclLd c p s
  | .sclSt c p => Sys2Proof.Machine.execSclSt c p s
  | .sclGetid c p => Sys2Proof.Machine.execSclGetid c p s
  | .sclHalt c p => Sys2Proof.Machine.execSclHalt c p s
  | .brJ c p => Sys2Proof.Machine.execBrJ c p s
  | .brCmp c p => Sys2Proof.Machine.execBrCmp c p s
  | .brSum c p => Sys2Proof.Machine.execBrSum c p s
  | .brDec c p => Sys2Proof.Machine.execBrDec c p s
  | .brCall c p => Sys2Proof.Machine.execBrCall c p s
  | .brRet c p => Sys2Proof.Machine.execBrRet c p s
  | .synSig c p => Sys2Proof.Machine.execSynSig c p s
  | .synWait c p => Sys2Proof.Machine.execSynWait c p s
  | .synBar c p => Sys2Proof.Machine.execSynBar c p s
  | .synFence c p => Sys2Proof.Machine.execSynFence c p s
  | .synEpoch c p => Sys2Proof.Machine.execSynEpoch c p s
  | .hoopStage c p => Sys2Proof.Machine.execHoopStage c p s
  | .hoopReady c p => Sys2Proof.Machine.execHoopReady c p s
  | .hoopWait c p => Sys2Proof.Machine.execHoopWait c p s
  | .dmaSub c p => Sys2Proof.Machine.execDmaSub c p s
  | .dmaCload c p n => Sys2Proof.Machine.execDmaCload c p n s
  | .matPass c p => Sys2Proof.Machine.execMatPass c p s
  | .passStart c a part => Sys2Proof.Machine.execPassStart c a part s
  | .loadBeatRelease c a part => Sys2Proof.Machine.execLoadBeatRelease c a part s
  | .passComplete c a part flt => Sys2Proof.Machine.execPassComplete c a part flt s
  | .vecRun c p => Sys2Proof.Machine.execVecRun c p s
  | .vecLds c p => Sys2Proof.Machine.execVecLds c p s
  | .vecLdc c p => Sys2Proof.Machine.execVecLdc c p s
  | .vecFill c p => Sys2Proof.Machine.execVecFill c p s
  | .vecCommandStart c => Sys2Proof.Machine.execVecCommandStart c s
  | .vecCommandComplete c flt => Sys2Proof.Machine.execVecCommandComplete c flt s
  | .vecStopAtRow c row => Sys2Proof.Machine.execVecStopAtRow c row s
  | .teaSet c p => Sys2Proof.Machine.execTeaSet c p s
  | .teaSetBlk c p => Sys2Proof.Machine.execTeaSetBlk c p s
  | .teaFlush c p => Sys2Proof.Machine.execTeaFlush c p s
  | .teaselCapture c a part parity => Sys2Proof.Machine.execTeaselCapture c a part parity s
  | .teaselUpdate c parity => Sys2Proof.Machine.execTeaselUpdate c parity s
  | .teaselUpdateComplete c parity => Sys2Proof.Machine.execTeaselUpdateComplete c parity s
  | .flushComplete c parity => Sys2Proof.Machine.execFlushComplete c parity s
  | .dmaChSubmit w d ch v => Sys2Proof.Machine.execDmaChSubmit w d ch v s
  | .dmaDescriptorStart d ch => Sys2Proof.Machine.execDmaDescriptorStart d ch s
  | .dmaBurstComplete d ch bad => Sys2Proof.Machine.execDmaBurstComplete d ch bad s
  | .dmaDescriptorComplete d ch => Sys2Proof.Machine.execDmaDescriptorComplete d ch s
  | .dmaProgressTimeout d ch => Sys2Proof.Machine.execDmaProgressTimeout d ch s
  | .tierRead r addr bad => Sys2Proof.Machine.execTierRead r addr bad s
  | .tierWrite r addr data => Sys2Proof.Machine.execTierWrite r addr data s
  | .sramAccess r addr acc err => Sys2Proof.Machine.execSramAccess r addr acc err s
  | .mcRetire w m v => Sys2Proof.Machine.execMcRetire w m v s
  | .migrationLineCopy m slow => Sys2Proof.Machine.execMigrationLineCopy m slow s
  | .signal src d sem n => Sys2Proof.Machine.execSignal src d sem n s
  | .vetchSignal w d v => Sys2Proof.Machine.execVetchSignal w d v s
  | .vetchArrive w d v => Sys2Proof.Machine.execVetchArrive w d v s
  | .arrive src d ctx gen ready flags => Sys2Proof.Machine.execArrive src d ctx gen ready flags s
  | .complete src d ctx gen => Sys2Proof.Machine.execComplete src d ctx gen s
  | .advance src d epoch commits aborts flags => Sys2Proof.Machine.execAdvance src d epoch commits aborts flags s
  | .abort src h inst => Sys2Proof.Machine.execAbort src h inst s
  | .autoArrival d => Sys2Proof.Machine.execAutoArrival d s
  | .autoArrivalGateTimeout d => Sys2Proof.Machine.execAutoArrivalGateTimeout d s
  | .semaphoreWaitTimeout c => Sys2Proof.Machine.execSemaphoreWaitTimeout c s
  | .barrierWaitTimeout c => Sys2Proof.Machine.execBarrierWaitTimeout c s
  | .hoopOpen w h v => Sys2Proof.Machine.execHoopOpen w h v s
  | .hoopAbort w h v => Sys2Proof.Machine.execHoopAbort w h v s
  | .hoopStgStage w win v => Sys2Proof.Machine.execHoopStgStage w win v s
  | .hoopStgReady w win v => Sys2Proof.Machine.execHoopStgReady w win v s
  | .hoopTimeout h => Sys2Proof.Machine.execHoopTimeout h s
  | .refresh m e => Sys2Proof.Machine.execRefresh m e s
  | .intakeComplete m e flt => Sys2Proof.Machine.execIntakeComplete m e flt s
  | .rennetJobComplete m e flt => Sys2Proof.Machine.execRennetJobComplete m e flt s
  | .rennetTriggerTimeout m e => Sys2Proof.Machine.execRennetTriggerTimeout m e s
  | .updateStart m e => Sys2Proof.Machine.execUpdateStart m e s
  | .dirChunk m e => Sys2Proof.Machine.execDirChunk m e s
  | .dirRingWaitTimeout m e => Sys2Proof.Machine.execDirRingWaitTimeout m e s
  | .pressTile m e parity => Sys2Proof.Machine.execPressTile m e parity s
  | .updateFinished m e => Sys2Proof.Machine.execUpdateFinished m e s
  | .pressArrival m e => Sys2Proof.Machine.execPressArrival m e s
  | .shardGatePass m e => Sys2Proof.Machine.execShardGatePass m e s
  | .restartRederive m e => Sys2Proof.Machine.execRestartRederive m e s
  | .sorrelModuleDigest => Sys2Proof.Machine.execSorrelModuleDigest s
  | .sorrelTimeout => Sys2Proof.Machine.execSorrelTimeout s
  | .portEnable w p v => Sys2Proof.Machine.execPortEnable w p v s
  | .portTrained p lanes node port => Sys2Proof.Machine.execPortTrained p lanes node port s
  | .trainingTimeout p => Sys2Proof.Machine.execTrainingTimeout p s
  | .laneLockLoss p lanes => Sys2Proof.Machine.execLaneLockLoss p lanes s
  | .replayTimeout p sync => Sys2Proof.Machine.execReplayTimeout p sync s
  | .linkctl p ack nak credits => Sys2Proof.Machine.execLinkctl p ack nak credits s
  | .wr r addr data => Sys2Proof.Machine.execWr r addr data s
  | .rdReq r addr lm1 => Sys2Proof.Machine.execRdReq r addr lm1 s
  | .rdResp r err data => Sys2Proof.Machine.execRdResp r err data s
  | .wrAck r err => Sys2Proof.Machine.execWrAck r err s
  | .regWr r off width v => Sys2Proof.Machine.execRegWr r off width v s
  | .vetch r fseq fack f => Sys2Proof.Machine.execVetch r fseq fack f s
  | .halfLeaseRenewal fromEast epoch => Sys2Proof.Machine.execHalfLeaseRenewal fromEast epoch s
  | .leaseRenew => Sys2Proof.Machine.execLeaseRenew s
  | .leaseTakeover board => Sys2Proof.Machine.execLeaseTakeover board s
  | .vatSubmit w x v => Sys2Proof.Machine.execVatSubmit w x v s
  | .collectiveStart x => Sys2Proof.Machine.execCollectiveStart x s
  | .collCount r cid b => Sys2Proof.Machine.execCollCount r cid b s
  | .collCredit r cid chunk final => Sys2Proof.Machine.execCollCredit r cid chunk final s
  | .collData r cid chunk idx data => Sys2Proof.Machine.execCollData r cid chunk idx data s
  | .collEnd r cid chunk crc count => Sys2Proof.Machine.execCollEnd r cid chunk crc count s
  | .collResend r cid chunk => Sys2Proof.Machine.execCollResend r cid chunk s
  | .chunkReduce x cid chunk => Sys2Proof.Machine.execChunkReduce x cid chunk s
  | .collectiveComplete x cid => Sys2Proof.Machine.execCollectiveComplete x cid s
  | .vatProgressTimeout x => Sys2Proof.Machine.execVatProgressTimeout x s
  | .vatTriggerTimeout x => Sys2Proof.Machine.execVatTriggerTimeout x s
  | .handshakeWatchdogExpiry ch => Sys2Proof.Machine.execHandshakeWatchdogExpiry ch s
  | .moduleStop => Sys2Proof.Machine.execModuleStop s
  | .seqStopped c => Sys2Proof.Machine.execSeqStopped c s
  | .stopTimeout => Sys2Proof.Machine.execStopTimeout s
  | .jobWatchdogExpiry => Sys2Proof.Machine.execJobWatchdogExpiry s
  | .caveChunk m accepted => Sys2Proof.Machine.execCaveChunk m accepted s
  | .caveCommit accepted => Sys2Proof.Machine.execCaveCommit accepted s
  | .caveAgreed accepted => Sys2Proof.Machine.execCaveAgreed accepted s
  | .caveProgressTimeout => Sys2Proof.Machine.execCaveProgressTimeout s
  | .twinFence w v => Sys2Proof.Machine.execTwinFence w v s
  | .yield w => Sys2Proof.Machine.execYield w s
  | .reloadWatcher w => Sys2Proof.Machine.execReloadWatcher w s
  | .raiseFloor w => Sys2Proof.Machine.execRaiseFloor w s
  | .attGo w v => Sys2Proof.Machine.execAttGo w v s
  | .attestReportDone accepted => Sys2Proof.Machine.execAttestReportDone accepted s
  | .scanTestEntry ir => Sys2Proof.Machine.execScanTestEntry ir s
  | .ccCacheInvalidate w east addr => Sys2Proof.Machine.execCcCacheInvalidate w east addr s
  | .ccCacheClean w east addr => Sys2Proof.Machine.execCcCacheClean w east addr s
  | .ccCacheCleanInvalidate w east addr => Sys2Proof.Machine.execCcCacheCleanInvalidate w east addr s
  | .mgmtConnect h => Sys2Proof.Machine.execMgmtConnect h s
  | .status q => Sys2Proof.Machine.execStatus q s
  | .regRead q offs => Sys2Proof.Machine.execRegRead q offs s
  | .regWrite q writes => Sys2Proof.Machine.execRegWrite q writes s
  | .jobLoad q image x => Sys2Proof.Machine.execJobLoad q image x s
  | .jobStart q => Sys2Proof.Machine.execJobStart q s
  | .jobStop q => Sys2Proof.Machine.execJobStop q s
  | .jobUnload q => Sys2Proof.Machine.execJobUnload q s
  | .tokens q step off toks => Sys2Proof.Machine.execTokens q step off toks s
  | .genRequest q seed maxNew prompt => Sys2Proof.Machine.execGenRequest q seed maxNew prompt s
  | .decodeWaitExpiry => Sys2Proof.Machine.execDecodeWaitExpiry s
  | .genCancel q target => Sys2Proof.Machine.execGenCancel q target s
  | .teleSub q period offs => Sys2Proof.Machine.execTeleSub q period offs s
  | .telemetry session => Sys2Proof.Machine.execTelemetry session s
  | .fwBegin q slot len => Sys2Proof.Machine.execFwBegin q slot len s
  | .fwData q off data => Sys2Proof.Machine.execFwData q off data s
  | .fwCommit q => Sys2Proof.Machine.execFwCommit q s
  | .attest q nonce => Sys2Proof.Machine.execAttest q nonce s
  | .testNonce q => Sys2Proof.Machine.execTestNonce q s
  | .testEnter q sig => Sys2Proof.Machine.execTestEnter q sig s
  | .memRead q addr len r => Sys2Proof.Machine.execMemRead q addr len r s
  | .memWrite q addr data r => Sys2Proof.Machine.execMemWrite q addr data r s
  | .reset q force => Sys2Proof.Machine.execReset q force s
  | .rindLeaseOutLatch => Sys2Proof.Machine.execRindLeaseOutLatch s
  | .rindLeaseIn v => Sys2Proof.Machine.execRindLeaseIn v s
  | .rindWrite a v => Sys2Proof.Machine.execRindWrite a v s
  | .fenceTwin key => Sys2Proof.Machine.execFenceTwin key s
  | .unfenceTwin key => Sys2Proof.Machine.execUnfenceTwin key s
  | .fenceFabric key => Sys2Proof.Machine.execFenceFabric key s
  | .unfenceFabric key => Sys2Proof.Machine.execUnfenceFabric key s
  | .stopJob key => Sys2Proof.Machine.execStopJob key s
  | .powerInputInRange main => Sys2Proof.Machine.execPowerInputInRange main s
  | .syncLaneLoss p => Sys2Proof.Machine.execSyncLaneLoss p s
  | .syncLaneRetrained p => Sys2Proof.Machine.execSyncLaneRetrained p s
  | .damagedFlitOrFrame p frame reserved => Sys2Proof.Machine.execDamagedFlitOrFrame p frame reserved s
  | .idleFrame p ack nak => Sys2Proof.Machine.execIdleFrame p ack nak s
  | .reservedOpcode c p => Sys2Proof.Machine.execReservedOpcode c p s
  | .malformed q typ => Sys2Proof.Machine.execMalformed q typ s
  | .mgmtLinkUp => Sys2Proof.Machine.execMgmtLinkUp s
  | .mgmtLinkDown => Sys2Proof.Machine.execMgmtLinkDown s
  | .sessionClose session => Sys2Proof.Machine.execSessionClose session s
  | .decodeBatchComplete toks => Sys2Proof.Machine.execDecodeBatchComplete toks s

end Sys2Proof.Machine
end

