-- ==== Sys2Proof/WellFormed.lean ====
section
/-!
DEFINITION. Which commands can come from the block's surroundings as they are written: operands that name something the module
has, and messages no longer than their formats allow. `exec` gives every command a meaning; these checks say what a sender may
send.
-/

namespace Sys2Proof

/-- DMA channels of a die (R181): 32 on a C-die, 16 elsewhere. -/
def Die.channels : Die → Nat
  | .c _ => 32
  | .m _ => 16
  | .x _ => 16

/-- Junction sensors of a die (R476). -/
def Die.sensors : Die → Nat
  | .c _ => 4
  | .m _ => 2
  | .x _ => 2

/-- Whether a die has the unit that a stall names. -/
def Stall.fits : Stall → Die → Bool
  | .arrFeed _ _, .c _ => true
  | .arrDrain _ _, .c _ => true
  | .arrHold _ _, .c _ => true
  | .teaBank _ _, .c _ => true
  | .channel ch, d => ch.die == d
  | .vecPort _, .c _ => true
  | .rennetMem _, .m _ => true
  | .pressMem _, .m _ => true
  | .guard, .x _ => true
  | .reread _ _, .m _ => true
  | .nodeParity _, _ => true
  | .itemLost _, _ => true
  | .fec _ data noise, .x _ => data.length == 640 && decide (noise.length ≤ 544)
  | _, _ => false

/-- A value for an access of a width. -/
def valueFits (width : Width) (v : BitVec 64) : Bool := decide (8 ≤ width.bytes) || decide (v.toNat < 2 ^ (8 * width.bytes))

/-- Whether a writer can store to a register of the twin by its board address (R163): a control core. -/
def Writer.reachesTwin : Writer → Bool
  | .cc _ _ _ => true
  | _ => false

/-- Bytes of one flit: 1 to 256, within one block (R343). -/
def inBlock (addr n : Nat) : Bool := decide (1 ≤ n) && decide (addr % 256 + n ≤ 256)

/-- A management message is at most 16,777,216 bytes long (R446): a fixed part and entries. -/
def messageFits (fixed entry count : Nat) : Bool := decide (fixed + entry * count ≤ 16777216)

/-- Whether a command's operands are well formed. -/
def Instr.wf (i : Instr) : Bool :=
  match i with
  | .localTick d st => st.all fun x => x.fits d
  | .thermalSample _ failed =>
    match failed with
    | some (d, n) => decide (n.val < d.sensors)
    | none => true
  | .registerWrite w a width v => valueFits width v && (!a.far || w.reachesTwin)
  | .dmaChSubmit _ d ch _ => decide (ch.val < d.channels)
  | .dmaDescriptorStart d ch => decide (ch.val < d.channels)
  | .dmaBurstComplete d ch _ => decide (ch.val < d.channels)
  | .dmaDescriptorComplete d ch => decide (ch.val < d.channels)
  | .dmaProgressTimeout d ch => decide (ch.val < d.channels)
  | .handshakeWatchdogExpiry ch =>
    match ch with
    | .dma d n => decide (n.val < d.channels)
    | _ => true
  | .tierWrite _ addr data => inBlock addr.toNat data.length
  | .sramAccess _ _ acc _ =>
    match acc with
    | .read n => decide (1 ≤ n.val)
    | .write data => decide (1 ≤ data.length) && decide (data.length ≤ 64)
  | .linkctl _ _ _ credits => credits.length == 4
  | .wr _ addr data => inBlock addr.toNat data.length
  | .rdReq _ addr lm1 => inBlock addr.toNat (lm1.toNat + 1)
  | .rdResp _ _ data => decide (data.length ≤ 256)
  | .regWr _ _ width v => valueFits width v && decide (1 ≤ width.bytes) && decide (width.bytes ≤ 256)
  | .collData _ _ _ _ data => decide (1 ≤ data.length) && decide (data.length ≤ 256)
  | .regRead _ offs => messageFits 0 8 offs.length
  | .regWrite _ writes => messageFits 0 16 writes.length
  | .jobLoad _ image _ => messageFits 0 1 image.length
  | .tokens _ _ _ toks => messageFits 20 4 toks.length
  | .genRequest _ _ _ prompt => messageFits 16 4 prompt.length
  | .teleSub _ _ offs => messageFits 8 8 offs.length
  | .fwData _ _ data => messageFits 4 1 data.length
  | .testEnter _ sig => messageFits 0 1 sig.length
  | .memWrite _ _ data _ => messageFits 8 1 data.length
  | _ => true

end Sys2Proof
end

