-- ==== Sys2Proof/Safety.lean ====
section
/-!
DEFINITION. What counts as a safe run, in the terms the statements use: a step answers a next state, and the stores of the block keep
their canonical form.
-/

namespace Sys2Proof.Machine

/-- Whether a step answers a next state. -/
def stepRuns (s : State) : Bool :=
  match step s with
  | .next _ => true
  | .fault _ => false
  | .refused _ => false

/-- The canonical form of the memory: addresses strictly rising, no byte listed that reads as 0 anyway. -/
def Memory.wf (m : List (Nat × BitVec 8)) : Bool := Sparse.wf (fun _ => 0) m

/-- The canonical form of the register space: locations strictly rising, no register listed at its reset value. -/
def Registers.wf (m : List (Nat × BitVec 64)) : Bool := Sparse.wf resetAt m

/-- The stores of the block in canonical form: memory and register space. [DESIGN CHOICE, log entry 74] -/
def State.canonical (s : State) : Bool := Memory.wf s.mem && Registers.wf s.regs

/-- The sequencer of core `c` runs, and the word `x` at its SEQ_PC is read without an error, has opcode `opc` and no bit outside
`fields`, and names no register that awaits a summary word (`u`). [DEDUCED, log entry 39] -/
def State.atCommand (s : State) (c : CoreId) (x : BitVec 128) (opc : Nat) (fields : List (Nat × Nat)) (u : ScUse) : Bool :=
  s.seqRuns c.ix && decide (s.fetch c.ix = (s, some x)) && (opcodeOf x == opc) && !reservedSet x fields &&
    !(u.reads ++ u.writes).any (s.pendingSum c.ix)

/-- Whether the requester of a register write at a location may make it: a control core whose half is not fenced carries the die's
lease epoch or writes its own watching half's blocks, the management protocol acts under the half lease of the die, the twin
leaves the security block alone but for attestation, another node writes what R344 names. [DEDUCED, log entry 51] -/
def State.mayWrite (s : State) (w : Writer) (r : Reg) (l : Nat) : Bool :=
  let epochIs (e : Nat) : Bool :=
    match s.leaseDie l with
    | none => true
    | some d => s.rg .DIE_LEASE d 0 0 == e
  match w with
  | .cc east _ e => s.leases.fencedEast != some east && (s.watcherBlock east l || epochIs e.toNat)
  | .mgmt => epochIs (s.g .HALF_LEASE)
  | .twin => r.attWritable || !(l / 0x10000 % 0x100 == 0x50 && decide (0x50 ≤ l / 0x1000000) && decide (l / 0x1000000 < 0x60))
  | .node _ => r.nodeWritable
  | .unit _ => true

/-- Whether a write of `v` to element (i, j) of register `r` on a die comes to the register's own rules: it lies in the register
space under its own address, die code 0x60 is served, the requester may make it and no lock refuses it. -/
def State.reaches (s : State) (w : Writer) (r : Reg) (die i j v : Nat) : Bool :=
  let l := loc r die i j
  decide (l < 2 ^ 32) && s.resolve l == l && !badAccess l r.row.w64 && !s.unserved l && locate l == some (r, die, i, j) &&
    s.mayWrite w r l && !s.lockedReg r die i j v

/-- Every register location but those listed holds in `t` what it holds in `s`. -/
def SameRegsBut (ls : List Nat) (s t : State) : Prop :=
  ∀ l, l ∉ ls → Sparse.get resetAt t.regs l = Sparse.get resetAt s.regs l

/-- Every byte of memory reads in `t` as in `s`. -/
def SameBytes (s t : State) : Prop := ∀ a, t.byte a = s.byte a

/-- `t` differs from `s` in registers only. -/
def RegsOnly (s t : State) : Prop := t = { s with regs := t.regs }

/-- `t` differs from `s` in registers and in what the sequencers hold only. -/
def SeqOnly (s t : State) : Prop := t = { s with regs := t.regs, seqs := t.seqs }

end Sys2Proof.Machine

namespace Sys2Proof

/-! ### Kinds of commands -/

/-- Commands that store nothing in memory, whatever their operands. -/
def Instr.storesNothing : Instr → Bool
  | .thermTrip .. | .powerSample .. | .thermalSample .. | .sclNop .. | .sclLi .. | .sclAlu .. | .sclAlui ..
  | .sclLd .. | .sclGetid .. | .sclHalt .. | .brJ .. | .brCmp .. | .brSum .. | .brDec .. | .brCall ..
  | .brRet .. | .synSig .. | .synWait .. | .synBar .. | .synFence .. | .synEpoch .. | .hoopReady ..
  | .hoopWait .. | .dmaSub .. | .matPass .. | .passStart .. | .loadBeatRelease .. | .vecRun .. | .vecLds ..
  | .vecLdc .. | .vecFill .. | .vecCommandStart .. | .teaSet .. | .teaSetBlk .. | .teaFlush ..
  | .dmaDescriptorStart .. | .dmaDescriptorComplete .. | .dmaProgressTimeout .. | .migrationLineCopy ..
  | .autoArrival .. | .autoArrivalGateTimeout .. | .semaphoreWaitTimeout .. | .barrierWaitTimeout ..
  | .refresh .. | .rennetTriggerTimeout .. | .updateStart .. | .dirChunk .. | .dirRingWaitTimeout ..
  | .shardGatePass .. | .sorrelModuleDigest .. | .sorrelTimeout .. | .portTrained .. | .trainingTimeout ..
  | .laneLockLoss .. | .replayTimeout .. | .linkctl .. | .rdReq .. | .wrAck .. | .leaseRenew .. | .collData ..
  | .vatProgressTimeout .. | .vatTriggerTimeout .. | .caveAgreed .. | .scanTestEntry .. | .mgmtConnect ..
  | .status .. | .regRead .. | .jobStart .. | .tokens .. | .genRequest .. | .decodeWaitExpiry ..
  | .genCancel .. | .teleSub .. | .telemetry .. | .fwBegin .. | .fwData .. | .fwCommit .. | .attest ..
  | .testNonce .. | .testEnter .. | .memRead .. | .rindLeaseOutLatch .. | .rindLeaseIn .. | .fenceFabric ..
  | .unfenceFabric .. | .powerInputInRange .. | .syncLaneLoss .. | .syncLaneRetrained ..
  | .damagedFlitOrFrame .. | .idleFrame .. | .reservedOpcode .. | .malformed .. | .mgmtLinkUp ..
  | .mgmtLinkDown .. | .sessionClose .. | .decodeBatchComplete .. | .collCount .. | .collCredit ..
  | .collResend .. | .collectiveStart .. | .halfLeaseRenewal .. => true
  | .resetRelease .. | .resetNLow .. | .powerInputOutOfRange .. | .localTick .. | .registerWrite ..
  | .dieLeaseWrite .. | .seqCtrlGo .. | .sclSt .. | .hoopStage .. | .dmaCload .. | .passComplete ..
  | .vecCommandComplete .. | .vecStopAtRow .. | .teaselCapture .. | .teaselUpdate .. | .teaselUpdateComplete ..
  | .flushComplete .. | .dmaChSubmit .. | .dmaBurstComplete .. | .tierRead .. | .tierWrite .. | .sramAccess ..
  | .mcRetire .. | .signal .. | .vetchSignal .. | .vetchArrive .. | .arrive .. | .complete .. | .advance ..
  | .abort .. | .hoopOpen .. | .hoopAbort .. | .hoopStgStage .. | .hoopStgReady .. | .hoopTimeout ..
  | .intakeComplete .. | .rennetJobComplete .. | .pressTile .. | .updateFinished .. | .pressArrival ..
  | .restartRederive .. | .portEnable .. | .wr .. | .rdResp .. | .regWr .. | .vetch .. | .leaseTakeover ..
  | .vatSubmit .. | .collEnd .. | .chunkReduce .. | .collectiveComplete .. | .handshakeWatchdogExpiry ..
  | .moduleStop .. | .seqStopped .. | .stopTimeout .. | .jobWatchdogExpiry .. | .caveChunk .. | .caveCommit ..
  | .caveProgressTimeout .. | .twinFence .. | .yield .. | .reloadWatcher .. | .raiseFloor .. | .attGo ..
  | .attestReportDone .. | .ccCacheInvalidate .. | .ccCacheClean .. | .ccCacheCleanInvalidate .. | .regWrite ..
  | .jobLoad .. | .jobStop .. | .jobUnload .. | .memWrite .. | .reset .. | .rindWrite .. | .fenceTwin ..
  | .unfenceTwin .. | .stopJob .. => false

/-- Commands that can begin the stop of a job (R395, R447, R449, R457). -/
def Instr.stopsAJob : Instr → Bool
  | .moduleStop .. | .jobWatchdogExpiry .. | .jobStop .. | .reset .. | .rindWrite .. | .stopJob .. => true
  | .resetRelease .. | .resetNLow .. | .powerInputOutOfRange .. | .thermTrip .. | .localTick .. | .powerSample ..
  | .thermalSample .. | .registerWrite .. | .dieLeaseWrite .. | .seqCtrlGo .. | .sclNop .. | .sclLi .. | .sclAlu ..
  | .sclAlui .. | .sclLd .. | .sclSt .. | .sclGetid .. | .sclHalt .. | .brJ .. | .brCmp .. | .brSum .. | .brDec ..
  | .brCall .. | .brRet .. | .synSig .. | .synWait .. | .synBar .. | .synFence .. | .synEpoch .. | .hoopStage ..
  | .hoopReady .. | .hoopWait .. | .dmaSub .. | .dmaCload .. | .matPass .. | .passStart .. | .loadBeatRelease ..
  | .passComplete .. | .vecRun .. | .vecLds .. | .vecLdc .. | .vecFill .. | .vecCommandStart ..
  | .vecCommandComplete .. | .vecStopAtRow .. | .teaSet .. | .teaSetBlk .. | .teaFlush .. | .teaselCapture ..
  | .teaselUpdate .. | .teaselUpdateComplete .. | .flushComplete .. | .dmaChSubmit .. | .dmaDescriptorStart ..
  | .dmaBurstComplete .. | .dmaDescriptorComplete .. | .dmaProgressTimeout .. | .tierRead .. | .tierWrite ..
  | .sramAccess .. | .mcRetire .. | .migrationLineCopy .. | .signal .. | .vetchSignal .. | .vetchArrive ..
  | .arrive .. | .complete .. | .advance .. | .abort .. | .autoArrival .. | .autoArrivalGateTimeout ..
  | .semaphoreWaitTimeout .. | .barrierWaitTimeout .. | .hoopOpen .. | .hoopAbort .. | .hoopStgStage ..
  | .hoopStgReady .. | .hoopTimeout .. | .refresh .. | .intakeComplete .. | .rennetJobComplete ..
  | .rennetTriggerTimeout .. | .updateStart .. | .dirChunk .. | .dirRingWaitTimeout .. | .pressTile ..
  | .updateFinished .. | .pressArrival .. | .shardGatePass .. | .restartRederive .. | .sorrelModuleDigest ..
  | .sorrelTimeout .. | .portEnable .. | .portTrained .. | .trainingTimeout .. | .laneLockLoss .. | .replayTimeout ..
  | .linkctl .. | .wr .. | .rdReq .. | .rdResp .. | .wrAck .. | .regWr .. | .vetch .. | .halfLeaseRenewal ..
  | .leaseRenew .. | .leaseTakeover .. | .vatSubmit .. | .collectiveStart .. | .collCount .. | .collCredit ..
  | .collData .. | .collEnd .. | .collResend .. | .chunkReduce .. | .collectiveComplete .. | .vatProgressTimeout ..
  | .vatTriggerTimeout .. | .handshakeWatchdogExpiry .. | .seqStopped .. | .stopTimeout .. | .caveChunk ..
  | .caveCommit .. | .caveAgreed .. | .caveProgressTimeout .. | .twinFence .. | .yield .. | .reloadWatcher ..
  | .raiseFloor .. | .attGo .. | .attestReportDone .. | .scanTestEntry .. | .ccCacheInvalidate .. | .ccCacheClean ..
  | .ccCacheCleanInvalidate .. | .mgmtConnect .. | .status .. | .regRead .. | .regWrite .. | .jobLoad ..
  | .jobStart .. | .jobUnload .. | .tokens .. | .genRequest .. | .decodeWaitExpiry .. | .genCancel .. | .teleSub ..
  | .telemetry .. | .fwBegin .. | .fwData .. | .fwCommit .. | .attest .. | .testNonce .. | .testEnter ..
  | .memRead .. | .memWrite .. | .rindLeaseOutLatch .. | .rindLeaseIn .. | .fenceTwin .. | .unfenceTwin ..
  | .fenceFabric .. | .unfenceFabric .. | .powerInputInRange .. | .syncLaneLoss .. | .syncLaneRetrained ..
  | .damagedFlitOrFrame .. | .idleFrame .. | .reservedOpcode .. | .malformed .. | .mgmtLinkUp .. | .mgmtLinkDown ..
  | .sessionClose .. | .decodeBatchComplete .. => false

/-- Other commands at which the end of a stop is noticed (R395). -/
def Instr.endsAStop : Instr → Bool
  | .localTick .. | .seqStopped .. | .stopTimeout .. => true
  | .resetRelease .. | .resetNLow .. | .powerInputOutOfRange .. | .thermTrip .. | .powerSample .. | .thermalSample ..
  | .registerWrite .. | .dieLeaseWrite .. | .seqCtrlGo .. | .sclNop .. | .sclLi .. | .sclAlu .. | .sclAlui ..
  | .sclLd .. | .sclSt .. | .sclGetid .. | .sclHalt .. | .brJ .. | .brCmp .. | .brSum .. | .brDec .. | .brCall ..
  | .brRet .. | .synSig .. | .synWait .. | .synBar .. | .synFence .. | .synEpoch .. | .hoopStage .. | .hoopReady ..
  | .hoopWait .. | .dmaSub .. | .dmaCload .. | .matPass .. | .passStart .. | .loadBeatRelease .. | .passComplete ..
  | .vecRun .. | .vecLds .. | .vecLdc .. | .vecFill .. | .vecCommandStart .. | .vecCommandComplete ..
  | .vecStopAtRow .. | .teaSet .. | .teaSetBlk .. | .teaFlush .. | .teaselCapture .. | .teaselUpdate ..
  | .teaselUpdateComplete .. | .flushComplete .. | .dmaChSubmit .. | .dmaDescriptorStart .. | .dmaBurstComplete ..
  | .dmaDescriptorComplete .. | .dmaProgressTimeout .. | .tierRead .. | .tierWrite .. | .sramAccess .. | .mcRetire ..
  | .migrationLineCopy .. | .signal .. | .vetchSignal .. | .vetchArrive .. | .arrive .. | .complete .. | .advance ..
  | .abort .. | .autoArrival .. | .autoArrivalGateTimeout .. | .semaphoreWaitTimeout .. | .barrierWaitTimeout ..
  | .hoopOpen .. | .hoopAbort .. | .hoopStgStage .. | .hoopStgReady .. | .hoopTimeout .. | .refresh ..
  | .intakeComplete .. | .rennetJobComplete .. | .rennetTriggerTimeout .. | .updateStart .. | .dirChunk ..
  | .dirRingWaitTimeout .. | .pressTile .. | .updateFinished .. | .pressArrival .. | .shardGatePass ..
  | .restartRederive .. | .sorrelModuleDigest .. | .sorrelTimeout .. | .portEnable .. | .portTrained ..
  | .trainingTimeout .. | .laneLockLoss .. | .replayTimeout .. | .linkctl .. | .wr .. | .rdReq .. | .rdResp ..
  | .wrAck .. | .regWr .. | .vetch .. | .halfLeaseRenewal .. | .leaseRenew .. | .leaseTakeover .. | .vatSubmit ..
  | .collectiveStart .. | .collCount .. | .collCredit .. | .collData .. | .collEnd .. | .collResend ..
  | .chunkReduce .. | .collectiveComplete .. | .vatProgressTimeout .. | .vatTriggerTimeout ..
  | .handshakeWatchdogExpiry .. | .moduleStop .. | .jobWatchdogExpiry .. | .caveChunk .. | .caveCommit ..
  | .caveAgreed .. | .caveProgressTimeout .. | .twinFence .. | .yield .. | .reloadWatcher .. | .raiseFloor ..
  | .attGo .. | .attestReportDone .. | .scanTestEntry .. | .ccCacheInvalidate .. | .ccCacheClean ..
  | .ccCacheCleanInvalidate .. | .mgmtConnect .. | .status .. | .regRead .. | .regWrite .. | .jobLoad ..
  | .jobStart .. | .jobStop .. | .jobUnload .. | .tokens .. | .genRequest .. | .decodeWaitExpiry .. | .genCancel ..
  | .teleSub .. | .telemetry .. | .fwBegin .. | .fwData .. | .fwCommit .. | .attest .. | .testNonce ..
  | .testEnter .. | .memRead .. | .memWrite .. | .reset .. | .rindLeaseOutLatch .. | .rindLeaseIn .. | .rindWrite ..
  | .fenceTwin .. | .unfenceTwin .. | .fenceFabric .. | .unfenceFabric .. | .stopJob .. | .powerInputInRange ..
  | .syncLaneLoss .. | .syncLaneRetrained .. | .damagedFlitOrFrame .. | .idleFrame .. | .reservedOpcode ..
  | .malformed .. | .mgmtLinkUp .. | .mgmtLinkDown .. | .sessionClose .. | .decodeBatchComplete .. => false

end Sys2Proof
end

