-- ==== Sys2Proof/Certificates/Slice0/Obligations.lean ====
section
/-!
DEFINITION. The statements for the provers. A statement names the rules of the manual that it rests on; the completion of every
command stands in one of them, and the frames say what a command leaves alone.
-/

open Sys2Proof Sys2Proof.Machine

/-- For every command c, state s and queue rest, a step of s with c before rest is exec of c on s with the rest as its queue;
with an empty queue the step answers the state itself. The queue and the idling are the model's own choice (log entry 1): the
manual describes a block that commands reach one by one. (R16, 00_scope.md) -/
def Obligations.StepTakesTheFrontCommand : Prop :=
  (∀ (c : Instr) (s : State) (rest : List Instr),
    step { s with pending := c :: rest } = exec c { s with pending := rest }) ∧
  (∀ s : State, s.pending = [] → step s = .next s)

/-- With the command's word at SEQ_PC of a running sequencer, no reserved bit set, no register it names pending and no parity
error: SCL.NOP only retires; SCL.LI writes IMM into DST; SCL.ALU and SCL.ALUI write SRC1 FN SRC2 and SRC1 FN IMM (FN not 15);
SCL.GETID writes the identity word (bit 16 the twin, bits 15 to 8 the die code, bits 3 to 0 the core); SYN.EPOCH writes the
die's epoch copy; each then retires. What writing a scalar register and retiring do is stated by ScalarRegisterWrite and
Retirement. (R135, R138, R142, R143, R144, R207) -/
def Obligations.ScalarCommandsGiveTheirResults : Prop :=
  ∀ (s : State) (c : CoreId) (x : BitVec 128),
    (s.atCommand c x 0x00 [] ⟨[], []⟩ = true → exec (.sclNop c .none) s = .next (s.retire c.ix)) ∧
    (s.atCommand c x 0x01 [(115, 5), (0, 64)] ⟨[], [cDst x]⟩ = true →
      exec (.sclLi c .none) s = .next ((s.setSc c.ix (cDst x) (cImm x)).retire c.ix)) ∧
    (s.atCommand c x 0x02 [(115, 5), (110, 5), (105, 5), (101, 4)] ⟨[cSrc1 x, cSrc2 x], [cDst x]⟩ = true →
      cf x 101 4 ≠ 15 → exec (.sclAlu c .none) s = .next ((s.setSc c.ix (cDst x)
        (aluFn (cf x 101 4) (s.sc c.ix (cSrc1 x)) (s.sc c.ix (cSrc2 x)))).retire c.ix)) ∧
    (s.atCommand c x 0x03 [(115, 5), (110, 5), (101, 4), (0, 64)] ⟨[cSrc1 x], [cDst x]⟩ = true →
      cf x 101 4 ≠ 15 → exec (.sclAlui c .none) s = .next ((s.setSc c.ix (cDst x)
        (aluFn (cf x 101 4) (s.sc c.ix (cSrc1 x)) (cImm x))).retire c.ix)) ∧
    (s.atCommand c x 0x06 [(115, 5)] ⟨[], [cDst x]⟩ = true →
      exec (.sclGetid c .none) s = .next ((s.setSc c.ix (cDst x)
        ((if s.twinB then 0x10000 else 0) + c.die.val * 0x100 + c.core.val)).retire c.ix)) ∧
    (s.atCommand c x 0x24 [(115, 5)] ⟨[], [cDst x]⟩ = true →
      exec (.synEpoch c .none) s = .next ((s.setSc c.ix (cDst x) (s.epochOf c.die.val)).retire c.ix))

/-- For all 64-bit words x and y the functions of SCL.ALU and SCL.ALUI are: 0 the sum, 1 the difference and 2 the low 64 bits
of the product, wrapping; 3 AND, 4 OR, 5 XOR; 6, 7 and 8 the shifts left, right and right with sign, by y mod 64; 9 and 10
the smaller and the larger as signed words; 11 and 12 as unsigned words; 13 and 14 give 1 when x is less than y, signed or
unsigned, and else 0. (R144) -/
def Obligations.ArithmeticFunctions : Prop :=
  ∀ x y : BitVec 64,
    let f (fn : Nat) : BitVec 64 := BitVec.ofNat 64 (aluFn fn x.toNat y.toNat)
    f 0 = x + y ∧ f 1 = x - y ∧ f 2 = x * y ∧ f 3 = x &&& y ∧ f 4 = x ||| y ∧ f 5 = x ^^^ y ∧
    f 6 = x <<< (y.toNat % 64) ∧ f 7 = x >>> (y.toNat % 64) ∧ f 8 = x.sshiftRight (y.toNat % 64) ∧
    f 9 = (if x.toInt ≤ y.toInt then x else y) ∧ f 10 = (if x.toInt ≤ y.toInt then y else x) ∧
    f 11 = (if x.toNat ≤ y.toNat then x else y) ∧ f 12 = (if x.toNat ≤ y.toNat then y else x) ∧
    f 13 = (if x.toInt < y.toInt then 1 else 0) ∧ f 14 = (if x.toNat < y.toNat then 1 else 0)

/-- After v is written to SCi, SCj reads v (64 bits) where j is i and i is not 0, and reads as before where j is another
register below 32; SC0 reads 0; a write to SC0 changes nothing. Every other register location and everything outside the
register space is as before. (R135) -/
def Obligations.ScalarRegisterWrite : Prop :=
  ∀ (s : State) (c : CoreId) (i j v : Nat), i < 32 → j < 32 → v < 2 ^ 64 →
    let t := s.setSc c.ix i v
    t.sc c.ix j = (if i = j ∧ i ≠ 0 then v else s.sc c.ix j) ∧ s.sc c.ix 0 = 0 ∧ (i = 0 → t = s) ∧
    SameRegsBut [loc .SEQ_SC c.die.val c.core.val i] s t ∧ RegsOnly s t

/-- Retiring a command towards index pc up to 16,383 sets SEQ_PC to it, adds 1 to SEQ_CMDS (which stays at its largest
value), and leaves STATE RUN and HOLD 0; past index 16,383 SEQ_PC keeps its value and the state becomes FAULT. In the first
case only these three registers and the sequencer's own wait marks change. (R138, R148, R161) -/
def Obligations.Retirement : Prop :=
  ∀ (s : State) (c : CoreId) (pc : Nat),
    let t := s.retireTo c.ix pc
    (pc ≤ 16383 →
      t.pc c.ix = pc ∧ t.seqState c.ix = 1 ∧
      t.fld .SEQ_STATUS c.die.val c.core.val 0 12 4 = 0 ∧
      t.rg .SEQ_CMDS c.die.val c.core.val 0 = Nat.min (s.rg .SEQ_CMDS c.die.val c.core.val 0 + 1) Reg.SEQ_CMDS.max ∧
      SameRegsBut [loc .SEQ_PC c.die.val c.core.val 0, loc .SEQ_STATUS c.die.val c.core.val 0,
        loc .SEQ_CMDS c.die.val c.core.val 0] s t ∧ SeqOnly s t) ∧
    (16383 < pc → t.pc c.ix = s.pc c.ix ∧ t.seqState c.ix = 4)

/-- With the command's word at SEQ_PC of a running sequencer, no reserved bit or value, no register it names pending and no
parity error: BR.J retires to TGT; BR.CMP retires to TGT where COND holds between SRC1 and SRC2 and else to the next index;
BR.SUM likewise by its summary test; BR.DEC subtracts 1 from DST and retires to TGT unless the new DST is 0; BR.CALL writes
the next index into DST and retires to TGT; BR.RET retires to SRC1 where that is at most 16,383. (R144) -/
def Obligations.BranchesGoWhereTheTableSays : Prop :=
  ∀ (s : State) (c : CoreId) (x : BitVec 128),
    (s.atCommand c x 0x10 [(0, 14)] ⟨[], []⟩ = true → exec (.brJ c .none) s = .next (s.retireTo c.ix (cTgt x))) ∧
    (s.atCommand c x 0x11 [(110, 5), (105, 5), (102, 3), (0, 14)] ⟨[cSrc1 x, cSrc2 x], []⟩ = true → cf x 102 3 < 6 →
      exec (.brCmp c .none) s = .next (s.retireTo c.ix
        (if condHolds (cf x 102 3) (s.sc c.ix (cSrc1 x)) (s.sc c.ix (cSrc2 x)) then cTgt x else s.pc c.ix + 1))) ∧
    (s.atCommand c x 0x12 [(110, 5), (102, 3), (92, 9), (0, 14)] ⟨[cSrc1 x], []⟩ = true → cf x 102 3 ≠ 7 →
      exec (.brSum c .none) s = .next (s.retireTo c.ix
        (if testHolds (cf x 102 3) (cf x 92 9) (s.sc c.ix (cSrc1 x)) then cTgt x else s.pc c.ix + 1))) ∧
    (s.atCommand c x 0x13 [(115, 5), (0, 14)] ⟨[cDst x], [cDst x]⟩ = true →
      let t := s.setSc c.ix (cDst x) ((s.sc c.ix (cDst x) + (2 ^ 64 - 1)) % 2 ^ 64)
      exec (.brDec c .none) s = .next (t.retireTo c.ix (if t.sc c.ix (cDst x) ≠ 0 then cTgt x else t.pc c.ix + 1))) ∧
    (s.atCommand c x 0x14 [(115, 5), (0, 14)] ⟨[], [cDst x]⟩ = true →
      exec (.brCall c .none) s = .next ((s.setSc c.ix (cDst x) (s.pc c.ix + 1)).retireTo c.ix (cTgt x))) ∧
    (s.atCommand c x 0x15 [(110, 5)] ⟨[cSrc1 x], []⟩ = true → s.sc c.ix (cSrc1 x) ≤ 16383 →
      exec (.brRet c .none) s = .next (s.retireTo c.ix (s.sc c.ix (cSrc1 x))))

/-- With the command's word at SEQ_PC of a running sequencer and its conditions met as above, at an address SRC1 + IMM
(wrapping) that is a multiple of 8 and lies with its eight bytes inside the space: SCL.LD, where the bytes are read without
an error, writes their little-endian value into DST and retires; SCL.ST, where the word bears no error mark, answers a next
state whose eight bytes from the board address of that place on are those of SRC2, least significant first, every other byte
of memory as before, and SEQ_PC one further. An address that is not a multiple of 8, or not inside the space, is fault 0x07
of the sequencer in both. (R12, R144, R145, R161) -/
def Obligations.ScalarLoadsAndStores : Prop :=
  ∀ (s : State) (c : CoreId) (x : BitVec 128) (sp : Nat), sp = cf x 100 1 →
    let a := (s.sc c.ix (cSrc1 x) + cImm x) % 2 ^ 64
    let board := s.spaceAddr c.ix sp a
    (∀ bs, s.atCommand c x 0x04 [(115, 5), (110, 5), (100, 1), (0, 64)] ⟨[cSrc1 x], [cDst x]⟩ = true →
      a % 8 = 0 → a + 8 ≤ spaceSize sp → s.readRange board 8 = (s, .ok bs) →
      exec (.sclLd c .none) s = .next ((s.setSc c.ix (cDst x) (ofLeBytes bs)).retire c.ix)) ∧
    (s.atCommand c x 0x05 [(110, 5), (105, 5), (100, 1), (0, 64)] ⟨[cSrc1 x, cSrc2 x], []⟩ = true →
      a % 8 = 0 → a + 8 ≤ spaceSize sp → s.ecc = [] → s.pc c.ix < 16383 →
      ∃ t, exec (.sclSt c .none) s = .next t ∧ t.pc c.ix = s.pc c.ix + 1 ∧
        (∀ i, i < 8 → t.byte (board + i) = s.sc c.ix (cSrc2 x) / 256 ^ i % 256) ∧
        (∀ b, b < board ∨ board + 8 ≤ b → t.byte b = s.byte b)) ∧
    (a % 8 ≠ 0 ∨ spaceSize sp < a + 8 →
      (s.atCommand c x 0x04 [(115, 5), (110, 5), (100, 1), (0, 64)] ⟨[cSrc1 x], [cDst x]⟩ = true →
        exec (.sclLd c .none) s = .next (s.seqFault c.ix 0x07 7)) ∧
      (s.atCommand c x 0x05 [(110, 5), (105, 5), (100, 1), (0, 64)] ⟨[cSrc1 x, cSrc2 x], []⟩ = true →
        exec (.sclSt c .none) s = .next (s.seqFault c.ix 0x07 7)))

/-- With the command's word at SEQ_PC and its conditions met as in ScalarCommandsGiveTheirResults: SYN.SIG with N not 0 and a
die code of Table 0.2, or 0xFF for the own die, signals that semaphore of this module and retires where no earlier message of
its die to that node is on its way, and waits where one is; with TWIN set it sends one frame to the twin and notes the port
and sequence that carry it, and retires once the port's peer has accepted the frame; SYN.WAIT with N not 0 takes N and
retires where no wait stands on the semaphore and its value covers N, and otherwise joins the waits of the die and is held
with code 1; SYN.BAR whose arrival is counted retires with W 0, and waits for the generation, held with code 2, with W 1; one
whose die takes no part is a command fault 0x01; SYN.FENCE retires where every unit it marks is complete and is otherwise
held with code 4. (R154, R197, R198, R202, R205, R206) -/
def Obligations.SynchronisationCommands : Prop :=
  ∀ (s : State) (c : CoreId) (x : BitVec 128),
    (s.atCommand c x 0x20 [(112, 8), (111, 1), (96, 12), (80, 16)] ⟨[], []⟩ = true → cN x ≠ 0 →
      (cf x 112 8 = 0xFF ∨ dieCode (cf x 112 8) = true) →
      let die := if cf x 112 8 = 0xFF then c.die.val else cf x 112 8
      (cf x 111 1 = 0 → exec (.synSig c .none) s = .next (if s.msgOnWay (c.ix / 16) die then s
        else (s.addSem die (cSem x) (cN x)).retire c.ix)) ∧
      (∀ t, cf x 111 1 = 1 → (s.seq c.ix).sigSent = none → s.frameTicket = some t →
        let z := s.sendFrame s.twinNode (.signal (BitVec.ofNat 8 die) (Fin.ofNat 4096 (cSem x)) (BitVec.ofNat 16 (cN x)))
        exec (.synSig c .none) s = .next (z.setSeq c.ix { z.seq c.ix with sigSent := some t })) ∧
      (∀ p q, cf x 111 1 = 1 → (s.seq c.ix).sigSent = some (p, q) →
        exec (.synSig c .none) s = .next (if s.frameTaken p q then s.retire c.ix else s))) ∧
    (s.atCommand c x 0x21 [(96, 12), (80, 16)] ⟨[], []⟩ = true → cN x ≠ 0 →
      (∀ w ∈ s.semWaits, w.who ≠ Waiter.seq c.ix) →
      let v := s.sem c.die.val (cSem x)
      ((∀ w ∈ s.semWaits, ¬ (w.die = c.die.val ∧ w.sem = cSem x)) → cN x ≤ v →
        exec (.synWait c .none) s = .next ((s.setRg .VETCH_SEM c.die.val 0 (cSem x) (v - cN x)).retire c.ix)) ∧
      (((∃ w ∈ s.semWaits, w.die = c.die.val ∧ w.sem = cSem x) ∨ v < cN x) →
        ∃ t, exec (.synWait c .none) s = .next t ∧ t.seqState c.ix = 2 ∧
          t.fld .SEQ_STATUS c.die.val c.core.val 0 12 4 = 1 ∧
          t.semWaits = s.semWaits ++ [⟨c.die.val, cSem x, cN x, .seq c.ix, 0⟩])) ∧
    (s.atCommand c x 0x22 [(104, 8), (103, 1)] ⟨[], []⟩ = true → (s.seq c.ix).barWait = none →
      (∀ h ∈ s.barHeld, h.core ≠ c.ix) →
      let r := s.arriveAt c.die.val (cf x 104 8)
      (∀ gen, r.2 = .counted gen →
        (cf x 103 1 = 0 → exec (.synBar c .none) s = .next (r.1.retire c.ix)) ∧
        (cf x 103 1 = 1 → exec (.synBar c .none) s = .next ((r.1.holdSeq c.ix 2).setSeq c.ix
          { r.1.seq c.ix with barWait := some (cf x 104 8, gen) }))) ∧
      (r.2 = .refused → exec (.synBar c .none) s = .next (s.seqFault c.ix 0x01 7))) ∧
    (s.atCommand c x 0x23 [(116, 4), (115, 1), (114, 1)] ⟨[], []⟩ = true →
      exec (.synFence c .none) s = .next (if s.fenceDone c.ix x then s.retire c.ix else s.holdSeq c.ix 4))

/-- With the command's word at SEQ_PC and its conditions met: HOOP.STAGE with an item type of Table 7.4 stages the item,
target and value from its two source registers, in the slot, writes 0 for accepted or 1 for refused into DST, and retires;
HOOP.READY declares the slot ready and retires; HOOP.WAIT on a decided instance writes 1 for committed or 2 for aborted into
DST and the epoch of the decision (0 for an abort) into DSTE and retires, and on an undecided one is held with code 3.
HOOP.STAGE and HOOP.READY first note which instance the core uses, while it is undecided. (R214, R215, R220) -/
def Obligations.HoopCommandsOfASequencer : Prop :=
  ∀ (s : State) (c : CoreId) (x : BitVec 128),
    let h := cf x 116 4
    let n := if s.hoopUndecided h then s.noteHoop c.ix h else s
    (s.atCommand c x 0x30 [(116, 4), (108, 8), (103, 5), (98, 5), (93, 5)] ⟨[cf x 103 5, cf x 98 5], [cf x 93 5]⟩ = true →
      1 ≤ cf x 108 8 → cf x 108 8 ≤ 6 →
      let r := n.hoopStage h (cf x 108 8) (BitVec.ofNat 64 (s.sc c.ix (cf x 98 5))) (BitVec.ofNat 64 (s.sc c.ix (cf x 103 5)))
      exec (.hoopStage c .none) s = .next ((r.1.setSc c.ix (cf x 93 5) r.2).retire c.ix)) ∧
    (s.atCommand c x 0x31 [(116, 4)] ⟨[], []⟩ = true →
      exec (.hoopReady c .none) s = .next ((n.hoopReady h).1.retire c.ix)) ∧
    (s.atCommand c x 0x32 [(116, 4), (111, 5), (106, 5)] ⟨[], [cf x 111 5, cf x 106 5]⟩ = true →
      (∀ e, s.hoopOutcome c.ix h = .decided true e →
        exec (.hoopWait c .none) s = .next (((s.setSc c.ix (cf x 111 5) 1).setSc c.ix (cf x 106 5) e).retire c.ix)) ∧
      (∀ e, s.hoopOutcome c.ix h = .decided false e →
        exec (.hoopWait c .none) s = .next (((s.setSc c.ix (cf x 111 5) 2).setSc c.ix (cf x 106 5) 0).retire c.ix)) ∧
      (∀ i, s.hoopOutcome c.ix h = .undecided i →
        exec (.hoopWait c .none) s = .next
          ((s.setSeq c.ix { s.seq c.ix with hoopWait := some (h, i) }).holdSeq c.ix 3)))

/-- With the command's word at SEQ_PC and its conditions met: DMA.SUB, whose descriptor's 64 bytes lie at a multiple of 64
inside its space, are readable by the core and pass every acceptance check, on a channel that is the core's own, not in FAULT
and holds fewer than 8 descriptors, puts the descriptor behind the channel's queue and retires; where the channel is full it
is held with code 7. DMA.CLOAD, whose words lie inside command memory and do not hold the current index, and whose source
lies inside the scratchpad at a multiple of 16, writes the source bytes to the destination words and retires with the last of
them. (R151, R152, R153, R181, R182, R185) -/
def Obligations.DmaCommandsOfASequencer : Prop :=
  ∀ (s : State) (c : CoreId) (x : BitVec 128),
    (s.atCommand c x 0x40 [(115, 5), (114, 1), (109, 5)] ⟨[cf x 109 5], []⟩ = true →
      let ch := cf x 115 5
      let a := s.sc c.ix (cf x 109 5)
      let addr := s.spaceAddr c.ix (cf x 114 1) a
      let q := s.dma c.die.val ch
      s.dmaMine c.die.val ch c.core.val = true → q.mode ≠ 2 →
      (8 ≤ q.queue.length → exec (.dmaSub c .none) s = .next (s.holdSeq c.ix 7)) ∧
      (∀ bs, q.queue.length < 8 → a + 64 ≤ spaceSize (cf x 114 1) → addr % 64 = 0 → s.populated addr 64 = true →
        s.memRead (.core c) addr 64 = (s, .ok bs) → s.dmaRefusal (BitVec.ofNat 512 (ofLeBytes bs)) = 0 →
        exec (.dmaSub c .none) s = .next ((s.setDma c.die.val ch
          { q with queue := q.queue ++ [⟨BitVec.ofNat 512 (ofLeBytes bs), false, 0⟩] }).retire c.ix))) ∧
    (s.atCommand c x 0x41 [(115, 5), (100, 14), (86, 14)] ⟨[cf x 115 5], []⟩ = true →
      let src := s.sc c.ix (cf x 115 5)
      let dst := cf x 100 14
      let cnt := cf x 86 14 + 1
      ∀ n bs, dst + cnt ≤ 16384 → (s.pc c.ix < dst ∨ dst + cnt ≤ s.pc c.ix) → src % 16 = 0 → src + 16 * cnt ≤ spSize →
        (s.seq c.ix).cload = 0 → cnt ≤ n → s.spRead c.ix src (16 * cnt) = (s, .ok bs) →
        let t := (s.writeRange (s.cmAddr c.ix (16 * dst)) bs).1
        exec (.dmaCload c .none n) s = .next ((t.setSeq c.ix { t.seq c.ix with cload := 0 }).retire c.ix))

/-- With the command's word at SEQ_PC and its conditions met: MAT.PASS whose parameters the array does not refuse joins the
array's queue, with the address pairs of its registers, where the queue holds fewer than 8, and is otherwise held with code
5; VEC.RUN, with values of Table 5.5, joins the vector engine's queue, with its two broadcast scalars, where it holds fewer
than 4, and is otherwise held with code 6; VEC.LDS writes the four words of a stream descriptor slot and VEC.LDC the sixteen
of a chain slot from the bytes read, unless a command that has not started names the slot; VEC.FILL writes the fill value
while every command has started. Each that is not held retires. (R140, R147, R148, R149, R150) -/
def Obligations.MatrixAndVectorCommands : Prop :=
  ∀ (s : State) (c : CoreId) (x : BitVec 128),
    let sc (i : Nat) : BitVec 64 := BitVec.ofNat 64 (s.sc c.ix i)
    let f := matFields x
    let a := s.arr c.ix f.array
    let v := vecFields x
    (s.atCommand c x 0x50 [(42, 78)] ⟨(if f.stat = 2 then [] else [f.ra]) ++ [f.rb] ++ (if f.acc = 2 then [f.rc] else []) ++
        (if f.dfmt = 7 then [] else [f.rd]), []⟩ = true →
      s.arrFaulted c.ix f.array = false → matParamsBad a f (sc f.ra) (sc f.rb) (sc f.rc) (sc f.rd) = false →
      s.snoopRefused c.ix f = false →
      exec (.matPass c .none) s = .next (if 8 ≤ a.queue.length then s.holdSeq c.ix 5
        else ((s.snoopAssign c.ix f).1.setArr c.ix f.array (a.accept f
          ⟨x, sc f.ra, sc f.rb, sc f.rc, sc f.rd, 0, none, false, (s.snoopAssign c.ix f).2, 0⟩)).retire c.ix)) ∧
    (s.atCommand c x 0x60 [(37, 83)] ⟨[v.sca, v.scb], [v.sumreg]⟩ = true → v.rop ≤ 6 → v.rsrc ≤ 9 →
      s.vecFaulted c.ix = false → s.vecRefused c.ix x = false →
      exec (.vecRun c .none) s = .next (if 4 ≤ (s.vec c.ix).queue.length then s.holdSeq c.ix 6
        else (s.setVec c.ix { s.vec c.ix with queue := (s.vec c.ix).queue ++ [⟨x, BitVec.ofNat 32 (s.sc c.ix v.sca),
          BitVec.ofNat 32 (s.sc c.ix v.scb), false, [], [], s.arith c.die.val, 0⟩] }).retire c.ix)) ∧
    (∀ bs, s.atCommand c x 0x61 [(115, 5), (114, 1), (109, 5)] ⟨[cf x 109 5], []⟩ = true → s.vecFaulted c.ix = false →
      (∀ w ∈ s.vecWaiting c.ix, cf x 115 5 ∉ [w.a, w.b, w.d, w.c0, w.c1, w.e]) →
      s.spaceRead c.ix (cf x 114 1) (s.sc c.ix (cf x 109 5)) 32 32 = (s, some bs) →
      exec (.vecLds c .none) s = .next (((List.range 4).foldl (fun z i =>
        z.setRg .VE_SDESC c.die.val c.core.val (4 * cf x 115 5 + i) (bits (ofLeBytes bs) (64 * i) 64)) s).retire c.ix)) ∧
    (∀ bs, s.atCommand c x 0x62 [(115, 5), (114, 1), (109, 5)] ⟨[cf x 109 5], []⟩ = true → s.vecFaulted c.ix = false →
      (∀ w ∈ s.vecWaiting c.ix, w.chain ≠ cf x 115 5) →
      s.spaceRead c.ix (cf x 114 1) (s.sc c.ix (cf x 109 5)) 64 64 = (s, some bs) →
      exec (.vecLdc c .none) s = .next (((List.range 16).foldl (fun z i =>
        z.setRg .VE_CHAIN c.die.val c.core.val (16 * cf x 115 5 + i) (bits (ofLeBytes bs) (32 * i) 32)) s).retire c.ix)) ∧
    (s.atCommand c x 0x63 [(115, 5)] ⟨[cDst x], []⟩ = true → s.vecFaulted c.ix = false → s.vecWaiting c.ix = [] →
      exec (.vecFill c .none) s = .next ((s.setRg .VE_FILL c.die.val c.core.val 0 (s.sc c.ix (cDst x))).retire c.ix))

/-- With the command's word at SEQ_PC and its conditions met, and Teasel's outputs valid: TEA.SET of a configuration
register, with a value that Table 8.4 allows, writes the register under its mask and retires (row TEA_SET); of a block
register (5 or 6) it also closes the side's open sweep and, with a non-zero WIDTH, opens the next one (row TEA_SET_BLK); a
value out of range is a command fault 0x05. TEA.FLUSH that Teasel does not refuse joins the flushes, closing each open sweep
whose slot is in its range, and retires. (R229, R240, R241, R248, R250) -/
def Obligations.CurvatureCommands : Prop :=
  ∀ (s : State) (c : CoreId) (x : BitVec 128),
    let i := cf x 116 4
    let v := s.sc c.ix (cf x 111 5)
    let u := s.setRg .TEA_CFG c.die.val c.core.val i (v &&& teaMask i)
    (s.atCommand c x 0x70 [(116, 4), (111, 5)] ⟨[cf x 111 5], []⟩ = true → s.teaInv c.ix = false →
      (i ≠ 5 → i ≠ 6 → s.teaBad c.ix i v = false → exec (.teaSet c .none) s = .next (u.retire c.ix)) ∧
      (i = 5 ∨ i = 6 → s.teaBad c.ix i v = false → exec (.teaSetBlk c .none) s = .next
        ((u.setTea c.ix ((s.tea c.ix).block (i - 5) (bits v 0 16) (bits v 16 9))).retire c.ix)) ∧
      (i ≠ 5 → i ≠ 6 → s.teaBad c.ix i v = true → exec (.teaSet c .none) s = .next (s.seqFault c.ix 0x05 5)) ∧
      (i = 5 ∨ i = 6 → s.teaBad c.ix i v = true → exec (.teaSetBlk c .none) s = .next (s.seqFault c.ix 0x05 5))) ∧
    (s.atCommand c x 0x71 [(115, 5), (74, 1), (62, 12)] ⟨[cDst x], []⟩ = true →
      s.flushRefused c.ix (s.sc c.ix (cDst x)) = false →
      exec (.teaFlush c .none) s = .next
        ((s.flushAccept c.ix (s.sc c.ix (cDst x)) (cf x 74 1 == 1) (cf x 62 12)).retire c.ix))

/-- With the command's word at SEQ_PC: SCL.HALT with no register pending answers a next state in HALTED, the index one
further (at index 16,383 the same: log entry 3), the command counted, and no other register changed; an opcode that Table 5.2
does not list is command fault 0x01 of unit 7 (row RESERVED_OPCODE); a word with a bit set outside the fields of its command
is 0x01, here for SCL.LI and BR.J; a parity error on the word is 0x0A, on a scalar register that SCL.ALU reads 0x0B. A
sequencer that neither runs nor is held runs no command: those rows leave the state as it is. (R138, R142, R143, R160) -/
def Obligations.HaltReservedOpcodesAndRefusals : Prop :=
  ∀ (s : State) (c : CoreId) (x : BitVec 128),
    (s.atCommand c x 0x0F [] ⟨[], []⟩ = true → (∀ i, i < 32 → s.pendingSum c.ix i = false) →
      ∃ t, exec (.sclHalt c .none) s = .next t ∧ t.seqState c.ix = 5 ∧ t.pc c.ix = Nat.min (s.pc c.ix + 1) 16383 ∧
        t.rg .SEQ_CMDS c.die.val c.core.val 0 = Nat.min (s.rg .SEQ_CMDS c.die.val c.core.val 0 + 1) Reg.SEQ_CMDS.max ∧
        SameRegsBut [loc .SEQ_PC c.die.val c.core.val 0, loc .SEQ_STATUS c.die.val c.core.val 0,
          loc .SEQ_CMDS c.die.val c.core.val 0] s t ∧ RegsOnly s t) ∧
    (s.seqRuns c.ix = true → s.fetch c.ix = (s, some x) →
      (opcodeListed (opcodeOf x) = false → exec (.reservedOpcode c .none) s = .next (s.seqFault c.ix 0x01 7)) ∧
      (opcodeOf x = 0x01 → reservedSet x [(115, 5), (0, 64)] = true →
        exec (.sclLi c .none) s = .next (s.seqFault c.ix 0x01 7)) ∧
      (opcodeOf x = 0x10 → reservedSet x [(0, 14)] = true → exec (.brJ c .none) s = .next (s.seqFault c.ix 0x01 7)) ∧
      exec (.sclAlu c .command) s = .next (s.seqFault c.ix 0x0A 7) ∧
      (s.atCommand c x 0x02 [(115, 5), (110, 5), (105, 5), (101, 4)] ⟨[cSrc1 x, cSrc2 x], [cDst x]⟩ = true →
        cf x 101 4 ≠ 15 → exec (.sclAlu c .scalar) s = .next (s.seqFault c.ix 0x0B 7))) ∧
    (s.seqRuns c.ix = false → ∀ p, exec (.sclLi c p) s = .next s ∧ exec (.brJ c p) s = .next s ∧
      exec (.matPass c p) s = .next s ∧ exec (.vecRun c p) s = .next s ∧ exec (.reservedOpcode c p) s = .next s)

/-- A fault of a sequencer first ends its waits on semaphores, so that the waits behind them are looked at; where it waits on
none nothing else happens first, and memory stays as it is. From there, with SEQ_PC at most 16,383, a fault of cause below
256 and unit below 16 leaves the sequencer in FAULT with HOLD 0, SEQ_PC as it was, and the flag of Table 5.10 set; SEQ_FAULT,
where its valid bit was clear, holds the valid bit, cause, unit and SEQ_PC, and otherwise what it held; DIE_FAULT of the die,
where its bit 63 was clear, holds valid bit, block 0x10 plus the core, unit and cause; the fault goes behind the faults on
their way to the half in charge. The sequencer's waits end. Memory, and every register but these three, is as before. (R159,
R395, R484) -/
def Obligations.CommandFault : Prop :=
  ∀ (s0 : State) (c : CoreId) (cause unit : Nat), cause < 256 → unit < 16 →
    let d := c.die.val
    let u := c.core.val
    let s := s0.dropWaits fun w => w.who == Waiter.seq c.ix
    let t := s0.seqFault c.ix cause unit
    s.pc c.ix ≤ 16383 →
    s.mem = s0.mem ∧ ((∀ w ∈ s0.semWaits, w.who ≠ Waiter.seq c.ix) → s = s0) ∧
    t.seqState c.ix = 4 ∧ t.fld .SEQ_STATUS d u 0 12 4 = 0 ∧ t.fld .SEQ_STATUS d u 0 9 1 = 1 ∧ t.pc c.ix = s.pc c.ix ∧
    t.rg .SEQ_FAULT d u 0 = (if bit (s.rg .SEQ_FAULT d u 0) 63 then s.rg .SEQ_FAULT d u 0
      else 2 ^ 63 + cause * 2 ^ 40 + unit * 2 ^ 36 + s.pc c.ix) ∧
    t.rg .DIE_FAULT d 0 0 = (if bit (s.rg .DIE_FAULT d 0 0) 63 then s.rg .DIE_FAULT d 0 0
      else 2 ^ 63 + (0x10 + u) * 2 ^ 40 + unit * 2 ^ 32 + cause) ∧
    t.faultQ = s.faultQ ++ [⟨d, 0x10 + u, unit, cause⟩] ∧
    (∀ w ∈ t.semWaits, w.who ≠ Waiter.seq c.ix) ∧ (t.seq c.ix).barWait = none ∧ (t.seq c.ix).hoopWait = none ∧
    t.mem = s.mem ∧
    SameRegsBut [loc .SEQ_FAULT d u 0, loc .SEQ_STATUS d u 0, loc .DIE_FAULT d 0 0] s t

/-- On an array without a fault whose queue head is a pass of the part named, with fewer than two of the part's passes in
flight: PASS_START of a pass that reuses the newest tile (STAT 2) moves it to the passes in flight with its bank, the
arithmetic control and the next place in the array's order of starts latched, and sets the shape in ARR_STATUS; that of a
loading pass whose load is not held does the same with the columns of the runs read put into the next bank. LOAD_BEAT_RELEASE
on a held load delivers every pass in flight that selects the bank. PASS_COMPLETE without a parity error, of the part's
oldest pass in flight, behind no older pass of another shape, class or mode, whose captures are written and whose rows run
without an error, raises its flags, takes it out of flight, adds 1 to ARR_PASSES and M to ARR_ROWS, and signals its semaphore
where SIG is set. (R73, R75, R77, R78, R79, R90, R91, R102) -/
def Obligations.MatrixPasses : Prop :=
  ∀ (s : State) (c : CoreId) (a part : Fin 4) (p : Pass) (rest : List Pass),
    let f := matFields p.word
    let ar := s.arith c.die.val
    let x := (s.arr c.ix a.val).prepare f ar.strict
    let q := x.part part.val
    let started (z : State) (r : PartS) : State :=
      (z.setArr c.ix a.val ({ x with queue := rest }.setPart part.val { r with inflight := r.inflight ++
        [{ p with bank := r.lastBank.getD 0, arith := some ar, delivered := false, order := (x.flying.map Pass.order).foldl Nat.max 0 + 1 }] })).setFld
          .ARR_STATUS c.die.val c.core.val a.val 5 2 f.shape.code
    ((s.arr c.ix a.val).queue = p :: rest → s.arrFaulted c.ix a.val = false → f.part = part.val → q.inflight.length < 2 →
      (f.stat = 2 → exec (.passStart c a part) s = .next (started s q)) ∧
      (∀ runs, f.stat ≠ 2 → q.loadHeld = false →
        s.readRuns c.ix (pairBase p.sa) (pairStride p.sa) f.statRuns.2 f.statRuns.1 = (s, some runs) →
        exec (.passStart c a part) s = .next (started s (q.load (tileCols f runs))))) ∧
    ((s.arr c.ix a.val).queue = p :: rest → f.part = part.val → f.stat ≠ 2 →
      let y := (s.arr c.ix a.val).part part.val
      y.loadHeld = true →
      exec (.loadBeatRelease c a part) s = .next (s.setArr c.ix a.val ((s.arr c.ix a.val).setPart part.val
        { y with inflight := y.inflight.map fun r => if r.bank = y.nextBank then { r with delivered := true } else r }))) ∧
    (∀ t fl, ((s.arr c.ix a.val).part part.val).inflight = p :: rest → (s.arr c.ix a.val).olderFirst p = false → p.captured = true →
      s.runRows c.ix a.val p (p.arith.getD ar) (((s.arr c.ix a.val).part part.val).tileOf f p.bank) f.m 0 = (t, none, fl) →
      let t1 := t.raise c.die.val c.core.val fl
      let y := t1.arr c.ix a.val
      let t2 := ((t1.setArr c.ix a.val (y.setPart part.val { y.part part.val with inflight := rest })).bump
        .ARR_PASSES c.die.val c.core.val a.val 1).bump .ARR_ROWS c.die.val c.core.val a.val f.m
      exec (.passComplete c a part none) s = .next (if f.sig then t2.addSem c.die.val f.sem 1 else t2))

/-- PASS_COMPLETE with a parity error at row 0 of the array's oldest pass in flight, no rows of an older pass of another
shape, class or mode being still to process, answers a next state in which no part of the array has a pass in flight,
ARR_STATUS has FAULT and ACC_INV set, ARR_FAULT, where its valid bit was clear, holds valid bit, row 0, the part and the
cause of Table 3.9 (1 bank, 2 store, 3 column), the sequencer is in FAULT, and memory, the operand cache and every
accumulator entry are as before. (R98, R102, R159) -/
def Obligations.ArrayFault : Prop :=
  ∀ (s : State) (c : CoreId) (a part : Fin 4) (k : ArrParity) (p : Pass) (rest : List Pass),
    ((s.arr c.ix a.val).part part.val).inflight = p :: rest → (s.arr c.ix a.val).oldest = some (part.val, p) →
    (s.arr c.ix a.val).olderFirst p = false → ∃ t, exec (.passComplete c a part (some (k, 0))) s = .next t ∧ (t.arr c.ix a.val).flying = [] ∧
      bit (t.rg .ARR_STATUS c.die.val c.core.val a.val) 11 = true ∧
      bit (t.rg .ARR_STATUS c.die.val c.core.val a.val) 12 = true ∧
      (bit (s.rg .ARR_FAULT c.die.val c.core.val a.val) 31 = false →
        t.rg .ARR_FAULT c.die.val c.core.val a.val = 2 ^ 31 + part.val * 2 ^ 8 +
          (match k with | .bank => 1 | .store => 2 | .column => 3)) ∧
      t.seqState c.ix = 4 ∧ t.mem = s.mem ∧ t.ocache = s.ocache ∧ t.accs = s.accs

/-- On a vector engine with no fault, no stop request and no hazard, VEC_COMMAND_START latches for the first command not yet
started its chain, descriptors, arithmetic control and fill value. Of the oldest command, started, whose rows run without an
error, VEC_COMMAND_COMPLETE raises the flags, adds the active elements to VE_ELEMS, takes the command off the queue, delivers
its summary word into SUMREG and SEQ_LASTSUM, adds 1 to VE_CMDS and signals its semaphore where SIG is set; under a stop
request VEC_STOP_AT_ROW in a row runs that row and those before it and takes the command off the queue; where rows are left,
it delivers a summary word with bit 13 set and neither counts the command nor signals, else the command has completed as
without the request; with the queue empty no request is left. (R105, R116, R128, R129, R130) -/
def Obligations.VectorCommandsRun : Prop :=
  ∀ (s : State) (c : CoreId) (d : VecCmd) (rest : List VecCmd),
    (∀ before, s.vecFaulted c.ix = false → (s.vec c.ix).stopAt = false → s.vecHeld c.ix = false →
      splitStarted (s.vec c.ix).queue = (before, some (d, rest)) →
      exec (.vecCommandStart c) s = .next
        (s.setVec c.ix { s.vec c.ix with queue := before ++ [s.vecLatch c.ix d] ++ rest })) ∧
    ((s.vec c.ix).queue = d :: rest → d.started = true →
      let s0 := s.freshVal.2
      let v := VecRun.of d s.freshCtr
      (∀ t mc act fl val, (s.vec c.ix).stopAt = false → s0.vecRows c.ix v v.rows 0 (0, 0, 0, 0) = (t, (mc, act, fl, val), none) →
        let t1 := (t.raise c.die.val c.core.val fl).bump .VE_ELEMS c.die.val c.core.val 0 act
        let t2 := ((t1.setVec c.ix { t1.vec c.ix with queue := rest, stopAt := false }).deliverSummary c.ix d
          (summaryWord val mc act fl v.f.smen false)).bump .VE_CMDS c.die.val c.core.val 0 1
        exec (.vecCommandComplete c none) s = .next (if v.f.sig then t2.addSem c.die.val v.f.sem 1 else t2)) ∧
      (∀ (n : Fin 4096) t mc act fl val, (s.vec c.ix).stopAt = true →
        s0.vecRows c.ix v (Nat.min (n.val + 1) v.rows) 0 (0, 0, 0, 0) = (t, (mc, act, fl, val), none) →
        let t1 := (t.raise c.die.val c.core.val fl).bump .VE_ELEMS c.die.val c.core.val 0 act
        let t2 := t1.setVec c.ix { t1.vec c.ix with queue := rest, stopAt := !rest.isEmpty }
        (n.val + 1 < v.rows → exec (.vecStopAtRow c n) s = .next (t2.deliverSummary c.ix d
          (summaryWord val mc act fl v.f.smen true))) ∧
        (v.rows ≤ n.val + 1 →
          let t3 := (t2.deliverSummary c.ix d (summaryWord val mc act fl v.f.smen false)).bump .VE_CMDS c.die.val c.core.val 0 1
          exec (.vecStopAtRow c n) s = .next (if v.f.sig then t3.addSem c.die.val v.f.sem 1 else t3))))

/-- TEASEL_CAPTURE of the next sampled row of the oldest pass with captures to write, where no older sweep holds its panel
and the row is read, as the pass streams it, writes the bytes into the panel row, keeps them for the pass, counts the
capture, marks the pass done with its last row and adds 1 to TEA_ROWS. While no stop is under way: TEASEL_UPDATE of the
oldest closed sweep, with every capture written, no flush to wait for, its scale known and a header that agrees or is empty,
runs the update over the block's tiles. TEASEL_UPDATE_COMPLETE of an update that has run writes the header with the rows
added and the step, takes the sweep off the queue and adds 1 to TEA_UPDATES. FLUSH_COMPLETE of the oldest flush, with no
sweep closed before it left, whose records are all written to this module, ends the flush and signals where SIG is set.
(R231, R233, R235, R237, R238, R241, R242) -/
def Obligations.CurvatureUpdates : Prop :=
  ∀ (s : State) (c : CoreId),
    (∀ (a part : Fin 4) (i : Nat) (p : Pass) (n : Snoop) (bs : List Nat) (t : State),
      let x := s.arr c.ix a.val
      let q := x.part part.val
      let f := matFields p.word
      firstUncaptured q.inflight 0 = some (i, p, n) → (s.tea c.ix).captureWaits f.side n.panel n.sweep = false →
      let m := firstSample n.tokBase n.sample + n.captured * n.sample
      s.streamRow c.ix p m = (s, .ok bs) →
      let pr := s.teaCfg c.ix (2 + f.side)
      s.spWrite c.ix (bits pr 0 25 + (n.panel * bits pr 48 16 + n.captured) * bits pr 32 16 + n.cursor * f.sf.size) bs =
        (t, none) →
      let p1 := { p with snoop := some { n with captured := n.captured + 1, data := n.data ++ [(m, bs)] } }
      let t1 := t.setArr c.ix a.val (x.setPart part.val { q with inflight := setAt q.inflight i p1 })
      exec (.teaselCapture c a part false) s = .next ((if n.captured + 1 = n.rows
        then t1.setTea c.ix ((t1.tea c.ix).passDone n.sweep) else t1).bump .TEA_ROWS c.die.val c.core.val 0 1)) ∧
    (∀ (w : Sweep) (rest : List Sweep) (e2 : Nat) (hd : List Nat), s.stopping = false → (s.tea c.ix).closed = w :: rest →
      let sfmt := (w.first.map fun p => p.2.2.2).getD 2
      (w.updating = false → w.passes ≤ w.passesDone → (s.tea c.ix).updateWaits w = false →
        (if w.side = 0 then some 0 else (s.brineExp w.step).map (2 * ·)) = some e2 →
        s.spRead c.ix (s.slotOff c.ix w.slot) 256 = (s, .ok hd) →
        (bits (ofLeBytes hd) 128 64 = 0 ∨ (bits (ofLeBytes hd) 96 8 = w.side + 1 ∧ bits (ofLeBytes hd) 104 8 = sfmt ∧
          bits (ofLeBytes hd) 112 16 = w.width)) →
        exec (.teaselUpdate c false) s = .next
          (s.teaUpdateRows c.ix w ((matFmt sfmt).getD .bf16) e2 rest blockTiles.zipIdx)) ∧
      (w.updating = true → s.spRead c.ix (s.slotOff c.ix w.slot) 48 = (s, .ok hd) → bits (ofLeBytes hd) 96 8 ≠ 0 →
        ∀ t,
        let h := ofLeBytes hd
        let h1 := setBits (setBits h 128 64 (bits h 128 64 + w.rows)) 256 64 w.step
        s.spWrite c.ix (s.slotOff c.ix w.slot + 12) (leBytes 36 (setBits h1 320 32 (bits h1 320 32 ||| w.flags) >>> 96)) =
          (t, none) →
        let t1 := t.raise c.die.val c.core.val w.flags
        exec (.teaselUpdateComplete c false) s = .next
          ((t1.setTea c.ix { t.tea c.ix with closed := rest }).bump .TEA_UPDATES c.die.val c.core.val 0 1))) ∧
    (∀ (g : Flush) (rest : List Flush) (t : State), s.stopping = false → (s.tea c.ix).flushes = g :: rest → g.posted = false →
      (∀ w ∈ (s.tea c.ix).closed, g.mark ≤ w.closedAt) → s.guarded g.addr (slotBytes * g.count) = false →
      s.freshVal.2.flushSlots c.ix g g.count = (t, none) → t.flushAsked c.ix = false →
      let t1 := t.setTea c.ix { t.tea c.ix with flushes := rest }
      exec (.flushComplete c false) s = .next (if g.sig then t1.addSem c.die.val g.sem 1 else t1))

/-- In a state whose arrays, vector engine and Teasel of a core hold no work (nothing queued, in flight, closed or waiting),
every event of those units leaves the state exactly as it is. (R73, R77, R90, R116, R129, R231, R235, R237, R242) -/
def Obligations.UnitEventsWithNothingToDo : Prop :=
  ∀ (s : State) (c : CoreId) (a part : Fin 4) (b : Bool) (n : Fin 4096), (s.arr c.ix a.val).queue = [] →
    (s.arr c.ix a.val).flying = [] → (s.vec c.ix).queue = [] → (s.tea c.ix).closed = [] → (s.tea c.ix).flushes = [] →
    ∀ i ∈ [Instr.passStart c a part, .loadBeatRelease c a part, .passComplete c a part none, .vecCommandStart c,
      .vecCommandComplete c none, .vecStopAtRow c n, .teaselCapture c a part b, .teaselUpdate c b,
      .teaselUpdateComplete c b, .flushComplete c b], exec i s = .next s

/-- For every requester, register, element and value: where the register lies at its location in the served register space,
the requester may write it (a control core or the management port with the die's epoch, the twin, another node or a unit
where R344 and R435 let them) and no lock refuses, writing it is the register's own action, answered ok or with its own
access error. A control core whose epoch is older than the die's gets an access error, and the die's count of stale writes
goes up by 1 with nothing else changed. (R14, R16, R344, R391, R441, R482) -/
def Obligations.RegisterWritesReachTheirRules : Prop :=
  ∀ (s : State) (w : Writer) (r : Reg) (die i j v : Nat),
    (s.reaches w r die i j v = true → s.writeReg w r die i j v = State.wrote (s.regAct w r die i j v)) ∧
    (∀ (east : Bool) (core : Fin 16) (e : BitVec 64) (d : Nat), w = .cc east core e → loc r die i j < 2 ^ 32 →
      s.resolve (loc r die i j) = loc r die i j → badAccess (loc r die i j) r.row.w64 = false →
      s.unserved (loc r die i j) = false → s.leases.fencedEast ≠ some east → s.watcherBlock east (loc r die i j) = false →
      s.leaseDie (loc r die i j) = some d → e.toNat < s.rg .DIE_LEASE d 0 0 →
      s.writeReg w r die i j v = (s.bump .DIE_STALE d 0 0 1).answer .accessError)

/-- REGISTER_WRITE of this module, at the register's width, of VAT_PROG_TO, JOB_WD, ARITH_STICKY, DIE_FAULT or PWR_CFG that
reaches its register's rules answers a next state in which the register holds the written value under its write mask and the
old value elsewhere, with the bits of its write-1-to-clear mask cleared where written 1; its locked bits take the value only
in start-up mode, and a write of a register with locked bits outside it is answered with an access error, otherwise ok. Every
other register, memory and all else is as before. A write of another width than 4 or 8 bytes is an access error with no other
effect, whatever it addresses. A store of a control core that is not fenced to a register of the twin leaves as a REG_WR and
is answered later, or with an access error where no port takes it. (R15, R16, R54, R62, R163, R344, R413, R479) -/
def Obligations.PlainRegisterWrites : Prop :=
  (∀ (s : State) (w : Writer) (r : Reg) (die i j : Nat) (v : BitVec 64),
    r ∈ [Reg.VAT_PROG_TO, .JOB_WD, .ARITH_STICKY, .DIE_FAULT, .PWR_CFG] → (r.row.w64 = false → v.toNat < 2 ^ 32) →
    s.reaches w r die i j v.toNat = true →
    let mask := if s.svc = .startup then r.row.wr ||| r.row.lock else r.row.wr
    let ok := decide (s.svc = .startup) || r.row.lock == 0
    ∃ t, exec (.registerWrite w ⟨false, BitVec.ofNat 32 (loc r die i j)⟩ (if r.row.w64 then .w8 else .w4) v) s = .next t ∧
      t.rg r die i j % 2 ^ (if r.row.w64 then 64 else 32) =
        (writeBits (s.rg r die i j) v.toNat mask r.row.w1c) % 2 ^ (if r.row.w64 then 64 else 32) ∧
      SameRegsBut [loc r die i j] s t ∧ t = { s with regs := t.regs, resp := some (if ok then .ok else .accessError) }) ∧
  (∀ (s : State) (w : Writer) (a : RegPlace) (n : Nat) (v : BitVec 64),
    exec (.registerWrite w a (.other n) v) s = .next (s.answer .accessError)) ∧
  (∀ (s z : State) (east : Bool) (core : Fin 16) (e : BitVec 64) (a : BitVec 32) (v : BitVec 64) (sent : Bool),
    s.leases.fencedEast ≠ some east → s.sendRegFor .cc s.twinNode a.toNat true v.toNat = (z, sent) →
    exec (.registerWrite (.cc east core e) ⟨true, a⟩ .w8 v) s = .next (if sent then z else z.answer .accessError))

/-- DMA_CH_SUBMIT that reaches its rules, with the address of a readable descriptor of this module at a multiple of 64 that
passes every check, on a channel of the register's owner that is not in FAULT and not full, puts the descriptor behind the
queue and is answered ok. DMA_DESCRIPTOR_START starts the oldest descriptor. DMA_BURST_COMPLETE of the channel that the
engine grants, whose burst touches this module only and meets no error, whichever reads of blocks mismatch on the way, forms
the bytes (the fill pattern, or the source bytes cut and rearranged), replaces those that the descriptor's own source lines
hold too by open values, stores them, advances the descriptor by them, adds them to DMA_CH_BYTES and notes the grant; under a
stop request the channel is STOPPED with nothing held. DMA_DESCRIPTOR_COMPLETE of a descriptor with every byte written takes
it off the queue and signals where SIG is set. DMA_PROGRESS_TIMEOUT of an active channel whose ticks have reached DMA_CFG's
limit is fault 0x14. (R182, R185, R187, R188, R189) -/
def Obligations.DmaChannelRows : Prop :=
  ∀ (s : State) (d : Die) (ch : Fin 32),
    let q := s.dma d.code ch.val
    (∀ (w : Writer) (v : BitVec 64) (bs : List Nat), let a := bits v.toNat 0 44
      s.reaches w .DMA_CH_SUBMIT d.code 0 ch.val v.toNat = true → s.dmaMine d.code ch.val 16 = true → q.mode ≠ 2 →
      q.queue.length < 8 → s.isOwn a = true → a % 64 = 0 → s.populated a 64 = true → s.memRead (.dma d) a 64 = (s, .ok bs) →
      s.dmaRefusal (BitVec.ofNat 512 (ofLeBytes bs)) = 0 →
      exec (.dmaChSubmit w d ch v) s = .next ((s.setDma d.code ch.val
        { q with queue := q.queue ++ [⟨BitVec.ofNat 512 (ofLeBytes bs), false, 0⟩] }).answer .ok)) ∧
    (∀ e rest, q.queue = e :: rest → e.started = false → q.mode ≠ 2 → q.mode ≠ 4 → exec (.dmaDescriptorStart d ch) s = .next
      (s.setDma d.code ch.val { q with queue := { e with started := true } :: rest, progLt := 0, mode := 0 })) ∧
    (∀ bad f b level s0 t0 t1 t2 bs out e rest, s.readyBurst d.code ch.val = some (f, b) →
      s.dmaChoice d.code = some (ch.val, level) → s.disturbAll bad = s0 →
      (f.op = 1 ∧ t0 = s0 ∧ bs = fillBytes f b.dstOff b.n ∨
        ∃ raw, f.op ≠ 1 ∧ outOfMemory b.src b.n = false ∧ s.isOwn (b.src.toNat - (b.units f.swap).1) = true ∧
          s0.memRead (.dma d) (b.src.toNat - (b.units f.swap).1) (b.units f.swap).2 = (t0, .ok raw) ∧ bs = b.cut f.swap raw) →
      outOfMemory b.dst b.n = false → s.isOwn b.dst.toNat = true → t0.overlapFree f b bs = (t1, out) →
      t1.memWrite (.dma d) b.dst.toNat out = (t2, none) → (t2.dma d.code ch.val).queue = e :: rest →
      let x := t2.dma d.code ch.val
      let y : DmaS := if x.mode = 4 then { DmaS.init with mode := 3 }
        else { x with queue := { e with done := e.done + b.n } :: rest, progLt := 0, flight := none }
      exec (.dmaBurstComplete d ch bad) s = .next (((t2.setDma d.code ch.val y).bump .DMA_CH_BYTES d.code 0 ch.val b.n).noteGrant
        d.code ch.val level ((s.dmaReady d.code).map Prod.fst))) ∧
    (∀ e rest, let f := dmaFields e.word
      q.queue = e :: rest → e.started = true → q.mode = 0 → f.total ≤ e.done →
      let t := s.setDma d.code ch.val { q with queue := rest, progLt := 0 }
      exec (.dmaDescriptorComplete d ch) s = .next (if f.sig then t.signal d.code f.stwin f.sdie f.sem f.sn else t)) ∧
    (q.cur.isSome = true → q.mode = 0 → s.fld .DMA_CFG d.code 0 0 0 16 ≤ q.progLt →
      exec (.dmaProgressTimeout d ch) s = .next (s.dmaFault d.code ch.val 0x14))

/-- A fault of cause below 256 of a channel below 32 with a descriptor in progress leaves the channel's queue empty in FAULT,
records in DMA_CH_FAULT, where its valid bit was clear, the cause and the descriptor's TAG, reports block 2 and the channel
to the die control block, and leaves memory, the semaphores, and every register but DMA_CH_FAULT and DIE_FAULT as they were;
a channel with nothing in progress changes nothing. (R189, R395, R484) -/
def Obligations.DmaFault : Prop :=
  ∀ (s : State) (d : Die) (ch cause : Nat), ch < 32 → cause < 256 →
    let t := s.dmaFault d.code ch cause
    (∀ e, (s.dma d.code ch).cur = some e →
      (t.dma d.code ch).queue = [] ∧ (t.dma d.code ch).state = 2 ∧
      t.rg .DMA_CH_FAULT d.code 0 ch = (if bit (s.rg .DMA_CH_FAULT d.code 0 ch) 63 then s.rg .DMA_CH_FAULT d.code 0 ch
        else 2 ^ 63 + cause * 2 ^ 32 + (dmaFields e.word).tag) ∧
      t.faultQ = s.faultQ ++ [⟨d.code, 0x02, ch, cause⟩] ∧ t.mem = s.mem ∧
      SameRegsBut [loc .DMA_CH_FAULT d.code 0 ch, loc .DIE_FAULT d.code 0 0] s t) ∧
    ((s.dma d.code ch).cur = none → t = s)

/-- With no job loaded and no sidecar marked, for a requester other than a control core and a tier address of this module:
TIER_WRITE that no capture holds up and no owner refuses is answered ok, its bytes stand from the address on and every other
byte is as before; TIER_READ of a populated block delivers its 256 bytes; where one to three reads mismatch it delivers them
too and adds 1 to MC_REREAD of the M-die that serves the block; where four do the block's sidecar stays bad, the block is
recorded as uncorrectable, and the answer is a read error. An address past the tiers is an access error. (R163, R171, R172,
R173, R191) -/
def Obligations.TierAccesses : Prop :=
  ∀ (s : State) (r : Requester) (addr : BitVec 44), s.job = none → s.sidecar = [] → (∀ e, r ≠ .cc e) →
    let a := addr.toNat
    let b := a / 256 * 256
    (∀ data : List (BitVec 8), regionOf a < 2 → s.isOwn a = true → s.guarded a data.length = false →
      s.populated a data.length = true → s.writeRefused r a data.length = false →
      ∃ t, exec (.tierWrite r addr data) s = .next t ∧ t.resp = some .ok ∧ t.regs = s.regs ∧
        (∀ i, (h : i < data.length) → t.byte (a + i) = data[i].toNat) ∧
        (∀ x, x < a ∨ a + data.length ≤ x → t.byte x = s.byte x)) ∧
    (regionOf b < 2 → s.isOwn b = true → s.populated b 256 = true →
      exec (.tierRead r addr 0) s = .next (s.answer (.data (s.bytes b 256))) ∧
      (∀ (k : Fin 5) (m c l : Nat), 1 ≤ k.val → k.val ≤ 3 → s.tierServe (regionOf b) (offOf b) = some (m, c, l) →
        exec (.tierRead r addr k) s = .next ((s.bump .MC_REREAD (0x40 + m) 0 0 1).answer (.data (s.bytes b 256)))) ∧
      exec (.tierRead r addr 4) s = .next (({ s with sidecar := [(b / 256, 1)] } : State).uncorrectable (b / 256)
        |>.answer .readError)) ∧
    (2 ≤ regionOf b → ∀ k, exec (.tierRead r addr k) s = .next (s.answer .accessError))

/-- For a requester that may reach the place and an SRAM range of this module with no marked word: SRAM_ACCESS as a read
delivers the bytes, with one wrong bit in its first word too, which it corrects, counting 1 in SRAM_ECC_CORR of the SRAM's
die; with two wrong bits in that word it answers a read error, leaves the word marked, and changes nothing else. As a write
that its destination does not refuse it stores its bytes, leaves every other byte, and is answered ok. A range that is not
SRAM of this module is an access error. (R164, R166, R180, R191) -/
def Obligations.SramAccesses : Prop :=
  ∀ (s : State) (r : Requester) (addr : BitVec 44), s.ecc = [] →
    let a := addr.toNat
    (∀ n : Fin 65, 0 < n.val → s.populated a n.val = true → regionOf a = 2 → sramForbidden r a n.val = false →
      exec (.sramAccess r addr (.read n) 0) s = .next (s.answer (.data (s.bytes a n.val))) ∧
      (∀ l, sramLoc (offOf (a / 8 * 8)) = some l → exec (.sramAccess r addr (.read n) 1) s = .next
        ((s.bump .SRAM_ECC_CORR l.die 0 0 1).answer (.data (s.bytes a n.val)))) ∧
      exec (.sramAccess r addr (.read n) 2) s = .next (({ s with ecc := [(a / 8, 2)] } : State).answer .readError)) ∧
    (∀ data : List (BitVec 8), s.populated a data.length = true → regionOf a = 2 → sramForbidden r a data.length = false →
      s.writeRefused r a data.length = false →
      ∃ t, exec (.sramAccess r addr (.write data) 0) s = .next t ∧ t.resp = some .ok ∧ t.regs = s.regs ∧
        (∀ i, (h : i < data.length) → t.byte (a + i) = data[i].toNat) ∧
        (∀ x, x < a ∨ a + data.length ≤ x → t.byte x = s.byte x)) ∧
    (regionOf a ≠ 2 → ∀ acc e, exec (.sramAccess r addr acc e) s = .next (s.answer .accessError))

/-- MC_RETIRE that reaches its rules, of a channel below 24 of a tier with reserve lines and every channel of the tier on the
die active, marks the channel migrating, clears MC_MIG_PTR, begins the migration at line 0 and is answered ok; otherwise an
access error. MIGRATION_LINE_COPY of a line without an uncorrectable block moves MC_MIG_PTR past the line, and after the last
primary line ends the migration with the channel retired. CC_CACHE_INVALIDATE that reaches its rules forgets the line of the
address in the half's caches, CC_CACHE_CLEAN writes a dirty line back that no capture holds up and keeps it clean,
CC_CACHE_CLEAN_INVALIDATE writes it back and forgets it. (R175, R176, R177, R439) -/
def Obligations.ChannelRetirementAndCaches : Prop :=
  ∀ s : State,
    (∀ (w : Writer) (m : Fin 12) (v : BitVec 32), s.reaches w .MC_RETIRE (0x40 + m.val) 0 0 v.toNat = true →
      let ch := bits v.toNat 0 5
      let tier := if ch < 16 then 0 else 1
      (ch < 24 → bit (s.g (tierReg tier)) 32 = true → (∀ c ∈ tierLocals tier, s.chState m.val c = 0) →
        let t := (s.setFld .MC_CH_STATE (0x40 + m.val) 0 ch 0 2 1).setRg .MC_MIG_PTR (0x40 + m.val) 0 0 0
        exec (.mcRetire w m v) s = .next
          (({ t with migs := t.migs ++ [⟨m.val, tier, ch, 0, false⟩] } : State).answer .ok)) ∧
      (24 ≤ ch ∨ bit (s.g (tierReg tier)) 32 = false ∨ (∃ c ∈ tierLocals tier, s.chState m.val c ≠ 0) → exec (.mcRetire w m v) s = .next (s.answer .accessError))) ∧
    (∀ (m : Fin 12) (slow : Bool) (g : Mig), let tier := b2n slow
      s.migOf m.val tier = some g → g.stopped = false → s.badLine m.val tier g.ch g.line = none →
      let t := s.setRg .MC_MIG_PTR (0x40 + m.val) 0 0 (g.line + 1)
      (g.line + 1 < s.primaryLines tier →
        exec (.migrationLineCopy m slow) s = .next (t.setMig { g with line := g.line + 1 })) ∧
      (s.primaryLines tier ≤ g.line + 1 → exec (.migrationLineCopy m slow) s = .next
        (({ t with migs := t.migs.filter fun h => !(h.m == g.m && h.tier == g.tier) } : State).setFld
          .MC_CH_STATE (0x40 + m.val) 0 g.ch 0 2 2))) ∧
    (∀ (w : Writer) (east : Bool) (addr : BitVec 44), let die := if east then 0x52 else 0x50
      let line := addr.toNat / 64 * 64
      (s.reaches w .CC_CACHE die 0 0 (1 * 2 ^ 62 + addr.toNat) = true →
        exec (.ccCacheInvalidate w east addr) s = .next ((s.ccDrop east line).answer .ok)) ∧
      (∀ bs, s.reaches w .CC_CACHE die 0 0 (2 * 2 ^ 62 + addr.toNat) = true → s.ccLine east line = some (bs, true) →
        s.guarded line 64 = false → exec (.ccCacheClean w east addr) s = .next
          ((((s.memWrite (.cc east) line bs).1).ccHold east line bs false).answer .ok)) ∧
      (∀ bs, s.reaches w .CC_CACHE die 0 0 (3 * 2 ^ 62 + addr.toNat) = true → s.ccLine east line = some (bs, true) →
        s.guarded line 64 = false → exec (.ccCacheCleanInvalidate w east addr) s = .next
          (((((s.memWrite (.cc east) line bs).1).ccHold east line bs false).ccDrop east line).answer .ok)))

/-- For every state, die, semaphore and amount, SIGNAL from a unit of the module sets the semaphore to the sum, or to 2^32 -
1 where the sum is above it, before the waits on it are served; in the second case VETCH_FAULT, where its valid bit was
clear, holds valid bit, cause 1 and the semaphore, DIE_FAULT, where its bit 63 was clear, block 1 and cause 1, and the fault
joins those on their way to the half in charge, which stop the job towards its restart. A write of VETCH_SIGNAL with amount 0
that reaches its rules has no effect but its access error. (R200) -/
def Obligations.SignalsClampAtTheLimit : Prop :=
  ∀ (s : State) (d : Die) (i : Fin 4096) (n : BitVec 16),
    (s.sem d.code i.val + n.toNat < 2 ^ 32 → exec (.signal .here d i n) s =
      .next ((s.setRg .VETCH_SEM d.code 0 i.val (s.sem d.code i.val + n.toNat)).serve d.code i.val s.semWaits.length)) ∧
    (2 ^ 32 ≤ s.sem d.code i.val + n.toNat →
      ∃ u, exec (.signal .here d i n) s = .next (u.serve d.code i.val s.semWaits.length) ∧ u.sem d.code i.val = 2 ^ 32 - 1 ∧
        u.rg .VETCH_FAULT d.code 0 0 = (if bit (s.rg .VETCH_FAULT d.code 0 0) 63 then s.rg .VETCH_FAULT d.code 0 0
          else 2 ^ 63 + 1 * 2 ^ 32 + i.val) ∧
        u.rg .DIE_FAULT d.code 0 0 = (if bit (s.rg .DIE_FAULT d.code 0 0) 63 then s.rg .DIE_FAULT d.code 0 0
          else 2 ^ 63 + 1 * 2 ^ 40 + 1) ∧
        u.faultQ = s.faultQ ++ [⟨d.code, 0x01, 0, 1⟩] ∧ u.semWaits = s.semWaits ∧ u.mem = s.mem ∧
        SameRegsBut [loc .VETCH_SEM d.code 0 i.val, loc .VETCH_FAULT d.code 0 0, loc .DIE_FAULT d.code 0 0] s u) ∧
    (∀ (w : Writer) (v : BitVec 64), s.reaches w .VETCH_SIGNAL d.code 0 0 v.toNat = true → bits v.toNat 32 16 = 0 →
      exec (.vetchSignal w d v) s = .next (s.answer .accessError))

/-- Where w is the first wait on a semaphore of a die and a signal below the clamp arrives: if the new value covers w, the
state goes on with N taken off the value, w off the list and its unit woken, and then serves the waits left; if it does not,
every wait stays, even one with a smaller N, and only the value changes. With no wait on the semaphore only the value
changes. (R197, R198) -/
def Obligations.WaitsAreServedInOrder : Prop :=
  ∀ (s : State) (d : Die) (i : Fin 4096) (n : BitVec 16) (k : Nat), s.sem d.code i.val + n.toNat < 2 ^ 32 →
    let v := s.sem d.code i.val + n.toNat
    let on (w : SemWait) : Bool := w.die == d.code && w.sem == i.val
    s.semWaits.length = k →
    (∀ w, s.semWaits.find? on = some w → w.n ≤ v →
      ∃ t, exec (.signal .here d i n) s = .next ((t.wake w).serve d.code i.val (k - 1)) ∧ t.sem d.code i.val = v - w.n ∧
        t.semWaits = s.semWaits.erase w ∧ SameRegsBut [loc .VETCH_SEM d.code 0 i.val] s t ∧ t.mem = s.mem) ∧
    ((∀ w, s.semWaits.find? on = some w → v < w.n) →
      ∃ t, exec (.signal .here d i n) s = .next t ∧ t.sem d.code i.val = v ∧ RegsOnly s t ∧
        SameRegsBut [loc .VETCH_SEM d.code 0 i.val] s t)

/-- A write of VETCH_SIGNAL that reaches its rules with a non-zero amount adds it to the semaphore its low bits name, from
another module with the peer-stop check of R395, and is answered ok. A write of VETCH_ARRIVE that reaches its rules counts
one arrival of the context its low byte names and is answered ok where R205 counts it; one that would wait, or whose die
takes no part, is answered with an access error and has no other effect. (R154, R200, R202, R205, R395) -/
def Obligations.VetchRegisterRows : Prop :=
  ∀ (s : State) (w : Writer) (d : Die),
    (∀ v : BitVec 64, s.reaches w .VETCH_SIGNAL d.code 0 0 v.toNat = true → bits v.toNat 32 16 ≠ 0 →
      exec (.vetchSignal w d v) s = .next ((match s.farNode w with
        | some n => s.signalFrom n d.code (bits v.toNat 0 12) (bits v.toNat 32 16)
        | none => s.addSem d.code (bits v.toNat 0 12) (bits v.toNat 32 16)).answer .ok)) ∧
    (∀ v : BitVec 32, s.reaches w .VETCH_ARRIVE d.code 0 0 v.toNat = true →
      let r := s.arriveAt d.code (bits v.toNat 0 8)
      (∀ g, r.2 = .counted g → exec (.vetchArrive w d v) s = .next (r.1.answer .ok)) ∧
      (r.2 = .held ∨ r.2 = .refused → exec (.vetchArrive w d v) s = .next (s.answer .accessError)))

/-- For a context whose EXPECT at the die is not 0: an arrival below EXPECT counts for the current generation, and the one
that reaches EXPECT sends the die's ARRIVE (COMPLETE at die scope); one after that counts ahead for the next generation, on
contexts other than 0, while fewer than EXPECT do; any other is not counted and changes nothing. With EXPECT 0 it is refused
and changes nothing. Memory and semaphores are left alone. (R202, R204, R205, R209) -/
def Obligations.BarrierArrivals : Prop :=
  ∀ (s : State) (d : Die) (ctx : Fin 256), let v := s.rg .VETCH_BAR_STATUS d.code 0 ctx.val
    let arrived := bits v 0 8
    let next := bits v 8 8
    let gen := bits v 32 32
    let e := s.barExpect d.code ctx.val
    let t := (s.arriveAt d.code ctx.val).1
    let a := (s.arriveAt d.code ctx.val).2
    (e = 0 → t = s ∧ a = .refused) ∧
    (arrived < e → a = .counted gen ∧ t.fld .VETCH_BAR_STATUS d.code 0 ctx.val 0 8 = arrived + 1 ∧
      t.fld .VETCH_BAR_STATUS d.code 0 ctx.val 8 8 = next ∧ t.barGen d.code ctx.val = gen ∧ t.mem = s.mem ∧
      (∀ i, t.sem d.code i = s.sem d.code i) ∧ (arrived + 1 ≠ e → t.vmsgs = s.vmsgs) ∧
      (arrived + 1 = e → ∃ m, t.vmsgs = s.vmsgs ++ [m] ∧ (s.barScope d.code ctx.val = 0 → m = .complete d.code ctx.val gen) ∧
        (s.barScope d.code ctx.val ≠ 0 → ∃ f, m = .arrive d.code ctx.val gen 0 f))) ∧
    (0 < e → e ≤ arrived → ctx.val ≠ 0 → next < e → a = .counted ((gen + 1) % 2 ^ 32) ∧ RegsOnly s t ∧
      t.fld .VETCH_BAR_STATUS d.code 0 ctx.val 0 8 = arrived ∧ t.fld .VETCH_BAR_STATUS d.code 0 ctx.val 8 8 = next + 1 ∧
      SameRegsBut [loc .VETCH_BAR_STATUS d.code 0 ctx.val] s t) ∧
    (0 < e → e ≤ arrived → (ctx.val = 0 ∨ e ≤ next) → a = .held ∧ t = s)

/-- Inside the module, with no earlier message of the same kind of path before it, ARRIVE reaches the module root with its
generation, ready bits and flags; COMPLETE completes its context at its die; ADVANCE makes the epoch boundary of its die, and
with the last one of an epoch the module root looks at the arrivals it holds; after each the signals it kept waiting reach
their dies. As a frame in sequence on the synchronisation lane of a port that is UP, admitted, not fenced and addressed to
this module, each of the five is acknowledged and takes its effect here: a signal, an arrival at a barrier root, a completion
for the dies, the epoch, an abort. (R194, R197, R204, R210, R217, R335, R336) -/
def Obligations.VetchMessagesTakeEffect : Prop :=
  ∀ (s : State) (d : Die),
    (∀ (ctx : Fin 256) (gen : BitVec 32) (rd : BitVec 16) (fl : BitVec 8) pre rest,
      s.vmsgs = pre ++ VMsg.arrive d.code ctx.val gen.toNat rd.toNat fl.toNat :: rest →
      (∀ c g r f, VMsg.arrive d.code c g r f ∉ pre) → exec (.arrive .here d ctx gen rd fl) s =
        .next (({ s with vmsgs := pre ++ rest } : State).arriveDie d.code ctx.val gen.toNat rd.toNat fl.toNat).passSignals) ∧
    (∀ pre rest, (∀ c g, VMsg.complete d.code c g ∉ pre) → (∀ e k f is, VMsg.advance d.code e k f is ∉ pre) →
      (∀ (ctx : Fin 256) (gen : BitVec 32), s.vmsgs = pre ++ VMsg.complete d.code ctx.val gen.toNat :: rest →
        exec (.complete .here d ctx gen) s =
          .next (({ s with vmsgs := pre ++ rest } : State).completeAt d.code ctx.val gen.toNat).passSignals) ∧
      (∀ (e : BitVec 64) (k a : BitVec 16) (f : BitVec 8) (k' f' : Nat) (is : List HItem),
        s.vmsgs = pre ++ VMsg.advance d.code e.toNat k' f' is :: rest → exec (.advance .here d e k a f) s =
          .next (({ s with vmsgs := pre ++ rest } : State).advanceDie d.code e.toNat is).passSignals.heldAdvance)) ∧
    (∀ (r : FRx), s.portState r.port.val = 2 → bit (s.portReg .SL_STATUS r.port.val) 4 = true →
      let s1 := s.frameAcks r.port.val (r.ack.map BitVec.toNat) r.nak
      let s2 := s1.acceptFrame r.port.val
      r.seq.toNat = (s1.port r.port.val).fRx → s2.admitted r.src.toNat = true → s2.fenced r.src.toNat = false → r.dst.toNat = s2.node →
      (∀ (i : Fin 4096) (n : BitVec 16), exec (.signal (.lane r) d i n) s =
        .next (s2.signalFrom r.src.toNat d.code i.val n.toNat)) ∧
      (∀ (ctx : Fin 256) (gen : BitVec 32) (rd : BitVec 16) (fl : BitVec 8), exec (.arrive (.lane r) d ctx gen rd fl) s =
        .next (s2.arriveNode r.src.toNat ctx.val gen.toNat rd.toNat fl.toNat)) ∧
      (∀ (ctx : Fin 256) (gen : BitVec 32), exec (.complete (.lane r) d ctx gen) s =
        .next (s2.completeDies ctx.val gen.toNat)) ∧
      (∀ (e : BitVec 64) (k a : BitVec 16) (f : BitVec 8), exec (.advance (.lane r) d e k a f) s =
        .next (s2.advanceFrame e.toNat k.toNat a.toNat f.toNat)) ∧
      (∀ (h : Fin 16) (inst : BitVec 32), exec (.abort (.lane r) h inst) s = .next (s2.abortFrame h.val inst.toNat)))

/-- For every state, die, epoch below 2^64 and items, the boundary of the die leaves VETCH_EPOCH of the die at the new epoch,
VETCH_EPOCH of every other die as it was, and no other generation of the die changed: that of context 0 is one further,
modulo 2^32. (R204, R210) -/
def Obligations.EpochBecomesVisible : Prop :=
  ∀ (s : State) (d f : Die) (e : Nat) (ctx : Fin 256) (items : List HItem), e < 2 ^ 64 →
    let t := s.advanceDie d.code e items
    t.epochOf d.code = e ∧ (f ≠ d → t.epochOf f.code = s.epochOf f.code) ∧
    t.barGen d.code ctx.val = (if ctx.val = 0 then (s.barGen d.code 0 + 1) % 2 ^ 32 else s.barGen d.code ctx.val)

/-- AUTO_ARRIVAL of an M- or X-die with EN set and no gate, not yet made for the generation of context 0 and counted there,
makes the arrival and notes the generation. A gate's wait, a SYN.WAIT or a SYN.BAR with W 1 that has stood for the die's
timeout (0 for none) ends by its timeout row: Vetch fault 0x05 of the semaphore with the wait withdrawn, command fault 0x08,
command fault 0x09; HOOP_TIMEOUT of an undecided slot not yet ready, open for HOOP_TO ticks, aborts it with cause 1. (R155,
R203, R217, R223) -/
def Obligations.AutomaticArrivalsAndTimeouts : Prop :=
  ∀ s : State,
    (∀ (d : Die) (g : Nat), DieSet.mx.has d.code = true → bit (s.rg .VETCH_AUTO d.code 0 0) 31 = true →
      bit (s.rg .VETCH_AUTO d.code 0 0) 30 = false → Sparse.get (fun _ => 0) s.autoGen d.code ≠ s.barGen d.code 0 + 1 →
      let r := s.arriveAt d.code 0
      r.2 = .counted g → exec (.autoArrival d) s = .next { r.1.useGrant d.code .auto with
        autoGen := Sparse.set (fun _ => 0) r.1.autoGen d.code (g + 1) }) ∧
    (∀ (d : Die) (w : SemWait), s.semWaits.find? (fun w => w.die == d.code && w.who == Waiter.auto) = some w →
      s.rg .VETCH_SEM_TO d.code 0 0 ≠ 0 → s.rg .VETCH_SEM_TO d.code 0 0 ≤ w.lt →
      exec (.autoArrivalGateTimeout d) s = .next ((s.dropWait d.code .auto).vetchFault d.code 0x05 w.sem)) ∧
    (∀ c : CoreId, s.seqState c.ix = 2 → (∃ w ∈ s.semWaits, w.who = Waiter.seq c.ix) →
      s.rg .VETCH_SEM_TO c.die.val 0 0 ≠ 0 → s.rg .VETCH_SEM_TO c.die.val 0 0 ≤ (s.seq c.ix).waitLt →
      exec (.semaphoreWaitTimeout c) s = .next (s.seqFault c.ix 0x08 7)) ∧
    (∀ c : CoreId, s.seqState c.ix = 2 → (s.seq c.ix).barWait ≠ none →
      s.rg .VETCH_BAR_TO c.die.val 0 0 ≠ 0 → s.rg .VETCH_BAR_TO c.die.val 0 0 ≤ (s.seq c.ix).waitLt →
      exec (.barrierWaitTimeout c) s = .next (s.seqFault c.ix 0x09 7)) ∧
    (∀ h : Fin 16, s.hoopUndecided h.val = true → s.hoopSt h.val 28 1 = 0 → s.rg .HOOP_TO 0x60 0 h.val ≤ (s.hoop h.val).ticks →
      exec (.hoopTimeout h) s = .next (s.hoopAbort h.val 1))

/-- Of writes that reach their rules: HOOP_OPEN without ABORT opens the next instance of a slot that is not undecided, and is
an access error on one that is; HOOP_ABORT without OPEN aborts the slot's instance with cause 3; both are answered ok.
HOOP_STG_STAGE with an item type of Table 7.4 and READY clear stages the window's target and value in the slot named and puts
0 or 1 into HOOP_STG_RES; with type 0 and READY set, as HOOP_STG_READY, it declares the slot ready, 1 where no instance is
open; an unlisted type is result 2. (R211, R213, R214, R215, R217) -/
def Obligations.HoopRegisterRows : Prop :=
  ∀ (s : State) (w : Writer) (h : Fin 16) (v : BitVec 32),
    let opn := setBits v.toNat 0 1 1
    let abt := setBits v.toNat 1 1 1
    let rdy := setBits v.toNat 16 1 1
    (s.reaches w .HOOP_CTRL 0x60 0 h.val opn = true → bit opn 1 = false →
      (s.hoopUndecided h.val = false → exec (.hoopOpen w h v) s = .next ((s.hoopOpen h.val).answer .ok)) ∧
      (s.hoopUndecided h.val = true → exec (.hoopOpen w h v) s = .next (s.answer .accessError))) ∧
    (s.reaches w .HOOP_CTRL 0x60 0 h.val abt = true → bit abt 0 = false →
      exec (.hoopAbort w h v) s = .next ((s.hoopAbort h.val 3).answer .ok)) ∧
    (s.reaches w .HOOP_STG_CMD 0x60 0 h.val v.toNat = true → bit v.toNat 16 = false → 1 ≤ bits v.toNat 8 8 →
      (bits v.toNat 8 8 ≤ 6 →
        let r := s.hoopStage (bits v.toNat 0 4) (bits v.toNat 8 8) (BitVec.ofNat 64 (s.rg .HOOP_STG_TGT 0x60 0 h.val))
          (BitVec.ofNat 64 (s.rg .HOOP_STG_VAL 0x60 0 h.val))
        exec (.hoopStgStage w h v) s = .next ((r.1.setRg .HOOP_STG_RES 0x60 0 h.val r.2).answer .ok)) ∧
      (6 < bits v.toNat 8 8 →
        exec (.hoopStgStage w h v) s = .next ((s.setRg .HOOP_STG_RES 0x60 0 h.val 2).answer .ok))) ∧
    (s.reaches w .HOOP_STG_CMD 0x60 0 h.val rdy = true → bits rdy 8 8 = 0 →
      let r := s.hoopReady (bits rdy 0 4)
      exec (.hoopStgReady w h v) s = .next ((r.1.setRg .HOOP_STG_RES 0x60 0 h.val (if r.2 then 0 else 1)).answer .ok))

/-- Opening a slot makes it OPEN with no item, instance 0 the first time and else one more than the last, READY at once where
CFG expects no declaration. Staging an item that its target can take, in an undecided slot that is not ready and holds fewer
than 256 items, appends it, counts it, makes the slot STAGING and answers 0; in a slot that is not undecided or is ready it
answers 1 and changes nothing. A declaration in an undecided slot that is not ready counts, makes it STAGING, and makes it
ready where the count reaches CFG's. (R213, R214, R215, R217) -/
def Obligations.HoopItemsAndDeclarations : Prop :=
  ∀ (s : State) (h : Fin 16) (kind : Nat) (tgt val : BitVec 64),
    let o := s.hoopOpen h.val
    (o.hoopSt h.val 29 3 = 1 ∧ (o.hoop h.val).items = [] ∧ o.hoopSt h.val 0 9 = 0 ∧
      o.hoopInst h.val = (if (s.hoop h.val).opened = 0 then 0 else (s.hoopInst h.val + 1) % 2 ^ 32) ∧
      (o.hoopSt h.val 28 1 = 1 ↔ bits (s.rg .HOOP_CFG 0x60 0 h.val) 0 11 = 0) ∧
      SameRegsBut [loc .HOOP_STATUS 0x60 0 h.val] s o) ∧
    (s.hoopUndecided h.val = true → s.hoopSt h.val 28 1 = 0 → s.hoopSt h.val 0 9 < 256 →
      s.itemOk h.val kind tgt.toNat val.toNat = true →
      let t := (s.hoopStage h.val kind tgt val).1
      (s.hoopStage h.val kind tgt val).2 = 0 ∧ (t.hoop h.val).items = (s.hoop h.val).items ++ [⟨kind, tgt, val⟩] ∧
      t.hoopSt h.val 0 9 = s.hoopSt h.val 0 9 + 1 ∧ t.hoopSt h.val 29 3 = 2 ∧ t.hoopInst h.val = s.hoopInst h.val ∧
      SameRegsBut [loc .HOOP_STATUS 0x60 0 h.val] s t ∧ t.mem = s.mem) ∧
    (s.hoopUndecided h.val = false ∨ s.hoopSt h.val 28 1 = 1 → s.hoopStage h.val kind tgt val = (s, 1)) ∧
    (s.hoopUndecided h.val = true → s.hoopSt h.val 28 1 = 0 → s.hoopSt h.val 9 11 < 2047 →
      let t := (s.hoopReady h.val).1
      let n := s.hoopSt h.val 9 11 + 1
      (s.hoopReady h.val).2 = true ∧ t.hoopSt h.val 9 11 = n ∧ t.hoopSt h.val 29 3 = 2 ∧
      t.hoopSt h.val 28 1 = (if n = bits (s.rg .HOOP_CFG 0x60 0 h.val) 0 11 then 1 else 0) ∧
      SameRegsBut [loc .HOOP_STATUS 0x60 0 h.val] s t)

/-- REFRESH of an engine in WAIT_TRIG with a list and its trigger served answers a next state in INTAKE at entry 0 with the
publication slot's instance and the arithmetic control latched and RN_REFRESH one higher, no other register but RN_STATUS
changed. INTAKE_COMPLETE without a parity error, whose entries are all taken in and whose instance has not aborted, latches
the arithmetic control and goes to RUN. RENNET_JOB_COMPLETE of a root entry in RUN reads its factor, and of another entry
solves its problem; the output or a copy of the current one goes to the shadow buffer, the entry's result bytes are written
and the job is counted. RENNET_TRIGGER_TIMEOUT of a wait that has stood for VETCH_SEM_TO is fault 0x08. (R254, R255, R256,
R258, R259, R270, R273, R279) -/
def Obligations.RennetRefreshes : Prop :=
  ∀ (s : State) (m : Fin 12) (e : Fin 4),
    let d := 0x40 + m.val
    let r := s.ren m e
    (s.renState m e = 1 → s.rnCount m e ≠ 0 → s.granted d (.rennet e.val) = true →
      ∃ t, exec (.refresh m e) s = .next t ∧ t.renState m e = 2 ∧ (t.ren m e).next = 0 ∧
        (t.ren m e).inst = s.hoopInst (bits (s.g .ROOT_CFG) 0 4) ∧ (t.ren m e).arith = s.arith d ∧
        t.rg .RN_REFRESH d 0 e = Nat.min (s.rg .RN_REFRESH d 0 e + 1) Reg.RN_REFRESH.max ∧
        SameRegsBut [loc .RN_STATUS d 0 e, loc .RN_REFRESH d 0 e] s t ∧ t.mem = s.mem) ∧
    (∀ t, s.renState m e = 2 → s.intakeGuarded m e = false → s.intakeRun m e (s.rnCount m e) = (t, none) →
      ((t.ren m e).decided = false ∨ (t.ren m e).committed = true) →
      exec (.intakeComplete m e none) s = .next ((t.setRen m e { t.ren m e with arith := t.arith d }).setRenState m e 3)) ∧
    (s.renState m e = 3 → ∀ (x : RnEntry) (t : State), s.rnEntryAt m e r.next = (t, .ok x) →
      (∀ u b v w, x.mode = 1 → t.rnGuarded m e x (x.outLen none) = false → t.rnRead m e x.src slotBytes = (u, .ok b) →
        let res := rootJob (rnArith r.arith) x b
        u.rnCopy m e x (x.outLen none) res = (v, none) → v.rnResult m e r.next res = (w, none) →
        exec (.rennetJobComplete m e none) s = .next (w.rnCounted m e r.next res)) ∧
      (∀ u p v b res wk k valid y z, x.mode ≠ 1 → t.ldltProblem m e x = (u, .ok p) →
        x.outOff + x.outLen (some p) ≤ u.rg .RN_BUF_LEN d 0 e → u.rnGuarded m e x (x.outLen (some p)) = false →
        (if x.solves ∧ p.r ≠ 0 then u.rnRead m e p.rhs (256 * p.t * p.r) else (u, .ok [])) = (v, .ok b) →
        ldltJob (rnArith r.arith) r (bit (v.rg .RN_STATUS d 0 e) 8) (r.skipped.contains r.next) x p b = .done res wk k valid →
        let left := if x.mode = 3 then r.skipped else r.skipped.filter (· != r.next)
        let q := (v.setRen m e { r with f := wk.f, piv := wk.piv, y := wk.y, m := k, skipped := left }).setFld
          .RN_STATUS d 0 e 8 1 (b2n valid)
        q.rnCopy m e x (x.outLen (some p)) res = (y, none) → y.rnResult m e r.next res = (z, none) →
        exec (.rennetJobComplete m e none) s = .next (z.rnCounted m e r.next res))) ∧
    (∀ w, s.semWaits.find? (fun w => w.die == d && w.who == Waiter.rennet e.val) = some w → s.renState m e = 1 →
      s.rg .VETCH_SEM_TO d 0 0 ≠ 0 → s.rg .VETCH_SEM_TO d 0 0 ≤ w.lt → exec (.rennetTriggerTimeout m e) s =
        .next (s.rennetFault m e 0x08 (bits (s.rg .RN_STATUS d 0 e) 16 16)))

/-- UPDATE_START of a waiting engine whose step has not aborted, has no overflow verdict, whose instance is open and whose
epoch has come begins the update, and of one with an overflow verdict its discard; SHARD_GATE_PASS of a granted gate lets it
go on, and ends the map change where every engine with a list has come to the selected map; DIR_CHUNK with FULL served reads
the next chunk's bytes, moves the ring on and signals FREE; DIR_RING_WAIT_TIMEOUT after VETCH_SEM_TO is fault 0x05.
PRESS_TILE with its entry read, its direction values there and no capture in the way runs the tile; UPDATE_FINISHED after the
last entry, with no stop under way, ends the update in WAIT_EPOCH with SWEEP clear and counts it; PRESS_ARRIVAL stages BUFSEL
for the other buffer and READY for a finished update, goes to READY, and counts the arrival. (R284, R293, R296, R297, R301,
R318, R380) -/
def Obligations.PressUpdates : Prop :=
  ∀ (s : State) (m : Fin 12) (e : Fin 8),
    let d := 0x40 + m.val
    let p := s.press m e
    let cfg := s.g .PR_CFG
    let lag := bits cfg 4 3
    (s.prState m e = 1 → s.prActive m e = true → bit cfg 16 = true → bit (s.g .RESTART_CTRL) 0 = false →
      s.brineOverflow p.step = true → exec (.updateStart m e) s = .next (s.pressBegin m e true)) ∧
    (s.prState m e = 1 → s.prActive m e = true → bit cfg 16 = true → bit (s.g .RESTART_CTRL) 0 = false →
      (∀ b, (p.step, b) ∉ p.aborted) → s.brineOverflow p.step = false → s.updateOpen p.step = true →
      (if lag < 2 then s.boundary (p.step + 1) else s.boundary (p.step + lag - 1)) ≤ (s.epochOf d : Int) →
      exec (.updateStart m e) s = .next (s.pressBegin m e false)) ∧
    (s.prState m e = 2 → p.gatePassed = false → s.granted d (.gate e.val) = true →
      let t := (s.useGrant d (.gate e.val)).setPress m e { p with gatePassed := true, lastMap := some p.map }
      let all := (enginePairs 8).all fun q => !t.prActive q.1 q.2 || (t.press q.1 q.2).lastMap == some (t.g .SHARD_SEL % 2)
      exec (.shardGatePass m e) s = .next
        ((if all then t.setG .SHARD_STATUS (setBits (t.g .SHARD_STATUS) 0 1 0) else t).dirArm m e)) ∧
    (∀ t bs, s.prState m e = 2 → s.dirWanted m e = true → s.granted d (.dirRing e.val) = true →
      let ring := s.rg .PR_DIR_RING d 0 e
      let n := Nat.min (bits ring 26 22 * 1024) (s.dirTotal m e p.map - p.dirTaken)
      let u := s.useGrant d (.dirRing e.val)
      u.prRead m e (u.stAddr m (bits ring 0 26 + p.ringPos * (bits ring 26 22 * 1024))) n = (t, .ok bs) →
      dieCode (bits (t.rg .PR_DIR_SEM d 0 e) 24 8) = true →
      let q0 := { p with dirBuf := if p.skip then [] else p.dirBuf ++ bs, dirTaken := p.dirTaken + n }
      let q := { q0 with ringPos := (p.ringPos + 1) % Nat.max (bits ring 48 16) 1 }
      exec (.dirChunk m e) s = .next (((t.setPress m e q).signal d false (bits (t.rg .PR_DIR_SEM d 0 e) 24 8)
        (bits (t.rg .PR_DIR_SEM d 0 e) 12 12) 1).dirArm m e)) ∧
    (∀ w, s.semWaits.find? (fun w => w.die == d && w.who == Waiter.dirRing e.val) = some w →
      s.rg .VETCH_SEM_TO d 0 0 ≠ 0 → s.rg .VETCH_SEM_TO d 0 0 ≤ w.lt →
      exec (.dirRingWaitTimeout m e) s = .next (s.pressFault m e 0x05 p.entry)) ∧
    (∀ t x, s.prState m e = 2 → p.skip = false → p.gatePassed = true → p.entry < s.prCount m e p.map →
      s.prEntryAt m e p.map p.entry = (t, .ok x) → x.tile p.elem * x.dirSize ≤ p.dirBuf.length →
      t.tileGuarded m e x p.elem (x.tile p.elem) = false →
      exec (.pressTile m e false) s = .next (t.tileRun m e x p.elem)) ∧
    (s.stopping = false → s.prState m e = 2 → p.skip = false → p.gatePassed = true → s.prCount m e p.map ≤ p.entry →
      let q := { p with finished := some p.step }
      let q1 := { q with digest := if s.sorrelStep p.step then some (p.step, p.engineDigest) else p.digest }
      exec (.updateFinished m e) s = .next ((((s.setPress m e q1).setPrState m e 3).setFld .PR_STATUS d 0 e 5 1 0).bump
        .PR_UPDATES d 0 e 1)) ∧
    (∀ t u k, s.prActive m e = true → bit cfg 16 = true → s.prState m e < 4 → p.arrivedGen ≠ some (s.barGen d 0) →
      s.arrivalHeld m e = some k → p.finished = some k →
      s.hoopStage (bits cfg 0 4) 2 (BitVec.ofNat 64 (d * 256 + 8 + e.val)) (BitVec.ofNat 64 (1 - s.rg .PR_WC_SEL d 0 e)) =
        (t, 0) → t.hoopReady (bits cfg 0 4) = (u, true) →
      exec (.pressArrival m e) s = .next ((u.setPrState m e 4).pressArrive m e))

/-- A Rennet fault of cause below 256 first marks the entries of a refresh in progress that are not completed; it leaves the
engine in FAULT, with RN_FAULT, where its valid bit was clear, holding valid bit, entry and cause, and its trigger wait
withdrawn. Memory reads as before, but for bytes 48 to 63 of those entries in states INTAKE and RUN. A Press fault leaves its
engine in FAULT likewise with PR_FAULT and both its waits withdrawn, and memory as it was. Where the engine has no wait to
withdraw, the fault goes behind those on their way to the half in charge with block 0x20 or 0x28, and every register but the
engine's status and fault and the die's DIE_FAULT is as before. (R256, R278, R317, R395, R484) -/
def Obligations.EngineFaults : Prop :=
  ∀ (s : State) (m : Fin 12) (cause entry : Nat), cause < 256 →
    let d := 0x40 + m.val
    (∀ e : Fin 4, let z := s.rnDrop m e
      let t := s.rennetFault m e cause entry
      let flying := s.renState m e = 2 ∨ s.renState m e = 3
      (¬ flying → z = s) ∧ t.renState m e = 6 ∧ (bit (z.rg .RN_FAULT d 0 e) 31 = false →
        t.rg .RN_FAULT d 0 e = 2 ^ 31 + entry % 4096 * 2 ^ 16 + cause) ∧
      (∀ w ∈ t.semWaits, ¬ (w.die = d ∧ w.who = Waiter.rennet e.val)) ∧ t.granted d (.rennet e.val) = false ∧
      (∀ a, (flying → ∀ k, (s.ren m e).next ≤ k → k < bits (s.rg .RN_LIST d 0 e) 32 16 →
        a < s.rnEntryAddr m e k + 48 ∨ s.rnEntryAddr m e k + 64 ≤ a) → t.byte a = s.byte a) ∧
      ((∀ w ∈ s.semWaits, ¬ (w.die = d ∧ w.who = Waiter.rennet e.val)) →
        t.faultQ = z.faultQ ++ [⟨d, 0x20, e.val, cause⟩] ∧
        SameRegsBut [loc .RN_FAULT d 0 e, loc .RN_STATUS d 0 e, loc .DIE_FAULT d 0 0] z t)) ∧
    (∀ e : Fin 8, let t := s.pressFault m e cause entry
      t.prState m e = 6 ∧ (bit (s.rg .PR_FAULT d 0 e) 31 = false →
        t.rg .PR_FAULT d 0 e = 2 ^ 31 + entry % 65536 * 2 ^ 8 + cause) ∧
      (∀ w ∈ t.semWaits, ¬ (w.die = d ∧ (w.who = Waiter.dirRing e.val ∨ w.who = Waiter.gate e.val))) ∧ t.mem = s.mem ∧
      ((∀ w ∈ s.semWaits, ¬ (w.die = d ∧ (w.who = Waiter.dirRing e.val ∨ w.who = Waiter.gate e.val))) →
        t.faultQ = s.faultQ ++ [⟨d, 0x28, e.val, cause⟩] ∧
        SameRegsBut [loc .PR_FAULT d 0 e, loc .PR_STATUS d 0 e, loc .DIE_FAULT d 0 0] s t))

/-- PORT_ENABLE of a port that is DOWN and not held, past start-up and with the locked bits as they are, sets EN and starts
training afresh. PORT_TRAINED with all lanes or an allowed half brings a port in TRAINING, or in RETRAIN with the same peer,
UP with its peer shown and everything unacknowledged resent. TRAINING_TIMEOUT after its limit is a port failure 0x02;
LANE_LOCK_LOSS of a lane in use retrains the port on half of its lanes where degrading is allowed and else is failure 0x04;
REPLAY_TIMEOUT after 4 ticks resends from the oldest unacknowledged flit or frame; LINKCTL takes acknowledgement, credits and
a NAK; SYNC_LANE_LOSS enters FALLBACK and SYNC_LANE_RETRAINED leaves it once nothing is unacknowledged there; a damaged flit
or frame is a NAK, one of a reserved type is accepted and dropped, a flit counted in SL_ROUTE_DROP; IDLE_FRAME takes its
acknowledgement. (R326, R327, R329, R330, R332, R333, R335, R336, R337) -/
def Obligations.PortEvents : Prop :=
  ∀ (s : State) (p : Fin 36),
    let x := s.port p.val
    let st := s.portReg .SL_STATUS p.val
    let cfg := s.portReg .SL_CFG p.val
    (∀ (w : Writer) (v : BitVec 32), s.reaches w .SL_CFG (portAt p.val).1 0 (portAt p.val).2 v.toNat = true →
      s.svc ≠ .startup → s.fabricHeld = false → bit cfg 31 = false → bit v.toNat 31 = true →
      (cfg &&& (Reg.row .SL_CFG).lock) = (v.toNat &&& (Reg.row .SL_CFG).lock) →
      exec (.portEnable w p v) s = .next (((((s.setPortReg .SL_CFG p.val (setBits cfg 31 1 1)).setPortReg
        .SL_STATUS p.val 1).setPortReg .SL_PEER p.val 0).setPort p.val PortS.init).answer .ok)) ∧
    (∀ (lanes node : BitVec 8) (port : BitVec 6) (use : Nat) (half : Bool), let peer := 2 ^ 31 + port.toNat * 2 ^ 8 + node.toNat
      (s.portState p.val = 1 ∨ (s.portState p.val = 3 ∧ s.portReg .SL_PEER p.val = peer)) →
      lanesInUse lanes.toNat (bit st 3) (bit cfg 29) = some (use, half) →
      exec (.portTrained p lanes node port) s = .next ((((s.setPortReg .SL_STATUS p.val
        (setBits (setBits (setBits (setBits st 0 3 2) 3 1 (b2n half)) 4 1 1) 16 8 use)).setPortReg
          .SL_PEER p.val peer).resendAll p.val).leaveFallback p.val)) ∧
    ((s.portState p.val = 1 ∨ s.portState p.val = 3) → bits cfg 16 8 * 1024 ≤ x.trainLt →
      exec (.trainingTimeout p) s = .next (s.portFail p.val 0x02)) ∧
    (s.portState p.val = 2 →
      (∀ lanes : BitVec 8, lanes.toNat &&& bits st 16 8 ≠ 0 → exec (.laneLockLoss p lanes) s =
        .next (if bit cfg 29 then (s.setPortBit p.val 3 true).portRetrain p.val else s.portFail p.val 0x04)) ∧
      (∀ e es, x.replay = e :: es → 4 ≤ x.ackLt → exec (.replayTimeout p false) s = .next (s.resendFlits p.val e.1)) ∧
      (∀ e es, x.freplay = e :: es → 4 ≤ x.fAckLt → exec (.replayTimeout p true) s = .next (s.resendFrames p.val e.1)) ∧
      (∀ (ack nak : Option (BitVec 32)) (cr : List (BitVec 16)), let t := s.flitsAcked p.val (ack.map BitVec.toNat)
        let y := t.port p.val
        let u := (t.setPort p.val { y with ret := takePad 0 4 (cr.map BitVec.toNat) }).pump p.val (y.queue.length + 1)
        exec (.linkctl p ack none cr) s = .next u ∧
        (∀ q, nak = some q → exec (.linkctl p ack nak cr) s = .next (u.resendFlits p.val q.toNat))) ∧
      exec (.syncLaneLoss p) s = .next ((s.setPortBit p.val 4 false).enterFallback p.val) ∧
      exec (.syncLaneRetrained p) s = .next ((s.setPortBit p.val 4 true).leaveFallback p.val) ∧
      exec (.damagedFlitOrFrame p true false) s = .next (s.nakFrame p.val) ∧
      exec (.damagedFlitOrFrame p false false) s = .next (s.nakFlit p.val) ∧
      exec (.damagedFlitOrFrame p true true) s = .next (s.acceptFrame p.val) ∧
      exec (.damagedFlitOrFrame p false true) s = .next ((s.acceptFlit p.val 0).bumpPort .SL_ROUTE_DROP p.val 1) ∧
      (∀ (ack : Option (BitVec 8)) (nak : Bool), bit st 4 = true →
        exec (.idleFrame p ack nak) s = .next (s.frameAcks p.val (ack.map BitVec.toNat) nak)))

/-- For a flit next in sequence on a port that is UP, of an admitted source that is not a fenced twin, addressed to this
module: a WR of the twin to memory of this module that no capture holds up is written and answered WR_ACK, with the error bit
where memory refuses it; an RD_REQ of the twin delivers its bytes in an RD_RESP; the answers RD_RESP and WR_ACK to a control
core's request reach it as data or ok; a REG_WR of the twin is written and acknowledged, one of another node to a register
that R344 does not name, or of another width than 4 or 8 bytes, is answered with an error WR_ACK and writes nothing. A VETCH
flit next in sequence, whatever its source and destination, hands its frame on if that is next in sequence too, and drops it
if not. Before that, the acknowledgement it carries is taken and it is counted and accepted. (R16, R330, R332, R336, R338,
R339, R343, R344) -/
def Obligations.FlitsTakeEffect : Prop :=
  ∀ (s : State) (r : Rx), s.portState r.port.val = 2 →
    let p := r.port.val
    let s1 := s.flitsAcked p (r.ack.map BitVec.toNat)
    let z (vc : Nat) : State := s1.acceptFlit p vc
    let src := r.src.toNat
    let tag := r.tag.toNat
    r.seq.toNat = (s.port p).rxSeq →
    (∀ (q : BitVec 8) (k : Option (BitVec 8)) (f : Frame), let t := (z 3).framesAcked p (k.map BitVec.toNat)
      exec (.vetch r q k f) s = .next (if q.toNat = (t.port p).fRx
        then (t.acceptFrame p).takeFrame p src r.dst.toNat r.hops.val f else t)) ∧
    (s.admitted src = true → s.fenced src = false → r.dst.toNat = s.node →
    (∀ (a : BitVec 44) (data : List (BitVec 8)), let bs := data.map BitVec.toNat
      (z 0).fromTwin src a.toNat = true → (z 0).guarded a.toNat bs.length = false → let w := (z 0).memWrite .twin a.toNat bs
      exec (.wr r a data) s = .next (w.1.respond 0x04 src tag w.2.isSome [])) ∧
    (∀ (a : BitVec 44) (n : BitVec 8) (t : State) (bs : List Nat), (z 0).fromTwin src a.toNat = true →
      (z 0).memRead .twin a.toNat (n.toNat + 1) = (t, .ok bs) →
      exec (.rdReq r a n) s = .next (t.respond 0x03 src tag false bs)) ∧
    (∀ (data : List (BitVec 8)) (q : Asked) (t : State), (z 1).takeAsked tag true = some (q, t) → q.who = .cc →
      exec (.rdResp r false data) s = .next (t.answer (.data (data.map BitVec.toNat)))) ∧
    (∀ (q : Asked) (t : State), (z 1).takeAsked tag false = some (q, t) → q.who = .cc →
      exec (.wrAck r false) s = .next (t.answer .ok)) ∧
    (∀ (off : BitVec 32) (v : BitVec 32),
      (∀ t, src = s.twinNode → (z 0).busWrite .twin off.toNat false v.toNat = (t, .done) →
        exec (.regWr r off .w4 (v.zeroExtend 64)) s = .next (t.respond 0x04 src tag false [])) ∧
      (∀ x d i j, src ≠ s.twinNode → locate off.toNat = some (x, d, i, j) → (z 0).resolve off.toNat = off.toNat →
        x.nodeWritable = false →
        exec (.regWr r off .w4 (v.zeroExtend 64)) s = .next ((z 0).respond 0x04 src tag true [])) ∧
      (∀ n, exec (.regWr r off (.other n) (v.zeroExtend 64)) s = .next ((z 0).respond 0x04 src tag true []))))

/-- On a port that is UP, a flit that is not next in sequence leaves memory and every register as its acknowledgement leaves
them and asks once for the flit expected; one from a source that SL_ADMIT does not list adds 1 to SL_ADMIT_DROP; of a fenced
twin a WR is answered with an error WR_ACK; one for another node is forwarded with its hop count one higher, or counted in
SL_ROUTE_DROP where no port takes it. On a port that is not UP a WR changes nothing. (R332, R338, R339, R388) -/
def Obligations.FlitsOutOfSequence : Prop :=
  ∀ (s : State) (r : Rx) (a : BitVec 44) (data : List (BitVec 8)),
    let p := r.port.val
    let s1 := s.flitsAcked p (r.ack.map BitVec.toNat)
    let z := s1.acceptFlit p 0
    let f := rxAsFlit r 0x01 (data.length - 1) a.toNat (data.map BitVec.toNat)
    (s.portState p ≠ 2 → exec (.wr r a data) s = .next s) ∧
    (s.portState p = 2 → r.seq.toNat ≠ (s1.port p).rxSeq → exec (.wr r a data) s = .next (s1.nakFlit p) ∧
      (s1.nakFlit p).mem = s.mem ∧ (s1.nakFlit p).regs = s1.regs ∧ ((s1.nakFlit p).port p).nak = true) ∧
    (s.portState p = 2 → r.seq.toNat = (s1.port p).rxSeq →
      (z.admitted r.src.toNat = false → ∃ t, exec (.wr r a data) s = .next t ∧ t.mem = s.mem ∧
        t.portReg .SL_ADMIT_DROP p = Nat.min (z.portReg .SL_ADMIT_DROP p + 1) Reg.SL_ADMIT_DROP.max) ∧
      (z.admitted r.src.toNat = true → z.fenced r.src.toNat = true →
        exec (.wr r a data) s = .next (z.respond 0x04 r.src.toNat r.tag.toNat true [])) ∧
      (z.admitted r.src.toNat = true → z.fenced r.src.toNat = false → r.dst.toNat ≠ z.node →
        (∀ q, r.hops.val ≠ 15 → z.pickPort r.dst.toNat f.spread = some q →
          exec (.wr r a data) s = .next (z.enqueue q { f with hops := f.hops + 1 })) ∧
        (r.hops.val = 15 ∨ z.pickPort r.dst.toNat f.spread = none →
          exec (.wr r a data) s = .next (z.bumpPort .SL_ROUTE_DROP p 1))))

/-- VAT_SUBMIT that reaches its rules, of a descriptor read whole with its member table that passes the checks, on a Vat
without a fault and fewer than 64 queued, queues it with its nodes, begins its trigger wait if it is first, and is answered
ok. COLLECTIVE_START of a head whose trigger is granted, with fewer than 8 active, its CID not active and tickets or spill
room, begins it. CHUNK_REDUCE of an opened reduce-scatter's chunk that is not done, and of which a stop request does not come
first, adds the next contribution; no capture holds its memory. COLLECTIVE_COMPLETE of an opened collective with every chunk
in and out copies the own part, gives its tickets back, adds 1 to VAT_COLLS and signals where flag 2 is set.
VAT_PROGRESS_TIMEOUT and VAT_TRIGGER_TIMEOUT after their limits are Vat faults 0x06 and 0x0A. (R345, R346, R349, R353, R355,
R356, R357, R358, R360) -/
def Obligations.CollectivesBeginAndEnd : Prop :=
  ∀ (s : State) (x : Fin 4),
    let dx := 0x50 + x.val
    let v := s.vat x
    (∀ (w : Writer) (val : BitVec 64) (bs nodes ls : List Nat),
      let a := bits val.toNat 0 44
      let d := vatDesc bs
      let p := fieldAt bs 8 2
      let mtab := fieldAt bs 16 8
      s.reaches w .VAT_SUBMIT dx 0 0 val.toNat = true → s.vatFaulted x = false → v.queue.length < 64 → a % 64 = 0 →
      s.inFast a 64 = true → s.memRead (.vat x) a 64 = (s, .ok bs) → vatFieldsOk bs d p = true → bits d.cid 10 2 = x.val →
      s.inFast mtab p = true → (d.op = 3 → s.inFast d.list (16 * d.count) = true) → s.memRead (.vat x) mtab p = (s, .ok nodes) →
      (if d.op = 3 ∧ d.count ≠ 0 then s.memRead (.vat x) d.list (16 * d.count) else (s, .ok [])) = (s, .ok ls) →
      nodes[d.self]? = some s.node → (∀ i j, i < p → j < i → nth 0 nodes i ≠ nth 0 nodes j) →
      s.vatPlacesOk d p mtab (sendSegs p ls) = true →
      let t := s.setVat x { v with queue := v.queue ++ [{ d with nodes := nodes }] }
      exec (.vatSubmit w x val) s = .next ((if v.queue.isEmpty then t.vatArm x else t).answer .ok)) ∧
    (∀ d rest spill need, v.queue = d :: rest → (v.granted = true ∨ s.granted dx .vat = true) → v.active.length < 8 →
      (∀ c ∈ v.active, c.desc.cid ≠ d.cid) →
      let s1 := if v.granted then s else (s.useGrant dx .vat).setVat x { v with granted := true }
      s1.vatAdmit x d = some (spill, need) → exec (.collectiveStart x) s = .next (s1.vatBegin x d rest spill need)) ∧
    (∀ (cid : BitVec 12) (c : Coll), s.coll x cid.toNat = some c → c.opened = true →
      (∀ k : BitVec 16, c.desc.op = 1 → (c.redOf k.toNat).done = false →
        k.toNat < chunkCount (c.recvLen c.desc.self) → (s.stopping = false ∨ (c.redOf k.toNat).next ≠ 0) →
        (∀ g ∈ c.accPieces k.toNat, s.guarded g.1 g.2 = false) → s.guarded (c.desc.dst + chunkBytes * k.toNat / c.desc.size * c.desc.outSize) (2 * chunkBytes) = false →
        exec (.chunkReduce x cid k) s = .next (s.reduceNext x c k.toNat (c.redOf k.toNat))) ∧
      (∀ t, c.allIn = true → c.allOut = true → (c.desc.op ≠ 1 → s.guarded (c.placeOf c.desc.self) (c.sendLen c.desc.self) = false) →
        s.ownCopy x c = (t, none) →
        let y := t.vat x
        let y1 := { y with active := y.active.filter fun a => a.desc.cid != c.desc.cid }
        let u := t.setVat x { y1 with spillUse := if c.spill then y.spillUse - c.tickets * chunkBytes else y.spillUse }
        let q := (if c.spill then u else u.setFld .VAT_OCC dx 0 0 0 11 (u.fld .VAT_OCC dx 0 0 0 11 - c.tickets)).bump
          .VAT_COLLS dx 0 0 1
        exec (.collectiveComplete x cid) s = .next (if bit c.desc.flags 2 then q.signal dx false c.desc.doneDie c.desc.doneSem 1 else q))) ∧
    (∀ c, v.active.find? (fun c => decide (s.rg .VAT_PROG_TO dx 0 0 ≤ c.progLt)) = some c →
      exec (.vatProgressTimeout x) s = .next (s.vatFault x 0x06 c.desc.cid 0)) ∧
    (∀ w d rest, s.semWaits.find? (fun w => w.die == dx && w.who == Waiter.vat) = some w → v.queue = d :: rest →
      s.rg .VETCH_SEM_TO dx 0 0 ≠ 0 → s.rg .VETCH_SEM_TO dx 0 0 ≤ w.lt →
      exec (.vatTriggerTimeout x) s = .next (s.vatFault x 0x0A d.cid 0))

/-- A flit next in sequence on a port that is UP, of an admitted source that is not a fenced twin, addressed to this module,
is taken once its acknowledgement is taken and it is accepted. Of a CID that is not active at its Vat, or from no other
member of the collective, it is dropped and counted in SL_ROUTE_DROP. Else COLL_COUNT that agrees with the collective notes
the count, and opens the collective with the last of them; one that disagrees is Vat fault 0x04. COLL_CREDIT grants a chunk
of the stream once, which is sent if the collective is open, or confirms it. COLL_DATA of a chunk not yet complete keeps the
bytes at their index. COLL_END of such a chunk whose length and CRC agree completes it: a reduce-scatter keeps it for its
turn, the others deliver it; up to three mismatches ask for it again with COLL_RESEND, a fourth is Vat fault 0x05.
COLL_RESEND of a chunk sent and not confirmed sends it again and adds 1 to VAT_RESENDS. What comes twice changes nothing.
(R347, R353, R354, R356, R357, R358, R359, R360) -/
def Obligations.CollectiveFlits : Prop :=
  ∀ (s : State) (r : Rx) (cid : BitVec 12) (k : BitVec 16) (j : BitVec 8) (data : List (BitVec 8)) (crc n : BitVec 32)
    (b : CollCount) (final : Bool),
    s.portState r.port.val = 2 → r.seq.toNat = (s.port r.port.val).rxSeq → s.admitted r.src.toNat = true →
    s.fenced r.src.toNat = false → r.dst.toNat = s.node →
    let z := (s.flitsAcked r.port.val (r.ack.map BitVec.toNat)).acceptFlit r.port.val 2
    let x : Fin 4 := Fin.ofNat 4 (cid.toNat / 1024)
    let lost : Host.Outcome State Fault Refusal := .next (z.bumpPort .SL_ROUTE_DROP r.port.val 1)
    let sender (c : Coll) := c.others.find? fun i => nth 0x100 c.desc.nodes i == r.src.toNat
    ((s.coll x cid.toNat = none ∨ ∃ c, s.coll x cid.toNat = some c ∧ sender c = none) →
      exec (.collCount r cid b) s = lost ∧ exec (.collCredit r cid k final) s = lost ∧ exec (.collData r cid k j data) s = lost ∧
      exec (.collEnd r cid k crc n) s = lost ∧ exec (.collResend r cid k) s = lost) ∧
    (∀ (c : Coll) (i : Nat), s.coll x cid.toNat = some c → sender c = some i →
      let agrees := b.inst.toNat = c.inst ∧ b.op.toNat = c.desc.op ∧ b.fmt.toNat = c.desc.fmt ∧ b.ofmt.toNat = c.desc.ofmt ∧
        b.flags.toNat = c.desc.flags ∧ b.p.toNat = c.desc.p ∧ (c.desc.op = 1 → b.n.toNat = c.desc.count)
      let credited := ∃ t ∈ c.tx, t.dst = i ∧ t.chunk = k.toNat
      let e := c.rxOf i k.toNat
      let bs := (List.range 256).flatMap fun j => ((e.flits.find? fun f => f.1 == j).map Prod.snd).getD []
      let good := bs.length = n.toNat ∧ bs.length = chunkLen (c.recvLen i) k.toNat ∧ crc32c bs = crc.toNat
      (agrees → exec (.collCount r cid b) s = .next ((z.setColl x { c with
        counts := (c.counts.filter fun e => e.1 != i) ++ [(i, b.count.toNat)] }).openColl x c.desc.cid)) ∧
      (¬ agrees → exec (.collCount r cid b) s = .next (z.vatFault x 0x04 c.desc.cid 0)) ∧
      (credited ∨ chunkCount (c.sendLen i) ≤ k.toNat → exec (.collCredit r cid k false) s = .next z) ∧
      (¬ credited → k.toNat < chunkCount (c.sendLen i) →
        let t := z.setColl x { c with tx := c.tx ++ [⟨i, k.toNat, false, false⟩] }
        exec (.collCredit r cid k false) s = .next (if c.opened then t.sendChunk x c.desc.cid i k.toNat else t)) ∧
      exec (.collCredit r cid k true) s = .next (z.setColl x { c with
        progLt := 0
        tx := c.tx.map fun t => if t.dst = i ∧ t.chunk = k.toNat then { t with confirmed := true } else t }) ∧
      (e.ok = true → exec (.collData r cid k j data) s = .next z ∧ exec (.collEnd r cid k crc n) s = .next z) ∧
      (e.ok = false →
        exec (.collData r cid k j data) s = .next (z.setColl x (c.setRx
          { e with flits := (e.flits.filter fun f => f.1 != j.toNat) ++ [(j.toNat, data.map BitVec.toNat)] })) ∧
        (good → exec (.collEnd r cid k crc n) s = .next (if c.desc.op = 1 then z.keepPart x c i k.toNat bs
          else (z.setColl x (c.setRx { e with ok := true, bytes := bs, flits := [] })).deliverChunk x c.desc.cid i k.toNat)) ∧
        (¬ good → e.tries = 3 → exec (.collEnd r cid k crc n) s = .next (z.vatFault x 0x05 c.desc.cid k.toNat)) ∧
        (¬ good → e.tries ≠ 3 →
          let c1 := c.setRx { e with tries := e.tries + 1, flits := [] }
          exec (.collEnd r cid k crc n) s = .next ((z.setColl x c1).sendColl c1 0x14 i k.toNat 0 []))) ∧
      (let owed := ∃ t ∈ c.tx, t.dst = i ∧ t.chunk = k.toNat ∧ t.sent = true ∧ t.confirmed = false
      (owed → exec (.collResend r cid k) s = .next
        ((z.sendChunk x c.desc.cid i k.toNat).bump .VAT_RESENDS (0x50 + x.val) 0 0 1)) ∧
      (¬ owed → exec (.collResend r cid k) s = .next z)))

/-- A write of DIE_LEASE that reaches its rules stores the larger of the value and what stood there and, from the holder
after a change, marks the die written. A renewal of the half lease by its holder that is not older than the watcher's epoch
resets the watcher's count; from the other half one with a higher epoch takes the lease, one with the same epoch fences the
east half, whichever holds, and raises the LEASE alert. LEASE_RENEW after 1,000 lt sends a renewal and renews the board lease
where this module holds it. LEASE_TAKEOVER after 3,000 lt: the watcher takes the half lease under the next epoch and the
job's fault 0xFD is queued; the watcher takes the board lease under the next epoch, fences the twin and renews at once.
TWIN_FENCE is written by the board-lease holder only and cleared only while no job uses the twin. YIELD leaves the handover
pending. RELOAD_WATCHER of a newest committed slot that passes verification gives the watching half its SVN and flag and
measures it. (R387, R388, R389, R390, R391, R412, R432, R456, R482) -/
def Obligations.LeaseRows : Prop :=
  ∀ (s : State), let ls := s.leases
    let st := s.g .LEASE_STATUS
    (∀ (w : Writer) (d : Die) (v : BitVec 64), s.reaches w .DIE_LEASE d.code 0 0 v.toNat = true →
      let x := s.setRg .DIE_LEASE d.code 0 0 (Nat.max v.toNat (s.rg .DIE_LEASE d.code 0 0))
      (s.holds w && ls.changing) = false → exec (.dieLeaseWrite w d v) s = .next (x.answer .ok)) ∧
    (∀ (w : Writer) (d : Die) (v : BitVec 64), s.reaches w .DIE_LEASE d.code 0 0 v.toNat = true →
      let x := s.setRg .DIE_LEASE d.code 0 0 (Nat.max v.toNat (s.rg .DIE_LEASE d.code 0 0))
      let left := ls.unwritten.filter (· != d.code)
      let y : State := { x with leases := { ls with unwritten := left, changing := !left.isEmpty } }
      (s.holds w && ls.changing) = true → exec (.dieLeaseWrite w d v) s = .next (y.answer .ok)) ∧
    (∀ (e : BitVec 64), let y : State := { s with leases := { ls with watcherEpoch := e.toNat, halfLt := 0 } }
      (ls.watcherEpoch ≤ e.toNat → exec (.halfLeaseRenewal (bit st 0) e) s = .next y) ∧
      (e.toNat < ls.watcherEpoch → exec (.halfLeaseRenewal (bit st 0) e) s = .next s)) ∧
    (∀ (e : BitVec 64), let z := s.loseGlobals.halfChange (!bit st 0) e.toNat 0x05 false
      let y : State := { z with faultQ := z.faultQ ++ [⟨z.headDie, 0xFD, 0, 5⟩] }
      s.g .HALF_LEASE < e.toNat → exec (.halfLeaseRenewal (!bit st 0) e) s = .next y) ∧
    (∀ (e : BitVec 64), let x := s.setG .LEASE_STATUS (setBits st 4 1 1)
      let y : State := { x with leases := { x.leases with fencedEast := some true } }
      s.g .HALF_LEASE = e.toNat → (bit st 0 = false → exec (.halfLeaseRenewal true e) s = .next (y.alert 3)) ∧
        (bit st 0 = true → let u := y.loseGlobals.halfChange false e.toNat 0x05 false
          exec (.halfLeaseRenewal false e) s = .next { u with faultQ := u.faultQ ++ [⟨u.headDie, 0xFD, 0, 5⟩] })) ∧
    (1000 ≤ ls.renewLt →
      let y : State := { s with leases := { ls with renewLt := 0 }, outbox := s.outbox ++ [.lease (s.g .HALF_LEASE)] }
      (s.boardHolder = false → exec .leaseRenew s = .next y) ∧ (s.boardHolder = true → exec .leaseRenew s = .next y.boardRenew)) ∧
    (3000 ≤ ls.halfLt → ls.fencedEast ≠ some (!bit st 0) →
      let z := s.loseGlobals.halfChange (!bit st 0) ((ls.watcherEpoch + 1) % 2 ^ 64) 0x05 true
      let y : State := { z with faultQ := z.faultQ ++ [⟨z.headDie, 0xFD, 0, 5⟩] }
      exec (.leaseTakeover false) s = .next y) ∧
    (3000 ≤ ls.boardLt → s.boardHolder = false → bit st 5 = false →
      let x := (s.setG .BOARD_LEASE ((s.g .BOARD_LEASE + 1) % 2 ^ 64)).setG .LEASE_STATUS (setBits st 3 1 1)
      let y := ((x.setFence true).alert 3).boardRenew
      y.usesTwin = false → exec (.leaseTakeover true) s = .next y) ∧
    (∀ (w : Writer) (v : BitVec 32), s.reaches w .TWIN_FENCE 0x60 0 0 v.toNat = true →
      (s.boardHolder = true → (bit v.toNat 0 = true ∨ s.usesTwin = false) →
        exec (.twinFence w v) s = .next ((s.setFence (bit v.toNat 0)).answer .ok)) ∧
      (s.boardHolder = false ∨ (bit v.toNat 0 = false ∧ s.usesTwin = true) →
        exec (.twinFence w v) s = .next (s.answer .accessError))) ∧
    (∀ (w : Writer), s.reaches w .LEASE_CTRL 0x60 0 0 1 = true →
      let y : State := { s.setG .LEASE_STATUS (setBits st 2 1 1) with yieldPending := true }
      exec (.yield w) s = .next (y.answer .ok)) ∧
    (∀ (w : Writer) (slot : Nat) (rest : List Nat), s.reaches w .LEASE_CTRL 0x60 0 0 2 = true → s.slotOrder = slot :: rest →
      let m := s.slotSection slot 1
      let d := s.watchDie
      let flag := bit (nth 0 m 33) 0
      let x := s.setRg .BOOT_SLOT d 0 0 (setBits (s.rg .BOOT_SLOT d 0 0) 8 8 (nth 0 m 32))
      let y : State := { x with floorFlags := if d = 0x52 then (s.floorFlags.1, flag) else (flag, s.floorFlags.2) }
      exec (.reloadWatcher w) s = .next ((if s.verifySlot slot s.floor = 0 then y.mrEvent 0x03 ((shakeBytes m).take 32)
        else s).answer .ok))

/-- A handshake watchdog of a channel that is at work and has waited at least one tick and DIE_HS_WD.LT of its die records
its unit's fault and forgets the wait, for every channel; any other changes nothing. The unit's fault is that of its own
table: a DMA channel 0x13, a sequencer 0x0C, an array 0x04 to 0x06, a vector engine 0x04 or 0x05, Teasel 0x05, Rennet 0x04,
Press 0x03, Vat 0x0B. MODULE_STOP takes the first fault passed to the half in charge; where a job is loaded and not stopped
it is recorded in MOD_FAULT and the job is stopped. A stop of a job in normal mode puts the module in recovery mode, in any
other mode keeps the mode, and leaves every DMA channel that has not faulted STOPPED with nothing held, or with the one
descriptor whose burst it finishes first. SEQ_STOPPED of a sequencer in STOPPING whose units are idle halts it with bit 10
set. STOP_TIMEOUT after its limit resets the units still busy, sets MOD_FAULT bit 62 and ends the stop. JOB_WATCHDOG_EXPIRY
stops a job that runs with cause 4. SEQ_CTRL.GO that reaches its rules starts a sequencer IDLE or HALTED, of a loaded job in
normal service only. (R99, R137, R157, R160, R190, R249, R392, R393, R394, R395, R431) -/
def Obligations.StopRows : Prop :=
  ∀ (s : State),
    (∀ ch : Chan, exec (.handshakeWatchdogExpiry ch) s = .next
      (if s.chanAtWork ch = true ∧ 1 ≤ s.waited ch ∧ s.rg .DIE_HS_WD ch.die.code 0 0 ≤ s.waited ch then
        { s.hsFault ch with hsWait := s.hsWait.filter fun e => e.1 != ch } else s)) ∧
    (∀ (d : Die) (ch : Fin 32), s.hsFault (.dma d ch) = s.dmaFault d.code ch.val 0x13) ∧
    (∀ (c : CoreId), s.hsFault (.seqFetch c) = s.seqFault c.ix 0x0C 7 ∧
      (∀ a row p, (s.arr c.ix a.val).busyPart = some p →
        s.hsFault (.arrFeed c a row) = s.arrFault c.ix a.val p 0x04 row.val row.val) ∧
      (∀ a row p, (s.arr c.ix a.val).loadPart = some p → s.hsFault (.arrLoad c a row) = s.arrFault c.ix a.val p 0x05 row.val 0) ∧
      (∀ a row p, (s.arr c.ix a.val).drainPart = some p →
        s.hsFault (.arrDrain c a row) = s.arrFault c.ix a.val p 0x06 row.val (row.val + 1)) ∧
      (∀ row op, s.hsFault (.vecRead c row op) = s.vecFault c.ix 0x04 row.val op.val ∧
        s.hsFault (.vecWrite c row op) = s.vecFault c.ix 0x05 row.val op.val) ∧
      s.hsFault (.teasel c) = s.teaFault c.ix 0x05 (s.teaSlot c.ix) ∧
      (s.seqState c.ix = 3 → s.unitsIdle c.ix = true → (s.tea c.ix).idle = true →
        let v := s.rg .SEQ_STATUS c.die.val c.core.val 0
        exec (.seqStopped c) s = .next (s.setRg .SEQ_STATUS c.die.val c.core.val 0
          (setBits (setBits (setBits v 0 3 5) 12 4 0) 10 1 1)).stopCheck) ∧
      (∀ w, s.reaches w .SEQ_CTRL c.die.val c.core.val 0 1 = true → s.seqAtRest c.ix = true →
        (s.loaded = true → s.svc = .normal) → s.rg .SEQ_START c.die.val c.core.val 0 ≤ 16383 →
        ∃ t : State, exec (.seqCtrlGo w c) s = .next (t.answer .ok) ∧ t.seqState c.ix = 1 ∧
          t.rg .SEQ_PC c.die.val c.core.val 0 = s.rg .SEQ_START c.die.val c.core.val 0 ∧ t.mem = s.mem ∧ t.svc = s.svc ∧
          (t.seq c.ix).hoopUse = (s.seq c.ix).hoopUse) ∧
      (∀ w, s.reaches w .SEQ_CTRL c.die.val c.core.val 0 1 = true → s.loaded = true → s.svc ≠ .normal →
        exec (.seqCtrlGo w c) s = .next (s.answer .accessError))) ∧
    (∀ (m : Fin 12) (e : Fin 4), s.hsFault (.rennet m e) = s.rennetFault m.val e.val 0x04 (s.ren m.val e.val).next) ∧
    (∀ (m : Fin 12) (e : Fin 8), s.hsFault (.press m e) = s.pressFault m.val e.val 0x03 (s.press m.val e.val).entry) ∧
    (∀ (x : Fin 4) c cs, (s.vat x.val).active = c :: cs → s.hsFault (.vat x) = s.vatFault x.val 0x0B c.desc.cid 0) ∧
    (∀ f rest, s.faultQ = f :: rest → let z : State := { s with faultQ := rest }
      (s.canStop = false → exec .moduleStop s = .next z) ∧
      (s.canStop = true → exec .moduleStop s = .next (((z.faultClass f).1.modFault f.die (z.faultClass f).2).stopJob))) ∧
    (s.stopReply = [] → let t := s.stopJob
      t.svc = (if s.svc = .normal then .recovery else s.svc) ∧
      (∀ e ∈ t.dmas, e.2.mode = 2 ∨ (e.2.mode = 3 ∧ e.2.queue = []) ∨
        (e.2.mode = 4 ∧ ∃ q, e.2.queue = [q] ∧ q.done < (dmaFields q.word).total))) ∧
    (s.stopping = true → bits (s.g .JOB_CTRL) 12 17 ≤ s.stopLt →
      let x := s.resetUnits
      let y := x.modFault x.headDie 0x07
      exec .stopTimeout s = .next (y.setG .MOD_FAULT (setBits (y.g .MOD_FAULT) 62 1 1)).stopDone) ∧
    (s.jobRuns = true → s.g .JOB_WD ≤ s.jobWdLt → exec .jobWatchdogExpiry s = .next ((s.modFault s.headDie 0x04).stopJob))

/-- CAVE_CHUNK of an M-die with a range left takes a CAVE ticket of its X-die, without one it waits, and copies at most
65,536 bytes of it into the slot in the twin, writes COMMIT = 0 first where nothing was copied before, advances the range's
pointer, folds the bytes into its digest, moves the guards past them and gives the ticket back; a failed read, or a chunk
whose write the twin refused, abandons the capture. CAVE_COMMIT with every range copied writes digests, header, the map and
then COMMIT = k, shows the step in CAVE_LAST and ends the capture; a refused write abandons it, before COMMIT or at it, open
which. CAVE_AGREED writes AGREED once the step is agreed, at once for a single member. CAVE_PROGRESS_TIMEOUT after its limit
abandons the capture. SORREL_MODULE_DIGEST of a ready step shows the digest and the step, and with one member the step is
agreed at once. SORREL_TIMEOUT after its limit is Sorrel fault 2. RESTART_REDERIVE marks the engine done, and REDERIVE clears
with the last one. (R313, R314, R400, R401, R402, R404, R406, R408) -/
def Obligations.CaptureAndReplicaRows : Prop :=
  ∀ (s : State),
    (∀ (m : Fin 12), let s0 := s.caveTake m.val
      (s0.capture = none → exec (.caveChunk m true) s = .next s0) ∧
      (∀ (c : Capture) (i nxt : Nat), s0.capture = some c → s0.caveNext c m.val = some (i, nxt) →
        let r := nth (0, 0) c.ranges i
        let k := nth 0 c.done i
        let n := Nat.min caveChunkBytes (r.2 - k)
        (c.held.contains m.val = false → exec (.caveChunk m true) s = .next s0) ∧
        (c.held.contains m.val = true →
          (∀ s1, s0.caveRead m.val (r.1 + k) n = (s1, none) → exec (.caveChunk m true) s = .next s1.caveAbandon) ∧
          (∀ s1 bs, s0.caveRead m.val (r.1 + k) n = (s1, some bs) →
            let p0 := if c.done.all (· == 0) then s1.slotWrite c.slot 48 (leBytes 8 0) else (s1, true)
            let p1 := p0.1.slotWrite c.slot (c.place i + k) bs
            let f := c.fold i k bs
            let c2 : Capture := { f with done := setAt f.done i (k + n), next := setAt f.next m.val nxt, progLt := 0 }
            let u : State := { p1.1 with capture := some c2, guards := c2.guards }
            p0.2 = true → p1.2 = true → bit (p1.1.g .TWIN_FENCE) 0 = false →
            exec (.caveChunk m true) s = .next ((u.caveGive m.val).caveTakeFrom (m.val + 1)).serveHeld ∧
            exec (.caveChunk m false) s = .next p1.1.caveAbandon)))) ∧
    (∀ (c : Capture), s.capture = some c → ((c.ranges.zip c.done).all fun e => e.2 == e.1.2) = true →
      let h := s.caveHeader c
      let p1 := s.slotWrite c.slot (c.place c.ranges.length) (c.digestList.flatMap (leBytes 8))
      let p2 := p1.1.slotWrite c.slot 0 h.1
      let p3 := p2.1.slotWrite c.slot 56 h.2
      let p4 := p3.1.slotWrite c.slot 48 (leBytes 8 c.step)
      let q := ({ p3.1 with freshCtr := p3.1.freshCtr + 1 } : State)
      let z := (p4.1.setG .CAVE_LAST c.step).setG .CAVE_STATUS (setBits (p4.1.g .CAVE_STATUS) 0 2 0)
      let i : SlotInfo := ⟨c.step, 0⟩
      let sl := if c.slot = 0 then (i, z.slots.2) else (z.slots.1, i)
      let u : State := { z with slots := sl, agree := some (c.step, c.slot) }
      p1.2 = true → p2.2 = true → p3.2 = true → p4.2 = true → bit (p4.1.g .TWIN_FENCE) 0 = false →
      exec (.caveCommit true) s = .next u.caveEnd ∧ exec (.caveCommit false) s = .next (if bit (Config.fresh p3.1.freshCtr).toNat 0
        then q.caveAbandon else (q.slotWrite c.slot 48 (leBytes 8 c.step)).1.caveAbandon)) ∧
    (∀ (k slot : Nat), s.agree = some (k, slot) → (bits (s.g .SORREL_CFG) 16 6 ≤ 1 ∨ k ≤ s.g .SORREL_AGREED) →
      let p := s.slotWrite slot 56 (leBytes 8 k)
      let a : SlotInfo := ⟨p.1.slots.1.commit, k⟩
      let b : SlotInfo := ⟨p.1.slots.2.commit, k⟩
      let sl := if slot = 0 then (a, p.1.slots.2) else (p.1.slots.1, b)
      let u : State := { p.1 with agree := none, slots := sl }
      let n : State := { p.1 with agree := none }
      p.2 = true → bit (p.1.g .TWIN_FENCE) 0 = false →
      exec (.caveAgreed true) s = .next u ∧ exec (.caveAgreed false) s = .next n) ∧
    (∀ (c : Capture), s.capture = some c → s.g .CAVE_PROG_TO ≤ c.progLt → exec .caveProgressTimeout s = .next s.caveAbandon) ∧
    (∀ k, s.digestReady = some k →
      let ds := (enginePairs 8).map fun q => if s.prActive q.1 q.2 then ((s.press q.1 q.2).digest.map Prod.snd).getD 0 else 0
      let u := (s.clearDigests.setG .SORREL_MOD (crc64Of ds)).setG .SORREL_STEP k
      (bits (u.g .SORREL_CFG) 16 6 ≤ 1 → exec .sorrelModuleDigest s = .next (u.setG .SORREL_AGREED k)) ∧
      let self := bits (u.g .SORREL_CFG) 24 5
      let send (z : State) (i : Nat) : State := (z.sendReg (u.sorrelNode i) (loc .SORREL_RX 0x60 0 self) true (crc64Of ds)).sendReg
        (u.sorrelNode i) (loc .SORREL_RX_TAG 0x60 0 self) true k
      let x := u.sorrelOthers.foldl send u
      let v : State := { x with sorrelLt := 0 }
      (1 < bits (u.g .SORREL_CFG) 16 6 →
        exec .sorrelModuleDigest s = .next ((v.setG .SORREL_STATUS (setBits (v.g .SORREL_STATUS) 2 1 1)).sorrelCompare))) ∧
    (bit (s.g .SORREL_STATUS) 2 = true → s.g .SORREL_TO ≤ s.sorrelLt → exec .sorrelTimeout s = .next (s.sorrelFault 2)) ∧
    (∀ (m : Fin 12) (e : Fin 8) (s1 : State), let map := s.g .SHARD_SEL % 2
      let x := s.press m.val e.val
      bit (s.g .RESTART_CTRL) 0 = true → s.loaded = true → x.rederived = false → s.prState m.val e.val < 5 →
      s.prCount m.val e.val map ≠ 0 → s.rederiveRun m e map (s.prCount m.val e.val map) = (s1, none) →
      let x1 := s1.press m.val e.val
      let y : PressS := { x1 with rederived := true }
      let u := s1.setPress m.val e.val y
      let all := (enginePairs 8).all fun q => u.prCount q.1 q.2 map == 0 || (u.press q.1 q.2).rederived
      exec (.restartRederive m e) s =
        .next (if all then u.setG .RESTART_CTRL (setBits (u.g .RESTART_CTRL) 0 1 0) else u))

/-- RAISE_FLOOR of the half in charge, in normal mode with the running manifest's FLOOR flag and an SVN above the floor,
fuses that SVN and changes nothing else but the answer; else it is an access error. ATT_GO while no report is in progress and
reports are given latches a report of the nonce, destination and semaphore and sets BUSY; while one is in progress it is an
access error. ATTEST_REPORT_DONE writes the report to this module's memory or the twin's, clears BUSY and adds 1 to the
semaphore it names in that module; a refused write sets ERR. A scan instruction other than BYPASS, IDCODE and SAMPLE enters
test mode, extends MR7, and stops a loaded job by a fault of the security block, in test mode it changes nothing. BYPASS and
SAMPLE change nothing, IDCODE shifts out the identity of each X-die. (R423, R428, R429, R430, R432, R434, R464) -/
def Obligations.SecurityRows : Prop :=
  ∀ (s : State), let d := s.headDie
    (∀ (w : Writer), s.reaches w .SEC_CTRL d 0 0 1 = true → let svn := bits (s.rg .BOOT_SLOT d 0 0) 8 8
      let u : State := { s with floorFused := svn }
      (s.svc = .normal → s.floorFlag = true → Nat.max s.floor s.floorFused < svn →
        exec (.raiseFloor w) s = .next (u.answer .ok)) ∧
      (s.svc ≠ .normal ∨ s.floorFlag = false ∨ svn ≤ Nat.max s.floor s.floorFused →
        exec (.raiseFloor w) s = .next (s.answer .accessError))) ∧
    (∀ (w : Writer) (v : BitVec 32), let x := setBits v.toNat 31 1 1
      s.reaches w .ATT_CTRL d 0 0 x = true →
      (s.attBusy d = true → exec (.attGo w v) s = .next (s.answer .accessError)) ∧
      (s.attBusy d = false → s.reportsGiven = true →
        let n := (List.range 4).flatMap fun i => leBytes 8 (s.rg .ATT_NONCE d 0 i)
        let p := s.report n
        let y := p.1.setFld .ATT_STATUS d 0 0 0 1 1
        let u : State := { y with att := some (takePad 0 4096 p.2, bits (s.rg .ATT_DST d 0 0) 0 44, bits x 12 8, bits x 0 12) }
        exec (.attGo w v) s = .next (u.answer .ok))) ∧
    (∀ (bs : List Nat) (dst die sem : Nat) (t : State), s.att = some (bs, dst, die, sem) → s.isOwn dst = true →
      (s.memWrite .mgmt dst bs = (t, none) →
        exec (.attestReportDone true) s = .next ((t.attEnd false).signal d false die sem 1)) ∧
      (∀ e, s.memWrite .mgmt dst bs = (t, some e) → exec (.attestReportDone true) s = .next (t.attEnd true))) ∧
    (∀ (bs : List Nat) (dst die sem : Nat) (t : State), s.att = some (bs, dst, die, sem) → s.isOwn dst = false →
      s.sendWrites .unit (blockPieces 4096 dst bs) = (t, true) → let u : State := { t with asked := s.asked }
      exec (.attestReportDone true) s = .next ((u.attEnd false).signal d true die sem 1) ∧
      exec (.attestReportDone false) s = .next (u.attEnd true)) ∧
    (∀ ir, (ir = .extest ∨ ir = .other) → s.svc ≠ .test →
      let x : State := { s with svc := .test, testEntered := true }
      let y := x.mrEvent 0x01 []
      (s.loaded = false → exec (.scanTestEntry ir) s = .next y) ∧
      (s.loaded = true → exec (.scanTestEntry ir) s = .next (y.dieFault y.headDie 0x50 0 0x01))) ∧
    exec (.scanTestEntry .bypass) s = .next s ∧ exec (.scanTestEntry .sample) s = .next s ∧
    (∀ ir, (ir = .extest ∨ ir = .other) → s.svc = .test → exec (.scanTestEntry ir) s = .next s) ∧
    exec (.scanTestEntry .idcode) s = .next { s with outbox := s.outbox ++ [.scan (List.replicate 4 idcode)] }

/-- For a request of an open session: FW_BEGIN of the slot that is not running, with no staging in progress and a length that
fits, erases the slot and begins staging; FW_DATA at ascending offsets inside the length writes its bytes as given and moves
the offset; FW_COMMIT writes the digest, verifies the slot against the staging floor, and then writes COMMIT and answers OK,
or answers VERIFY with the code and leaves the slot uncommitted; either ends staging. ATTEST answers a report for its nonce
in every service mode. TEST_NONCE gives the session a fresh nonce of 4 open values and answers it. TEST_ENTER with a valid
nonce and a signature that verifies under the test key enters test mode and answers OK; with one that does not verify it
answers AUTH and the nonce is used up. (R417, R418, R419, R422, R423, R428, R429, R434, R446) -/
def Obligations.FirmwareAndAttestationMessages : Prop :=
  ∀ (s : State) (q : Req), s.sessionOpen q.session.val = true →
    (∀ (slot : BitVec 8) (len : BitVec 32), slot.toNat ≤ 1 → s.staging = none →
      bits (s.rg .BOOT_SLOT s.headDie 0 0) 0 1 ≠ slot.toNat → len.toNat ≤ commitSector →
      let x := s.flashErase slot.toNat
      let u : State := { x with staging := some ⟨slot.toNat, len.toNat, 0⟩ }
      exec (.fwBegin q slot len) s = .next (u.reply q 0x40 0 [])) ∧
    (∀ (off : BitVec 32) (data : List (BitVec 8)) (g : Staging), s.staging = some g → g.off ≤ off.toNat →
      off.toNat + data.length ≤ g.len →
      let x := s.flashPut g.slot off.toNat (data.map BitVec.toNat)
      let h : Staging := { g with off := off.toNat + data.length }
      let u : State := { x with staging := some h }
      exec (.fwData q off data) s = .next (u.reply q 0x41 0 [])) ∧
    (∀ g, s.staging = some g →
      let dg := shakeBytes (s.flashBytes g.slot 0 (Nat.min (s.slotBody g.slot) commitSector))
      let x := s.flashPut g.slot commitSector dg
      let u : State := { x with staging := none }
      let c := u.verifySlot g.slot u.stagingFloor
      exec (.fwCommit q) s = .next (if c = 0 then
        (u.flashPut g.slot (commitSector + 2048) (leBytes 8 commitWord)).reply q 0x42 0 [] else u.reply q 0x42 0xA [c])) ∧
    (∀ nonce : BitVec 256, let p := s.report (leBytes 32 nonce.toNat)
      exec (.attest q nonce) s = .next (p.1.reply q 0x50 0 p.2)) ∧
    (s.svc ≠ .startup → s.fallback = false →
      (let n := s.freshCtr
       let v := (List.range 4).foldl (fun z i => z + (Config.fresh (n + i)).toNat * 2 ^ (64 * i)) 0
       let x : State := { s with freshCtr := n + 4 }
       let y := x.onSession q.session.val fun a => { a with nonce := some (BitVec.ofNat 256 v, 0) }
       exec (.testNonce q) s = .next (y.reply q 0x51 0 (leBytes 32 v))) ∧
      (∀ (sig : List (BitVec 8)) (k nonce : BitVec 256), s.svc ≠ .test → s.testKey = some k →
        s.nonceOf q.session.val = some nonce →
        let msg := leBytes 8 (s.rg .SEC_SERIAL s.headDie 0 0) ++ leBytes 32 nonce.toNat
        let bv (l : List Nat) : List (BitVec 8) := l.map (BitVec.ofNat 8)
        let y := s.onSession q.session.val fun a => { a with nonce := none }
        exec (.testEnter q sig) s = .next (if Config.verify (Config.keyOf k) (bv (ascii "Abrath-TEST")) (bv msg) sig then
          (y.enterTest 0x02 ((shakeBytes msg).take 32)).reply q 0x52 0 [] else y.reply q 0x52 0x2 [])))

/-- With the link up an acceptable handshake under a listed key opens the lowest free session; any other is refused.
MGMT_LINK_UP from start-up step 10 on serves the port. SESSION_CLOSE and MGMT_LINK_DOWN end one session or all, with their
generation requests. For a request of an open session: MALFORMED is answered with status 1 and the reply bit; STATUS answers
OK and its eight values in order; and in a mode that serves them REG_READ of at most 256 readable registers answers OK with
their values, one with an access error answers ACCESS_ERROR with its index, REG_WRITE answers OK or the index of the first
access error after the writes before it, and TELE_SUB with a period of 1,000 lt to 2^32 - 1 and at most 64 registers replaces
the session's subscription. TELEMETRY at the end of a period sends the X-die in charge, its ticks and the values, and starts
the next period. (R10, R14, R16, R391, R442, R444, R445, R446) -/
def Obligations.ManagementSessions : Prop :=
  ∀ (s : State),
    (s.mgmtUp = true → ∀ (h : Hello),
      let good := h.group && h.mldsa && h.rawKey && h.suite && h.proven && s.keyListed h.key
      let no : State := { s with outbox := s.outbox ++ [.tlsRefused] }
      (∀ n, good = true → s.freeSession = some n →
        exec (.mgmtConnect h) s = .next { s with sessions := s.sessions ++ [⟨n, none, none, 0⟩] }) ∧
      (good = false ∨ s.freeSession = none → exec (.mgmtConnect h) s = .next no)) ∧
    (10 ≤ s.bootStep → exec .mgmtLinkUp s = .next { s with mgmtUp := true }) ∧
    (∃ t, exec .mgmtLinkDown s = .next t ∧ t.sessions = [] ∧ t.mgmtUp = false ∧ (∀ g ∈ t.gen, g.region = none)) ∧
    (∀ n, ∃ t, exec (.sessionClose n) s = .next t ∧ t.sessions = (s.sessions.filter fun x => x.id != n.val) ∧
      t.sessionOpen n.val = false ∧ t.regs = s.regs ∧ t.mem = s.mem ∧ t.job = s.job) ∧
    (∀ (n : Fin 8) x period offs, (s.sessions.find? fun x => x.id == n.val) = some x → x.tele = some (period, offs) →
      period ≤ x.teleLt → let p := s.teleValues offs
      let body := [s.headDie] ++ leBytes 8 (nth 0 p.1.xTicks (s.headDie - 0x50)) ++ p.2.flatMap (leBytes 8)
      exec (.telemetry n) s = .next ((p.1.onSession n.val fun y => { y with teleLt := 0 }).mgmtOut n.val 0x31 0 0 body)) ∧
    (∀ (q : Req), s.sessionOpen q.session.val = true →
      (∀ typ, exec (.malformed q typ) s = .next (s.mgmtOut q.session.val (typ.toNat ||| 0x8000) 0x1 q.id.toNat [])) ∧
      (let vs := [s.svc.code, s.boot, s.g .MOD_FAULT, s.jobWord, s.g .CAVE_LAST, s.g .SORREL_AGREED, s.g .ROOT_MISSED,
         s.g .ROOT_PUBLISHED]
       exec (.status q) s = .next (s.reply q 0x01 0 (vs.flatMap (leBytes 8)))) ∧
      (s.svc ≠ .startup → s.fallback = false →
        (∀ (offs : List (BitVec 64)), offs.length ≤ 256 →
          (∀ vs, s.readRegs 0 (offs.map BitVec.toNat) = .ok vs →
            exec (.regRead q offs) s = .next (s.reply q 0x02 0 (vs.flatMap (leBytes 8)))) ∧
          (∀ i, s.readRegs 0 (offs.map BitVec.toNat) = .error i →
            exec (.regRead q offs) s = .next (s.reply q 0x02 0xB (leBytes 4 i)))) ∧
        (∀ (ws : List (BitVec 64 × BitVec 64)) (t : State), ws.length ≤ 256 →
          let p := s.writeRegs 0 (ws.map fun w => (w.1.toNat, w.2.toNat))
          (p = (t, none) → exec (.regWrite q ws) s = .next (t.reply q 0x03 0 [])) ∧
          (∀ i, p = (t, some i) → exec (.regWrite q ws) s = .next (t.reply q 0x03 0xB (leBytes 4 i)))) ∧
        (∀ (period : BitVec 64) (offs : List (BitVec 64)), 1000 ≤ period.toNat → period.toNat < 2 ^ 32 → offs.length ≤ 64 →
          let sub := some (period.toNat, offs.map BitVec.toNat)
          exec (.teleSub q period offs) s = .next
            ((s.onSession q.session.val fun x => { x with tele := sub, teleLt := 0 }).reply q 0x30 0 []))))

/-- For a request of an open session: JOB_LOAD in normal or recovery mode with no job loaded and an image that breaks no rule
loads it and answers OK; one that breaks a rule changes nothing and answers REFUSED_IMAGE with record index and reason.
JOB_START of a job whose sequencers are at rest sends GO to each and answers OK. JOB_STOP of a running job stops it, to be
answered when the stop is complete; of one already stopped it is answered at once. JOB_UNLOAD with every unit at rest unloads
the job and answers OK. TOKENS of a step that has not begun, within the buffer, are kept for it. In recovery mode MEM_READ
and MEM_WRITE reach the module's own tiers. RESET with no job loaded replies and resets the module; with FORCE a loaded job
is stopped first; otherwise it answers BUSY. (R24, R393, R395, R425, R431, R447, R449, R450) -/
def Obligations.ManagementJobs : Prop :=
  ∀ (s : State) (q : Req), s.sessionOpen q.session.val = true →
    (s.fallback = false →
      (∀ (image : List (BitVec 8)) (x : JobExtra), (s.svc = .normal ∨ s.svc = .recovery) → s.loaded = false →
        let bs := image.map BitVec.toNat
        (s.jobRefusal bs x = none → exec (.jobLoad q image x) s = .next ((s.jobAccept bs x).reply q 0x10 0 [])) ∧
        (∀ i why, s.jobRefusal bs x = some (i, why) →
          exec (.jobLoad q image x) s = .next (s.reply q 0x10 0x6 (leBytes 4 i ++ [why])))) ∧
      (s.loaded = true → s.svc = .normal → s.jobCores.all s.seqAtRest = true →
        exec (.jobStart q) s = .next ((s.jobCores.foldl (fun z c => (z.seqGo c).1) s).reply q 0x11 0 [])) ∧
      (s.svc ≠ .startup → s.loaded = true → s.stopping = false →
        let z : State := { s with stopReply := s.stopReply ++ [(q.session.val, q.id.toNat, false)] }
        (s.canStop = true → exec (.jobStop q) s = .next z.stopJob) ∧
        (s.canStop = false → exec (.jobStop q) s = .next z.stopDone)) ∧
      (s.svc ≠ .startup → s.loaded = true → s.stopping = false →
        (s.unitsAtRest = true → exec (.jobUnload q) s = .next (s.unload.reply q 0x13 0 []) ∧ s.unload.job = none) ∧
        (s.unitsAtRest = false → exec (.jobUnload q) s = .next (s.reply q 0x13 0x4 []))) ∧
      (∀ (step off : BitVec 64) (toks : List (BitVec 32)) j, s.svc ≠ .startup → s.job = some j → j.generation = false →
        s.stepBegun j step.toNat = false → 4 * (off.toNat + toks.length) ≤ j.tokenLen →
        let u : State := { s with tokens := s.tokens ++ [⟨step.toNat, off.toNat, toks.map BitVec.toNat⟩] }
        exec (.tokens q step off toks) s = .next (u.reply q 0x20 0 [])) ∧
      (s.svc = .recovery → ∀ (a : BitVec 64), s.isOwn a.toNat = true →
        (∀ (n : BitVec 32) (r : Remote) (t : State) bs, 0 < n.toNat → n.toNat ≤ memLimit → inTier a.toNat n.toNat = true →
          s.memRead .mgmt a.toNat n.toNat = (t, .ok bs) →
          exec (.memRead q a n r) s = .next (t.reply q 0x60 0 bs)) ∧
        (∀ (data : List (BitVec 8)) (r : Remote) (t : State), 0 < data.length → data.length ≤ memLimit →
          inTier a.toNat data.length = true → s.memWrite .mgmt a.toNat (data.map BitVec.toNat) = (t, none) →
          exec (.memWrite q a data r) s = .next (t.reply q 0x61 0 [])))) ∧
    (s.loaded = false → ∀ force, exec (.reset q force) s = .next (s.reply q 0x70 0 []).moduleReset) ∧
    (s.loaded = true → exec (.reset q false) s = .next (s.reply q 0x70 0x4 []) ∧
      exec (.reset q true) s = .next (s.stopFor q true))

/-- For a request of an open session while the module is in start-up mode or under fallback settings: REG_READ, REG_WRITE,
JOB_LOAD, JOB_START, JOB_STOP, JOB_UNLOAD, TOKENS, GEN_REQUEST, GEN_CANCEL, TELE_SUB, TEST_NONCE, TEST_ENTER, MEM_READ and
MEM_WRITE are each answered with their TYPE, the reply bit and status 3 and have no other effect. STATUS and ATTEST are
answered OK, FW_BEGIN, FW_DATA and FW_COMMIT with another status than BAD_MODE, and RESET is served: OK and a module reset
with no job loaded, BUSY with one unless FORCE is set, and with it the stop. (R448) -/
def Obligations.RequestsThatTheModeDoesNotServe : Prop :=
  ∀ (s : State) (q : Req), s.sessionOpen q.session.val = true → (s.svc = .startup ∨ s.fallback = true) →
    let bad (typ : Nat) : Host.Outcome State Fault Refusal := .next (s.mgmtOut q.session.val (0x8000 + typ) 0x3 q.id.toNat [])
    (∀ l, exec (.regRead q l) s = bad 0x02) ∧ (∀ l, exec (.regWrite q l) s = bad 0x03) ∧
    (∀ l x, exec (.jobLoad q l x) s = bad 0x10) ∧ exec (.jobStart q) s = bad 0x11 ∧ exec (.jobStop q) s = bad 0x12 ∧
    exec (.jobUnload q) s = bad 0x13 ∧ (∀ a b l, exec (.tokens q a b l) s = bad 0x20) ∧
    (∀ a b l, exec (.genRequest q a b l) s = bad 0x21) ∧ (∀ a, exec (.genCancel q a) s = bad 0x23) ∧
    (∀ a l, exec (.teleSub q a l) s = bad 0x30) ∧ exec (.testNonce q) s = bad 0x51 ∧
    (∀ l, exec (.testEnter q l) s = bad 0x52) ∧ (∀ a n r, exec (.memRead q a n r) s = bad 0x60) ∧
    (∀ a l r, exec (.memWrite q a l r) s = bad 0x61) ∧
    (∃ body, exec (.status q) s = .next (s.reply q 0x01 0 body)) ∧
    (∀ n, ∃ u body, exec (.attest q n) s = .next (State.reply u q 0x50 0 body)) ∧
    (∀ a n, ∃ u st body, st ≠ 0x3 ∧ exec (.fwBegin q a n) s = .next (State.reply u q 0x40 st body)) ∧
    (∀ a l, ∃ u st body, st ≠ 0x3 ∧ exec (.fwData q a l) s = .next (State.reply u q 0x41 st body)) ∧
    (∃ u st body, st ≠ 0x3 ∧ exec (.fwCommit q) s = .next (State.reply u q 0x42 st body)) ∧
    (s.loaded = false → ∀ f, exec (.reset q f) s = .next (s.reply q 0x70 0 []).moduleReset) ∧
    (s.loaded = true → exec (.reset q false) s = .next (s.reply q 0x70 0x4 []) ∧
      exec (.reset q true) s = .next (s.stopFor q true))

/-- For a request of an open session in a mode that serves it: GEN_REQUEST without a generation job is answered NO_JOB; of a
generation job one whose region the whole pool cannot hold is answered CACHE_TOO_LARGE, one that asks for no token is
answered at once, and any other joins the queue, is given a region as soon as one is free, and starts a batch once 32 rows
are held. GEN_CANCEL ends the stream of each request of that session and identity, frees its region at once or, of one in the
batch, drops its token, answers OK, and lets waiting requests in. DECODE_WAIT_EXPIRY with the wait over, rows held and no
batch in progress issues a batch of at most DEC_MAX_ROWS with absent rows up to 32 masked, and ends the wait; otherwise it
changes nothing. DECODE_BATCH_COMPLETE of a batch in progress, with any list of tokens, gives each request of the batch its
token in order with its position; one that is finished or has all its tokens ends, any other goes back to the queue; the
batch is over, and regions and a next batch follow. (R29, R382, R383, R384, R446, R448) -/
def Obligations.GenerationRows : Prop :=
  (∀ (s : State) (q : Req), s.sessionOpen q.session.val = true → s.svc ≠ .startup → s.fallback = false →
    (∀ (seed : BitVec 64) (n : BitVec 32) (prompt : List (BitVec 32)),
      ((∀ j, s.job = some j → j.generation = false) → exec (.genRequest q seed n prompt) s = .next (s.reply q 0x21 0x5 [])) ∧
      (∀ j, s.job = some j → j.generation = true →
        (j.cachePool < regionBytes j prompt.length n.toNat →
          exec (.genRequest q seed n prompt) s = .next (s.reply q 0x21 0x8 [])) ∧
        (regionBytes j prompt.length n.toNat ≤ j.cachePool →
          (n = 0 → exec (.genRequest q seed n prompt) s = .next (s.reply q 0x21 0 [])) ∧
          (n ≠ 0 →
            let g : GenReq := ⟨q.session.val, q.id.toNat, seed.toNat, n.toNat, 0, prompt.map BitVec.toNat, none, false⟩
            let u : State := { s with gen := s.gen ++ [g] }
            exec (.genRequest q seed n prompt) s = .next u.genAdmit.genIssue)))) ∧
    (∀ (target : BitVec 64),
      let hit (g : GenReq) : Bool := g.session == q.session.val && g.id == target.toNat && (g.region.isSome || !g.inBatch)
      let x := (s.gen.filter hit).foldl State.genEnd s
      let left := s.gen.filterMap fun g => if hit g then (if g.inBatch then some { g with region := none } else none) else some g
      let u : State := { x with gen := left }
      exec (.genCancel q target) s = .next (u.reply q 0x23 0 []).genAdmit.genIssue.waitReset)) ∧
  (∀ (s : State) (j : Job), s.job = some j →
    (j.decWait ≤ s.decLt → s.genHeld ≠ 0 → s.batchRuns = false →
      let gs := markBatch j.maxRows s.gen
      let rows := (gs.filter (·.inBatch)).map fun g => some (g.session, g.id, g.pos)
      exec .decodeWaitExpiry s =
        .next { s with gen := gs, batch := rows ++ List.replicate (32 - rows.length) none, decLt := 0 }) ∧
    (s.decLt < j.decWait ∨ s.genHeld = 0 ∨ s.batchRuns = true → exec .decodeWaitExpiry s = .next s)) ∧
  (∀ (s : State), s.job = none → exec .decodeWaitExpiry s = .next s) ∧
  (∀ (s : State) (toks : List (BitVec 32 × Bool)),
    (s.batchRuns = true → let p := s.batchTokens s.gen toks
      let u : State := { p.1 with gen := p.2, batch := [] }
      exec (.decodeBatchComplete toks) s = .next u.genAdmit.genIssue) ∧
    (s.batchRuns = false → exec (.decodeBatchComplete toks) s = .next s)) ∧
  (∀ (s : State) (g : GenReq) (gs : List GenReq) (tok : BitVec 32) (fin : Bool) (toks : List (BitVec 32 × Bool)),
    let x := s.freshVal.2.mgmtOut g.session 0x8021 0 g.id (leBytes 4 g.pos ++ leBytes 4 tok.toNat)
    (g.inBatch = false → s.batchTokens (g :: gs) toks = ((s.batchTokens gs toks).1, g :: (s.batchTokens gs toks).2)) ∧
    (g.inBatch = true → g.region = none → s.batchTokens (g :: gs) ((tok, fin) :: toks) = s.batchTokens gs toks) ∧
    (g.inBatch = true → g.region ≠ none →
      (fin = true ∨ g.maxNew ≤ g.pos + 1 → s.batchTokens (g :: gs) ((tok, fin) :: toks) = (x.genEnd g).batchTokens gs toks) ∧
      (fin = false → g.pos + 1 < g.maxNew → s.batchTokens (g :: gs) ((tok, fin) :: toks) =
        ((x.batchTokens gs toks).1, { g with pos := g.pos + 1, inBatch := false } :: (x.batchTokens gs toks).2))))

/-- Before MAIN_GOOD is released no cycle is served. After it every cycle adds 1 to RIND_CYCLES. A read of word 0x08 answers
the low word of BOARD_LEASE and latches all of it. A write of 0x0F commits the held words and its own as a board-lease
renewal. Writes of 0x0C to 0x0E are held, 0x12 sets the cap, 0x13 clears the alerts written 1, 0x14 sets the mask. A fence
command whose key is not the low 12 bits of BOARD_LEASE has RESULT 2 and no other effect. With the key: FENCE_TWIN and
UNFENCE_TWIN take effect under R388, else RESULT 3; FENCE_FABRIC takes SL0 to SL31 down and holds them, UNFENCE_FABRIC ends
the hold; STOP_JOB stops a running job with cause 8. Each is recorded with its code, result and a count one higher. (R388,
R395, R453, R456, R457, R468) -/
def Obligations.RindRows : Prop :=
  ∀ (s : State), let c := s.bump .RIND_CYCLES s.headDie 0 0 1
    let r := c.rind
    let key := bits (c.g .BOARD_LEASE) 0 12
    (s.mainGood = false → exec .rindLeaseOutLatch s = .next s ∧ (∀ v, exec (.rindLeaseIn v) s = .next s) ∧
      (∀ a v, exec (.rindWrite a v) s = .next s) ∧ (∀ k, exec (.stopJob k) s = .next s)) ∧
    (s.mainGood = true →
      (let o := { r with out := BitVec.ofNat 64 (c.g .BOARD_LEASE) }
       let u : State := { c with rind := o }
       exec .rindLeaseOutLatch s = .next (u.answer (.value (BitVec.ofNat 64 (bits (c.g .BOARD_LEASE) 0 16))))) ∧
      (∀ v, exec (.rindLeaseIn v) s = .next (c.boardRenewal (r.inLow.toNat + v.toNat * 2 ^ 48) false)) ∧
      (∀ v : BitVec 16, exec (.rindWrite 0x0F v) s = exec (.rindLeaseIn v) s) ∧
      (∀ (i : Fin 3) (v : BitVec 16), let h := BitVec.ofNat 48 (setBits r.inLow.toNat (16 * i.val) 16 v.toNat)
        exec (.rindWrite (BitVec.ofNat 6 (0x0C + i.val)) v) s = .next { c with rind := { r with inLow := h } }) ∧
      (∀ v : BitVec 16, exec (.rindWrite 0x12 v) s = .next { c with rind := { r with cap := v.toNat } }) ∧
      (∀ v : BitVec 16, let a := r.alerts ^^^ (r.alerts &&& v.toNat)
        exec (.rindWrite 0x13 v) s = .next { c with rind := { r with alerts := a } }) ∧
      (∀ v : BitVec 16, exec (.rindWrite 0x14 v) s = .next { c with rind := { r with mask := v.toNat % 16 } }) ∧
      (∀ k : BitVec 12, k.toNat ≠ key →
        exec (.fenceTwin k) s = .next (c.fenceResult 1 2) ∧ exec (.unfenceTwin k) s = .next (c.fenceResult 2 2) ∧
        exec (.fenceFabric k) s = .next (c.fenceResult 3 2) ∧ exec (.unfenceFabric k) s = .next (c.fenceResult 4 2) ∧
        exec (.stopJob k) s = .next (c.fenceResult 5 2)) ∧
      (∀ k : BitVec 12, k.toNat = key →
        (c.boardHolder = true → exec (.fenceTwin k) s = .next ((c.setFence true).fenceResult 1 1)) ∧
        (c.boardHolder = false → exec (.fenceTwin k) s = .next (c.fenceResult 1 3)) ∧
        (c.boardHolder = true → c.usesTwin = false → exec (.unfenceTwin k) s = .next ((c.setFence false).fenceResult 2 1)) ∧
        (c.boardHolder = false ∨ c.usesTwin = true → exec (.unfenceTwin k) s = .next (c.fenceResult 2 3)) ∧
        (let z := (List.range 32).foldl (fun (y : State) p => (y.portEnableWrite p 0).1) c
         let u : State := { z with fabricHeld := true }
         exec (.fenceFabric k) s = .next (u.fenceResult 3 1)) ∧
        (let u : State := { c with fabricHeld := false }
         exec (.unfenceFabric k) s = .next (u.fenceResult 4 1)) ∧
        (c.canStop = true → exec (.stopJob k) s = .next ((c.modFault c.headDie 0x08).stopJob.fenceResult 5 1)) ∧
        (c.canStop = false → exec (.stopJob k) s = .next (c.fenceResult 5 1))) ∧
      (∀ code n, let u := c.fenceResult code n
        u.rind.last = code ∧ u.rind.result = n ∧ u.rind.count = (r.count + 1) % 256 ∧ u.mem = s.mem))

/-- RESET_RELEASE with start-up not begun and both supplies in range samples the straps and runs start-up. A failed trim ends
it in step 3 with cause 6, silent dies in step 4 with cause 5, wrong steppings in step 4 with cause 1. With no slot that
passes it ends in step 6 with cause 2. With a selected slot whose image breaks a rule it ends in step 10 with cause 3 and
CFG_REFUSE shows the record and the reason. With an image that applies, zeroing and the self test done, every byte of memory
reads 0, the module is in normal mode and BOOT_STATUS shows DONE, step 13 and cause 0. Every other end is in start-up mode
with the alert BOOT set. Where start-up has begun already, or a supply is out of range, nothing changes. (R174, R415, R416,
R420, R421, R422, R425, R427, R431, R433) -/
def Obligations.StartUpRuns : Prop :=
  ∀ (s : State) (b : Boot),
    ((s.bootIdle = false ∨ s.aux12 = false ∨ s.main54 = false) → exec (.resetRelease b) s = .next s) ∧
    (s.bootIdle = true → s.aux12 = true → s.main54 = true →
      let z := s.zeroSrams.strapped b
      let fuse := leBytes 64 (Config.fuseRecord (BitVec.ofNat 6 z.floor)).toNat
      let y := z.mrExtend 0 (shakeBytes fuse)
      let bad := b.badSlots.map Fin.val
      let early := b.trimOk && b.diesAnswer && b.steppingsOk
      ∃ t, exec (.resetRelease b) s = .next t ∧ (t.svc = .startup ∨ t.svc = .normal) ∧ bit t.rind.alerts 0 = true ∧
        (t.svc = .startup ↔ bit t.boot 63 = false) ∧
        (b.trimOk = false → t.boot = bootWord 0 3 6 0 0) ∧
        (b.trimOk = true → b.diesAnswer = false → t.boot = bootWord 0 4 5 0 0) ∧
        (b.trimOk = true → b.diesAnswer = true → b.steppingsOk = false → t.boot = bootWord 0 4 1 0 0) ∧
        (early = true → b.flashOk = true → match y.trySlots bad y.slotOrder with
          | (none, l) => t.boot = bootWord 0 6 2 (y.slotCode bad l 0) (y.slotCode bad l 1)
          | (some i, l) =>
            let m := y.measureSlot i
            let rs := imageRecs (m.slotSection i 7)
            let x := b.badChannels.foldl (fun (q : State) c => q.markChannel c.1.val c.2.val) m
            let stuck := b.badChannels.any fun c => !(retiredOf rs).contains (c.1.val, c.2.val)
            match x.startRefusal rs with
            | some (ix, why) => t.boot = bootWord 0 10 3 (y.slotCode bad l 0) (y.slotCode bad l 1) ∧
                (ix < 2 ^ 32 → why < 2 ^ 8 → t.rg .CFG_REFUSE 0x50 0 0 = 2 ^ 63 + why * 2 ^ 48 + ix ∧
                  t.rg .CFG_REFUSE 0x52 0 0 = 2 ^ 63 + why * 2 ^ 48 + ix)
            | none => b.zeroOk = true → stuck = false → b.selfTestOk = true →
                t.svc = .normal ∧ (∀ a, t.byte a = 0) ∧ t.boot = bootWord 1 13 0 (y.slotCode bad l 0) (y.slotCode bad l 1)))

/-- A supply coming into range releases AUX_GOOD, or MAIN_GOOD once AUX_GOOD is released; THERM_TRIP drives THERM_TRIP_N low.
POWER_SAMPLE inside a window of 10 adds the power and raises the demand by 2 above 14,000 W; the tenth closes the window:
demand one higher when the average is above the limit, one lower after ten windows below 95 per cent of it. THERMAL_SAMPLE
takes each reading and inside a window keeps what held throughout. LOCAL_TICK of a die counts every wait on its semaphores
and the progress of its DMA descriptors; on an X-die its tick count, on the half in charge the time to the next renewal, on
the watching half the time since the last. (R9, R155, R189, R389, R390, R468, R471, R472, R476) -/
def Obligations.PowerThermalAndTicks : Prop :=
  ∀ (s : State), let p := s.power
    (exec (.powerInputInRange false) s = .next { s with aux12 := true, auxGood := true }) ∧
    (exec (.powerInputInRange true) s = .next { s with main54 := true, mainGood := s.auxGood }) ∧
    (∀ d, exec (.thermTrip d) s = .next { s with thermTripN := false }) ∧
    (∀ (w v : BitVec 16), let sum := p.sum + w.toNat
      let jump := if 14000 < w.toNat then Nat.min 8 (s.powerDem + 2) else s.powerDem
      let x := s.setG .PWR_INPUT (setBits (s.g .PWR_INPUT) 16 16 v.toNat)
      (p.count + 1 < 10 → let y : State := { x with power := { p with sum := sum, count := p.count + 1 } }
        exec (.powerSample w v) s = .next (y.setDemands jump s.thermDem)) ∧
      (10 ≤ p.count + 1 → let above := decide (10 * s.powerLimit < sum)
        let lows := if 100 * sum < 950 * s.powerLimit then p.lowRuns + 1 else 0
        let dem := if above then Nat.min 8 (jump + 1) else if lows = 10 then jump - 1 else jump
        let y := x.setG .PWR_INPUT (setBits (x.g .PWR_INPUT) 0 16 (sum / 160))
        let z := y.setG .PWR_STATUS (setBits (y.g .PWR_STATUS) 12 1 (b2n (above && s.level == 8)))
        let u : State := { z with power := { p with sum := 0, count := 0, lowRuns := lows % 10 } }
        exec (.powerSample w v) s = .next (u.setDemands dem s.thermDem))) ∧
    (∀ (l : List (Die × BitVec 16)), let x := l.foldl (fun (z : State) r => z.readTemp r.1.code r.2) s
      let q := x.power
      let t := bits (x.g .PWR_CFG) 16 8
      let above := q.tAbove && decide (((2 * t : Nat) : Int) < x.hottest)
      let below := q.tBelow && decide (x.hottest < ((2 * (t - 5) : Nat) : Int))
      let now := if x.level = 8 then x.hotDies else []
      let hot := if q.tCount = 0 then now else q.hot.filter fun d => now.contains d
      (q.tCount + 1 < 10 → let w : PowerS := { q with tCount := q.tCount + 1, tAbove := above, tBelow := below, hot := hot }
        exec (.thermalSample l none) s = .next { x with power := w }) ∧
      (10 ≤ q.tCount + 1 → let lows := if below then q.tLowRuns + 1 else 0
        let dem := if above then Nat.min 8 (x.thermDem + 1) else if lows = 10 then x.thermDem - 1 else x.thermDem
        let w : PowerS := { q with tCount := 0, tAbove := true, tBelow := true, tLowRuns := lows % 10, hot := [] }
        let u : State := { x with power := w }
        exec (.thermalSample l none) s = .next ((u.setDemands x.powerDem dem).hotFaults hot))) ∧
    (∀ (d : Die) (st : List Stall), s.stopping = false → ∃ t : State, exec (.localTick d st) s = .next t ∧ t.svc = s.svc ∧
      t.semWaits = (s.semWaits.map fun w => if w.die = d.code then { w with lt := w.lt + 1 } else w) ∧
      (∀ c, c < dmaChannels d.code → (t.dma d.code c).progLt = (s.dma d.code c).progLt +
        (if (s.dma d.code c).cur.isSome ∧ (s.dma d.code c).mode = 0 then 1 else 0)) ∧
      (∀ x : Fin 4, d = .x x → t.xTicks = setAt s.xTicks x.val (nth 0 s.xTicks x.val + 1) ∧
        (0x50 + x.val = s.headDie → t.leases.renewLt = s.leases.renewLt + 1) ∧
        (0x50 + x.val = s.watchDie → t.leases.halfLt = s.leases.halfLt + 1)))

/-- The state right after reset is in canonical form and start-up mode with no job, no session, nothing pending and every
register at its row's reset value, among them DIE_ID with the stepping of the part, and the priority of the DMA channels of
C-dies, the channel number modulo 16. Every byte of memory reads 0 there (the model's choice, log entry 16). RESET_N driven
low, or a supply leaving its range, resets the module: MAIN_GOOD is low, the service mode start-up, the job gone, every
register but the fused floor at its reset value, while the queue, the configuration flash and what has been sent stay. (R7,
R15, R181, R414, R415, R431, R469, R483) -/
def Obligations.ResetLeavesTheResetState : Prop :=
  State.reset.canonical = true ∧ State.reset.svc = .startup ∧ State.reset.job = none ∧ State.reset.sessions = [] ∧
    State.reset.pending = [] ∧ (∀ a, State.reset.byte a = 0) ∧
    (∀ (r : Reg) (die i j : Nat), locate (loc r die i j) = some (r, die, i, j) → r.resetVal die j < 2 ^ 64 →
      State.reset.rg r die i j = r.resetVal die j) ∧
    (∀ d : Fin 64, State.reset.rg .DIE_ID d.val 0 0 = 0x72640021 + d.val * 0x100) ∧
    (∀ c : Fin 32, State.reset.rg .DMA_CH_CTRL 0 0 c.val = c.val % 16) ∧
    (∀ s : State, ∃ t, exec .resetNLow s = .next t ∧ t.svc = .startup ∧ t.job = none ∧ t.mainGood = false ∧ t.resetN = false ∧
      t.pending = s.pending ∧ t.flash = s.flash ∧ t.outbox = s.outbox ∧ t.sessions = [] ∧ t.faultQ = [] ∧ t.canonical = true ∧
      (∀ a, t.byte a = 0) ∧ SameRegsBut [loc .SEC_FUSE 0x50 0 0, loc .SEC_FUSE 0x52 0 0] State.reset t) ∧
    (∀ (s : State) (main : Bool), ∃ t, exec (.powerInputOutOfRange main) s = .next t ∧ t.svc = .startup ∧ t.job = none ∧
      t.mainGood = false ∧ (main = true → t.main54 = false ∧ t.auxGood = s.auxGood) ∧
      (main = false → t.aux12 = false ∧ t.auxGood = false) ∧ t.pending = s.pending ∧ t.flash = s.flash ∧
      t.canonical = true ∧ SameRegsBut [loc .SEC_FUSE 0x50 0 0, loc .SEC_FUSE 0x52 0 0] State.reset t)

/-- From every state whose memory and register space are in canonical form (addresses strictly rising, nothing listed that
reads as it would unlisted; the form is the model's own representation), a step that answers a next state answers one in
canonical form: equal memories and equal register spaces are therefore equal data. The queue of that state is the queue's
rest: no command adds to it or drops another. Reset is in canonical form. (R4, R13, R15, R164) -/
def Obligations.EveryStepKeepsTheStoresCanonical : Prop :=
  (∀ (s t : State), s.canonical = true → step s = .next t → t.canonical = true ∧ t.pending = s.pending.tail) ∧
    State.reset.canonical = true

/-- Whenever a step changes the service mode, it goes from start-up to normal by RESET_RELEASE; from normal to recovery by a
command that stops a job; from recovery to normal by JOB_LOAD; from any mode but test to test by SCAN_TEST_ENTRY or
TEST_ENTER; or to start-up by a command that resets the module or ends a stop that a reset was waiting for. Test mode is left
by nothing but the last. (R7, R395, R415, R431, R434, R469) -/
def Obligations.ServiceModeTransitions : Prop :=
  ∀ (s t : State) (c : Instr) (rest : List Instr), s.pending = c :: rest → step s = .next t → s.svc ≠ t.svc →
    (s.svc = .startup ∧ t.svc = .normal ∧ (∃ b, c = .resetRelease b)) ∨
    (s.svc = .normal ∧ t.svc = .recovery ∧ c.stopsAJob = true) ∨
    (s.svc = .recovery ∧ t.svc = .normal ∧ (∃ q l x, c = .jobLoad q l x)) ∨
    (s.svc ≠ .test ∧ t.svc = .test ∧ ((∃ ir, c = .scanTestEntry ir) ∨ (∃ q g, c = .testEnter q g))) ∨
    (t.svc = .startup ∧ (c.stopsAJob = true ∨ c.endsAStop = true ∨ c = .resetNLow ∨ (∃ m, c = .powerInputOutOfRange m)))

/-- Every step with a command other than FW_BEGIN, FW_DATA and FW_COMMIT at the front leaves the configuration flash as it
is. The twin strap, the half strap, the MGMT record and the test key in force change only by RESET_RELEASE and by commands
that may end in a module reset. That test mode was entered is recorded by SCAN_TEST_ENTRY and TEST_ENTER only, and forgotten
by a module reset only. (R15, R416, R417, R418, R433, R434, R462, R469) -/
def Obligations.FlashStrapsAndRecordsStay : Prop :=
  ∀ (s t : State) (c : Instr) (rest : List Instr), s.pending = c :: rest → step s = .next t →
    let resets := c.stopsAJob || c.endsAStop || c == .resetNLow || (match c with
      | .powerInputOutOfRange _ => true
      | _ => false)
    ((∀ q a n, c ≠ .fwBegin q a n) → (∀ q a l, c ≠ .fwData q a l) → (∀ q, c ≠ .fwCommit q) → t.flash = s.flash) ∧
    (resets = false → (∀ b, c ≠ .resetRelease b) →
      t.twinB = s.twinB ∧ t.strapEast = s.strapEast ∧ t.mgmtRecord = s.mgmtRecord ∧ t.testKey = s.testKey) ∧
    (t.testEntered = true → s.testEntered = false → (∃ ir, c = .scanTestEntry ir) ∨ (∃ q g, c = .testEnter q g)) ∧
    (resets = false → s.testEntered = true → t.testEntered = true)

/-- For each of the 101 commands that Instr.storesNothing names (the commands of sequencers but scalar stores, DMA and Teasel
completions, the Vetch, port, link and collective events that carry no data for memory, the management requests that only
read or change registers, the fences of the fabric, samples and pins): when exec answers a next state, every byte of memory
reads after it as before. The remaining rows store something for some operands: their own statements say where. (R13, R143,
R168, R180, R194, R200, R223, R326, R446, R453) -/
def Obligations.CommandsThatStoreNothing : Prop :=
  ∀ (c : Instr) (s t : State), c.storesNothing = true → exec c s = .next t → SameBytes s t
end

