-- ==== Sys2Proof/Laws/Keep.lean ====
section
/-!
SUPPORT. What nearly every operation leaves alone: the queue, the straps, the service mode, the flash and its fuses, and the canonical
form of the stores. One relation says it; the files beside this one prove it once for each shared operation.
-/

namespace Sys2Proof.Machine

/-! ### The canonical form of a sparse map -/

theorem Sparse.wfFrom_mono {α : Type} [DecidableEq α] (d : Nat → α) (lo : Option Nat) (k : Nat) (m : List (Nat × α))
    (h : Sparse.wfFrom d (some k) m = true) (hk : ∀ l, lo = some l → l < k ∨ l = k) : Sparse.wfFrom d lo m = true := by
  cases m with
  | nil => rfl
  | cons e m =>
    cases lo with
    | none => grind [Sparse.wfFrom]
    | some l => grind [Sparse.wfFrom]

theorem Sparse.wfFrom_put {α : Type} [DecidableEq α] (d : Nat → α) (lo : Option Nat) (m : List (Nat × α)) (k : Nat) (v : α)
    (h : Sparse.wfFrom d lo m = true) (hv : v ≠ d k) (hk : ∀ l, lo = some l → l < k) :
    Sparse.wfFrom d lo (Sparse.put m k v) = true := by
  induction m generalizing lo with
  | nil => cases lo <;> grind [Sparse.wfFrom, Sparse.put]
  | cons e m ih => cases lo <;> grind [Sparse.wfFrom, Sparse.put]

theorem Sparse.wfFrom_del {α : Type} [DecidableEq α] (d : Nat → α) (lo : Option Nat) (m : List (Nat × α)) (k : Nat)
    (h : Sparse.wfFrom d lo m = true) : Sparse.wfFrom d lo (Sparse.del m k) = true := by
  induction m generalizing lo with
  | nil => exact h
  | cons e m ih => cases lo <;> grind [Sparse.wfFrom, Sparse.del, Sparse.wfFrom_mono]

/-- Setting a key keeps the canonical form. -/
theorem Sparse.wf_set {α : Type} [DecidableEq α] (d : Nat → α) (m : List (Nat × α)) (k : Nat) (v : α)
    (h : Sparse.wf d m = true) : Sparse.wf d (Sparse.set d m k v) = true := by
  grind [Sparse.wf, Sparse.set, Sparse.wfFrom_put, Sparse.wfFrom_del]

/-- Setting a run of keys keeps the canonical form. -/
theorem Sparse.wf_setRun {α : Type} [DecidableEq α] (d : Nat → α) (m : List (Nat × α)) (k : Nat) (vs : List α)
    (h : Sparse.wf d m = true) : Sparse.wf d (Sparse.setRun d m k vs) = true := by
  induction vs generalizing m k with
  | nil => exact h
  | cons v vs ih => grind [Sparse.setRun, Sparse.wf_set]

theorem Sparse.wfFrom_filter {α : Type} [DecidableEq α] (d : Nat → α) (lo : Option Nat) (m : List (Nat × α))
    (p : Nat × α → Bool) (h : Sparse.wfFrom d lo m = true) : Sparse.wfFrom d lo (m.filter p) = true := by
  induction m generalizing lo with
  | nil => exact h
  | cons e m ih => cases lo <;> grind [Sparse.wfFrom, Sparse.wfFrom_mono, List.filter_cons]

/-- Dropping entries keeps the canonical form. -/
theorem Sparse.wf_filter {α : Type} [DecidableEq α] (d : Nat → α) (m : List (Nat × α)) (p : Nat × α → Bool)
    (h : Sparse.wf d m = true) : Sparse.wf d (m.filter p) = true := Sparse.wfFrom_filter d none m p h

/-! ### Reading back -/

theorem Sparse.find?_put {α : Type} (m : List (Nat × α)) (k : Nat) (v : α) (j : Nat) :
    Sparse.find? (Sparse.put m k v) j = if j = k then some v else Sparse.find? m j := by
  induction m with
  | nil => grind [Sparse.put, Sparse.find?]
  | cons e m ih => grind [Sparse.put, Sparse.find?]

theorem Sparse.find?_del {α : Type} (m : List (Nat × α)) (k j : Nat) :
    Sparse.find? (Sparse.del m k) j = if j = k then none else Sparse.find? m j := by
  induction m with
  | nil => grind [Sparse.del, Sparse.find?]
  | cons e m ih => grind [Sparse.del, Sparse.find?]

/-- A set key reads back as set; every other key reads as before, whatever the list. -/
theorem Sparse.get_set {α : Type} [DecidableEq α] (d : Nat → α) (m : List (Nat × α)) (k : Nat) (v : α) (j : Nat) :
    Sparse.get d (Sparse.set d m k v) j = if j = k then v else Sparse.get d m j := by
  grind [Sparse.get, Sparse.set, Sparse.find?_put, Sparse.find?_del]

/-- A run leaves every key outside it alone. -/
theorem Sparse.get_setRun_outside {α : Type} [DecidableEq α] (d : Nat → α) (m : List (Nat × α)) (k : Nat) (vs : List α)
    (j : Nat) (hj : j < k ∨ k + vs.length ≤ j) :
    Sparse.get d (Sparse.setRun d m k vs) j = Sparse.get d m j := by
  induction vs generalizing m k with
  | nil => rfl
  | cons v vs ih => grind [Sparse.setRun, Sparse.get_set]

/-! ### What nearly every operation keeps -/

/-- The fields that few commands change. -/
structure Still where
  pending : List Instr
  twinB : Bool
  strapEast : Bool
  svc : Svc
  testEntered : Bool
  flash : List (Nat × BitVec 8)
  mgmtRecord : List (BitVec 8)
  testKey : Option (BitVec 256)

/-- Those fields of a state. -/
def State.still (s : State) : Still :=
  ⟨s.pending, s.twinB, s.strapEast, s.svc, s.testEntered, s.flash, s.mgmtRecord, s.testKey⟩

/-- `t` has those fields as `s` does, and its stores are in canonical form if those of `s` are. -/
def Keeps (s t : State) : Prop := t.still = s.still ∧ (s.canonical = true → t.canonical = true)

/-- The same of an operation that also answers something. -/
def KeepsP {α : Type} (s : State) (p : State × α) : Prop := Keeps s p.1

/-- The same of an operation that answers something first. -/
def KeepsQ {α : Type} (s : State) (p : α × State) : Prop := Keeps s p.2

theorem Keeps.refl (s : State) : Keeps s s := ⟨rfl, id⟩

theorem Keeps.trans {a b c : State} (h : Keeps a b) (k : Keeps b c) : Keeps a c := ⟨k.1.trans h.1, fun x => k.2 (h.2 x)⟩

/-- `t` has its stores in canonical form if `s` has. -/
def Tidy (s t : State) : Prop := s.canonical = true → t.canonical = true

theorem Keeps.tidy {s t : State} (h : Keeps s t) : Tidy s t := h.2

theorem Tidy.trans {a b c : State} (h : Tidy a b) (k : Tidy b c) : Tidy a c := fun x => k (h x)

/-- Repeating a tidy operation is tidy. -/
theorem foldl_tidy {α : Type} (g : State → α → State) (l : List α) (s : State) (h : ∀ z x, Tidy z (g z x)) :
    Tidy s (l.foldl g s) := by
  induction l generalizing s with
  | nil => exact id
  | cons a l ih => exact (h s a).trans (ih (g s a))

/-- Repeating an operation that keeps them keeps them. -/
theorem foldl_keeps {α : Type} (g : State → α → State) (l : List α) (s : State) (h : ∀ z x, Keeps z (g z x)) :
    Keeps s (l.foldl g s) := by
  induction l generalizing s with
  | nil => exact Keeps.refl s
  | cons a l ih => exact (h s a).trans (ih (g s a))

/-- Storing a register keeps them. -/
theorem State.setRg_keeps (s : State) (r : Reg) (die i j v : Nat) : Keeps s (s.setRg r die i j v) := by
  refine ⟨by unfold State.setRg State.still; rfl, fun h => ?_⟩
  have hw : Sparse.wf resetAt s.regs = true := by grind [State.canonical, Registers.wf]
  have := Sparse.wf_set resetAt s.regs (loc r die i j) (BitVec.ofNat 64 (if r.row.w64 = true then v else v % 2 ^ 32)) hw
  grind [State.canonical, State.setRg, Registers.wf]

/-- Storing bytes keeps them. -/
theorem State.putBytes_keeps (s : State) (addr : Nat) (bs : List Nat) : Keeps s (s.putBytes addr bs) := by
  refine ⟨by unfold State.putBytes State.still; rfl, fun h => ?_⟩
  have hw : Sparse.wf (fun _ => 0) s.mem = true := by grind [State.canonical, Memory.wf]
  have := Sparse.wf_setRun (fun _ => 0) s.mem addr (bs.map (BitVec.ofNat 8)) hw
  grind [State.canonical, State.putBytes, Memory.wf]

end Sys2Proof.Machine
end

