-- ==== Sys2Proof/Laws/Ops.lean ====
section
/-!
SUPPORT. What the operations of Machine/Ops.lean keep (Keep.lean).
-/

namespace Sys2Proof.Machine

theorem State.setFld_keeps (s : State) (r : Reg) (die i j lo w x : Nat) :
    Keeps s (s.setFld r die i j lo w x) := by
  unfold State.setFld
  grind [Keeps, KeepsP, KeepsQ, State.setRg_keeps]

theorem State.setG_keeps (s : State) (r : Reg) (v : Nat) :
    Keeps s (s.setG r v) := by
  unfold State.setG
  grind [Keeps, KeepsP, KeepsQ, State.setRg_keeps]

theorem State.bump_keeps (s : State) (r : Reg) (die i j n : Nat) :
    Keeps s (s.bump r die i j n) := by
  unfold State.bump
  grind [Keeps, KeepsP, KeepsQ, State.setRg_keeps]

theorem State.freshVal_keeps (s : State) :
    KeepsQ s (s.freshVal) := by
  unfold State.freshVal
  grind [Keeps, KeepsP, KeepsQ, State.still, State.canonical]

theorem State.untilFail_keeps {α β : Type} (s : State) (f : State → α → State × Option β) (x0 : List α) (hf : ∀ y0 y1, KeepsP y0 (f y0 y1)) :
    KeepsP s (s.untilFail f x0) := by
  induction x0 generalizing s with
  | nil => exact Keeps.refl s
  | cons i is ih =>
    have h := hf s i
    rw [State.untilFail]
    generalize f s i = q at h
    obtain ⟨z, _ | c⟩ := q
    · exact Keeps.trans h (ih z)
    · exact h

theorem State.untilFlags_keeps {α : Type} (s : State) (f : State → α → State × Option Nat × Nat) (x0 : List α) (hf : ∀ y0 y1, KeepsP y0 (f y0 y1)) :
    KeepsP s (s.untilFlags f x0) := by
  induction x0 generalizing s with
  | nil => exact Keeps.refl s
  | cons i is ih =>
    have h := hf s i
    rw [State.untilFlags]
    generalize f s i = q at h
    obtain ⟨z, _ | c, fl⟩ := q
    · exact Keeps.trans h (ih z)
    · exact h

theorem State.answer_keeps (s : State) (r : Resp) :
    Keeps s (s.answer r) := by
  unfold State.answer
  grind [Keeps, KeepsP, KeepsQ, State.still, State.canonical]

theorem State.dieFault_keeps (s : State) (die block unit cause : Nat) :
    Keeps s (s.dieFault die block unit cause) := by
  unfold State.dieFault
  grind [Keeps, KeepsP, KeepsQ, State.still, State.canonical, State.setRg_keeps]

theorem State.setPortReg_keeps (s : State) (r : Reg) (p v : Nat) :
    Keeps s (s.setPortReg r p v) := by
  unfold State.setPortReg
  grind [Keeps, KeepsP, KeepsQ, State.setRg_keeps]

theorem State.bumpPort_keeps (s : State) (r : Reg) (p n : Nat) :
    Keeps s (s.bumpPort r p n) := by
  unfold State.bumpPort
  grind [Keeps, KeepsP, KeepsQ, State.bump_keeps]

theorem State.setPort_keeps (s : State) (p : Nat) (x : PortS) :
    Keeps s (s.setPort p x) := by
  unfold State.setPort
  grind [Keeps, KeepsP, KeepsQ, State.still, State.canonical]

theorem State.pumpOne_keeps (s : State) (p : Nat) :
    Keeps s (s.pumpOne p) := by
  unfold State.pumpOne
  grind [Keeps, KeepsP, KeepsQ, State.still, State.canonical, State.bumpPort_keeps, State.setPort_keeps]

theorem State.pump_keeps (s : State) (p : Nat) (x0 : Nat) :
    Keeps s (s.pump p x0) := by
  fun_induction State.pump <;> grind [Keeps, KeepsP, KeepsQ, State.still, State.canonical, State.pumpOne_keeps]

theorem State.enqueue_keeps (s : State) (p : Nat) (f : Flit) :
    Keeps s (s.enqueue p f) := by
  unfold State.enqueue
  grind [Keeps, KeepsP, KeepsQ, State.still, State.canonical, State.setPort_keeps, State.pump_keeps]

theorem State.sendFlit_keeps (s : State) (f : Flit) :
    KeepsP s (s.sendFlit f) := by
  unfold State.sendFlit
  grind [Keeps, KeepsP, KeepsQ, State.enqueue_keeps]

theorem State.enqueueFrame_keeps (s : State) (p : Nat) (m : FrameMsg) :
    Keeps s (s.enqueueFrame p m) := by
  unfold State.enqueueFrame
  grind [Keeps, KeepsP, KeepsQ, State.still, State.canonical, State.setPort_keeps, State.enqueue_keeps]

theorem State.sendFrame_keeps (s : State) (dst : Nat) (b : Frame) :
    Keeps s (s.sendFrame dst b) := by
  unfold State.sendFrame
  grind [Keeps, KeepsP, KeepsQ, State.enqueueFrame_keeps]

theorem State.nextTag_keeps (s : State) :
    KeepsQ s (s.nextTag) := by
  unfold State.nextTag
  grind [Keeps, KeepsP, KeepsQ, State.still, State.canonical]

theorem State.sendWrites_keeps (s : State) (who : Asker) (x0 : List (Nat × List Nat)) :
    KeepsP s (s.sendWrites who x0) := by
  fun_induction State.sendWrites <;> grind [Keeps, KeepsP, KeepsQ, State.still, State.canonical, State.sendFlit_keeps, State.nextTag_keeps]

theorem State.sendReads_keeps (s : State) (who : Asker) (x0 : List (Nat × List Nat)) :
    KeepsP s (s.sendReads who x0) := by
  fun_induction State.sendReads <;> grind [Keeps, KeepsP, KeepsQ, State.still, State.canonical, State.sendFlit_keeps, State.nextTag_keeps]

theorem State.sendRegFor_keeps (s : State) (who : Asker) (node off : Nat) (wide : Bool) (v : Nat) :
    KeepsP s (s.sendRegFor who node off wide v) := by
  unfold State.sendRegFor
  grind [Keeps, KeepsP, KeepsQ, State.still, State.canonical, State.sendFlit_keeps, State.nextTag_keeps]

theorem State.sendReg_keeps (s : State) (node off : Nat) (wide : Bool) (v : Nat) :
    Keeps s (s.sendReg node off wide v) := by
  unfold State.sendReg
  grind [Keeps, KeepsP, KeepsQ, State.still, State.canonical, State.sendRegFor_keeps]

theorem State.raise_keeps (s : State) (die unit flags : Nat) :
    Keeps s (s.raise die unit flags) := by
  unfold State.raise
  grind [Keeps, KeepsP, KeepsQ, State.setRg_keeps, State.setG_keeps]

theorem State.scramble_keeps (s : State) (addr n : Nat) :
    Keeps s (s.scramble addr n) := by
  refine ⟨by unfold State.scramble State.still; rfl, fun h => ?_⟩
  have hw : Sparse.wf (fun _ => 0) s.mem = true := by grind [State.canonical, Memory.wf]
  have := Sparse.wf_setRun (fun _ => 0) s.mem addr ((List.range n).map fun i => (Config.fresh (s.freshCtr + i)).setWidth 8) hw
  grind [State.canonical, State.scramble, Memory.wf]

theorem State.uncorrectable_keeps (s : State) (blk : Nat) :
    Keeps s (s.uncorrectable blk) := by
  unfold State.uncorrectable
  grind [Keeps, KeepsP, KeepsQ, State.setRg_keeps, State.dieFault_keeps]

theorem State.mend_keeps (s : State) (blk : Nat) :
    Keeps s (s.mend blk) := by
  unfold State.mend
  grind [Keeps, KeepsP, KeepsQ, State.still, State.canonical, State.bump_keeps]

theorem State.mendBlocks_keeps (s : State) (addrs : List Nat) :
    Keeps s (s.mendBlocks addrs) := by
  unfold State.mendBlocks
  grind [Keeps, KeepsP, KeepsQ, foldl_keeps, State.mend_keeps]

theorem State.correctWord_keeps (s : State) (w : Nat) :
    Keeps s (s.correctWord w) := by
  unfold State.correctWord
  grind [Keeps, KeepsP, KeepsQ, State.still, State.canonical, State.bump_keeps]

theorem State.checkWords_keeps (s : State) (x0 : List Nat) :
    KeepsP s (s.checkWords x0) := by
  fun_induction State.checkWords <;> grind [Keeps, KeepsP, KeepsQ, State.still, State.canonical, State.correctWord_keeps]

theorem State.readRange_keeps (s : State) (addr n : Nat) :
    KeepsP s (s.readRange addr n) := by
  unfold State.readRange
  grind [Keeps, KeepsP, KeepsQ, State.uncorrectable_keeps, State.mendBlocks_keeps, State.checkWords_keeps]

theorem State.readRaw_keeps (s : State) (addr n : Nat) :
    KeepsP s (s.readRaw addr n) := by
  unfold State.readRaw
  grind [Keeps, KeepsP, KeepsQ, State.uncorrectable_keeps, State.mendBlocks_keeps]

theorem State.freshSidecars_keeps (s : State) (addr n : Nat) :
    Keeps s (s.freshSidecars addr n) := by
  unfold State.freshSidecars
  grind [Keeps, KeepsP, KeepsQ, State.still, State.canonical]

theorem State.writeRange_keeps (s : State) (addr : Nat) (bs : List Nat) :
    KeepsP s (s.writeRange addr bs) := by
  unfold State.writeRange
  grind [Keeps, KeepsP, KeepsQ, State.still, State.canonical, State.putBytes_keeps, State.uncorrectable_keeps, State.mendBlocks_keeps, State.checkWords_keeps, State.freshSidecars_keeps]

theorem State.memRead_keeps (s : State) (r : Requester) (addr n : Nat) :
    KeepsP s (s.memRead r addr n) := by
  unfold State.memRead
  grind [Keeps, KeepsP, KeepsQ, State.readRange_keeps]

theorem State.memWrite_keeps (s : State) (r : Requester) (addr : Nat) (bs : List Nat) :
    KeepsP s (s.memWrite r addr bs) := by
  unfold State.memWrite
  grind [Keeps, KeepsP, KeepsQ, State.writeRange_keeps]

theorem State.boardWriteFor_keeps (s : State) (who : Asker) (r : Requester) (addr : Nat) (bs : List Nat) :
    KeepsP s (s.boardWriteFor who r addr bs) := by
  unfold State.boardWriteFor
  grind [Keeps, KeepsP, KeepsQ, State.sendWrites_keeps, State.memWrite_keeps]

theorem State.boardWrite_keeps (s : State) (r : Requester) (addr : Nat) (bs : List Nat) :
    KeepsP s (s.boardWrite r addr bs) := by
  unfold State.boardWrite
  grind [Keeps, KeepsP, KeepsQ, State.boardWriteFor_keeps]

theorem State.spRead_keeps (s : State) (core off n : Nat) :
    KeepsP s (s.spRead core off n) := by
  unfold State.spRead
  grind [Keeps, KeepsP, KeepsQ, State.readRange_keeps]

theorem State.spWrite_keeps (s : State) (core off : Nat) (bs : List Nat) :
    KeepsP s (s.spWrite core off bs) := by
  unfold State.spWrite
  grind [Keeps, KeepsP, KeepsQ, State.writeRange_keeps]

theorem State.setSeq_keeps (s : State) (core : Nat) (q : SeqS) :
    Keeps s (s.setSeq core q) := by
  unfold State.setSeq
  grind [Keeps, KeepsP, KeepsQ, State.still, State.canonical]

theorem State.setSeqState_keeps (s : State) (core st hold : Nat) :
    Keeps s (s.setSeqState core st hold) := by
  unfold State.setSeqState
  grind [Keeps, KeepsP, KeepsQ, State.setRg_keeps]

theorem State.setSc_keeps (s : State) (core i v : Nat) :
    Keeps s (s.setSc core i v) := by
  unfold State.setSc
  grind [Keeps, KeepsP, KeepsQ, State.setRg_keeps]

theorem State.seqFaultCore_keeps (s : State) (core cause unit : Nat) :
    Keeps s (s.seqFaultCore core cause unit) := by
  unfold State.seqFaultCore
  grind [Keeps, KeepsP, KeepsQ, State.still, State.canonical, State.setRg_keeps, State.dieFault_keeps, State.setSeq_keeps]

theorem State.retireTo_keeps (s : State) (core pc' : Nat) :
    Keeps s (s.retireTo core pc') := by
  unfold State.retireTo
  grind [Keeps, KeepsP, KeepsQ, State.still, State.canonical, State.setRg_keeps, State.bump_keeps, State.setSeq_keeps, State.setSeqState_keeps, State.seqFaultCore_keeps]

theorem State.retire_keeps (s : State) (core : Nat) :
    Keeps s (s.retire core) := by
  unfold State.retire
  grind [Keeps, KeepsP, KeepsQ, State.retireTo_keeps]

theorem State.holdSeq_keeps (s : State) (core hold : Nat) :
    Keeps s (s.holdSeq core hold) := by
  unfold State.holdSeq
  grind [Keeps, KeepsP, KeepsQ, State.setSeqState_keeps]

theorem State.wake_keeps (s : State) (w : SemWait) :
    Keeps s (s.wake w) := by
  unfold State.wake
  grind [Keeps, KeepsP, KeepsQ, State.still, State.canonical, State.retire_keeps]

theorem State.serve_keeps (s : State) (die i : Nat) (x0 : Nat) :
    Keeps s (s.serve die i x0) := by
  fun_induction State.serve <;> grind [Keeps, KeepsP, KeepsQ, State.still, State.canonical, State.setRg_keeps, State.wake_keeps]

theorem State.dropWaits_keeps (s : State) (p : SemWait → Bool) :
    Keeps s (s.dropWaits p) := by
  unfold State.dropWaits
  grind [Keeps, KeepsP, KeepsQ, State.still, State.canonical, foldl_keeps, State.serve_keeps]

theorem State.dropWait_keeps (s : State) (die : Nat) (who : Waiter) :
    Keeps s (s.dropWait die who) := by
  unfold State.dropWait
  grind [Keeps, KeepsP, KeepsQ, State.still, State.canonical, State.dropWaits_keeps]

theorem State.seqFault_keeps (s : State) (core cause unit : Nat) :
    Keeps s (s.seqFault core cause unit) := by
  unfold State.seqFault
  grind [Keeps, KeepsP, KeepsQ, State.still, State.canonical, State.seqFaultCore_keeps, State.dropWaits_keeps]

/-- A block's check fails just where its sidecar bears a mark (R171). -/
@[simp] theorem State.mismatch_eq (s : State) (blk : Nat) :
    s.mismatch blk = ((Sparse.get (fun _ => 0) s.sidecar blk).toNat != 0) := by
  have h (x m : Nat) : (x ^^^ m = x) ↔ m = 0 := by
    constructor
    · intro h
      have := congrArg (x ^^^ ·) h
      simpa [← Nat.xor_assoc] using this
    · rintro rfl; simp
  simp [State.mismatch, State.sidecarAt, bne, BEq.beq, h]

end Sys2Proof.Machine
end

