-- ==== Sys2Proof/Laws/Fec.lean ====
section
/-!
SUPPORT. What the operations of Machine/Fec.lean keep (Keep.lean).
-/

namespace Sys2Proof.Machine

theorem State.rsArrive_keeps (s : State) (p : Nat) (data : List Nat) (noise : List (Nat × Nat)) :
    Keeps s (s.rsArrive p data noise) := by
  unfold State.rsArrive
  grind [Keeps, KeepsP, KeepsQ, State.bumpPort_keeps]

end Sys2Proof.Machine
end

