-- ==== Sys2Proof/Laws/Lease.lean ====
section
/-!
SUPPORT. What the operations of Machine/Lease.lean keep (Keep.lean).
-/

namespace Sys2Proof.Machine

theorem State.alert_keeps (s : State) (i : Nat) :
    Keeps s (s.alert i) := by
  unfold State.alert
  grind [Keeps, KeepsP, KeepsQ, State.still, State.canonical]

theorem State.mgmtOut_keeps (s : State) (session typ status id : Nat) (body : List Nat) :
    Keeps s (s.mgmtOut session typ status id body) := by
  unfold State.mgmtOut
  grind [Keeps, KeepsP, KeepsQ, State.still, State.canonical]

theorem State.setDigest_keeps (s : State) (r : Reg) (n : Nat) (bs : List Nat) :
    Keeps s (s.setDigest r n bs) := by
  unfold State.setDigest
  grind [Keeps, KeepsP, KeepsQ, foldl_keeps, State.setRg_keeps]

theorem State.mrExtend_keeps (s : State) (n : Nat) (v : List Nat) :
    Keeps s (s.mrExtend n v) := by
  unfold State.mrExtend
  grind [Keeps, KeepsP, KeepsQ, State.setDigest_keeps]

theorem State.mrEvent_keeps (s : State) (code : Nat) (data : List Nat) :
    Keeps s (s.mrEvent code data) := by
  unfold State.mrEvent
  grind [Keeps, KeepsP, KeepsQ, State.mrExtend_keeps]

theorem State.halfChange_keeps (s : State) (east : Bool) (epoch code : Nat) (renew : Bool) :
    Keeps s (s.halfChange east epoch code renew) := by
  unfold State.halfChange
  grind [Keeps, KeepsP, KeepsQ, State.still, State.canonical, State.setG_keeps, State.alert_keeps, State.mrEvent_keeps]

theorem State.handover_keeps (s : State) :
    Keeps s (s.handover) := by
  unfold State.handover
  grind [Keeps, KeepsP, KeepsQ, State.halfChange_keeps]

end Sys2Proof.Machine
end

