-- ==== Sys2Proof/Laws/Vetch.lean ====
section
/-!
SUPPORT. What the operations of Machine/Vetch.lean keep (Keep.lean).
-/

namespace Sys2Proof.Machine

theorem State.dieComplete_keeps (s : State) (die ctx : Nat) :
    Keeps s (s.dieComplete die ctx) := by
  unfold State.dieComplete
  grind [Keeps, KeepsP, KeepsQ, State.still, State.canonical]

theorem State.arriveAt_keeps (s : State) (die ctx : Nat) :
    KeepsP s (s.arriveAt die ctx) := by
  unfold State.arriveAt
  grind [Keeps, KeepsP, KeepsQ, State.setRg_keeps, State.dieComplete_keeps]

theorem State.arrived_keeps (s : State) (core ctx gen : Nat) (wait : Bool) :
    Keeps s (s.arrived core ctx gen wait) := by
  unfold State.arrived
  grind [Keeps, KeepsP, KeepsQ, State.still, State.canonical, State.setSeq_keeps, State.retire_keeps, State.holdSeq_keeps]

theorem State.releaseBar_keeps (s : State) (die ctx gen : Nat) (x0 : List Nat) :
    Keeps s (s.releaseBar die ctx gen x0) := by
  fun_induction State.releaseBar <;> grind [Keeps, KeepsP, KeepsQ, State.still, State.canonical, State.retire_keeps]

theorem State.admitHeld_keeps (s : State) (x0 : List HeldArr) :
    Keeps s (s.admitHeld x0) := by
  fun_induction State.admitHeld <;> grind [Keeps, KeepsP, KeepsQ, State.still, State.canonical, State.arriveAt_keeps, State.arrived_keeps]

theorem State.completeAt_keeps (s : State) (die ctx gen : Nat) :
    Keeps s (s.completeAt die ctx gen) := by
  unfold State.completeAt
  grind [Keeps, KeepsP, KeepsQ, State.setRg_keeps, State.dieComplete_keeps, State.releaseBar_keeps, State.admitHeld_keeps]

theorem State.vetchFault_keeps (s : State) (die cause index : Nat) :
    Keeps s (s.vetchFault die cause index) := by
  unfold State.vetchFault
  grind [Keeps, KeepsP, KeepsQ, State.setRg_keeps, State.dieFault_keeps]

theorem State.addSem_keeps (s : State) (die i n : Nat) :
    Keeps s (s.addSem die i n) := by
  unfold State.addSem
  grind [Keeps, KeepsP, KeepsQ, State.setRg_keeps, State.serve_keeps, State.vetchFault_keeps]

theorem State.signal_keeps (s : State) (sender : Nat) (twin : Bool) (die i n : Nat) :
    Keeps s (s.signal sender twin die i n) := by
  unfold State.signal
  grind [Keeps, KeepsP, KeepsQ, State.still, State.canonical, State.sendFrame_keeps, State.addSem_keeps]

theorem State.passSignals_keeps (s : State) :
    Keeps s (s.passSignals) := by
  unfold State.passSignals
  grind [Keeps, KeepsP, KeepsQ, State.still, State.canonical, foldl_keeps, State.addSem_keeps]

theorem State.takeSem_keeps (s : State) (die i n : Nat) :
    ∀ t, s.takeSem die i n = some t → Keeps s t := by
  intro t h
  unfold State.takeSem at h
  grind [Keeps, KeepsP, KeepsQ, State.setRg_keeps]

theorem State.unitWait_keeps (s : State) (die i n : Nat) (who : Waiter) :
    Keeps s (s.unitWait die i n who) := by
  unfold State.unitWait
  split
  · rename_i h
    have k := State.takeSem_keeps s die i n _ h
    exact ⟨k.1, k.2⟩
  · exact ⟨rfl, id⟩

theorem State.useGrant_keeps (s : State) (die : Nat) (who : Waiter) :
    Keeps s (s.useGrant die who) := by
  unfold State.useGrant
  grind [Keeps, KeepsP, KeepsQ, State.still, State.canonical]

theorem State.autoArm_keeps (s : State) (die : Nat) :
    Keeps s (s.autoArm die) := by
  unfold State.autoArm
  grind [Keeps, KeepsP, KeepsQ, State.unitWait_keeps]

theorem State.autoArrive_keeps (s : State) (die : Nat) :
    Keeps s (s.autoArrive die) := by
  unfold State.autoArrive
  grind [Keeps, KeepsP, KeepsQ, State.still, State.canonical, State.arriveAt_keeps, State.useGrant_keeps, State.autoArm_keeps]

end Sys2Proof.Machine
end

