-- ==== Sys2Proof/Laws/Array.lean ====
section
/-!
SUPPORT. What the operations of Machine/Array.lean keep (Keep.lean).
-/

namespace Sys2Proof.Machine

theorem State.setArr_keeps (s : State) (core a : Nat) (x : ArrayS) :
    Keeps s (s.setArr core a x) := by
  unfold State.setArr
  grind [Keeps, KeepsP, KeepsQ, State.still, State.canonical]

theorem State.setAcc_keeps (s : State) (key v : Nat) :
    Keeps s (s.setAcc key v) := by
  unfold State.setAcc
  grind [Keeps, KeepsP, KeepsQ, State.still, State.canonical]

theorem State.arrFault_keeps (s : State) (core a part cause row entered : Nat) :
    Keeps s (s.arrFault core a part cause row entered) := by
  unfold State.arrFault
  grind [Keeps, KeepsP, KeepsQ, State.still, State.canonical, State.setRg_keeps, State.bump_keeps, State.freshVal_keeps, State.seqFault_keeps, State.setArr_keeps]

theorem State.readRuns_keeps (s : State) (core base : Nat) (stride : Int) (len : Nat) (x0 : Nat) :
    KeepsP s (s.readRuns core base stride len x0) := by
  fun_induction State.readRuns <;> grind [Keeps, KeepsP, KeepsQ, State.still, State.canonical, State.spRead_keeps]

theorem State.passStart_keeps (s : State) (core a part : Nat) :
    Keeps s (s.passStart core a part) := by
  unfold State.passStart
  grind [Keeps, KeepsP, KeepsQ, State.still, State.canonical, foldl_keeps, State.setFld_keeps, State.setArr_keeps, State.arrFault_keeps, State.readRuns_keeps]

theorem State.loadRelease_keeps (s : State) (core a part : Nat) :
    Keeps s (s.loadRelease core a part) := by
  unfold State.loadRelease
  grind [Keeps, KeepsP, KeepsQ, State.still, State.canonical, State.setArr_keeps]

theorem State.streamRow_keeps (s : State) (core : Nat) (p : Pass) (m : Nat) :
    KeepsP s (s.streamRow core p m) := by
  unfold State.streamRow
  grind [Keeps, KeepsP, KeepsQ, State.spRead_keeps]

theorem State.runRows_keeps (s : State) (core a : Nat) (p : Pass) (ar : Arith) (cols : List (List Nat)) (x0 : Nat) (x1 : Nat) :
    KeepsP s (s.runRows core a p ar cols x0 x1) := by
  fun_induction State.runRows <;> grind [Keeps, KeepsP, KeepsQ, State.still, State.canonical, foldl_keeps, State.spRead_keeps, State.spWrite_keeps, State.setAcc_keeps, State.streamRow_keeps]

theorem State.passComplete_keeps (s : State) (core a part : Nat) (flt : Option (Nat × Nat)) :
    Keeps s (s.passComplete core a part flt) := by
  unfold State.passComplete
  split <;> grind [Keeps, KeepsP, KeepsQ, State.still, State.canonical, State.bump_keeps, State.freshVal_keeps, State.raise_keeps, State.addSem_keeps, State.setArr_keeps, State.arrFault_keeps, State.runRows_keeps]

end Sys2Proof.Machine
end

