-- ==== Sys2Proof/Laws/Arrival.lean ====
section
/-!
SUPPORT. What a flit that arrives leaves of the state before its own effect: an acknowledgement and an acceptance touch their
port and the registers of Sadom ports, so admission, fence, node and every Vat are as they were.
-/

namespace Sys2Proof.Machine

/-- Module-global registers and everything but ports, registers and what is sent are as before. -/
def PortOnly (s t : State) : Prop :=
  (∀ l, 0x60000000 ≤ l → Sparse.get resetAt t.regs l = Sparse.get resetAt s.regs l) ∧ t.vats = s.vats

theorem PortOnly.refl (s : State) : PortOnly s s := ⟨fun _ _ => rfl, rfl⟩

theorem PortOnly.trans {s t u : State} (h : PortOnly s t) (k : PortOnly t u) : PortOnly s u :=
  ⟨fun l hl => (k.1 l hl).trans (h.1 l hl), k.2.trans h.2⟩

theorem portOnly_setPort (s : State) (p : Nat) (x : PortS) : PortOnly s (s.setPort p x) := ⟨fun _ _ => rfl, rfl⟩

theorem portOnly_outbox (s : State) (l : List Out) : PortOnly s { s with outbox := l } := ⟨fun _ _ => rfl, rfl⟩

theorem portAt_die (p : Nat) (h : p < 36) : (portAt p).1 < 0x54 ∧ (portAt p).2 < 9 := by
  unfold portAt
  split <;> constructor <;> simp <;> omega

theorem portOnly_setPortReg (s : State) (r : Reg) (p v : Nat) (h : p < 36) (hr : r.row.base + r.row.s2 * 8 < 0x1000000) :
    PortOnly s (s.setPortReg r p v) := by
  refine ⟨fun l hl => ?_, rfl⟩
  have ⟨h1, h2⟩ := portAt_die p h
  have h3 : r.row.s2 * (portAt p).2 ≤ r.row.s2 * 8 := Nat.mul_le_mul_left _ (by omega)
  simp only [State.setPortReg, State.setRg, Sparse.get_set, loc, Nat.mul_zero]
  rw [if_neg (by omega)]

theorem portOnly_bumpPort (s : State) (r : Reg) (p n : Nat) (h : p < 36) (hr : r.row.base + r.row.s2 * 8 < 0x1000000) :
    PortOnly s (s.bumpPort r p n) := by
  unfold State.bumpPort State.bump
  exact portOnly_setPortReg s r p _ h hr

theorem portOnly_setPortBit (s : State) (p i : Nat) (b : Bool) (h : p < 36) : PortOnly s (s.setPortBit p i b) :=
  portOnly_setPortReg s .SL_STATUS p _ h (by decide)

@[simp] theorem State.port_setPort_self (s : State) (p : Nat) (x : PortS) : (s.setPort p x).port p = x := by
  simp [State.port, State.setPort, Sparse.get_set]

@[simp] theorem State.port_setPortReg (s : State) (r : Reg) (p q v : Nat) : (s.setPortReg r p v).port q = s.port q := rfl

@[simp] theorem State.port_bumpPort (s : State) (r : Reg) (p q n : Nat) : (s.bumpPort r p n).port q = s.port q := rfl

@[simp] theorem State.port_setPortBit (s : State) (p q i : Nat) (b : Bool) : (s.setPortBit p i b).port q = s.port q := rfl

/-- A step of a port that sends: only its port changes, and the sequence it expects does not. -/
def Sends (p : Nat) (s t : State) : Prop := PortOnly s t ∧ (t.port p).rxSeq = (s.port p).rxSeq

theorem Sends.trans {p : Nat} {s t u : State} (h : Sends p s t) (k : Sends p t u) : Sends p s u :=
  ⟨h.1.trans k.1, k.2.trans h.2⟩

theorem State.pumpOne_sends (s : State) (p : Nat) (h : p < 36) : Sends p s (s.pumpOne p) := by
  unfold State.pumpOne
  dsimp only
  split
  · exact ⟨PortOnly.refl s, rfl⟩
  · split
    · exact ⟨PortOnly.refl s, rfl⟩
    · refine ⟨((portOnly_setPort s p _).trans (portOnly_bumpPort _ .SL_TX_FLITS p 1 h (by decide))).trans
        (portOnly_outbox _ _), ?_⟩
      show ((State.bumpPort (s.setPort p _) .SL_TX_FLITS p 1).port p).rxSeq = _
      simp

theorem State.pump_sends (n : Nat) (s : State) (p : Nat) (h : p < 36) : Sends p s (s.pump p n) := by
  induction n generalizing s with
  | zero => exact ⟨PortOnly.refl s, rfl⟩
  | succ n ih => exact (s.pumpOne_sends p h).trans (ih _)

theorem State.leaveFallback_sends (s : State) (p : Nat) (h : p < 36) : Sends p s (s.leaveFallback p) := by
  unfold State.leaveFallback
  split
  · exact ⟨portOnly_setPortBit s p 5 false h, rfl⟩
  · exact ⟨PortOnly.refl s, rfl⟩

/-- Taking an acknowledgement moves only what the port has sent. -/
theorem State.flitsAcked_sends (s : State) (p : Nat) (a : Option Nat) (h : p < 36) : Sends p s (s.flitsAcked p a) := by
  unfold State.flitsAcked
  split
  · exact ⟨PortOnly.refl s, rfl⟩
  · dsimp only
    split
    · exact ⟨PortOnly.refl s, rfl⟩
    · refine Sends.trans (t := State.setPort _ _ _) ⟨portOnly_setPort s p _, by simp⟩
        ((State.leaveFallback_sends _ p h).trans (State.pump_sends _ _ p h))

theorem State.acceptFlit_portOnly (s : State) (p vc : Nat) (h : p < 36) : PortOnly s (s.acceptFlit p vc) := by
  unfold State.acceptFlit
  have k := fun x => (portOnly_setPort s p x).trans (portOnly_bumpPort (s.setPort p x) .SL_RX_FLITS p 1 h (by decide))
  extract_lets x n y s1
  have h1 : PortOnly s s1 := k _
  clear_value s1
  split
  · exact h1.trans ((portOnly_setPort s1 p _).trans (portOnly_outbox _ _))
  · exact h1

/-- The state at which a flit that is accepted has its own effect (R330, R332). -/
theorem PortOnly.global {s t : State} (h : PortOnly s t) (r : Reg) (i j : Nat) : t.rg r 0x60 i j = s.rg r 0x60 i j := by
  unfold State.rg
  rw [h.1]
  unfold loc
  omega

theorem PortOnly.admitted {s t : State} (h : PortOnly s t) (src : Nat) : t.admitted src = s.admitted src := by
  simp [State.admitted, h.global]

theorem PortOnly.node {s t : State} (h : PortOnly s t) : t.node = s.node := by
  simp [State.node, State.g, h.global]

theorem PortOnly.fenced {s t : State} (h : PortOnly s t) (src : Nat) : t.fenced src = s.fenced src := by
  simp [State.fenced, State.twinNode, State.node, State.g, h.global]

theorem PortOnly.vat {s t : State} (h : PortOnly s t) (x : Nat) : t.vat x = s.vat x := by
  simp [State.vat, h.2]

/-- A flit that is next in sequence on a port that is UP, of an admitted source that is no fenced twin, and addressed to this
module has its own effect once its acknowledgement is taken and it is accepted. -/
theorem State.rxFlit_delivers (s : State) (r : Rx) (f : Flit) (deliver : State → State) (h : s.portState r.port.val = 2)
    (hq : r.seq.toNat = (s.port r.port.val).rxSeq) (ha : s.admitted f.src = true) (hf : s.fenced f.src = false)
    (hd : f.dst = s.node) :
    s.rxFlit r f deliver =
      deliver ((s.flitsAcked r.port.val (r.ack.map BitVec.toNat)).acceptFlit r.port.val (vcOf f.typ)) := by
  have k := s.flitsAcked_sends r.port.val (r.ack.map BitVec.toNat) r.port.isLt
  have k2 := k.1.trans (State.acceptFlit_portOnly (s.flitsAcked r.port.val (r.ack.map BitVec.toNat)) r.port.val (vcOf f.typ)
    r.port.isLt)
  simp [State.rxFlit, h, k.2, hq, k2.admitted, k2.fenced, k2.node, ha, hf, hd]

/-- The same of a collective's flit: it reaches the collective of its CID and its sender's place there, or is dropped and counted. -/
theorem State.collFlit_delivers (s : State) (r : Rx) (typ : Nat) (cid : BitVec 12) (addr : Nat) (bs : List Nat)
    (f : Fin 4 → Coll → Nat → State → State) (hv : vcOf typ = 2) (h : s.portState r.port.val = 2)
    (hq : r.seq.toNat = (s.port r.port.val).rxSeq) (ha : s.admitted r.src.toNat = true) (hf : s.fenced r.src.toNat = false)
    (hd : r.dst.toNat = s.node) :
    s.collFlit r typ cid addr bs f =
      match s.coll (cid.toNat / 1024 % 4) cid.toNat with
      | none => ((s.flitsAcked r.port.val (r.ack.map BitVec.toNat)).acceptFlit r.port.val 2).bumpPort .SL_ROUTE_DROP r.port.val 1
      | some c =>
        match c.others.find? fun i => nth 0x100 c.desc.nodes i == r.src.toNat with
        | none => ((s.flitsAcked r.port.val (r.ack.map BitVec.toNat)).acceptFlit r.port.val 2).bumpPort .SL_ROUTE_DROP r.port.val 1
        | some i => f (Fin.ofNat 4 (cid.toNat / 1024)) c i
            ((s.flitsAcked r.port.val (r.ack.map BitVec.toNat)).acceptFlit r.port.val 2) := by
  unfold State.collFlit
  rw [State.rxFlit_delivers s r (rxAsFlit r typ (bs.length - 1) (cid.toNat * 2 ^ 32 + addr) bs) _ h hq ha hf hd]
  have hp := (s.flitsAcked_sends r.port.val (r.ack.map BitVec.toNat) r.port.isLt).1.trans
    (State.acceptFlit_portOnly (s.flitsAcked r.port.val (r.ack.map BitVec.toNat)) r.port.val 2 r.port.isLt)
  have ht : (rxAsFlit r typ (bs.length - 1) (cid.toNat * 2 ^ 32 + addr) bs).typ = typ := rfl
  rw [ht, hv]
  simp only [State.coll, hp.vat]
  rfl

end Sys2Proof.Machine
end

