-- ==== Sys2Proof/Laws/Vector.lean ====
section
/-!
SUPPORT. What the operations of Machine/Vector.lean keep (Keep.lean).
-/

namespace Sys2Proof.Machine

theorem State.setVec_keeps (s : State) (core : Nat) (x : VecS) :
    Keeps s (s.setVec core x) := by
  unfold State.setVec
  grind [Keeps, KeepsP, KeepsQ, State.still, State.canonical]

theorem State.vecRead_keeps (s : State) (core space off n : Nat) :
    KeepsP s (s.vecRead core space off n) := by
  unfold State.vecRead
  grind [Keeps, KeepsP, KeepsQ, State.spRead_keeps]

theorem State.vecWrite_keeps (s : State) (core space off : Nat) (bs : List Nat) :
    KeepsP s (s.vecWrite core space off bs) := by
  unfold State.vecWrite
  grind [Keeps, KeepsP, KeepsQ, State.still, State.canonical, State.spWrite_keeps]

theorem State.vecElem_keeps (s : State) (core : Nat) (d : Option StreamD) (r j : Nat) :
    KeepsP s (s.vecElem core d r j) := by
  unfold State.vecElem
  grind [Keeps, KeepsP, KeepsQ, State.vecRead_keeps]

theorem State.vecRow_keeps (s : State) (core : Nat) (v : VecRun) (r : Nat) (x0 : Nat) (x1 : Nat) (x2 : RowAcc) :
    KeepsP s (s.vecRow core v r x0 x1 x2) := by
  fun_induction State.vecRow <;> grind [Keeps, KeepsP, KeepsQ, State.still, State.canonical, foldl_keeps, State.vecWrite_keeps, State.vecElem_keeps]

theorem State.vecRows_keeps (s : State) (core : Nat) (v : VecRun) (x0 : Nat) (x1 : Nat) (x2 : (Nat × Nat × Nat × Nat)) :
    KeepsP s (s.vecRows core v x0 x1 x2) := by
  fun_induction State.vecRows <;> grind [Keeps, KeepsP, KeepsQ, State.still, State.canonical, State.vecWrite_keeps, State.vecRow_keeps]

theorem State.vecFault_keeps (s : State) (core cause row opidx : Nat) :
    Keeps s (s.vecFault core cause row opidx) := by
  unfold State.vecFault
  grind [Keeps, KeepsP, KeepsQ, State.still, State.canonical, State.setRg_keeps, State.seqFault_keeps, State.setVec_keeps]

theorem State.vecStart_keeps (s : State) (core : Nat) :
    Keeps s (s.vecStart core) := by
  unfold State.vecStart
  grind [Keeps, KeepsP, KeepsQ, State.still, State.canonical, State.setVec_keeps]

theorem State.deliverSummary_keeps (s : State) (core : Nat) (c : VecCmd) (word : Nat) :
    Keeps s (s.deliverSummary core c word) := by
  unfold State.deliverSummary
  grind [Keeps, KeepsP, KeepsQ, State.setRg_keeps, State.setSc_keeps]

theorem State.vecFinish_keeps (s : State) (core : Nat) (stop : Option Nat) (flt : Option (Nat × Nat × Nat)) :
    Keeps s (s.vecFinish core stop flt) := by
  unfold State.vecFinish
  (repeat' split) <;> grind (splits := 40) (ematch := 40) (gen := 40) [Keeps, KeepsP, KeepsQ, State.still, State.canonical, State.bump_keeps, State.freshVal_keeps, State.raise_keeps, State.addSem_keeps, State.setVec_keeps, State.vecRows_keeps, State.vecFault_keeps, State.deliverSummary_keeps]

end Sys2Proof.Machine
end

