-- ==== Sys2Proof/Laws/Teasel.lean ====
section
/-!
SUPPORT. What the operations of Machine/Teasel.lean keep (Keep.lean).
-/

namespace Sys2Proof.Machine

theorem State.setTea_keeps (s : State) (core : Nat) (x : TeaS) :
    Keeps s (s.setTea core x) := by
  unfold State.setTea
  grind [Keeps, KeepsP, KeepsQ, State.still, State.canonical]

theorem State.teaWrite_keeps (s : State) (core i v : Nat) :
    Keeps s (s.teaWrite core i v) := by
  unfold State.teaWrite
  grind [Keeps, KeepsP, KeepsQ, State.setRg_keeps, State.setTea_keeps]

theorem State.snoopAssign_keeps (s : State) (core : Nat) (f : MatF) :
    KeepsP s (s.snoopAssign core f) := by
  unfold State.snoopAssign
  grind [Keeps, KeepsP, KeepsQ, State.still, State.canonical, State.setTea_keeps]

theorem State.teaFault_keeps (s : State) (core cause slot : Nat) :
    Keeps s (s.teaFault core cause slot) := by
  unfold State.teaFault
  grind [Keeps, KeepsP, KeepsQ, State.still, State.canonical, State.setRg_keeps, State.seqFault_keeps, State.setTea_keeps]

theorem State.teaCapture_keeps (s : State) (core a part : Nat) (parity : Bool) :
    Keeps s (s.teaCapture core a part parity) := by
  unfold State.teaCapture
  split <;> grind [Keeps, KeepsP, KeepsQ, State.still, State.canonical, State.bump_keeps, State.spWrite_keeps, State.setArr_keeps, State.arrFault_keeps, State.streamRow_keeps, State.setTea_keeps, State.teaFault_keeps]

theorem teaTileAt_keeps (core off : Nat) (ar : Arith) (f : Fp) (e2 cursor : Nat) (rows : List (List Nat)) (s : State) (x : (Nat × Nat) × Nat) :
    KeepsP s (teaTileAt core off ar f e2 cursor rows s x) := by
  unfold teaTileAt
  grind [Keeps, KeepsP, State.spRead_keeps, State.spWrite_keeps]

theorem State.teaUpdateRows_keeps (s : State) (core : Nat) (w : Sweep) (f : Fp) (e2 : Nat) (rest : List Sweep) (tiles : List ((Nat × Nat) × Nat)) :
    Keeps s (s.teaUpdateRows core w f e2 rest tiles) := by
  unfold State.teaUpdateRows
  extract_lets pr base
  have h3 := s.readRuns_keeps core base (bits pr 32 16) (w.cursor * f.size) w.rows
  generalize s.readRuns core base (bits pr 32 16) (w.cursor * f.size) w.rows = q at h3
  obtain ⟨z, _ | runs⟩ := q
  · exact Keeps.trans h3 (State.teaFault_keeps _ _ _ _)
  · have h4 := fun ar => z.untilFlags_keeps _ tiles
      (teaTileAt_keeps core (s.slotOff core w.slot) ar f e2 w.cursor (runs.map (elems f.size)))
    have h5 := h4 { z.arith (core / 16) with strict := false }
    dsimp only
    split <;> rename_i e <;> rw [e] at h5
    · rename_i y c fl
      exact (Keeps.trans h3 h5).trans (Keeps.trans y.freshVal_keeps
        ((State.raise_keeps _ _ _ _).trans (State.teaFault_keeps _ _ _ _)))
    · exact (Keeps.trans h3 h5).trans (State.setTea_keeps _ _ _)

theorem State.teaUpdate_keeps (s : State) (core : Nat) (parity : Bool) :
    Keeps s (s.teaUpdate core parity) := by
  unfold State.teaUpdate
  grind [Keeps, KeepsP, KeepsQ, State.spRead_keeps, State.teaFault_keeps, State.teaUpdateRows_keeps]

theorem State.teaUpdateDone_keeps (s : State) (core : Nat) (parity : Bool) :
    Keeps s (s.teaUpdateDone core parity) := by
  unfold State.teaUpdateDone
  split <;> grind [Keeps, KeepsP, KeepsQ, State.still, State.canonical, State.bump_keeps, State.freshVal_keeps, State.raise_keeps, State.spRead_keeps, State.spWrite_keeps, State.setTea_keeps, State.teaFault_keeps]

theorem State.flushAccept_keeps (s : State) (core addr : Nat) (sig : Bool) (sem : Nat) :
    Keeps s (s.flushAccept core addr sig sem) := by
  unfold State.flushAccept
  grind [Keeps, KeepsP, KeepsQ, State.still, State.canonical, State.setTea_keeps]

theorem flushSlot_keeps (len core : Nat) (g : Flush) (s : State) (j : Nat) :
    KeepsP s (flushSlot len core g s j) := by
  unfold flushSlot
  grind [Keeps, KeepsP, KeepsQ, State.boardWriteFor_keeps, State.spRead_keeps, State.spWrite_keeps]

theorem State.flushSlots_keeps (s : State) (core : Nat) (g : Flush) (n : Nat) :
    KeepsP s (s.flushSlots core g n) := by
  unfold State.flushSlots
  exact State.untilFail_keeps _ _ _ (flushSlot_keeps slotBytes core g)

theorem State.flushEnd_keeps (s : State) (core : Nat) (g : Flush) (rest : List Flush) :
    Keeps s (s.flushEnd core g rest) := by
  unfold State.flushEnd
  grind [Keeps, KeepsP, KeepsQ, State.still, State.canonical, State.addSem_keeps, State.setTea_keeps]

theorem State.flushDone_keeps (s : State) (core : Nat) (parity : Bool) :
    Keeps s (s.flushDone core parity) := by
  unfold State.flushDone
  (repeat' split) <;> grind (splits := 40) (ematch := 40) (gen := 40) [Keeps, KeepsP, KeepsQ, State.still, State.canonical, State.freshVal_keeps, State.setTea_keeps, State.teaFault_keeps, State.flushSlots_keeps, State.flushEnd_keeps]

end Sys2Proof.Machine
end

