-- ==== Sys2Proof/Laws/Engines.lean ====
section
/-!
SUPPORT. What the operations of Machine/Engines.lean keep (Keep.lean).
-/

namespace Sys2Proof.Machine

theorem State.setRen_keeps (s : State) (m e : Nat) (x : RenS) :
    Keeps s (s.setRen m e x) := by
  unfold State.setRen
  grind [Keeps, KeepsP, KeepsQ, State.still, State.canonical]

theorem State.setPress_keeps (s : State) (m e : Nat) (x : PressS) :
    Keeps s (s.setPress m e x) := by
  unfold State.setPress
  grind [Keeps, KeepsP, KeepsQ, State.still, State.canonical]

theorem State.setVat_keeps (s : State) (x : Nat) (v : VatS) :
    Keeps s (s.setVat x v) := by
  unfold State.setVat
  grind [Keeps, KeepsP, KeepsQ, State.still, State.canonical]

theorem State.setRenState_keeps (s : State) (m e st : Nat) :
    Keeps s (s.setRenState m e st) := by
  unfold State.setRenState
  grind [Keeps, KeepsP, KeepsQ, State.setFld_keeps]

theorem State.setPrState_keeps (s : State) (m e st : Nat) :
    Keeps s (s.setPrState m e st) := by
  unfold State.setPrState
  grind [Keeps, KeepsP, KeepsQ, State.setFld_keeps]

theorem State.rnWriteStatus_keeps (s : State) (m e i status cause flags mid : Nat) (scale : Int) :
    KeepsP s (s.rnWriteStatus m e i status cause flags mid scale) := by
  unfold State.rnWriteStatus
  grind [Keeps, KeepsP, KeepsQ, State.writeRange_keeps]

theorem State.rnDrop_keeps (s : State) (m e : Nat) :
    Keeps s (s.rnDrop m e) := by
  unfold State.rnDrop
  grind [Keeps, KeepsP, KeepsQ, foldl_keeps, State.rnWriteStatus_keeps]

theorem State.rennetFault_keeps (s : State) (m e cause entry : Nat) :
    Keeps s (s.rennetFault m e cause entry) := by
  unfold State.rennetFault
  grind [Keeps, KeepsP, KeepsQ, State.setRg_keeps, State.setFld_keeps, State.dieFault_keeps, State.dropWait_keeps, State.setRenState_keeps, State.rnDrop_keeps]

theorem State.pressFault_keeps (s : State) (m e cause entry : Nat) :
    Keeps s (s.pressFault m e cause entry) := by
  unfold State.pressFault
  grind [Keeps, KeepsP, KeepsQ, State.setRg_keeps, State.setFld_keeps, State.dieFault_keeps, State.dropWait_keeps, State.setPrState_keeps]

theorem State.rennetArm_keeps (s : State) (m e : Nat) :
    Keeps s (s.rennetArm m e) := by
  unfold State.rennetArm
  grind [Keeps, KeepsP, KeepsQ, State.unitWait_keeps, State.setRenState_keeps]

theorem rnMarked_keeps (s : State) (m e i : Nat) (p : State × Option MemErr) (h : KeepsP s p) :
    KeepsP s (rnMarked m e i p) := by
  unfold rnMarked
  split
  · exact h
  · exact Keeps.trans h (State.rennetFault_keeps _ _ _ _ _)

theorem rnAbandonOne_keeps (m e : Nat) (s : State) (i : Nat) :
    KeepsP s (rnAbandonOne m e s i) := by
  exact rnMarked_keeps _ _ _ _ _ (s.rnWriteStatus_keeps m e i 3 0 0 0 0)

theorem State.rnAbandon_keeps (s : State) (m e n i : Nat) :
    Keeps s (s.rnAbandon m e n i) := by
  unfold State.rnAbandon
  exact State.untilFail_keeps _ _ _ (rnAbandonOne_keeps m e)

theorem State.rennetMissed_keeps (s : State) (m e : Nat) :
    Keeps s (s.rennetMissed m e) := by
  unfold State.rennetMissed
  grind [Keeps, KeepsP, KeepsQ, State.setFld_keeps, State.bump_keeps]

theorem State.rennetDecided_keeps (s : State) (m e : Nat) (committed : Bool) :
    Keeps s (s.rennetDecided m e committed) := by
  unfold State.rennetDecided
  have h1 (x) := s.setRen_keeps m e x
  have h2 (z : State) (a b : Nat) := State.rnAbandon_keeps z m e a b
  have h3 (z : State) := z.rennetMissed_keeps m e
  have h4 (z : State) := z.rennetArm_keeps m e
  dsimp only
  repeat' split
  · exact h1 _
  · exact h1 _
  · exact (h1 _).trans ((h2 _ _ _).trans (h3 _))
  · exact (h1 _).trans ((h2 _ _ _).trans ((h3 _).trans (h4 _)))
  · exact (h1 _).trans (h4 _)
  · exact Keeps.refl s

theorem State.pressDecided_keeps (s : State) (m e k : Nat) (cause : Option Nat) :
    Keeps s (s.pressDecided m e k cause) := by
  unfold State.pressDecided
  grind [Keeps, KeepsP, KeepsQ, State.still, State.canonical, State.setPress_keeps, State.setPrState_keeps, State.pressFault_keeps]

theorem State.enginesDecided_keeps (s : State) (h inst k : Nat) (cause : Option Nat) :
    Keeps s (s.enginesDecided h inst k cause) := by
  unfold State.enginesDecided
  grind [Keeps, KeepsP, KeepsQ, foldl_keeps, State.setG_keeps, State.bump_keeps, State.rennetDecided_keeps, State.pressDecided_keeps]

theorem State.brineRecord_keeps (s : State) (step e : Nat) :
    Keeps s (s.brineRecord step e) := by
  unfold State.brineRecord
  grind [Keeps, KeepsP, KeepsQ, State.setRg_keeps]

theorem State.brineLog_keeps (s : State) (step : Nat) :
    Keeps s (s.brineLog step) := by
  unfold State.brineLog
  grind [Keeps, KeepsP, KeepsQ, foldl_keeps, State.setRg_keeps]

theorem State.brineVerdict_keeps (s : State) (k : Nat) (ovf : Bool) :
    Keeps s (s.brineVerdict k ovf) := by
  unfold State.brineVerdict
  grind [Keeps, KeepsP, KeepsQ, State.setRg_keeps, State.setG_keeps, State.bump_keeps, State.brineRecord_keeps, State.brineLog_keeps]

theorem State.caveMap_keeps (s : State) :
    KeepsP s (s.caveMap) := by
  unfold State.caveMap
  grind [Keeps, KeepsP, KeepsQ, State.readRange_keeps]

theorem State.captureBegin_keeps (s : State) (k : Nat) (sel : List (Reg × Nat × Nat × Nat)) :
    Keeps s (s.captureBegin k sel) := by
  unfold State.captureBegin
  grind [Keeps, KeepsP, KeepsQ, State.still, State.canonical, State.setG_keeps, State.bump_keeps, State.caveMap_keeps]

end Sys2Proof.Machine
end

