-- ==== Sys2Proof/Laws/Hoop.lean ====
section
/-!
SUPPORT. What the operations of Machine/Hoop.lean keep (Keep.lean).
-/

namespace Sys2Proof.Machine

theorem State.setHoop_keeps (s : State) (h : Nat) (x : HoopS) :
    Keeps s (s.setHoop h x) := by
  unfold State.setHoop
  grind [Keeps, KeepsP, KeepsQ, State.still, State.canonical]

theorem State.setHoopSt_keeps (s : State) (h lo w v : Nat) :
    Keeps s (s.setHoopSt h lo w v) := by
  unfold State.setHoopSt
  grind [Keeps, KeepsP, KeepsQ, State.setFld_keeps]

theorem State.hoopOpen_keeps (s : State) (h : Nat) :
    Keeps s (s.hoopOpen h) := by
  unfold State.hoopOpen
  grind [Keeps, KeepsP, KeepsQ, State.still, State.canonical, State.setRg_keeps, State.setHoop_keeps]

theorem State.releaseHoop_keeps (s : State) (h inst res epoch : Nat) (x0 : List Nat) :
    Keeps s (s.releaseHoop h inst res epoch x0) := by
  fun_induction State.releaseHoop <;> grind [Keeps, KeepsP, KeepsQ, State.still, State.canonical, State.setSc_keeps, State.retire_keeps]

theorem State.hoopDecide_keeps (s : State) (h : Nat) (cause : Option Nat) (field epoch : Nat) :
    Keeps s (s.hoopDecide h cause field epoch) := by
  unfold State.hoopDecide
  grind [Keeps, KeepsP, KeepsQ, State.still, State.canonical, State.setRg_keeps, State.enginesDecided_keeps, State.setHoop_keeps, State.setHoopSt_keeps, State.hoopOpen_keeps, State.releaseHoop_keeps]

theorem State.sendAborts_keeps (s : State) (h inst : Nat) (x0 : List Nat) :
    Keeps s (s.sendAborts h inst x0) := by
  fun_induction State.sendAborts <;> grind [Keeps, KeepsP, KeepsQ, State.still, State.canonical, State.sendFrame_keeps]

theorem State.hoopAbort_keeps (s : State) (h cause : Nat) :
    Keeps s (s.hoopAbort h cause) := by
  unfold State.hoopAbort
  grind [Keeps, KeepsP, KeepsQ, State.still, State.canonical, State.setHoop_keeps, State.hoopDecide_keeps, State.sendAborts_keeps]

theorem State.hoopStop_keeps (s : State) :
    Keeps s (s.hoopStop) := by
  unfold State.hoopStop
  grind [Keeps, KeepsP, KeepsQ, foldl_keeps, State.hoopAbort_keeps]

theorem State.hoopStage_keeps (s : State) (h kind : Nat) (target value : BitVec 64) :
    KeepsP s (s.hoopStage h kind target value) := by
  unfold State.hoopStage
  grind [Keeps, KeepsP, KeepsQ, State.still, State.canonical, State.setHoop_keeps, State.setHoopSt_keeps, State.hoopAbort_keeps]

theorem State.hoopReady_keeps (s : State) (h : Nat) :
    KeepsP s (s.hoopReady h) := by
  unfold State.hoopReady
  grind [Keeps, KeepsP, KeepsQ, State.setHoopSt_keeps]

theorem State.moduleItem_keeps (s : State) (e : Nat) (x : HItem) :
    Keeps s (s.moduleItem e x) := by
  unfold State.moduleItem
  grind [Keeps, KeepsP, KeepsQ, State.setRg_keeps, State.setG_keeps]

theorem State.caveTake_keeps (s : State) (m : Nat) :
    Keeps s (s.caveTake m) := by
  unfold State.caveTake
  grind [Keeps, KeepsP, KeepsQ, State.still, State.canonical, State.setFld_keeps]

theorem State.caveGive_keeps (s : State) (m : Nat) :
    Keeps s (s.caveGive m) := by
  unfold State.caveGive
  grind [Keeps, KeepsP, KeepsQ, State.still, State.canonical, State.setFld_keeps]

theorem State.caveTakeFrom_keeps (s : State) (m : Nat) :
    Keeps s (s.caveTakeFrom m) := by
  unfold State.caveTakeFrom
  grind [Keeps, KeepsP, KeepsQ, foldl_keeps, State.caveTake_keeps]

theorem State.advanceModule_keeps (s : State) (e commits : Nat) (aborts : List (Nat × Nat)) (flags : Nat) :
    Keeps s (s.advanceModule e commits aborts flags) := by
  unfold State.advanceModule
  grind (splits := 40) (ematch := 40) (gen := 40) [Keeps, KeepsP, KeepsQ, State.still, State.canonical, foldl_keeps, State.captureBegin_keeps, State.hoopDecide_keeps, State.moduleItem_keeps, State.caveTakeFrom_keeps]

theorem State.brineEpoch_keeps (s : State) (e flags : Nat) :
    Keeps s (s.brineEpoch e flags) := by
  unfold State.brineEpoch
  grind [Keeps, KeepsP, KeepsQ, State.brineVerdict_keeps]

theorem State.decideEpoch_keeps (s : State) (gen ready flags : Nat) :
    Keeps s (s.decideEpoch gen ready flags) := by
  unfold State.decideEpoch
  grind [Keeps, KeepsP, KeepsQ, foldl_keeps, State.sendFrame_keeps, State.sendAborts_keeps, State.advanceModule_keeps, State.brineEpoch_keeps]

theorem State.advanceFrame_keeps (s : State) (e commits aborts flags : Nat) :
    Keeps s (s.advanceFrame e commits aborts flags) := by
  unfold State.advanceFrame
  grind [Keeps, KeepsP, KeepsQ, State.advanceModule_keeps, State.brineEpoch_keeps]

theorem State.completeDies_keeps (s : State) (ctx gen : Nat) :
    Keeps s (s.completeDies ctx gen) := by
  unfold State.completeDies
  grind [Keeps, KeepsP, KeepsQ, State.still, State.canonical]

theorem State.rootCheck_keeps (s : State) (ctx gen : Nat) :
    Keeps s (s.rootCheck ctx gen) := by
  unfold State.rootCheck
  have h1 (l : List RootArr) : Keeps s { s with rootArr := l } := ⟨rfl, id⟩
  have h2 (z : State) (l : List Nat) (g : Nat → Frame) : Keeps z (l.foldl (fun y n => y.sendFrame n (g n)) z) :=
    foldl_keeps _ _ _ fun y x => State.sendFrame_keeps _ _ _
  extract_lets mine own need
  clear_value need
  split
  · exact Keeps.refl s
  · by_cases hc : ctx = 0
    · rw [if_pos hc]; exact (h1 _).trans (State.decideEpoch_keeps _ _ _ _)
    · rw [if_neg hc]; exact (h1 _).trans ((h2 _ _ _).trans (State.completeDies_keeps _ _ _))

theorem State.moduleCheck_keeps (s : State) (ctx gen : Nat) :
    Keeps s (s.moduleCheck ctx gen) := by
  unfold State.moduleCheck
  grind [Keeps, KeepsP, KeepsQ, State.still, State.canonical, foldl_keeps, State.sendFrame_keeps, State.rootCheck_keeps]

theorem State.arriveDie_keeps (s : State) (die ctx gen ready flags : Nat) :
    Keeps s (s.arriveDie die ctx gen ready flags) := by
  unfold State.arriveDie
  grind [Keeps, KeepsP, KeepsQ, State.still, State.canonical, State.moduleCheck_keeps]

theorem State.arriveNode_keeps (s : State) (node ctx gen ready flags : Nat) :
    Keeps s (s.arriveNode node ctx gen ready flags) := by
  unfold State.arriveNode
  grind [Keeps, KeepsP, KeepsQ, State.still, State.canonical, State.rootCheck_keeps]

theorem State.publish_keeps (s : State) (die off v : Nat) :
    Keeps s (s.publish die off v) := by
  unfold State.publish
  grind [Keeps, KeepsP, KeepsQ, foldl_keeps, State.spWrite_keeps]

theorem State.dieItem_keeps (s : State) (die : Nat) (x : HItem) :
    Keeps s (s.dieItem die x) := by
  unfold State.dieItem
  grind [Keeps, KeepsP, KeepsQ, State.setRg_keeps, State.publish_keeps]

theorem State.advanceDie_keeps (s : State) (die e : Nat) (items : List HItem) :
    Keeps s (s.advanceDie die e items) := by
  unfold State.advanceDie
  grind [Keeps, KeepsP, KeepsQ, State.still, State.canonical, foldl_keeps, State.setRg_keeps, State.handover_keeps, State.completeAt_keeps, State.addSem_keeps, State.autoArm_keeps, State.publish_keeps, State.dieItem_keeps]

end Sys2Proof.Machine
end

