-- ==== Sys2Proof/Laws/Dma.lean ====
section
/-!
SUPPORT. What the operations of Machine/Dma.lean keep (Keep.lean).
-/

namespace Sys2Proof.Machine

theorem State.setDma_keeps (s : State) (die ch : Nat) (x : DmaS) :
    Keeps s (s.setDma die ch x) := by
  unfold State.setDma
  grind [Keeps, KeepsP, KeepsQ, State.still, State.canonical]

theorem State.dmaRecord_keeps (s : State) (die ch cause tag : Nat) :
    Keeps s (s.dmaRecord die ch cause tag) := by
  unfold State.dmaRecord
  grind [Keeps, KeepsP, KeepsQ, State.setRg_keeps]

theorem State.dmaFault_keeps (s : State) (die ch cause : Nat) :
    Keeps s (s.dmaFault die ch cause) := by
  unfold State.dmaFault
  grind [Keeps, KeepsP, KeepsQ, State.still, State.canonical, State.dieFault_keeps, State.setDma_keeps, State.dmaRecord_keeps]

theorem State.dmaUnread_keeps (s : State) (die ch cause : Nat) :
    KeepsP s (s.dmaUnread die ch cause) := by
  unfold State.dmaUnread
  grind [Keeps, KeepsP, KeepsQ, State.freshVal_keeps, State.dmaRecord_keeps]

theorem State.dmaTake_keeps (s : State) (die ch owner : Nat) (bs : List Nat) :
    KeepsP s (s.dmaTake die ch owner bs) := by
  unfold State.dmaTake
  grind [Keeps, KeepsP, KeepsQ, State.still, State.canonical, State.setDma_keeps, State.dmaRecord_keeps]

theorem State.dmaSubmit_keeps (s : State) (die ch owner addr : Nat) (inside : Bool) (r : Requester) :
    KeepsP s (s.dmaSubmit die ch owner addr inside r) := by
  unfold State.dmaSubmit
  grind [Keeps, KeepsP, KeepsQ, State.memRead_keeps, State.dmaUnread_keeps, State.dmaTake_keeps]

theorem State.dmaRegSubmit_keeps (s : State) (d : Die) (ch v : Nat) :
    KeepsP s (s.dmaRegSubmit d ch v) := by
  unfold State.dmaRegSubmit
  grind [Keeps, KeepsP, KeepsQ, State.sendReads_keeps, State.dmaUnread_keeps, State.dmaSubmit_keeps]

theorem State.dmaDelivered_keeps (s : State) (die ch : Nat) (bs : Option (List Nat)) :
    Keeps s (s.dmaDelivered die ch bs) := by
  unfold State.dmaDelivered
  grind [Keeps, KeepsP, KeepsQ, State.answer_keeps, State.dmaUnread_keeps, State.dmaTake_keeps]

theorem State.overlapFree_keeps (s : State) (f : DmaF) (b : Burst) (bs : List Nat) :
    KeepsP s (s.overlapFree f b bs) := by
  unfold State.overlapFree
  grind [Keeps, KeepsP, KeepsQ, State.still, State.canonical]

theorem State.burstDone_keeps (s : State) (die ch n : Nat) :
    Keeps s (s.burstDone die ch n) := by
  unfold State.burstDone
  grind [Keeps, KeepsP, KeepsQ, State.still, State.canonical, State.bump_keeps, State.setDma_keeps]

theorem State.burstStore_keeps (s : State) (d : Die) (ch : Nat) (f : DmaF) (b : Burst) (bs : List Nat) :
    Keeps s (s.burstStore d ch f b bs) := by
  unfold State.burstStore
  grind [Keeps, KeepsP, KeepsQ, State.still, State.canonical, State.sendWrites_keeps, State.memWrite_keeps, State.setDma_keeps, State.dmaFault_keeps, State.overlapFree_keeps, State.burstDone_keeps]

theorem State.runBurst_keeps (s : State) (d : Die) (ch : Nat) (f : DmaF) (b : Burst) :
    Keeps s (s.runBurst d ch f b) := by
  unfold State.runBurst
  grind [Keeps, KeepsP, KeepsQ, State.still, State.canonical, State.sendReads_keeps, State.memRead_keeps, State.setDma_keeps, State.dmaFault_keeps, State.burstStore_keeps]

theorem State.noteGrant_keeps (s : State) (die ch level : Nat) (others : List Nat) :
    Keeps s (s.noteGrant die ch level others) := by
  unfold State.noteGrant
  grind [Keeps, KeepsP, KeepsQ, State.still, State.canonical, foldl_keeps, State.setDma_keeps]

theorem State.burstGo_keeps (s : State) (d : Die) (ch : Nat) :
    Keeps s (s.burstGo d ch) := by
  unfold State.burstGo
  grind [Keeps, KeepsP, KeepsQ, State.burstStore_keeps]

theorem State.disturb_keeps (s : State) (blk bad : Nat) :
    Keeps s (s.disturb blk bad) := by
  unfold State.disturb
  grind [Keeps, KeepsP, KeepsQ, State.still, State.canonical]

theorem State.disturbAll_keeps (s : State) (bad : List (BitVec 44 × Fin 5)) :
    Keeps s (s.disturbAll bad) := by
  unfold State.disturbAll
  exact foldl_keeps _ _ _ fun z _ => State.disturb_keeps z _ _

theorem State.dmaBurst_keeps (s : State) (d : Die) (ch : Nat) (bad : List (BitVec 44 × Fin 5)) :
    Keeps s (s.dmaBurst d ch bad) := by
  unfold State.dmaBurst
  split
  · exact State.burstGo_keeps _ _ _
  · split
    · split
      · exact ((State.disturbAll_keeps s bad).trans (State.runBurst_keeps _ _ _ _ _)).trans (State.noteGrant_keeps _ _ _ _ _)
      · exact Keeps.refl s
    · exact Keeps.refl s

theorem State.dmaDeliver_keeps (s : State) (die ch tag : Nat) (bs : Option (List Nat)) :
    Keeps s (s.dmaDeliver die ch tag bs) := by
  unfold State.dmaDeliver
  grind [Keeps, KeepsP, KeepsQ, State.still, State.canonical, State.setDma_keeps, State.dmaFault_keeps, State.burstGo_keeps]

theorem State.dmaAcked_keeps (s : State) (die ch : Nat) (err : Bool) :
    Keeps s (s.dmaAcked die ch err) := by
  unfold State.dmaAcked
  grind [Keeps, KeepsP, KeepsQ, State.dmaFault_keeps, State.burstDone_keeps]

end Sys2Proof.Machine
end

