-- ==== Sys2Proof/Laws/MemTier.lean ====
section
/-!
SUPPORT. What the operations of Machine/MemTier.lean keep (Keep.lean).
-/

namespace Sys2Proof.Machine

theorem State.ccDrop_keeps (s : State) (east : Bool) (line : Nat) :
    Keeps s (s.ccDrop east line) := by
  unfold State.ccDrop
  grind [Keeps, KeepsP, KeepsQ, State.still, State.canonical]

theorem State.ccHold_keeps (s : State) (east : Bool) (line : Nat) (bs : List Nat) (dirty : Bool) :
    Keeps s (s.ccHold east line bs dirty) := by
  unfold State.ccHold
  grind [Keeps, KeepsP, KeepsQ, State.still, State.canonical, State.ccDrop_keeps]

theorem State.ccClean_keeps (s : State) (east : Bool) (line : Nat) :
    Keeps s (s.ccClean east line) := by
  unfold State.ccClean
  grind [Keeps, KeepsP, KeepsQ, State.memWrite_keeps, State.ccHold_keeps]

theorem State.ccEvict_keeps (s : State) (east : Bool) (x0 : List Nat) :
    Keeps s (s.ccEvict east x0) := by
  fun_induction State.ccEvict <;> grind [Keeps, KeepsP, KeepsQ, State.still, State.canonical, State.freshVal_keeps, State.ccDrop_keeps, State.ccClean_keeps]

theorem State.ccFill_keeps (s : State) (east : Bool) (bs : List Nat) (x0 : List Nat) :
    KeepsP s (s.ccFill east bs x0) := by
  fun_induction State.ccFill <;> grind [Keeps, KeepsP, KeepsQ, State.still, State.canonical, State.ccHold_keeps]

theorem State.ccPatch_keeps (s : State) (east : Bool) (addr : Nat) (bs : List Nat) :
    Keeps s (s.ccPatch east addr bs) := by
  unfold State.ccPatch
  grind [Keeps, KeepsP, KeepsQ, State.still, State.canonical]

theorem State.ccHoldWrite_keeps (s : State) (east : Bool) (addr : Nat) (bs : List Nat) (x0 : List Nat) :
    ∀ t, s.ccHoldWrite east addr bs x0 = some t → Keeps s t := by
  intro t h
  fun_induction State.ccHoldWrite <;> grind [Keeps, KeepsP, KeepsQ, State.still, State.canonical, State.memRead_keeps, State.ccHold_keeps, State.ccPatch_keeps]

theorem State.ccCacheOp_keeps (s : State) (east : Bool) (op addr : Nat) :
    Keeps s (s.ccCacheOp east op addr) := by
  unfold State.ccCacheOp
  grind [Keeps, KeepsP, KeepsQ, State.ccDrop_keeps, State.ccClean_keeps]

theorem State.tierBlock_keeps (s : State) (r : Requester) (a : Nat) (bad : Fin 5) :
    KeepsP s (s.tierBlock r a bad) := by
  unfold State.tierBlock
  grind [Keeps, KeepsP, KeepsQ, State.still, State.canonical, State.memRead_keeps, State.disturb_keeps]

theorem State.tierWriteThrough_keeps (s : State) (r : Requester) (addr : Nat) (bs : List Nat) :
    Keeps s (s.tierWriteThrough r addr bs) := by
  unfold State.tierWriteThrough
  grind [Keeps, KeepsP, KeepsQ, State.answer_keeps, State.boardWrite_keeps]

theorem State.mcRetire_keeps (s : State) (m v : Nat) :
    KeepsP s (s.mcRetire m v) := by
  unfold State.mcRetire
  grind [Keeps, KeepsP, KeepsQ, State.still, State.canonical, State.setRg_keeps, State.setFld_keeps]

theorem State.mendLine_keeps (s : State) (m tier ch line : Nat) :
    Keeps s (s.mendLine m tier ch line) := by
  unfold State.mendLine
  grind [Keeps, KeepsP, KeepsQ, State.mend_keeps]

theorem State.setMig_keeps (s : State) (g : Mig) :
    Keeps s (s.setMig g) := by
  unfold State.setMig
  grind [Keeps, KeepsP, KeepsQ, State.still, State.canonical]

end Sys2Proof.Machine
end

