-- ==== Sys2Proof/Laws/Link.lean ====
section
/-!
SUPPORT. What the operations of Machine/Link.lean keep (Keep.lean).
-/

namespace Sys2Proof.Machine

theorem State.setPortState_keeps (s : State) (p st : Nat) :
    Keeps s (s.setPortState p st) := by
  unfold State.setPortState
  grind [Keeps, KeepsP, KeepsQ, State.setPortReg_keeps]

theorem State.setPortBit_keeps (s : State) (p i : Nat) (b : Bool) :
    Keeps s (s.setPortBit p i b) := by
  unfold State.setPortBit
  grind [Keeps, KeepsP, KeepsQ, State.setPortReg_keeps]

theorem State.portRecord_keeps (s : State) (p cause : Nat) :
    Keeps s (s.portRecord p cause) := by
  unfold State.portRecord
  grind [Keeps, KeepsP, KeepsQ, State.setPortReg_keeps]

theorem State.portFail_keeps (s : State) (p cause : Nat) :
    Keeps s (s.portFail p cause) := by
  unfold State.portFail
  grind [Keeps, KeepsP, KeepsQ, State.setRg_keeps, State.dieFault_keeps, State.setPort_keeps, State.vetchFault_keeps, State.setPortState_keeps, State.portRecord_keeps]

theorem State.portRetrain_keeps (s : State) (p : Nat) :
    Keeps s (s.portRetrain p) := by
  unfold State.portRetrain
  grind [Keeps, KeepsP, KeepsQ, State.still, State.canonical, State.setPort_keeps, State.setPortState_keeps]

theorem State.enterFallback_keeps (s : State) (p : Nat) :
    Keeps s (s.enterFallback p) := by
  unfold State.enterFallback
  grind [Keeps, KeepsP, KeepsQ, State.still, State.canonical, foldl_keeps, State.setPort_keeps, State.enqueue_keeps, State.enqueueFrame_keeps, State.setPortBit_keeps]

theorem State.leaveFallback_keeps (s : State) (p : Nat) :
    Keeps s (s.leaveFallback p) := by
  unfold State.leaveFallback
  grind [Keeps, KeepsP, KeepsQ, State.setPortBit_keeps]

theorem State.flitsAcked_keeps (s : State) (p : Nat) (ack : Option Nat) :
    Keeps s (s.flitsAcked p ack) := by
  unfold State.flitsAcked
  grind [Keeps, KeepsP, KeepsQ, State.still, State.canonical, State.setPort_keeps, State.pump_keeps, State.leaveFallback_keeps]

theorem State.framesAcked_keeps (s : State) (p : Nat) (ack : Option Nat) :
    Keeps s (s.framesAcked p ack) := by
  unfold State.framesAcked
  grind [Keeps, KeepsP, KeepsQ, State.still, State.canonical, foldl_keeps, State.setPort_keeps, State.enqueueFrame_keeps, State.leaveFallback_keeps]

theorem State.resendFlits_keeps (s : State) (p seq : Nat) :
    Keeps s (s.resendFlits p seq) := by
  unfold State.resendFlits
  grind [Keeps, KeepsP, KeepsQ, State.still, State.canonical, State.bumpPort_keeps, State.setPort_keeps, State.portFail_keeps, State.portRetrain_keeps]

theorem State.resendFrames_keeps (s : State) (p seq : Nat) :
    Keeps s (s.resendFrames p seq) := by
  unfold State.resendFrames
  grind [Keeps, KeepsP, KeepsQ, State.still, State.canonical, State.bumpPort_keeps, State.setPort_keeps, State.setPortBit_keeps, State.enterFallback_keeps]

theorem State.resendAll_keeps (s : State) (p : Nat) :
    Keeps s (s.resendAll p) := by
  unfold State.resendAll
  grind [Keeps, KeepsP, KeepsQ, State.still, State.canonical, foldl_keeps, State.bumpPort_keeps, State.setPort_keeps, State.pump_keeps, State.enqueueFrame_keeps]

theorem State.nakFlit_keeps (s : State) (p : Nat) :
    Keeps s (s.nakFlit p) := by
  unfold State.nakFlit
  grind [Keeps, KeepsP, KeepsQ, State.still, State.canonical, State.setPort_keeps]

theorem State.nakFrame_keeps (s : State) (p : Nat) :
    Keeps s (s.nakFrame p) := by
  unfold State.nakFrame
  grind [Keeps, KeepsP, KeepsQ, State.still, State.canonical, State.setPort_keeps]

theorem State.sendAck_keeps (s : State) (p : Nat) :
    Keeps s (s.sendAck p) := by
  unfold State.sendAck
  grind [Keeps, KeepsP, KeepsQ, State.still, State.canonical, State.setPort_keeps]

theorem State.sendIdle_keeps (s : State) (p : Nat) :
    Keeps s (s.sendIdle p) := by
  unfold State.sendIdle
  grind [Keeps, KeepsP, KeepsQ, State.still, State.canonical, State.setPort_keeps]

theorem State.sendOwed_keeps (s : State) (p : Nat) :
    Keeps s (s.sendOwed p) := by
  unfold State.sendOwed
  grind [Keeps, KeepsP, KeepsQ, State.sendAck_keeps, State.sendIdle_keeps]

theorem State.acceptFlit_keeps (s : State) (p vc : Nat) :
    Keeps s (s.acceptFlit p vc) := by
  unfold State.acceptFlit
  have h (x) := (s.setPort_keeps p x).trans (State.bumpPort_keeps (s.setPort p x) .SL_RX_FLITS p 1)
  extract_lets x n y s1
  have h1 : Keeps s s1 := h _
  clear_value s1
  split
  · exact h1.trans (State.sendAck_keeps _ _)
  · exact h1

theorem State.acceptFrame_keeps (s : State) (p : Nat) :
    Keeps s (s.acceptFrame p) := by
  unfold State.acceptFrame
  grind [Keeps, KeepsP, KeepsQ, State.still, State.canonical, State.setPort_keeps]

theorem State.respond_keeps (s : State) (typ node tag : Nat) (err : Bool) (bs : List Nat) :
    Keeps s (s.respond typ node tag err bs) := by
  unfold State.respond
  grind [Keeps, KeepsP, KeepsQ, State.sendFlit_keeps]

theorem State.refuseTwin_keeps (s : State) (f : Flit) :
    Keeps s (s.refuseTwin f) := by
  unfold State.refuseTwin
  grind [Keeps, KeepsP, KeepsQ, State.respond_keeps]

theorem State.forward_keeps (s : State) (p : Nat) (f : Flit) :
    Keeps s (s.forward p f) := by
  unfold State.forward
  grind [Keeps, KeepsP, KeepsQ, State.still, State.canonical, State.bumpPort_keeps, State.enqueue_keeps]

theorem State.rxFlit_keeps (s : State) (r : Rx) (f : Flit) (deliver : State → State) (hdeliver : ∀ y0, Keeps y0 (deliver y0)) :
    Keeps s (s.rxFlit r f deliver) := by
  unfold State.rxFlit
  have h1 := s.flitsAcked_keeps r.port.val (r.ack.map BitVec.toNat)
  dsimp only
  repeat' split
  all_goals first
    | exact Keeps.refl s
    | exact h1.trans (State.nakFlit_keeps _ _)
    | exact (h1.trans (State.acceptFlit_keeps _ _ _)).trans (hdeliver _)
    | exact (h1.trans (State.acceptFlit_keeps _ _ _)).trans (State.bumpPort_keeps _ _ _ _)
    | exact (h1.trans (State.acceptFlit_keeps _ _ _)).trans (State.refuseTwin_keeps _ _)
    | exact (h1.trans (State.acceptFlit_keeps _ _ _)).trans (State.forward_keeps _ _ _)

theorem State.signalFrom_keeps (s : State) (node die sem n : Nat) :
    Keeps s (s.signalFrom node die sem n) := by
  unfold State.signalFrom
  grind [Keeps, KeepsP, KeepsQ, State.still, State.canonical, State.signal_keeps]

theorem State.abortFrame_keeps (s : State) (h inst : Nat) :
    Keeps s (s.abortFrame h inst) := by
  unfold State.abortFrame
  grind [Keeps, KeepsP, KeepsQ, State.freshVal_keeps, State.hoopDecide_keeps, State.sendAborts_keeps]

theorem State.deliverFrame_keeps (s : State) (src : Nat) (x0 : Frame) :
    Keeps s (s.deliverFrame src x0) := by
  unfold State.deliverFrame
  grind [Keeps, KeepsP, KeepsQ, State.signal_keeps, State.advanceFrame_keeps, State.completeDies_keeps, State.arriveNode_keeps, State.signalFrom_keeps, State.abortFrame_keeps]

theorem State.takeFrame_keeps (s : State) (p src dst hops : Nat) (b : Frame) :
    Keeps s (s.takeFrame p src dst hops b) := by
  unfold State.takeFrame
  grind [Keeps, KeepsP, KeepsQ, State.bumpPort_keeps, State.enqueueFrame_keeps, State.deliverFrame_keeps]

theorem State.frameAcks_keeps (s : State) (p : Nat) (ack : Option Nat) (nak : Bool) :
    Keeps s (s.frameAcks p ack nak) := by
  unfold State.frameAcks
  grind [Keeps, KeepsP, KeepsQ, State.framesAcked_keeps, State.resendFrames_keeps]

theorem State.rxFrame_keeps (s : State) (r : FRx) (b : Frame) :
    Keeps s (s.rxFrame r b) := by
  unfold State.rxFrame
  grind [Keeps, KeepsP, KeepsQ, State.still, State.canonical, State.nakFrame_keeps, State.acceptFrame_keeps, State.takeFrame_keeps, State.frameAcks_keeps]

theorem State.portEnableWrite_keeps (s : State) (p : Nat) (v : Nat) :
    KeepsP s (s.portEnableWrite p v) := by
  unfold State.portEnableWrite
  grind [Keeps, KeepsP, KeepsQ, State.setPortReg_keeps, State.setPort_keeps]

theorem State.serveWr_keeps (s : State) (w : HeldWr) :
    Keeps s (s.serveWr w) := by
  unfold State.serveWr
  grind [Keeps, KeepsP, KeepsQ, State.still, State.canonical, State.memWrite_keeps, State.respond_keeps]

theorem State.serveHeld_keeps (s : State) :
    Keeps s (s.serveHeld) := by
  unfold State.serveHeld
  grind [Keeps, KeepsP, KeepsQ, State.still, State.canonical, foldl_keeps, State.serveWr_keeps]

theorem State.takeAsked_keeps (s : State) (tag : Nat) (read : Bool) :
    ∀ x, s.takeAsked tag read = some x → Keeps s x.2 := by
  intro t h
  unfold State.takeAsked at h
  grind [Keeps, KeepsP, KeepsQ, State.still, State.canonical]

end Sys2Proof.Machine
end

