-- ==== Sys2Proof/Laws/VetchRows.lean ====
section
/-!
SUPPORT. What the operations of Machine/VetchRows.lean keep (Keep.lean).
-/

namespace Sys2Proof.Machine

theorem State.vetchSignalWrite_keeps (s : State) (remote : Option Nat) (die v : Nat) :
    KeepsP s (s.vetchSignalWrite remote die v) := by
  unfold State.vetchSignalWrite
  grind [Keeps, KeepsP, KeepsQ, State.addSem_keeps, State.signalFrom_keeps]

theorem State.vetchArriveWrite_keeps (s : State) (die v : Nat) :
    KeepsP s (s.vetchArriveWrite die v) := by
  unfold State.vetchArriveWrite
  grind [Keeps, KeepsP, KeepsQ, State.arriveAt_keeps]

theorem State.hoopCtrlWrite_keeps (s : State) (h v : Nat) :
    KeepsP s (s.hoopCtrlWrite h v) := by
  unfold State.hoopCtrlWrite
  grind [Keeps, KeepsP, KeepsQ, State.hoopOpen_keeps, State.hoopAbort_keeps]

theorem State.hoopStgWrite_keeps (s : State) (win v : Nat) :
    Keeps s (s.hoopStgWrite win v) := by
  unfold State.hoopStgWrite
  grind [Keeps, KeepsP, KeepsQ, State.setRg_keeps, State.hoopStage_keeps, State.hoopReady_keeps]

theorem State.heldAdvance_keeps (s : State) :
    Keeps s (s.heldAdvance) := by
  unfold State.heldAdvance
  grind [Keeps, KeepsP, KeepsQ, State.moduleCheck_keeps]

end Sys2Proof.Machine
end

