-- ==== Sys2Proof/Laws/Rennet.lean ====
section
/-!
SUPPORT. What the operations of Machine/Rennet.lean keep (Keep.lean).
-/

namespace Sys2Proof.Machine

theorem State.rnRead_keeps (s : State) (m : Fin 12) (e : Fin 4) (addr n : Nat) :
    KeepsP s (s.rnRead m e addr n) := by
  unfold State.rnRead
  grind [Keeps, KeepsP, KeepsQ, State.memRead_keeps]

theorem State.ldltProblem_keeps (s : State) (m : Fin 12) (e : Fin 4) (x : RnEntry) :
    KeepsP s (s.ldltProblem m e x) := by
  unfold State.ldltProblem
  grind [Keeps, KeepsP, KeepsQ, State.rnRead_keeps]

theorem State.rootIntake_keeps (s : State) (m : Fin 12) (e : Fin 4) (x : RnEntry) :
    KeepsP s (s.rootIntake m e x) := by
  unfold State.rootIntake
  split <;> grind [Keeps, KeepsP, KeepsQ, State.still, State.canonical, State.raise_keeps, State.memWrite_keeps, State.rnRead_keeps]

theorem State.ldltIntake_keeps (s : State) (m : Fin 12) (e : Fin 4) (i : Nat) (x : RnEntry) :
    KeepsP s (s.ldltIntake m e i x) := by
  unfold State.ldltIntake
  grind [Keeps, KeepsP, KeepsQ, State.setRen_keeps, State.rnRead_keeps, State.ldltProblem_keeps]

theorem State.rnEntryAt_keeps (s : State) (m : Fin 12) (e : Fin 4) (i : Nat) :
    KeepsP s (s.rnEntryAt m e i) := by
  unfold State.rnEntryAt
  grind [Keeps, KeepsP, KeepsQ, State.rnRead_keeps]

theorem intakeOne_keeps (m : Fin 12) (e : Fin 4) (s : State) (i : Nat) :
    KeepsP s (intakeOne m e s i) := by
  unfold intakeOne
  grind [Keeps, KeepsP, KeepsQ, State.rootIntake_keeps, State.ldltIntake_keeps, State.rnEntryAt_keeps]

theorem State.intakeRun_keeps (s : State) (m : Fin 12) (e : Fin 4) (n : Nat) :
    KeepsP s (s.intakeRun m e n) := by
  unfold State.intakeRun
  exact State.untilFail_keeps _ _ _ (intakeOne_keeps m e)

theorem State.rnPublish_keeps (s : State) (m e : Nat) :
    Keeps s (s.rnPublish m e) := by
  unfold State.rnPublish
  grind [Keeps, KeepsP, KeepsQ, State.setRenState_keeps, State.rennetArm_keeps, State.rennetMissed_keeps, State.hoopStage_keeps, State.hoopReady_keeps]

theorem State.rnCopy_keeps (s : State) (m : Fin 12) (e : Fin 4) (x : RnEntry) (len : Nat) (r : RnResult) :
    KeepsP s (s.rnCopy m e x len r) := by
  unfold State.rnCopy
  grind [Keeps, KeepsP, KeepsQ, State.readRaw_keeps, State.memWrite_keeps]

theorem State.rnResult_keeps (s : State) (m : Fin 12) (e : Fin 4) (i : Nat) (r : RnResult) :
    KeepsP s (s.rnResult m e i r) := by
  unfold State.rnResult
  grind [Keeps, KeepsP, KeepsQ, State.freshVal_keeps, State.rnWriteStatus_keeps]

theorem State.rnCounted_keeps (s : State) (m : Fin 12) (e : Fin 4) (i : Nat) (r : RnResult) :
    Keeps s (s.rnCounted m e i r) := by
  unfold State.rnCounted
  extract_lets d s4 s5 s6 q s7
  have h4 : Keeps s s4 := (State.raise_keeps _ _ _ _).trans (State.bump_keeps _ _ _ _ _ _)
  clear_value s4
  have h5 : Keeps s s5 := by unfold s5; split; exact h4; exact h4.trans (State.bump_keeps _ _ _ _ _ _)
  clear_value s5
  have h6 : Keeps s s6 := by unfold s6; split; exact h5; exact h5.trans (State.bump_keeps _ _ _ _ _ _)
  clear_value s6
  have h7 : Keeps s s7 := h6.trans ((State.setFld_keeps _ _ _ _ _ _ _ _).trans (State.setRen_keeps _ _ _ _))
  clear_value s7
  split
  · exact h7
  · exact h7.trans (State.rnPublish_keeps _ _ _)

theorem State.rnDeliver_keeps (s : State) (m : Fin 12) (e : Fin 4) (i : Nat) (x : RnEntry) (len : Nat) (r : RnResult) :
    Keeps s (s.rnDeliver m e i x len r) := by
  unfold State.rnDeliver
  grind [Keeps, KeepsP, KeepsQ, State.rennetFault_keeps, State.rnCopy_keeps, State.rnResult_keeps, State.rnCounted_keeps]

theorem State.rnJob_keeps (s : State) (m : Fin 12) (e : Fin 4) :
    Keeps s (s.rnJob m e) := by
  unfold State.rnJob
  grind (splits := 40) (ematch := 40) (gen := 40) [Keeps, KeepsP, KeepsQ, State.still, State.canonical, State.setFld_keeps, State.bump_keeps, State.raise_keeps, State.setRen_keeps, State.rennetFault_keeps, State.rnRead_keeps, State.ldltProblem_keeps, State.rnEntryAt_keeps, State.rnDeliver_keeps]

end Sys2Proof.Machine
end

