-- ==== Sys2Proof/Laws/Press.lean ====
section
/-!
SUPPORT. What the operations of Machine/Press.lean keep (Keep.lean).
-/

namespace Sys2Proof.Machine

theorem State.prRead_keeps (s : State) (m : Fin 12) (e : Fin 8) (addr n : Nat) :
    KeepsP s (s.prRead m e addr n) := by
  unfold State.prRead
  grind [Keeps, KeepsP, KeepsQ, State.memRead_keeps]

theorem State.prEntryAt_keeps (s : State) (m : Fin 12) (e : Fin 8) (map i : Nat) :
    KeepsP s (s.prEntryAt m e map i) := by
  unfold State.prEntryAt
  grind [Keeps, KeepsP, KeepsQ, State.prRead_keeps]

theorem State.prWrite_keeps (s : State) (m : Fin 12) (e : Fin 8) (addr : Nat) (bs : List Nat) :
    KeepsP s (s.prWrite m e addr bs) := by
  unfold State.prWrite
  grind [Keeps, KeepsP, KeepsQ, State.memWrite_keeps]

theorem State.prWrites_keeps (s : State) (m : Fin 12) (e : Fin 8) (x0 : List (Nat × List Nat)) :
    KeepsP s (s.prWrites m e x0) := by
  fun_induction State.prWrites <;> grind [Keeps, KeepsP, KeepsQ, State.still, State.canonical, State.prWrite_keeps]

theorem State.prReads_keeps (s : State) (m : Fin 12) (e : Fin 8) (x0 : List (Nat × Nat)) :
    KeepsP s (s.prReads m e x0) := by
  fun_induction State.prReads <;> grind [Keeps, KeepsP, KeepsQ, State.still, State.canonical, State.prRead_keeps]

theorem State.dirArm_keeps (s : State) (m e : Nat) :
    Keeps s (s.dirArm m e) := by
  unfold State.dirArm
  grind [Keeps, KeepsP, KeepsQ, State.unitWait_keeps]

theorem State.gateCheck_keeps (s : State) :
    Keeps s (s.gateCheck) := by
  unfold State.gateCheck
  grind [Keeps, KeepsP, KeepsQ, State.setG_keeps]

theorem State.pressBegin_keeps (s : State) (m e : Nat) (skip : Bool) :
    Keeps s (s.pressBegin m e skip) := by
  unfold State.pressBegin
  grind [Keeps, KeepsP, KeepsQ, State.still, State.canonical, State.setFld_keeps, State.unitWait_keeps, State.setPress_keeps, State.setPrState_keeps, State.dirArm_keeps, State.gateCheck_keeps]

theorem State.sweepTile_keeps (s : State) (m : Fin 12) (e : Fin 8) (x : PrEntry) (ar : Arith) (i : Nat) (masters : List Nat) :
    KeepsP s (s.sweepTile m e x ar i masters) := by
  unfold State.sweepTile
  grind [Keeps, KeepsP, KeepsQ, State.readRaw_keeps]

theorem scrambleEntry_keeps (m e map : Nat) (s : State) (i : Nat) :
    Keeps s (scrambleEntry m e map s i) := by
  unfold scrambleEntry
  grind [Keeps, KeepsP, KeepsQ, State.scramble_keeps]

theorem State.pressUndefined_keeps (s : State) (m e : Nat) :
    Keeps s (s.pressUndefined m e) := by
  unfold State.pressUndefined
  dsimp only
  split
  · exact Keeps.refl s
  · exact (foldl_keeps _ _ _ fun z _ => foldl_keeps _ _ z fun z _ => scrambleEntry_keeps _ _ _ z _).trans
      (State.scramble_keeps _ _ _)

theorem State.pressStopped_keeps (s : State) (m e : Nat) :
    Keeps s (s.pressStopped m e) := by
  unfold State.pressStopped
  grind [Keeps, KeepsP, KeepsQ, State.setFld_keeps, State.setPrState_keeps, State.pressUndefined_keeps]

theorem State.tileStore_keeps (s : State) (m : Fin 12) (e : Fin 8) (x : PrEntry) (i : Nat) (xs : List PrElem) (flags : Nat) :
    Keeps s (s.tileStore m e x i xs flags) := by
  unfold State.tileStore
  grind [Keeps, KeepsP, KeepsQ, State.still, State.canonical, foldl_keeps, State.setFld_keeps, State.bump_keeps, State.raise_keeps, State.setPress_keeps, State.pressFault_keeps, State.prWrites_keeps, State.dirArm_keeps, State.pressStopped_keeps]

theorem State.tileRun_keeps (s : State) (m : Fin 12) (e : Fin 8) (x : PrEntry) (i : Nat) :
    Keeps s (s.tileRun m e x i) := by
  unfold State.tileRun
  grind [Keeps, KeepsP, KeepsQ, State.raise_keeps, State.pressFault_keeps, State.prReads_keeps, State.sweepTile_keeps, State.tileStore_keeps]

theorem digestEntry_keeps (m : Fin 12) (e : Fin 8) (map : Nat) (s : State) (i : Nat) :
    KeepsP s (digestEntry m e map s i) := by
  unfold digestEntry
  grind [Keeps, KeepsP, KeepsQ, State.setPress_keeps, State.prRead_keeps, State.prEntryAt_keeps, State.prWrites_keeps]

theorem State.digestPass_keeps (s : State) (m : Fin 12) (e : Fin 8) (map n : Nat) :
    KeepsP s (s.digestPass m e map n) := by
  unfold State.digestPass
  exact State.untilFail_keeps _ _ _ (digestEntry_keeps m e map)

theorem State.pressArrive_keeps (s : State) (m e : Nat) :
    Keeps s (s.pressArrive m e) := by
  unfold State.pressArrive
  grind [Keeps, KeepsP, KeepsQ, State.still, State.canonical, State.arriveAt_keeps, State.setPress_keeps]

theorem rederiveEntry_keeps (m : Fin 12) (e : Fin 8) (map : Nat) (s : State) (i : Nat) :
    KeepsP s (rederiveEntry m e map s i) := by
  unfold rederiveEntry
  grind [Keeps, KeepsP, KeepsQ, foldl_keeps, State.raise_keeps, State.prRead_keeps, State.prEntryAt_keeps, State.prWrite_keeps]

theorem State.rederiveRun_keeps (s : State) (m : Fin 12) (e : Fin 8) (map n : Nat) :
    KeepsP s (s.rederiveRun m e map n) := by
  unfold State.rederiveRun
  exact State.untilFail_keeps _ _ _ (rederiveEntry_keeps m e map)

theorem State.sorrelFault_keeps (s : State) (cause : Nat) :
    Keeps s (s.sorrelFault cause) := by
  unfold State.sorrelFault
  grind [Keeps, KeepsP, KeepsQ, State.setG_keeps, State.dieFault_keeps]

theorem State.sorrelCompare_keeps (s : State) :
    Keeps s (s.sorrelCompare) := by
  unfold State.sorrelCompare
  grind [Keeps, KeepsP, KeepsQ, State.setG_keeps, State.sorrelFault_keeps]

theorem State.clearDigests_keeps (s : State) :
    Keeps s (s.clearDigests) := by
  unfold State.clearDigests
  grind [Keeps, KeepsP, KeepsQ, State.still, State.canonical]

end Sys2Proof.Machine
end

