-- ==== Sys2Proof/Laws/Vat.lean ====
section
/-!
SUPPORT. What the operations of Machine/Vat.lean keep (Keep.lean).
-/

namespace Sys2Proof.Machine

theorem State.vatRecord_keeps (s : State) (x cause cid chunk : Nat) :
    Keeps s (s.vatRecord x cause cid chunk) := by
  unfold State.vatRecord
  grind [Keeps, KeepsP, KeepsQ, State.setRg_keeps]

theorem State.vatClear_keeps (s : State) (x : Nat) :
    Keeps s (s.vatClear x) := by
  unfold State.vatClear
  grind [Keeps, KeepsP, KeepsQ, State.still, State.canonical, State.setFld_keeps, State.dropWait_keeps, State.setVat_keeps]

theorem State.vatFault_keeps (s : State) (x cause cid chunk : Nat) :
    Keeps s (s.vatFault x cause cid chunk) := by
  unfold State.vatFault
  grind [Keeps, KeepsP, KeepsQ, State.setFld_keeps, State.dieFault_keeps, State.vatRecord_keeps, State.vatClear_keeps]

theorem State.vatArm_keeps (s : State) (x : Nat) :
    Keeps s (s.vatArm x) := by
  unfold State.vatArm
  grind [Keeps, KeepsP, KeepsQ, State.unitWait_keeps]

theorem State.vatSubmitWrite_keeps (s : State) (x : Fin 4) (val : Nat) :
    KeepsP s (s.vatSubmitWrite x val) := by
  unfold State.vatSubmitWrite
  grind (splits := 40) (ematch := 40) (gen := 40) [Keeps, KeepsP, KeepsQ, State.still, State.canonical, State.freshVal_keeps, State.memRead_keeps, State.setVat_keeps, State.vatRecord_keeps, State.vatFault_keeps, State.vatArm_keeps]

theorem State.setColl_keeps (s : State) (x : Nat) (c : Coll) :
    Keeps s (s.setColl x c) := by
  unfold State.setColl
  grind [Keeps, KeepsP, KeepsQ, State.still, State.canonical, State.setVat_keeps]

theorem State.sendColl_keeps (s : State) (c : Coll) (typ j chunk idx : Nat) (bs : List Nat) :
    Keeps s (s.sendColl c typ j chunk idx bs) := by
  unfold State.sendColl
  grind [Keeps, KeepsP, KeepsQ, State.sendFlit_keeps]

theorem State.vatReads_keeps (s : State) (x : Fin 4) (x0 : List (Nat × Nat)) :
    KeepsP s (s.vatReads x x0) := by
  fun_induction State.vatReads <;> grind [Keeps, KeepsP, KeepsQ, State.still, State.canonical, State.memRead_keeps]

theorem State.sendChunk_keeps (s : State) (x : Fin 4) (cid j k : Nat) :
    Keeps s (s.sendChunk x cid j k) := by
  unfold State.sendChunk
  grind [Keeps, KeepsP, KeepsQ, State.still, State.canonical, foldl_keeps, State.vatFault_keeps, State.setColl_keeps, State.sendColl_keeps, State.vatReads_keeps]

theorem State.firstCredits_keeps (s : State) (c : Coll) :
    Keeps s (s.firstCredits c) := by
  unfold State.firstCredits
  grind [Keeps, KeepsP, KeepsQ, foldl_keeps, State.sendColl_keeps]

theorem State.openColl_keeps (s : State) (x : Fin 4) (cid : Nat) :
    Keeps s (s.openColl x cid) := by
  unfold State.openColl
  grind [Keeps, KeepsP, KeepsQ, State.still, State.canonical, foldl_keeps, State.setColl_keeps, State.sendChunk_keeps, State.firstCredits_keeps]

theorem State.vatPlaces_keeps (s : State) (x : Nat) (spill : Bool) (need : Nat) :
    KeepsP s (s.vatPlaces x spill need) := by
  unfold State.vatPlaces
  grind [Keeps, KeepsP, KeepsQ, State.freshVal_keeps]

theorem State.vatBegin_keeps (s : State) (x : Fin 4) (d : VatDesc) (rest : List VatDesc) (spill : Bool) (need : Nat) :
    Keeps s (s.vatBegin x d rest spill need) := by
  unfold State.vatBegin
  grind [Keeps, KeepsP, KeepsQ, State.still, State.canonical, foldl_keeps, State.setFld_keeps, State.bump_keeps, State.setVat_keeps, State.vatFault_keeps, State.vatArm_keeps, State.sendColl_keeps, State.vatReads_keeps, State.openColl_keeps, State.vatPlaces_keeps]

theorem State.collFlit_keeps (s : State) (r : Rx) (typ : Nat) (cid : BitVec 12) (addr : Nat) (bs : List Nat) (f : Fin 4 → Coll → Nat → State → State) (hf : ∀ y0 y1 y2 y3, Keeps y3 (f y0 y1 y2 y3)) :
    Keeps s (s.collFlit r typ cid addr bs f) := by
  unfold State.collFlit
  grind [Keeps, KeepsP, KeepsQ, State.bumpPort_keeps, State.rxFlit_keeps]

theorem State.creditAfter_keeps (s : State) (c : Coll) (i k : Nat) :
    Keeps s (s.creditAfter c i k) := by
  unfold State.creditAfter
  grind [Keeps, KeepsP, KeepsQ, State.sendColl_keeps]

theorem State.deliverChunk_keeps (s : State) (x : Fin 4) (cid i k : Nat) :
    Keeps s (s.deliverChunk x cid i k) := by
  unfold State.deliverChunk
  grind [Keeps, KeepsP, KeepsQ, State.still, State.canonical, State.memWrite_keeps, State.vatFault_keeps, State.setColl_keeps, State.creditAfter_keeps]

theorem State.vatWrites_keeps (s : State) (x : Fin 4) (x0 : List (Nat × List Nat)) :
    KeepsP s (s.vatWrites x x0) := by
  fun_induction State.vatWrites <;> grind [Keeps, KeepsP, KeepsQ, State.still, State.canonical, State.memWrite_keeps]

theorem State.keepPart_keeps (s : State) (x : Fin 4) (c : Coll) (i k : Nat) (bs : List Nat) :
    Keeps s (s.keepPart x c i k bs) := by
  unfold State.keepPart
  grind [Keeps, KeepsP, KeepsQ, State.still, State.canonical, State.memWrite_keeps, State.vatFault_keeps, State.setColl_keeps]

theorem State.vatStopped_keeps (s : State) (x : Nat) :
    Keeps s (s.vatStopped x) := by
  unfold State.vatStopped
  grind [Keeps, KeepsP, KeepsQ, foldl_keeps, State.scramble_keeps, State.vatClear_keeps]

theorem State.stopVat_keeps (s : State) (x : Nat) :
    Keeps s (s.stopVat x) := by
  unfold State.stopVat
  grind [Keeps, KeepsP, KeepsQ, State.still, State.canonical, State.dropWait_keeps, State.setVat_keeps, State.vatStopped_keeps]

theorem State.finishChunk_keeps (s : State) (x : Fin 4) (c : Coll) (k : Nat) (e : RedChunk) (acc : List Nat) :
    Keeps s (s.finishChunk x c k e acc) := by
  unfold State.finishChunk
  grind [Keeps, KeepsP, KeepsQ, State.still, State.canonical, foldl_keeps, State.raise_keeps, State.memWrite_keeps, State.vatFault_keeps, State.setColl_keeps, State.creditAfter_keeps, State.vatStopped_keeps]

theorem State.partBytes_keeps (s : State) (x : Fin 4) (c : Coll) (i k : Nat) :
    KeepsP s (s.partBytes x c i k) := by
  unfold State.partBytes
  grind [Keeps, KeepsP, KeepsQ, State.vatReads_keeps]

theorem State.reduceNext_keeps (s : State) (x : Fin 4) (c : Coll) (k : Nat) (e : RedChunk) :
    Keeps s (s.reduceNext x c k e) := by
  unfold State.reduceNext
  (repeat' split) <;> grind (splits := 40) (ematch := 40) (gen := 40) [Keeps, KeepsP, KeepsQ, State.still, State.canonical, State.vatFault_keeps, State.setColl_keeps, State.vatReads_keeps, State.vatWrites_keeps, State.finishChunk_keeps, State.partBytes_keeps]

theorem State.ownCopy_keeps (s : State) (x : Fin 4) (c : Coll) :
    KeepsP s (s.ownCopy x c) := by
  unfold State.ownCopy
  grind [Keeps, KeepsP, KeepsQ, State.memWrite_keeps, State.vatReads_keeps]

end Sys2Proof.Machine
end

