-- ==== Sys2Proof/Laws/Sequencer.lean ====
section
/-!
SUPPORT. What the operations of Machine/Sequencer.lean keep (Keep.lean).
-/

namespace Sys2Proof.Machine

theorem State.fetch_keeps (s : State) (core : Nat) :
    KeepsP s (s.fetch core) := by
  unfold State.fetch
  grind [Keeps, KeepsP, KeepsQ, State.readRange_keeps]

theorem State.seqStep_keeps (s : State) (core : Nat) (p : Parity) (opc : Nat) (fields : List (Nat × Nat)) (ok : BitVec 128 → Bool) (use : BitVec 128 → ScUse) (run : State → BitVec 128 → State) (hrun : ∀ y0 y1, Keeps y0 (run y0 y1)) :
    Keeps s (s.seqStep core p opc fields ok use run) := by
  unfold State.seqStep
  grind [Keeps, KeepsP, KeepsQ, State.holdSeq_keeps, State.seqFault_keeps, State.fetch_keeps]

theorem State.spaceRead_keeps (s : State) (core space addr al n : Nat) :
    KeepsP s (s.spaceRead core space addr al n) := by
  unfold State.spaceRead
  grind [Keeps, KeepsP, KeepsQ, State.readRange_keeps]

theorem State.branch_keeps (s : State) (core : Nat) (x : BitVec 128) (taken : Bool) :
    Keeps s (s.branch core x taken) := by
  unfold State.branch
  grind [Keeps, KeepsP, KeepsQ, State.retireTo_keeps, State.retire_keeps]

theorem State.synSig_keeps (s : State) (core : Nat) (twin : Bool) (die sem n : Nat) :
    Keeps s (s.synSig core twin die sem n) := by
  unfold State.synSig
  grind [Keeps, KeepsP, KeepsQ, State.still, State.canonical, State.setSeq_keeps, State.retire_keeps, State.signal_keeps]

theorem State.noteHoop_keeps (s : State) (core h : Nat) :
    Keeps s (s.noteHoop core h) := by
  unfold State.noteHoop
  grind [Keeps, KeepsP, KeepsQ, State.still, State.canonical, State.setSeq_keeps]

theorem State.teaSetCmd_keeps (s : State) (c : CoreId) (p : Parity) (blk : Bool) :
    Keeps s (s.teaSetCmd c p blk) := by
  unfold State.teaSetCmd
  grind [Keeps, KeepsP, KeepsQ, State.retire_keeps, State.seqFault_keeps, State.teaWrite_keeps, State.seqStep_keeps]

end Sys2Proof.Machine
end

