-- ==== Sys2Proof/Laws/Stop.lean ====
section
/-!
SUPPORT. What the operations of Machine/Stop.lean keep (Keep.lean).
-/

namespace Sys2Proof.Machine

theorem State.moduleReset_tidy (s : State) : Tidy s s.moduleReset := by
  intro _
  have h : (State.reset).canonical = true := by decide
  have k (z : State) (r : Reg) (d i j v : Nat) := (z.setRg_keeps r d i j v).2
  unfold State.moduleReset
  dsimp only
  split
  · exact h
  · exact k _ _ _ _ _ _ (k _ _ _ _ _ _ h)

theorem State.seqWithdraw_keeps (s : State) (core : Nat) :
    Keeps s (s.seqWithdraw core) := by
  unfold State.seqWithdraw
  grind [Keeps, KeepsP, KeepsQ, State.still, State.canonical, State.setSeq_keeps, State.dropWaits_keeps]

theorem State.teaStop_keeps (s : State) (core : Nat) :
    Keeps s (s.teaStop core) := by
  unfold State.teaStop
  grind [Keeps, KeepsP, KeepsQ, State.still, State.canonical, State.setTea_keeps]

theorem State.stopCore_keeps (s : State) (core : Nat) :
    Keeps s (s.stopCore core) := by
  unfold State.stopCore
  grind [Keeps, KeepsP, KeepsQ, State.still, State.canonical, foldl_keeps, State.setRg_keeps, State.setSeqState_keeps, State.setArr_keeps, State.setVec_keeps, State.seqWithdraw_keeps, State.teaStop_keeps]

theorem State.stopDmas_keeps (s : State) :
    Keeps s (s.stopDmas) := by
  unfold State.stopDmas
  grind [Keeps, KeepsP, KeepsQ, State.still, State.canonical]

theorem State.rennetStop_keeps (s : State) (m e : Nat) :
    Keeps s (s.rennetStop m e) := by
  unfold State.rennetStop
  grind [Keeps, KeepsP, KeepsQ, State.scramble_keeps, State.dropWait_keeps, State.setRenState_keeps]

theorem State.pressStop_keeps (s : State) (m e : Nat) :
    Keeps s (s.pressStop m e) := by
  unfold State.pressStop
  grind [Keeps, KeepsP, KeepsQ, State.dropWait_keeps, State.pressUndefined_keeps, State.pressStopped_keeps]

theorem State.stopEngines_keeps (s : State) :
    Keeps s (s.stopEngines) := by
  unfold State.stopEngines
  grind [Keeps, KeepsP, KeepsQ, foldl_keeps, State.rennetStop_keeps, State.pressStop_keeps]

theorem State.stopVats_keeps (s : State) :
    Keeps s (s.stopVats) := by
  unfold State.stopVats
  grind [Keeps, KeepsP, KeepsQ, foldl_keeps, State.stopVat_keeps]

theorem State.caveEnd_keeps (s : State) :
    Keeps s (s.caveEnd) := by
  unfold State.caveEnd
  grind [Keeps, KeepsP, KeepsQ, State.still, State.canonical, foldl_keeps, State.caveGive_keeps, State.serveHeld_keeps]

theorem State.caveAbandon_keeps (s : State) :
    Keeps s (s.caveAbandon) := by
  unfold State.caveAbandon
  grind [Keeps, KeepsP, KeepsQ, State.still, State.canonical, State.setG_keeps, State.bump_keeps, State.caveEnd_keeps]

theorem State.slotsUndefined_keeps (s : State) (core : Nat) :
    Keeps s (s.slotsUndefined core) := by
  unfold State.slotsUndefined
  grind [Keeps, KeepsP, KeepsQ, State.scramble_keeps]

theorem State.stopReplies_tidy (s : State) (x0 : List (Nat × Nat × Bool)) :
    Tidy s (s.stopReplies x0) := by
  fun_induction State.stopReplies <;> grind [Keeps, KeepsP, KeepsQ, Tidy, State.still, State.canonical, State.moduleReset_tidy, State.mgmtOut_keeps]

theorem State.stopDone_tidy (s : State) :
    Tidy s (s.stopDone) := by
  unfold State.stopDone
  grind [Keeps, KeepsP, KeepsQ, Tidy, State.still, State.canonical, foldl_tidy, State.slotsUndefined_keeps, State.stopReplies_tidy]

theorem State.stopCheck_tidy (s : State) :
    Tidy s (s.stopCheck) := by
  unfold State.stopCheck
  grind [Keeps, KeepsP, KeepsQ, Tidy, State.stopDone_tidy]

theorem State.modFault_keeps (s : State) (die cause : Nat) :
    Keeps s (s.modFault die cause) := by
  unfold State.modFault
  grind [Keeps, KeepsP, KeepsQ, State.setG_keeps, State.alert_keeps]

theorem State.stopPeers_keeps (s : State) :
    Keeps s (s.stopPeers) := by
  unfold State.stopPeers
  grind [Keeps, KeepsP, KeepsQ, foldl_keeps, State.sendReg_keeps]

theorem State.stopJob_tidy (s : State) :
    Tidy s (s.stopJob) := by
  unfold State.stopJob
  grind [Keeps, KeepsP, KeepsQ, Tidy, State.still, State.canonical, foldl_tidy, State.hoopStop_keeps, State.stopCore_keeps, State.stopDmas_keeps, State.stopEngines_keeps, State.stopVats_keeps, State.caveAbandon_keeps, State.stopCheck_tidy, State.stopPeers_keeps]

theorem State.faultClass_keeps (s : State) (f : FaultRec) :
    KeepsP s (s.faultClass f) := by
  unfold State.faultClass
  grind [Keeps, KeepsP, KeepsQ, State.freshVal_keeps]

theorem State.resetCore_keeps (s : State) (core : Nat) :
    Keeps s (s.resetCore core) := by
  unfold State.resetCore
  grind [Keeps, KeepsP, KeepsQ, State.still, State.canonical, foldl_keeps, State.setRg_keeps, State.setSeqState_keeps, State.setSc_keeps, State.setArr_keeps, State.setVec_keeps, State.setTea_keeps, State.seqWithdraw_keeps]

theorem State.resetUnits_keeps (s : State) :
    Keeps s (s.resetUnits) := by
  unfold State.resetUnits
  grind [Keeps, KeepsP, KeepsQ, State.still, State.canonical, foldl_keeps, State.setFld_keeps, State.setPrState_keeps, State.pressUndefined_keeps, State.vatStopped_keeps, State.resetCore_keeps]

theorem State.arrWatchdog_keeps (s : State) (c : CoreId) (a : Fin 4) (part : Option Nat) (cause row entered : Nat) :
    Keeps s (s.arrWatchdog c a part cause row entered) := by
  unfold State.arrWatchdog
  grind [Keeps, KeepsP, KeepsQ, State.arrFault_keeps]

theorem State.vecWatchdog_keeps (s : State) (c : CoreId) (cause row op : Nat) :
    Keeps s (s.vecWatchdog c cause row op) := by
  unfold State.vecWatchdog
  grind [Keeps, KeepsP, KeepsQ, State.vecFault_keeps]

theorem State.hsFault_keeps (s : State) (ch : Chan) :
    Keeps s (s.hsFault ch) := by
  unfold State.hsFault
  grind [Keeps, KeepsP, KeepsQ, State.seqFault_keeps, State.vecRead_keeps, State.vecWrite_keeps, State.teaFault_keeps, State.rennetFault_keeps, State.pressFault_keeps, State.dmaFault_keeps, State.vatFault_keeps, State.arrWatchdog_keeps, State.vecWatchdog_keeps]

end Sys2Proof.Machine
end

