-- ==== Sys2Proof/Laws/Twin.lean ====
section
/-!
SUPPORT. What the operations of Machine/Twin.lean keep (Keep.lean).
-/

namespace Sys2Proof.Machine

theorem State.loseGlobals_keeps (s : State) :
    Keeps s (s.loseGlobals) := by
  unfold State.loseGlobals
  grind [Keeps, KeepsP, KeepsQ, State.still, State.canonical, foldl_keeps, State.setRg_keeps, State.freshVal_keeps]

theorem State.halfTakeover_keeps (s : State) :
    Keeps s (s.halfTakeover) := by
  unfold State.halfTakeover
  grind [Keeps, KeepsP, KeepsQ, State.still, State.canonical, State.halfChange_keeps, State.loseGlobals_keeps]

theorem State.boardRenew_keeps (s : State) :
    Keeps s (s.boardRenew) := by
  unfold State.boardRenew
  grind [Keeps, KeepsP, KeepsQ, State.still, State.canonical, foldl_keeps, State.enqueue_keeps, State.nextTag_keeps]

theorem State.boardRenewal_keeps (s : State) (e : Nat) (fromHolder : Bool) :
    Keeps s (s.boardRenewal e fromHolder) := by
  unfold State.boardRenewal
  grind [Keeps, KeepsP, KeepsQ, State.still, State.canonical, State.setG_keeps, State.alert_keeps]

theorem State.setFence_keeps (s : State) (on : Bool) :
    Keeps s (s.setFence on) := by
  unfold State.setFence
  grind [Keeps, KeepsP, KeepsQ, State.setG_keeps, State.caveAbandon_keeps]

theorem State.twinFenceWrite_keeps (s : State) (on : Bool) :
    KeepsP s (s.twinFenceWrite on) := by
  unfold State.twinFenceWrite
  grind [Keeps, KeepsP, KeepsQ, State.setFence_keeps]

theorem State.boardTakeover_keeps (s : State) :
    Keeps s (s.boardTakeover) := by
  unfold State.boardTakeover
  grind [Keeps, KeepsP, KeepsQ, State.still, State.canonical, State.setG_keeps, State.alert_keeps, State.boardRenew_keeps, State.setFence_keeps]

theorem State.slotWrite_keeps (s : State) (slot off : Nat) (bs : List Nat) :
    KeepsP s (s.slotWrite slot off bs) := by
  unfold State.slotWrite
  grind [Keeps, KeepsP, KeepsQ, State.still, State.canonical, State.sendWrites_keeps]

theorem State.caveRead_keeps (s : State) (m addr n : Nat) :
    KeepsP s (s.caveRead m addr n) := by
  unfold State.caveRead
  grind [Keeps, KeepsP, KeepsQ, State.readRaw_keeps, State.vatPlaces_keeps, State.vatWrites_keeps]

end Sys2Proof.Machine
end

