-- ==== Sys2Proof/Laws/Trust.lean ====
section
/-!
SUPPORT. What the operations of Machine/Trust.lean keep (Keep.lean).
-/

namespace Sys2Proof.Machine

theorem State.flashPut_tidy (s : State) (slot off : Nat) (bs : List Nat) :
    Tidy s (s.flashPut slot off bs) := by
  unfold State.flashPut
  grind [Keeps, KeepsP, KeepsQ, Tidy, State.still, State.canonical]

theorem State.flashErase_tidy (s : State) (slot : Nat) :
    Tidy s (s.flashErase slot) := by
  unfold State.flashErase
  grind [Keeps, KeepsP, KeepsQ, Tidy, State.still, State.canonical]

theorem State.raiseFloor_keeps (s : State) :
    KeepsP s (s.raiseFloor) := by
  unfold State.raiseFloor
  grind [Keeps, KeepsP, KeepsQ, State.still, State.canonical]

theorem State.reloadWatcher_keeps (s : State) :
    Keeps s (s.reloadWatcher) := by
  unfold State.reloadWatcher
  grind [Keeps, KeepsP, KeepsQ, State.still, State.canonical, State.setRg_keeps, State.mrEvent_keeps]

theorem State.yieldWrite_keeps (s : State) :
    Keeps s (s.yieldWrite) := by
  unfold State.yieldWrite
  grind [Keeps, KeepsP, KeepsQ, State.still, State.canonical, State.setG_keeps]

theorem State.report_keeps (s : State) (nonce : List Nat) :
    KeepsP s (s.report nonce) := by
  unfold State.report
  grind [Keeps, KeepsP, KeepsQ, State.still, State.canonical]

theorem State.attCtrlWrite_keeps (s : State) (die v : Nat) :
    KeepsP s (s.attCtrlWrite die v) := by
  unfold State.attCtrlWrite
  grind [Keeps, KeepsP, KeepsQ, State.still, State.canonical, State.setFld_keeps, State.report_keeps]

theorem State.attEnd_keeps (s : State) (err : Bool) :
    Keeps s (s.attEnd err) := by
  unfold State.attEnd
  grind [Keeps, KeepsP, KeepsQ, State.still, State.canonical, State.setRg_keeps]

theorem State.enterTest_tidy (s : State) (code : Nat) (data : List Nat) :
    Tidy s (s.enterTest code data) := by
  unfold State.enterTest
  grind [Keeps, KeepsP, KeepsQ, Tidy, State.still, State.canonical, State.dieFault_keeps, State.mrEvent_keeps]

end Sys2Proof.Machine
end

