-- ==== Sys2Proof/Laws/RegWrite.lean ====
section
/-!
SUPPORT. What the operations of Machine/RegWrite.lean keep (Keep.lean).
-/

namespace Sys2Proof.Machine

theorem State.plainWrite_keeps (s : State) (r : Reg) (die i j v : Nat) :
    KeepsP s (s.plainWrite r die i j v) := by
  unfold State.plainWrite
  grind [Keeps, KeepsP, KeepsQ, State.setRg_keeps]

theorem State.seqGo_keeps (s : State) (core : Nat) :
    KeepsP s (s.seqGo core) := by
  unfold State.seqGo
  grind [Keeps, KeepsP, KeepsQ, State.still, State.canonical, State.setRg_keeps, State.setSeq_keeps]

theorem State.leaseWrite_keeps (s : State) (holder : Bool) (die v : Nat) :
    Keeps s (s.leaseWrite holder die v) := by
  unfold State.leaseWrite
  grind [Keeps, KeepsP, KeepsQ, State.still, State.canonical, State.setRg_keeps]

theorem State.leaseCtrlWrite_keeps (s : State) (v : Nat) :
    Keeps s (s.leaseCtrlWrite v) := by
  unfold State.leaseCtrlWrite
  grind [Keeps, KeepsP, KeepsQ, State.reloadWatcher_keeps, State.yieldWrite_keeps]

theorem State.slCfgWrite_keeps (s : State) (p v : Nat) :
    KeepsP s (s.slCfgWrite p v) := by
  unfold State.slCfgWrite
  grind [Keeps, KeepsP, KeepsQ, State.setPortReg_keeps, State.portEnableWrite_keeps]

theorem wans_keeps (s : State) (p : State × Bool) (h : KeepsP s p) : KeepsP s (wans p) := h

theorem State.regAct_keeps (s : State) (w : Writer) (r : Reg) (die i j v : Nat) :
    KeepsP s (s.regAct w r die i j v) := by
  unfold State.regAct
  split
  case h_7 =>
    dsimp only
    split <;> (split <;> rename_i h <;> have k := h ▸ State.dmaRegSubmit_keeps s _ j v <;> exact k)
  all_goals first
    | exact wans_keeps _ _ (State.vetchSignalWrite_keeps _ _ _ _)
    | exact wans_keeps _ _ (State.vetchArriveWrite_keeps _ _ _)
    | exact State.teaWrite_keeps _ _ _ _
    | exact wans_keeps _ _ (State.vatSubmitWrite_keeps _ _ _)
    | exact wans_keeps _ _ (State.mcRetire_keeps _ _ _)
    | exact wans_keeps _ _ (State.hoopCtrlWrite_keeps _ _ _)
    | exact State.hoopStgWrite_keeps _ _ _
    | exact wans_keeps _ _ (State.slCfgWrite_keeps _ _ _)
    | exact State.leaseWrite_keeps _ _ _ _
    | exact State.boardRenewal_keeps _ _ _
    | exact wans_keeps _ _ (State.twinFenceWrite_keeps _ _)
    | exact State.leaseCtrlWrite_keeps _ _
    | exact wans_keeps _ _ (State.attCtrlWrite_keeps _ _ _)
    | exact State.ccCacheOp_keeps _ _ _ _
    | exact Keeps.trans (State.setRg_keeps _ _ _ _ _ _) (State.sorrelCompare_keeps _)
    | exact Keeps.trans (State.setRg_keeps _ _ _ _ _ _) (State.serve_keeps _ _ _ _)
    | exact State.setRg_keeps _ _ _ _ _ _
    | exact wans_keeps _ _ (State.plainWrite_keeps _ _ _ _ _ _)
    | (split; exact wans_keeps _ _ (State.seqGo_keeps _ _); exact Keeps.refl s)
    | (split; exact wans_keeps _ _ (State.raiseFloor_keeps _); exact Keeps.refl s)

theorem State.epochCheck_keeps (s : State) (l e : Nat) :
    KeepsP s (s.epochCheck l e) := by
  unfold State.epochCheck
  grind [Keeps, KeepsP, KeepsQ, State.setRg_keeps, State.bump_keeps]

theorem State.regWriteAt_keeps (s : State) (w : Writer) (k v : Nat) :
    KeepsP s (s.regWriteAt w k v) := by
  unfold State.regWriteAt
  grind [Keeps, KeepsP, KeepsQ, State.regAct_keeps]

theorem State.busWrite_keeps (s : State) (w : Writer) (l : Nat) (wide : Bool) (v : Nat) :
    KeepsP s (s.busWrite w l wide v) := by
  unfold State.busWrite
  grind [Keeps, KeepsP, KeepsQ, State.epochCheck_keeps, State.regWriteAt_keeps]

end Sys2Proof.Machine
end

