-- ==== Sys2Proof/Laws/RegRows.lean ====
section
/-!
SUPPORT. What the operations of Machine/RegRows.lean keep (Keep.lean).
-/

namespace Sys2Proof.Machine

theorem State.wrote_keeps (s : State) (p : State × WAns) (h : KeepsP s p) : Keeps s (State.wrote p) := by
  unfold State.wrote
  split
  · exact Keeps.trans h (State.answer_keeps _ _)
  · exact Keeps.trans h (State.answer_keeps _ _)
  · exact h

theorem State.writeReg_keeps (s : State) (w : Writer) (r : Reg) (die i j v : Nat) :
    Keeps s (s.writeReg w r die i j v) := by
  exact State.wrote_keeps s _ (State.busWrite_keeps _ _ _ _ _)

theorem State.widthWrite_keeps (s : State) (w : Writer) (l : Nat) (width : Width) (v : Nat) :
    KeepsP s (s.widthWrite w l width v) := by
  unfold State.widthWrite
  grind [Keeps, KeepsP, KeepsQ, State.busWrite_keeps]

theorem State.farStore_keeps (s : State) (l : Nat) (wide : Bool) (v : Nat) :
    KeepsP s (s.farStore l wide v) := by
  unfold State.farStore
  grind [Keeps, KeepsP, KeepsQ, State.sendRegFor_keeps]

theorem State.farWrite_keeps (s : State) (w : Writer) (l : Nat) (width : Width) (v : Nat) :
    KeepsP s (s.farWrite w l width v) := by
  unfold State.farWrite
  grind [Keeps, KeepsP, KeepsQ, State.farStore_keeps]

theorem State.ccCacheRow_keeps (s : State) (w : Writer) (east : Bool) (op addr : Nat) :
    Keeps s (s.ccCacheRow w east op addr) := by
  unfold State.ccCacheRow
  grind [Keeps, KeepsP, KeepsQ, State.writeReg_keeps]

end Sys2Proof.Machine
end

