-- ==== Sys2Proof/Laws/Image.lean ====
section
/-!
SUPPORT. What the operations of Machine/Image.lean keep (Keep.lean).
-/

namespace Sys2Proof.Machine

theorem State.applyReg_keeps (s : State) (target v : Nat) :
    Keeps s (s.applyReg target v) := by
  unfold State.applyReg
  grind [Keeps, KeepsP, KeepsQ, State.setRg_keeps]

theorem State.applyRecs_keeps (s : State) (x0 : List Rec) :
    Keeps s (s.applyRecs x0) := by
  fun_induction State.applyRecs <;> grind [Keeps, KeepsP, KeepsQ, State.still, State.canonical, State.setRg_keeps, State.writeRange_keeps, State.applyReg_keeps]

theorem State.fixedStart_keeps (s : State) :
    Keeps s (s.fixedStart) := by
  unfold State.fixedStart
  grind [Keeps, KeepsP, KeepsQ, foldl_keeps, State.setRg_keeps, State.setG_keeps]

end Sys2Proof.Machine
end

