-- ==== Sys2Proof/Laws/JobLoad.lean ====
section
/-!
SUPPORT. What the operations of Machine/JobLoad.lean keep (Keep.lean).
-/

namespace Sys2Proof.Machine

theorem State.jobReset_tidy (s : State) :
    Tidy s (s.jobReset) := by
  intro h
  unfold State.canonical Registers.wf at h
  rw [Bool.and_eq_true] at h
  have k := Sparse.wf_filter resetAt s.regs (fun e => keepsValue e.1) h.2
  unfold State.jobReset
  refine (State.fixedStart_keeps _).2 ((foldl_keeps _ _ _ fun z d => z.setRg_keeps .DIE_FAULT d 0 0 0).2 ?_)
  unfold State.canonical Registers.wf
  rw [Bool.and_eq_true]
  exact ⟨h.1, k⟩

theorem State.applyQueue_keeps (s : State) (q : QEntry) :
    Keeps s (s.applyQueue q) := by
  unfold State.applyQueue
  grind [Keeps, KeepsP, KeepsQ, State.setRg_keeps]

theorem State.jobTrial_tidy (s : State) (x : JobExtra) (recs : List Rec) :
    Tidy s (s.jobTrial x recs) := by
  unfold State.jobTrial
  grind [Keeps, KeepsP, KeepsQ, Tidy, foldl_tidy, State.applyRecs_keeps, State.fixedStart_keeps, State.jobReset_tidy, State.applyQueue_keeps]

theorem State.jobArm_keeps (s : State) :
    Keeps s (s.jobArm) := by
  unfold State.jobArm
  grind [Keeps, KeepsP, KeepsQ, State.still, State.canonical, foldl_keeps, State.autoArm_keeps, State.setPress_keeps, State.setPrState_keeps, State.rennetArm_keeps]

theorem State.jobPublish_keeps (s : State) :
    Keeps s (s.jobPublish) := by
  unfold State.jobPublish
  grind [Keeps, KeepsP, KeepsQ, foldl_keeps, State.publish_keeps]

theorem State.jobMeasured_tidy (s : State) (image : List Nat) (x : JobExtra) :
    Tidy s (s.jobMeasured image x) := by
  unfold State.jobMeasured
  exact ((s.mrExtend_keeps 6 _).trans (State.setDigest_keeps _ .JOB_DIGEST 0 _)).tidy.trans
    (State.jobTrial_tidy _ x (imageRecs image))

theorem State.learnSlots_keeps (s : State) (x : JobExtra) :
    Keeps s (s.learnSlots x) := by
  unfold State.learnSlots
  grind [Keeps, KeepsP, KeepsQ, State.still, State.canonical]

theorem State.jobStarted_keeps (s : State) (x : JobExtra) :
    Keeps s (s.jobStarted x) := by
  unfold State.jobStarted
  extract_lets z s1
  have h : Keeps s s1 := (s.learnSlots_keeps x).trans (State.setG_keeps _ _ _)
  clear_value s1
  exact h.trans ((State.brineRecord_keeps _ _ _).trans (State.jobPublish_keeps _))

theorem State.jobAccept_tidy (s : State) (image : List Nat) (x : JobExtra) :
    Tidy s (s.jobAccept image x) := by
  intro h
  have k := (State.jobStarted_keeps _ x).2 (s.jobMeasured_tidy image x h)
  have hj (z : State) (j : Option Job) : Tidy z { z with job := j } := fun k => k
  unfold State.jobAccept
  exact (State.jobArm_keeps _).2 (hj _ _ k)

end Sys2Proof.Machine
end

