-- ==== Sys2Proof/Laws/Startup.lean ====
section
/-!
SUPPORT. What the operations of Machine/Startup.lean keep (Keep.lean).
-/

namespace Sys2Proof.Machine

theorem State.setBoth_keeps (s : State) (r : Reg) (v : Nat) :
    Keeps s (s.setBoth r v) := by
  unfold State.setBoth
  grind [Keeps, KeepsP, KeepsQ, State.setRg_keeps]

theorem State.bootFail_keeps (s : State) (step cause slot0 slot1 : Nat) :
    Keeps s (s.bootFail step cause slot0 slot1) := by
  unfold State.bootFail
  grind [Keeps, KeepsP, KeepsQ, State.alert_keeps, State.setBoth_keeps]

theorem State.zeroSrams_keeps (s : State) :
    Keeps s (s.zeroSrams) := by
  refine ⟨by unfold State.zeroSrams State.still; rfl, fun h => ?_⟩
  have hw : Sparse.wf (fun _ => 0) s.mem = true := by grind [State.canonical, Memory.wf]
  have := Sparse.wf_filter (fun _ => 0) s.mem (fun e => decide (regionOf e.1 < 2)) hw
  grind [State.canonical, State.zeroSrams, Memory.wf]

theorem State.strapped_tidy (s : State) (b : Boot) :
    Tidy s (s.strapped b) := by
  unfold State.strapped
  grind [Keeps, KeepsP, KeepsQ, Tidy, State.still, State.canonical, State.setG_keeps]

theorem State.measureSlot_keeps (s : State) (i : Nat) :
    Keeps s (s.measureSlot i) := by
  unfold State.measureSlot
  grind [Keeps, KeepsP, KeepsQ, State.still, State.canonical, State.setDigest_keeps, State.mrExtend_keeps, State.setBoth_keeps]

theorem State.markChannel_keeps (s : State) (m ch : Nat) :
    Keeps s (s.markChannel m ch) := by
  unfold State.markChannel
  grind [Keeps, KeepsP, KeepsQ, State.setRg_keeps]

theorem State.enableListed_keeps (s : State) :
    Keeps s (s.enableListed) := by
  unfold State.enableListed
  grind [Keeps, KeepsP, KeepsQ, foldl_keeps, State.setPortReg_keeps, State.portEnableWrite_keeps]

theorem State.zeroTiers_keeps (s : State) :
    Keeps s (s.zeroTiers) := by
  refine ⟨by unfold State.zeroTiers State.still; rfl, fun h => ?_⟩
  have hw : Sparse.wf (fun _ => 0) s.mem = true := by grind [State.canonical, Memory.wf]
  have := Sparse.wf_filter (fun _ => 0) s.mem (fun e => decide (2 ≤ regionOf e.1)) hw
  grind [State.canonical, State.zeroTiers, Memory.wf]

theorem State.applyStart_tidy (s : State) (rs : List Rec) :
    Tidy s (s.applyStart rs) := by
  unfold State.applyStart
  grind [Keeps, KeepsP, KeepsQ, Tidy, State.still, State.canonical, foldl_keeps, State.setRg_keeps, State.applyRecs_keeps, State.enableListed_keeps, State.zeroTiers_keeps]

theorem State.bootImage_tidy (s : State) (b : Boot) (i slot0 slot1 : Nat) :
    Tidy s (s.bootImage b i slot0 slot1) := by
  unfold State.bootImage
  grind [Keeps, KeepsP, KeepsQ, Tidy, State.still, State.canonical, foldl_tidy, State.alert_keeps, State.setBoth_keeps, State.bootFail_keeps, State.markChannel_keeps, State.applyStart_tidy]

theorem State.bootRun_tidy (s : State) (b : Boot) :
    Tidy s (s.bootRun b) := by
  unfold State.bootRun
  grind [Keeps, KeepsP, KeepsQ, Tidy, State.mrExtend_keeps, State.bootFail_keeps, State.measureSlot_keeps, State.bootImage_tidy]

end Sys2Proof.Machine
end

