-- ==== Sys2Proof/Laws/Batch.lean ====
section
/-!
SUPPORT. What the operations of Machine/Batch.lean keep (Keep.lean).
-/

namespace Sys2Proof.Machine

theorem State.reply_keeps (s : State) (q : Req) (typ status : Nat) (body : List Nat) :
    Keeps s (s.reply q typ status body) := by
  unfold State.reply
  grind [Keeps, KeepsP, KeepsQ, State.mgmtOut_keeps]

theorem State.asks_keeps (s : State) (q : Req) (serve : State) (h : Keeps s serve) : Keeps s (s.asks q serve) := by
  unfold State.asks
  split
  · exact h
  · exact Keeps.refl s

theorem State.asksNormal_keeps (s : State) (q : Req) (typ : Nat) (serve : State) (h : Keeps s serve) :
    Keeps s (s.asksNormal q typ serve) := by
  unfold State.asksNormal
  refine s.asks_keeps q _ ?_
  split
  · exact State.reply_keeps _ _ _ _ _
  · exact h

theorem State.onSession_keeps (s : State) (n : Nat) (f : Session → Session) :
    Keeps s (s.onSession n f) := by
  unfold State.onSession
  grind [Keeps, KeepsP, KeepsQ, State.still, State.canonical]

theorem State.genAdmit_keeps (s : State) :
    Keeps s (s.genAdmit) := by
  unfold State.genAdmit
  grind [Keeps, KeepsP, KeepsQ, State.still, State.canonical]

theorem State.issueBatch_keeps (s : State) :
    Keeps s (s.issueBatch) := by
  unfold State.issueBatch
  grind [Keeps, KeepsP, KeepsQ, State.still, State.canonical]

theorem State.waitReset_keeps (s : State) :
    Keeps s (s.waitReset) := by
  unfold State.waitReset
  grind [Keeps, KeepsP, KeepsQ, State.still, State.canonical]

theorem State.genIssue_keeps (s : State) :
    Keeps s (s.genIssue) := by
  unfold State.genIssue
  grind [Keeps, KeepsP, KeepsQ, State.issueBatch_keeps]

theorem State.genEnd_keeps (s : State) (g : GenReq) :
    Keeps s (s.genEnd g) := by
  unfold State.genEnd
  grind [Keeps, KeepsP, KeepsQ, State.mgmtOut_keeps]

theorem State.batchTokens_keeps (s : State) (x0 : List GenReq) (x1 : List (BitVec 32 × Bool)) :
    KeepsP s (s.batchTokens x0 x1) := by
  fun_induction State.batchTokens <;> grind [Keeps, KeepsP, KeepsQ, State.still, State.canonical, State.freshVal_keeps, State.mgmtOut_keeps, State.genEnd_keeps]

theorem State.copyTokens_keeps (s : State) :
    Keeps s (s.copyTokens) := by
  unfold State.copyTokens
  grind [Keeps, KeepsP, KeepsQ, State.still, State.canonical, foldl_keeps, State.memWrite_keeps, State.signal_keeps]

end Sys2Proof.Machine
end

