-- ==== Sys2Proof/Laws/Command.lean ====
section
/-!
SUPPORT. A command of a sequencer with nothing against it is run, and that is all the sequencer does.
-/

namespace Sys2Proof.Machine

/-- A command that stands at SEQ_PC of a running sequencer with no reserved bit or value, no pending register and no parity error
runs. -/
theorem State.seqStep_atCommand (s : State) (c : CoreId) (x : BitVec 128) (opc : Nat) (fields : List (Nat × Nat))
    (ok : BitVec 128 → Bool) (use : BitVec 128 → ScUse) (run : State → BitVec 128 → State)
    (h : s.atCommand c x opc fields (use x) = true) (hok : ok x = true) :
    s.seqStep c.ix .none opc fields ok use run = run s x := by
  simp only [State.atCommand, Bool.and_eq_true, decide_eq_true_eq, beq_iff_eq, Bool.not_eq_true'] at h
  obtain ⟨⟨⟨⟨h1, h2⟩, h3⟩, h4⟩, h5⟩ := h
  simp [State.seqStep, h1, h2, h3, h4, h5, hok]

end Sys2Proof.Machine
end

