-- ==== Sys2Proof/Laws/Mgmt.lean ====
section
/-!
SUPPORT. What the operations of Machine/Mgmt.lean keep (Keep.lean).
-/

namespace Sys2Proof.Machine

theorem State.loseSessions_keeps (s : State) (gone : Nat → Bool) :
    Keeps s (s.loseSessions gone) := by
  unfold State.loseSessions
  grind [Keeps, KeepsP, KeepsQ, State.still, State.canonical, State.genAdmit_keeps, State.genIssue_keeps]

theorem State.writeRegs_keeps (s : State) (x0 : Nat) (x1 : List (Nat × Nat)) :
    KeepsP s (s.writeRegs x0 x1) := by
  fun_induction State.writeRegs <;> grind [Keeps, KeepsP, KeepsQ, State.still, State.canonical, State.busWrite_keeps]

theorem State.stopFor_tidy (s : State) (q : Req) (reset : Bool) :
    Tidy s (s.stopFor q reset) := by
  unfold State.stopFor
  grind [Keeps, KeepsP, KeepsQ, Tidy, State.still, State.canonical, State.stopDone_tidy, State.stopJob_tidy]

theorem State.hoopUnload_keeps (s : State) (h : Nat) :
    Keeps s (s.hoopUnload h) := by
  unfold State.hoopUnload
  grind [Keeps, KeepsP, KeepsQ, State.hoopDecide_keeps, State.sendAborts_keeps]

theorem State.unload_keeps (s : State) :
    Keeps s (s.unload) := by
  unfold State.unload
  grind [Keeps, KeepsP, KeepsQ, State.still, State.canonical, foldl_keeps, State.genEnd_keeps, State.hoopUnload_keeps]

theorem State.teleValues_keeps (s : State) (x0 : List Nat) :
    KeepsP s (s.teleValues x0) := by
  fun_induction State.teleValues <;> grind [Keeps, KeepsP, KeepsQ, State.still, State.canonical, State.freshVal_keeps]

end Sys2Proof.Machine
end

