-- ==== Sys2Proof/Laws/Rind.lean ====
section
/-!
SUPPORT. What the operations of Machine/Rind.lean keep (Keep.lean).
-/

namespace Sys2Proof.Machine

theorem State.rindCycle_keeps (s : State) (serve : State → State) (hserve : ∀ y0, Keeps y0 (serve y0)) :
    Keeps s (s.rindCycle serve) := by
  unfold State.rindCycle
  grind [Keeps, KeepsP, KeepsQ, State.bump_keeps]

theorem State.leaseIn_keeps (s : State) (v : Nat) :
    Keeps s (s.leaseIn v) := by
  unfold State.leaseIn
  grind [Keeps, KeepsP, KeepsQ, State.boardRenewal_keeps]

theorem State.fenceResult_keeps (s : State) (code result : Nat) :
    Keeps s (s.fenceResult code result) := by
  unfold State.fenceResult
  grind [Keeps, KeepsP, KeepsQ, State.still, State.canonical, State.bump_keeps]

theorem State.fence_keeps (s : State) (code key : Nat) (act : State → Option State) (hact : ∀ y0 t, act y0 = some t → Keeps y0 t) :
    Keeps s (s.fence code key act) := by
  unfold State.fence
  grind [Keeps, KeepsP, KeepsQ, State.fenceResult_keeps]

theorem State.actFenceTwin_keeps (s : State) :
    ∀ t, s.actFenceTwin = some t → Keeps s t := by
  intro t h
  unfold State.actFenceTwin at h
  grind [Keeps, KeepsP, KeepsQ, State.setFence_keeps]

theorem State.actUnfenceTwin_keeps (s : State) :
    ∀ t, s.actUnfenceTwin = some t → Keeps s t := by
  intro t h
  unfold State.actUnfenceTwin at h
  grind [Keeps, KeepsP, KeepsQ, State.twinFenceWrite_keeps]

theorem State.actFenceFabric_keeps (s : State) :
    ∀ t, s.actFenceFabric = some t → Keeps s t := by
  intro t h
  unfold State.actFenceFabric at h
  grind [Keeps, KeepsP, KeepsQ, State.still, State.canonical, foldl_keeps, State.portEnableWrite_keeps]

theorem State.actUnfenceFabric_keeps (s : State) :
    ∀ t, s.actUnfenceFabric = some t → Keeps s t := by
  intro t h
  unfold State.actUnfenceFabric at h
  grind [Keeps, KeepsP, KeepsQ, State.still, State.canonical]

theorem State.actStopJob_tidy (s : State) :
    ∀ t, s.actStopJob = some t → Tidy s t := by
  intro t h
  unfold State.actStopJob at h
  grind [Keeps, KeepsP, KeepsQ, Tidy, State.modFault_keeps, State.stopJob_tidy]

theorem State.fence_tidy (s : State) (code key : Nat) (act : State → Option State) (h : ∀ t, act s = some t → Tidy s t) :
    Tidy s (s.fence code key act) := by
  have k (z : State) (r : Nat) := (z.fenceResult_keeps code r).tidy
  unfold State.fence
  split
  · exact k _ _
  · split
    · rename_i heq
      exact (h _ heq).trans (k _ _)
    · exact k _ _

theorem State.fenceWord_tidy (s : State) (v : Nat) :
    Tidy s (s.fenceWord v) := by
  unfold State.fenceWord
  dsimp only
  split
  · exact s.fence_tidy _ _ _ fun t h => (s.actFenceTwin_keeps t h).tidy
  · exact s.fence_tidy _ _ _ fun t h => (s.actUnfenceTwin_keeps t h).tidy
  · exact s.fence_tidy _ _ _ fun t h => (s.actFenceFabric_keeps t h).tidy
  · exact s.fence_tidy _ _ _ fun t h => (s.actUnfenceFabric_keeps t h).tidy
  · exact s.fence_tidy _ _ _ fun t h => s.actStopJob_tidy t h
  · exact (s.fenceResult_keeps _ _).tidy

theorem State.rindPut_tidy (s : State) (a v : Nat) :
    Tidy s (s.rindPut a v) := by
  unfold State.rindPut
  grind [Keeps, KeepsP, KeepsQ, Tidy, State.still, State.canonical, State.leaseIn_keeps, State.fenceWord_tidy]

end Sys2Proof.Machine
end

