-- ==== Sys2Proof/Laws/Power.lean ====
section
/-!
SUPPORT. What the operations of Machine/Power.lean keep (Keep.lean).
-/

namespace Sys2Proof.Machine

theorem State.setDemands_keeps (s : State) (pd td : Nat) :
    Keeps s (s.setDemands pd td) := by
  unfold State.setDemands
  grind [Keeps, KeepsP, KeepsQ, State.setG_keeps, State.alert_keeps]

theorem State.readTemp_keeps (s : State) (die : Nat) (v : BitVec 16) :
    Keeps s (s.readTemp die v) := by
  unfold State.readTemp
  grind [Keeps, KeepsP, KeepsQ, State.setRg_keeps, State.freshVal_keeps, State.dieFault_keeps]

theorem State.hotFaults_keeps (s : State) (x0 : List Nat) :
    Keeps s (s.hotFaults x0) := by
  fun_induction State.hotFaults <;> grind [Keeps, KeepsP, KeepsQ, State.still, State.canonical, State.freshVal_keeps, State.dieFault_keeps]

theorem State.countStall_keeps (s : State) (die : Nat) (x : Stall) :
    Keeps s (s.countStall die x) := by
  unfold State.countStall
  grind [Keeps, KeepsP, KeepsQ, State.bump_keeps, State.rsArrive_keeps, State.vetchFault_keeps, State.disturb_keeps]

theorem State.tickChannels_keeps (s : State) (d : Die) (st : List Stall) :
    Keeps s (s.tickChannels d st) := by
  unfold State.tickChannels
  grind [Keeps, KeepsP, KeepsQ, State.still, State.canonical]

theorem State.tickWaits_keeps (s : State) (die : Nat) :
    Keeps s (s.tickWaits die) := by
  unfold State.tickWaits
  grind [Keeps, KeepsP, KeepsQ, State.still, State.canonical, foldl_keeps, State.bump_keeps]

theorem State.tickSeq_keeps (s : State) (core : Nat) :
    Keeps s (s.tickSeq core) := by
  unfold State.tickSeq
  grind [Keeps, KeepsP, KeepsQ, State.still, State.canonical, State.bump_keeps, State.setSeq_keeps]

theorem State.tickCore_keeps (s : State) (core : Nat) :
    Keeps s (s.tickCore core) := by
  unfold State.tickCore
  grind [Keeps, KeepsP, KeepsQ, foldl_keeps, State.bump_keeps, State.tickSeq_keeps]

theorem State.tickDma_keeps (s : State) (die : Nat) :
    Keeps s (s.tickDma die) := by
  unfold State.tickDma
  grind [Keeps, KeepsP, KeepsQ, State.still, State.canonical, foldl_keeps, State.setDma_keeps]

theorem State.tickPress_keeps (s : State) (die : Nat) :
    Keeps s (s.tickPress die) := by
  unfold State.tickPress
  grind [Keeps, KeepsP, KeepsQ, foldl_keeps, State.bump_keeps]

theorem State.tickPort_keeps (s : State) (p : Nat) :
    Keeps s (s.tickPort p) := by
  unfold State.tickPort
  grind [Keeps, KeepsP, KeepsQ, State.still, State.canonical, State.setPort_keeps, State.sendOwed_keeps]

theorem State.tickVat_keeps (s : State) (x : Nat) :
    Keeps s (s.tickVat x) := by
  unfold State.tickVat
  grind [Keeps, KeepsP, KeepsQ, State.still, State.canonical, State.setVat_keeps]

theorem State.tickHead_keeps (s : State) :
    Keeps s (s.tickHead) := by
  unfold State.tickHead
  grind [Keeps, KeepsP, KeepsQ, State.still, State.canonical, foldl_keeps, State.bump_keeps, State.setHoop_keeps, State.copyTokens_keeps]

theorem State.tickWatcher_keeps (s : State) :
    Keeps s (s.tickWatcher) := by
  unfold State.tickWatcher
  grind [Keeps, KeepsP, KeepsQ, State.still, State.canonical]

theorem State.tickX_keeps (s : State) (x : Nat) :
    Keeps s (s.tickX x) := by
  unfold State.tickX
  grind [Keeps, KeepsP, KeepsQ, State.still, State.canonical, foldl_keeps, State.tickPort_keeps, State.tickVat_keeps, State.tickHead_keeps, State.tickWatcher_keeps]

end Sys2Proof.Machine
end

