-- ==== Sys2Proof/Laws/Memory.lean ====
section
/-!
SUPPORT. The operations that store nothing in memory: every byte reads after them as before.
-/

namespace Sys2Proof.Machine

/-! ### Ops -/

theorem foldl_mem {α : Type} (g : State → α → State) (l : List α) (s : State) (h : ∀ z x, (g z x).mem = z.mem) :
    (l.foldl g s).mem = s.mem := by
  induction l generalizing s with
  | nil => rfl
  | cons a l ih => exact (ih (g s a)).trans (h s a)

@[simp] theorem State.setRg_mem (s : State) (r : Reg) (die i j v : Nat) : (s.setRg r die i j v).mem = s.mem := by
  unfold State.setRg; rfl

theorem State.setFld_mem (s : State) (r : Reg) (die i j lo w x : Nat) :
    (s.setFld r die i j lo w x).mem = s.mem := by
  unfold State.setFld
  grind [State.setRg_mem]

theorem State.setG_mem (s : State) (r : Reg) (v : Nat) :
    (s.setG r v).mem = s.mem := by
  unfold State.setG
  grind [State.setRg_mem]

theorem State.bump_mem (s : State) (r : Reg) (die i j n : Nat) :
    (s.bump r die i j n).mem = s.mem := by
  unfold State.bump
  grind [State.setRg_mem]

@[simp] theorem State.freshVal_mem (s : State) :
    (s.freshVal).2.mem = s.mem := by
  unfold State.freshVal
  grind

theorem State.untilFail_mem {α β : Type} (s : State) (f : State → α → State × Option β) (x0 : List α) (hf : ∀ y0 y1, (f y0 y1).1.mem = y0.mem) :
    (s.untilFail f x0).1.mem = s.mem := by
  fun_induction State.untilFail <;> grind

theorem State.untilFlags_mem {α : Type} (s : State) (f : State → α → State × Option Nat × Nat) (x0 : List α) (hf : ∀ y0 y1, (f y0 y1).1.mem = y0.mem) :
    (s.untilFlags f x0).1.mem = s.mem := by
  fun_induction State.untilFlags <;> grind

@[simp] theorem State.answer_mem (s : State) (r : Resp) :
    (s.answer r).mem = s.mem := by
  unfold State.answer
  grind

theorem State.dieFault_mem (s : State) (die block unit cause : Nat) :
    (s.dieFault die block unit cause).mem = s.mem := by
  unfold State.dieFault
  grind [State.setRg_mem]

theorem State.setPortReg_mem (s : State) (r : Reg) (p v : Nat) :
    (s.setPortReg r p v).mem = s.mem := by
  unfold State.setPortReg
  grind [State.setRg_mem]

theorem State.bumpPort_mem (s : State) (r : Reg) (p n : Nat) :
    (s.bumpPort r p n).mem = s.mem := by
  unfold State.bumpPort
  grind [State.bump_mem]

@[simp] theorem State.setPort_mem (s : State) (p : Nat) (x : PortS) :
    (s.setPort p x).mem = s.mem := by
  unfold State.setPort
  grind

theorem State.pumpOne_mem (s : State) (p : Nat) :
    (s.pumpOne p).mem = s.mem := by
  unfold State.pumpOne
  grind [State.bumpPort_mem, State.setPort_mem]

theorem State.pump_mem (s : State) (p : Nat) (x0 : Nat) :
    (s.pump p x0).mem = s.mem := by
  fun_induction State.pump <;> grind [State.pumpOne_mem]

theorem State.enqueue_mem (s : State) (p : Nat) (f : Flit) :
    (s.enqueue p f).mem = s.mem := by
  unfold State.enqueue
  grind [State.setPort_mem, State.pump_mem]

theorem State.sendFlit_mem (s : State) (f : Flit) :
    (s.sendFlit f).1.mem = s.mem := by
  unfold State.sendFlit
  grind [State.enqueue_mem]

theorem State.enqueueFrame_mem (s : State) (p : Nat) (m : FrameMsg) :
    (s.enqueueFrame p m).mem = s.mem := by
  unfold State.enqueueFrame
  grind [State.setPort_mem, State.enqueue_mem]

theorem State.sendFrame_mem (s : State) (dst : Nat) (b : Frame) :
    (s.sendFrame dst b).mem = s.mem := by
  unfold State.sendFrame
  grind [State.enqueueFrame_mem]

theorem State.nextTag_mem (s : State) :
    (s.nextTag).2.mem = s.mem := by
  unfold State.nextTag
  grind

theorem State.sendWrites_mem (s : State) (who : Asker) (x0 : List (Nat × List Nat)) :
    (s.sendWrites who x0).1.mem = s.mem := by
  fun_induction State.sendWrites <;> grind [State.sendFlit_mem, State.nextTag_mem]

theorem State.sendReads_mem (s : State) (who : Asker) (x0 : List (Nat × List Nat)) :
    (s.sendReads who x0).1.mem = s.mem := by
  fun_induction State.sendReads <;> grind [State.sendFlit_mem, State.nextTag_mem]

theorem State.sendRegFor_mem (s : State) (who : Asker) (node off : Nat) (wide : Bool) (v : Nat) :
    (s.sendRegFor who node off wide v).1.mem = s.mem := by
  unfold State.sendRegFor
  grind [State.sendFlit_mem, State.nextTag_mem]

theorem State.sendReg_mem (s : State) (node off : Nat) (wide : Bool) (v : Nat) :
    (s.sendReg node off wide v).mem = s.mem := by
  unfold State.sendReg
  grind [State.sendRegFor_mem]

theorem State.raise_mem (s : State) (die unit flags : Nat) :
    (s.raise die unit flags).mem = s.mem := by
  unfold State.raise
  grind [State.setRg_mem, State.setG_mem]

theorem State.uncorrectable_mem (s : State) (blk : Nat) :
    (s.uncorrectable blk).mem = s.mem := by
  unfold State.uncorrectable
  grind [State.setRg_mem, State.dieFault_mem]

theorem State.mend_mem (s : State) (blk : Nat) :
    (s.mend blk).mem = s.mem := by
  unfold State.mend
  grind [State.bump_mem]

theorem State.mendBlocks_mem (s : State) (addrs : List Nat) :
    (s.mendBlocks addrs).mem = s.mem := by
  unfold State.mendBlocks
  grind [State.mend_mem, foldl_mem]

theorem State.correctWord_mem (s : State) (w : Nat) :
    (s.correctWord w).mem = s.mem := by
  unfold State.correctWord
  grind [State.bump_mem]

theorem State.checkWords_mem (s : State) (x0 : List Nat) :
    (s.checkWords x0).1.mem = s.mem := by
  fun_induction State.checkWords <;> grind [State.correctWord_mem]

theorem State.readRange_mem (s : State) (addr n : Nat) :
    (s.readRange addr n).1.mem = s.mem := by
  unfold State.readRange
  grind [State.uncorrectable_mem, State.mendBlocks_mem, State.checkWords_mem]

theorem State.readRaw_mem (s : State) (addr n : Nat) :
    (s.readRaw addr n).1.mem = s.mem := by
  unfold State.readRaw
  grind [State.uncorrectable_mem, State.mendBlocks_mem]

theorem State.freshSidecars_mem (s : State) (addr n : Nat) :
    (s.freshSidecars addr n).mem = s.mem := by
  unfold State.freshSidecars
  grind

theorem State.memRead_mem (s : State) (r : Requester) (addr n : Nat) :
    (s.memRead r addr n).1.mem = s.mem := by
  unfold State.memRead
  grind [State.readRange_mem]

theorem State.spRead_mem (s : State) (core off n : Nat) :
    (s.spRead core off n).1.mem = s.mem := by
  unfold State.spRead
  grind [State.readRange_mem]

@[simp] theorem State.setSeq_mem (s : State) (core : Nat) (q : SeqS) :
    (s.setSeq core q).mem = s.mem := by
  unfold State.setSeq
  grind

theorem State.setSeqState_mem (s : State) (core st hold : Nat) :
    (s.setSeqState core st hold).mem = s.mem := by
  unfold State.setSeqState
  grind [State.setRg_mem]

theorem State.setSc_mem (s : State) (core i v : Nat) :
    (s.setSc core i v).mem = s.mem := by
  unfold State.setSc
  grind [State.setRg_mem]

theorem State.seqFaultCore_mem (s : State) (core cause unit : Nat) :
    (s.seqFaultCore core cause unit).mem = s.mem := by
  unfold State.seqFaultCore
  grind [State.setRg_mem, State.dieFault_mem, State.setSeq_mem]

theorem State.retireTo_mem (s : State) (core pc' : Nat) :
    (s.retireTo core pc').mem = s.mem := by
  unfold State.retireTo
  grind [State.setRg_mem, State.bump_mem, State.setSeq_mem, State.setSeqState_mem, State.seqFaultCore_mem]

theorem State.retire_mem (s : State) (core : Nat) :
    (s.retire core).mem = s.mem := by
  unfold State.retire
  grind [State.retireTo_mem]

theorem State.holdSeq_mem (s : State) (core hold : Nat) :
    (s.holdSeq core hold).mem = s.mem := by
  unfold State.holdSeq
  grind [State.setSeqState_mem]

theorem State.wake_mem (s : State) (w : SemWait) :
    (s.wake w).mem = s.mem := by
  unfold State.wake
  grind [State.retire_mem]

theorem State.serve_mem (s : State) (die i : Nat) (x0 : Nat) :
    (s.serve die i x0).mem = s.mem := by
  fun_induction State.serve <;> grind [State.setRg_mem, State.wake_mem]

theorem State.dropWaits_mem (s : State) (p : SemWait → Bool) :
    (s.dropWaits p).mem = s.mem := by
  unfold State.dropWaits
  grind [State.serve_mem, foldl_mem]

theorem State.dropWait_mem (s : State) (die : Nat) (who : Waiter) :
    (s.dropWait die who).mem = s.mem := by
  unfold State.dropWait
  grind [State.dropWaits_mem]

theorem State.seqFault_mem (s : State) (core cause unit : Nat) :
    (s.seqFault core cause unit).mem = s.mem := by
  unfold State.seqFault
  grind [State.seqFaultCore_mem, State.dropWaits_mem]

/-! ### Fec -/

theorem State.rsArrive_mem (s : State) (p : Nat) (data : List Nat) (noise : List (Nat × Nat)) :
    (s.rsArrive p data noise).mem = s.mem := by
  unfold State.rsArrive
  grind [State.bumpPort_mem]

/-! ### Lease -/

@[simp] theorem State.alert_mem (s : State) (i : Nat) :
    (s.alert i).mem = s.mem := by
  unfold State.alert
  grind

@[simp] theorem State.mgmtOut_mem (s : State) (session typ status id : Nat) (body : List Nat) :
    (s.mgmtOut session typ status id body).mem = s.mem := by
  unfold State.mgmtOut
  grind

theorem State.setDigest_mem (s : State) (r : Reg) (n : Nat) (bs : List Nat) :
    (s.setDigest r n bs).mem = s.mem := by
  unfold State.setDigest
  grind [State.setRg_mem, foldl_mem]

theorem State.mrExtend_mem (s : State) (n : Nat) (v : List Nat) :
    (s.mrExtend n v).mem = s.mem := by
  unfold State.mrExtend
  grind [State.setDigest_mem]

theorem State.mrEvent_mem (s : State) (code : Nat) (data : List Nat) :
    (s.mrEvent code data).mem = s.mem := by
  unfold State.mrEvent
  grind [State.mrExtend_mem]

theorem State.halfChange_mem (s : State) (east : Bool) (epoch code : Nat) (renew : Bool) :
    (s.halfChange east epoch code renew).mem = s.mem := by
  unfold State.halfChange
  grind [State.setG_mem, State.alert_mem, State.mrEvent_mem]

theorem State.handover_mem (s : State) :
    (s.handover).mem = s.mem := by
  unfold State.handover
  grind [State.halfChange_mem]

/-! ### Vetch -/

theorem State.dieComplete_mem (s : State) (die ctx : Nat) :
    (s.dieComplete die ctx).mem = s.mem := by
  unfold State.dieComplete
  grind

theorem State.arriveAt_mem (s : State) (die ctx : Nat) :
    (s.arriveAt die ctx).1.mem = s.mem := by
  unfold State.arriveAt
  grind [State.setRg_mem, State.dieComplete_mem]

theorem State.arrived_mem (s : State) (core ctx gen : Nat) (wait : Bool) :
    (s.arrived core ctx gen wait).mem = s.mem := by
  unfold State.arrived
  grind [State.setSeq_mem, State.retire_mem, State.holdSeq_mem]

theorem State.releaseBar_mem (s : State) (die ctx gen : Nat) (x0 : List Nat) :
    (s.releaseBar die ctx gen x0).mem = s.mem := by
  fun_induction State.releaseBar <;> grind [State.retire_mem]

theorem State.admitHeld_mem (s : State) (x0 : List HeldArr) :
    (s.admitHeld x0).mem = s.mem := by
  fun_induction State.admitHeld <;> grind [State.arriveAt_mem, State.arrived_mem]

theorem State.completeAt_mem (s : State) (die ctx gen : Nat) :
    (s.completeAt die ctx gen).mem = s.mem := by
  unfold State.completeAt
  grind [State.setRg_mem, State.dieComplete_mem, State.releaseBar_mem, State.admitHeld_mem]

theorem State.vetchFault_mem (s : State) (die cause index : Nat) :
    (s.vetchFault die cause index).mem = s.mem := by
  unfold State.vetchFault
  grind [State.setRg_mem, State.dieFault_mem]

theorem State.addSem_mem (s : State) (die i n : Nat) :
    (s.addSem die i n).mem = s.mem := by
  unfold State.addSem
  grind [State.setRg_mem, State.serve_mem, State.vetchFault_mem]

theorem State.signal_mem (s : State) (sender : Nat) (twin : Bool) (die i n : Nat) :
    (s.signal sender twin die i n).mem = s.mem := by
  unfold State.signal
  grind [State.sendFrame_mem, State.addSem_mem]

theorem State.passSignals_mem (s : State) :
    (s.passSignals).mem = s.mem := by
  unfold State.passSignals
  grind [State.addSem_mem, foldl_mem]

theorem State.takeSem_mem (s : State) (die i n : Nat) :
    ∀ t, s.takeSem die i n = some t → t.mem = s.mem := by
  intro t h
  unfold State.takeSem at h
  grind [State.setRg_mem]

theorem State.unitWait_mem (s : State) (die i n : Nat) (who : Waiter) :
    (s.unitWait die i n who).mem = s.mem := by
  unfold State.unitWait
  grind [State.takeSem_mem]

theorem State.useGrant_mem (s : State) (die : Nat) (who : Waiter) :
    (s.useGrant die who).mem = s.mem := by
  unfold State.useGrant
  grind

theorem State.autoArm_mem (s : State) (die : Nat) :
    (s.autoArm die).mem = s.mem := by
  unfold State.autoArm
  grind [State.unitWait_mem]

theorem State.autoArrive_mem (s : State) (die : Nat) :
    (s.autoArrive die).mem = s.mem := by
  unfold State.autoArrive
  grind [State.arriveAt_mem, State.useGrant_mem, State.autoArm_mem]

/-! ### Array -/

@[simp] theorem State.setArr_mem (s : State) (core a : Nat) (x : ArrayS) :
    (s.setArr core a x).mem = s.mem := by
  unfold State.setArr
  grind

@[simp] theorem State.setAcc_mem (s : State) (key v : Nat) :
    (s.setAcc key v).mem = s.mem := by
  unfold State.setAcc
  grind

theorem State.arrFault_mem (s : State) (core a part cause row entered : Nat) :
    (s.arrFault core a part cause row entered).mem = s.mem := by
  unfold State.arrFault
  grind [State.setRg_mem, State.bump_mem, State.freshVal_mem, State.seqFault_mem, State.setArr_mem]

theorem State.readRuns_mem (s : State) (core base : Nat) (stride : Int) (len : Nat) (x0 : Nat) :
    (s.readRuns core base stride len x0).1.mem = s.mem := by
  fun_induction State.readRuns <;> grind [State.spRead_mem]

theorem State.passStart_mem (s : State) (core a part : Nat) :
    (s.passStart core a part).mem = s.mem := by
  unfold State.passStart
  grind [State.setFld_mem, State.setArr_mem, State.arrFault_mem, State.readRuns_mem, foldl_mem]

theorem State.loadRelease_mem (s : State) (core a part : Nat) :
    (s.loadRelease core a part).mem = s.mem := by
  unfold State.loadRelease
  grind [State.setArr_mem]

theorem State.streamRow_mem (s : State) (core : Nat) (p : Pass) (m : Nat) :
    (s.streamRow core p m).1.mem = s.mem := by
  unfold State.streamRow
  grind [State.spRead_mem]

/-! ### Vector -/

@[simp] theorem State.setVec_mem (s : State) (core : Nat) (x : VecS) :
    (s.setVec core x).mem = s.mem := by
  unfold State.setVec
  grind

theorem State.vecRead_mem (s : State) (core space off n : Nat) :
    (s.vecRead core space off n).1.mem = s.mem := by
  unfold State.vecRead
  grind [State.spRead_mem]

theorem State.vecElem_mem (s : State) (core : Nat) (d : Option StreamD) (r j : Nat) :
    (s.vecElem core d r j).1.mem = s.mem := by
  unfold State.vecElem
  grind [State.vecRead_mem]

theorem State.vecFault_mem (s : State) (core cause row opidx : Nat) :
    (s.vecFault core cause row opidx).mem = s.mem := by
  unfold State.vecFault
  grind [State.setRg_mem, State.seqFault_mem, State.setVec_mem]

theorem State.vecStart_mem (s : State) (core : Nat) :
    (s.vecStart core).mem = s.mem := by
  unfold State.vecStart
  grind [State.setVec_mem]

theorem State.deliverSummary_mem (s : State) (core : Nat) (c : VecCmd) (word : Nat) :
    (s.deliverSummary core c word).mem = s.mem := by
  unfold State.deliverSummary
  grind [State.setRg_mem, State.setSc_mem]

/-! ### Teasel -/

@[simp] theorem State.setTea_mem (s : State) (core : Nat) (x : TeaS) :
    (s.setTea core x).mem = s.mem := by
  unfold State.setTea
  grind

theorem State.teaWrite_mem (s : State) (core i v : Nat) :
    (s.teaWrite core i v).mem = s.mem := by
  unfold State.teaWrite
  grind [State.setRg_mem, State.setTea_mem]

theorem State.snoopAssign_mem (s : State) (core : Nat) (f : MatF) :
    (s.snoopAssign core f).1.mem = s.mem := by
  unfold State.snoopAssign
  grind [State.setTea_mem]

theorem State.teaFault_mem (s : State) (core cause slot : Nat) :
    (s.teaFault core cause slot).mem = s.mem := by
  unfold State.teaFault
  grind [State.setRg_mem, State.seqFault_mem, State.setTea_mem]

theorem State.flushAccept_mem (s : State) (core addr : Nat) (sig : Bool) (sem : Nat) :
    (s.flushAccept core addr sig sem).mem = s.mem := by
  unfold State.flushAccept
  grind [State.setTea_mem]

theorem State.flushEnd_mem (s : State) (core : Nat) (g : Flush) (rest : List Flush) :
    (s.flushEnd core g rest).mem = s.mem := by
  unfold State.flushEnd
  grind [State.addSem_mem, State.setTea_mem]

/-! ### Engines -/

@[simp] theorem State.setRen_mem (s : State) (m e : Nat) (x : RenS) :
    (s.setRen m e x).mem = s.mem := by
  unfold State.setRen
  grind

@[simp] theorem State.setPress_mem (s : State) (m e : Nat) (x : PressS) :
    (s.setPress m e x).mem = s.mem := by
  unfold State.setPress
  grind

@[simp] theorem State.setVat_mem (s : State) (x : Nat) (v : VatS) :
    (s.setVat x v).mem = s.mem := by
  unfold State.setVat
  grind

theorem State.setRenState_mem (s : State) (m e st : Nat) :
    (s.setRenState m e st).mem = s.mem := by
  unfold State.setRenState
  grind [State.setFld_mem]

theorem State.setPrState_mem (s : State) (m e st : Nat) :
    (s.setPrState m e st).mem = s.mem := by
  unfold State.setPrState
  grind [State.setFld_mem]

theorem State.pressFault_mem (s : State) (m e cause entry : Nat) :
    (s.pressFault m e cause entry).mem = s.mem := by
  unfold State.pressFault
  grind [State.setRg_mem, State.setFld_mem, State.dieFault_mem, State.dropWait_mem, State.setPrState_mem]

theorem State.rennetArm_mem (s : State) (m e : Nat) :
    (s.rennetArm m e).mem = s.mem := by
  unfold State.rennetArm
  grind [State.unitWait_mem, State.setRenState_mem]

theorem State.rennetMissed_mem (s : State) (m e : Nat) :
    (s.rennetMissed m e).mem = s.mem := by
  unfold State.rennetMissed
  grind [State.setFld_mem, State.bump_mem]

theorem State.pressDecided_mem (s : State) (m e k : Nat) (cause : Option Nat) :
    (s.pressDecided m e k cause).mem = s.mem := by
  unfold State.pressDecided
  grind [State.setPress_mem, State.setPrState_mem, State.pressFault_mem]

theorem State.brineRecord_mem (s : State) (step e : Nat) :
    (s.brineRecord step e).mem = s.mem := by
  unfold State.brineRecord
  grind [State.setRg_mem]

theorem State.brineLog_mem (s : State) (step : Nat) :
    (s.brineLog step).mem = s.mem := by
  unfold State.brineLog
  grind [State.setRg_mem, foldl_mem]

theorem State.brineVerdict_mem (s : State) (k : Nat) (ovf : Bool) :
    (s.brineVerdict k ovf).mem = s.mem := by
  unfold State.brineVerdict
  grind [State.setRg_mem, State.setG_mem, State.bump_mem, State.brineRecord_mem, State.brineLog_mem]

theorem State.caveMap_mem (s : State) :
    (s.caveMap).1.mem = s.mem := by
  unfold State.caveMap
  grind [State.readRange_mem]

theorem State.captureBegin_mem (s : State) (k : Nat) (sel : List (Reg × Nat × Nat × Nat)) :
    (s.captureBegin k sel).mem = s.mem := by
  unfold State.captureBegin
  grind [State.setG_mem, State.bump_mem, State.caveMap_mem]

/-! ### Hoop -/

@[simp] theorem State.setHoop_mem (s : State) (h : Nat) (x : HoopS) :
    (s.setHoop h x).mem = s.mem := by
  unfold State.setHoop
  grind

theorem State.setHoopSt_mem (s : State) (h lo w v : Nat) :
    (s.setHoopSt h lo w v).mem = s.mem := by
  unfold State.setHoopSt
  grind [State.setFld_mem]

theorem State.hoopOpen_mem (s : State) (h : Nat) :
    (s.hoopOpen h).mem = s.mem := by
  unfold State.hoopOpen
  grind [State.setRg_mem, State.setHoop_mem]

theorem State.releaseHoop_mem (s : State) (h inst res epoch : Nat) (x0 : List Nat) :
    (s.releaseHoop h inst res epoch x0).mem = s.mem := by
  fun_induction State.releaseHoop <;> grind [State.setSc_mem, State.retire_mem]

theorem State.sendAborts_mem (s : State) (h inst : Nat) (x0 : List Nat) :
    (s.sendAborts h inst x0).mem = s.mem := by
  fun_induction State.sendAborts <;> grind [State.sendFrame_mem]

theorem State.hoopReady_mem (s : State) (h : Nat) :
    (s.hoopReady h).1.mem = s.mem := by
  unfold State.hoopReady
  grind [State.setHoopSt_mem]

theorem State.moduleItem_mem (s : State) (e : Nat) (x : HItem) :
    (s.moduleItem e x).mem = s.mem := by
  unfold State.moduleItem
  grind [State.setRg_mem, State.setG_mem]

theorem State.caveTake_mem (s : State) (m : Nat) :
    (s.caveTake m).mem = s.mem := by
  unfold State.caveTake
  grind [State.setFld_mem]

theorem State.caveGive_mem (s : State) (m : Nat) :
    (s.caveGive m).mem = s.mem := by
  unfold State.caveGive
  grind [State.setFld_mem]

theorem State.caveTakeFrom_mem (s : State) (m : Nat) :
    (s.caveTakeFrom m).mem = s.mem := by
  unfold State.caveTakeFrom
  grind [State.caveTake_mem, foldl_mem]

theorem State.brineEpoch_mem (s : State) (e flags : Nat) :
    (s.brineEpoch e flags).mem = s.mem := by
  unfold State.brineEpoch
  grind [State.brineVerdict_mem]

theorem State.completeDies_mem (s : State) (ctx gen : Nat) :
    (s.completeDies ctx gen).mem = s.mem := by
  unfold State.completeDies
  grind

/-! ### Dma -/

@[simp] theorem State.setDma_mem (s : State) (die ch : Nat) (x : DmaS) :
    (s.setDma die ch x).mem = s.mem := by
  unfold State.setDma
  grind

theorem State.dmaRecord_mem (s : State) (die ch cause tag : Nat) :
    (s.dmaRecord die ch cause tag).mem = s.mem := by
  unfold State.dmaRecord
  grind [State.setRg_mem]

theorem State.dmaFault_mem (s : State) (die ch cause : Nat) :
    (s.dmaFault die ch cause).mem = s.mem := by
  unfold State.dmaFault
  grind [State.dieFault_mem, State.setDma_mem, State.dmaRecord_mem]

theorem State.dmaUnread_mem (s : State) (die ch cause : Nat) :
    (s.dmaUnread die ch cause).1.mem = s.mem := by
  unfold State.dmaUnread
  grind [State.freshVal_mem, State.dmaRecord_mem]

theorem State.dmaTake_mem (s : State) (die ch owner : Nat) (bs : List Nat) :
    (s.dmaTake die ch owner bs).1.mem = s.mem := by
  unfold State.dmaTake
  grind [State.setDma_mem, State.dmaRecord_mem]

theorem State.dmaSubmit_mem (s : State) (die ch owner addr : Nat) (inside : Bool) (r : Requester) :
    (s.dmaSubmit die ch owner addr inside r).1.mem = s.mem := by
  unfold State.dmaSubmit
  grind [State.memRead_mem, State.dmaUnread_mem, State.dmaTake_mem]

theorem State.dmaRegSubmit_mem (s : State) (d : Die) (ch v : Nat) :
    (s.dmaRegSubmit d ch v).1.mem = s.mem := by
  unfold State.dmaRegSubmit
  grind [State.sendReads_mem, State.dmaUnread_mem, State.dmaSubmit_mem]

theorem State.dmaDelivered_mem (s : State) (die ch : Nat) (bs : Option (List Nat)) :
    (s.dmaDelivered die ch bs).mem = s.mem := by
  unfold State.dmaDelivered
  grind [State.answer_mem, State.dmaUnread_mem, State.dmaTake_mem]

theorem State.overlapFree_mem (s : State) (f : DmaF) (b : Burst) (bs : List Nat) :
    (s.overlapFree f b bs).1.mem = s.mem := by
  unfold State.overlapFree
  grind

theorem State.burstDone_mem (s : State) (die ch n : Nat) :
    (s.burstDone die ch n).mem = s.mem := by
  unfold State.burstDone
  grind [State.bump_mem, State.setDma_mem]

theorem State.noteGrant_mem (s : State) (die ch level : Nat) (others : List Nat) :
    (s.noteGrant die ch level others).mem = s.mem := by
  unfold State.noteGrant
  grind [State.setDma_mem, foldl_mem]

theorem State.dmaAcked_mem (s : State) (die ch : Nat) (err : Bool) :
    (s.dmaAcked die ch err).mem = s.mem := by
  unfold State.dmaAcked
  grind [State.dmaFault_mem, State.burstDone_mem]

/-! ### MemTier -/

theorem State.ccDrop_mem (s : State) (east : Bool) (line : Nat) :
    (s.ccDrop east line).mem = s.mem := by
  unfold State.ccDrop
  grind

theorem State.ccHold_mem (s : State) (east : Bool) (line : Nat) (bs : List Nat) (dirty : Bool) :
    (s.ccHold east line bs dirty).mem = s.mem := by
  unfold State.ccHold
  grind [State.ccDrop_mem]

theorem State.ccFill_mem (s : State) (east : Bool) (bs : List Nat) (x0 : List Nat) :
    (s.ccFill east bs x0).1.mem = s.mem := by
  fun_induction State.ccFill <;> grind [State.ccHold_mem]

theorem State.ccPatch_mem (s : State) (east : Bool) (addr : Nat) (bs : List Nat) :
    (s.ccPatch east addr bs).mem = s.mem := by
  unfold State.ccPatch
  grind

theorem State.ccHoldWrite_mem (s : State) (east : Bool) (addr : Nat) (bs : List Nat) (x0 : List Nat) :
    ∀ t, s.ccHoldWrite east addr bs x0 = some t → t.mem = s.mem := by
  intro t h
  fun_induction State.ccHoldWrite <;> grind [State.memRead_mem, State.ccHold_mem, State.ccPatch_mem]

theorem State.disturb_mem (s : State) (blk bad : Nat) :
    (s.disturb blk bad).mem = s.mem := by
  unfold State.disturb
  grind

theorem State.tierBlock_mem (s : State) (r : Requester) (a : Nat) (bad : Fin 5) :
    (s.tierBlock r a bad).1.mem = s.mem := by
  unfold State.tierBlock
  grind [State.memRead_mem, State.disturb_mem]

theorem State.mcRetire_mem (s : State) (m v : Nat) :
    (s.mcRetire m v).1.mem = s.mem := by
  unfold State.mcRetire
  grind [State.setRg_mem, State.setFld_mem]

theorem State.mendLine_mem (s : State) (m tier ch line : Nat) :
    (s.mendLine m tier ch line).mem = s.mem := by
  unfold State.mendLine
  grind [State.mend_mem]

theorem State.setMig_mem (s : State) (g : Mig) :
    (s.setMig g).mem = s.mem := by
  unfold State.setMig
  grind

/-! ### Link -/

theorem State.setPortState_mem (s : State) (p st : Nat) :
    (s.setPortState p st).mem = s.mem := by
  unfold State.setPortState
  grind [State.setPortReg_mem]

theorem State.setPortBit_mem (s : State) (p i : Nat) (b : Bool) :
    (s.setPortBit p i b).mem = s.mem := by
  unfold State.setPortBit
  grind [State.setPortReg_mem]

theorem State.portRecord_mem (s : State) (p cause : Nat) :
    (s.portRecord p cause).mem = s.mem := by
  unfold State.portRecord
  grind [State.setPortReg_mem]

theorem State.portFail_mem (s : State) (p cause : Nat) :
    (s.portFail p cause).mem = s.mem := by
  unfold State.portFail
  grind [State.setRg_mem, State.dieFault_mem, State.setPort_mem, State.vetchFault_mem, State.setPortState_mem, State.portRecord_mem]

theorem State.portRetrain_mem (s : State) (p : Nat) :
    (s.portRetrain p).mem = s.mem := by
  unfold State.portRetrain
  grind [State.setPort_mem, State.setPortState_mem]

theorem State.enterFallback_mem (s : State) (p : Nat) :
    (s.enterFallback p).mem = s.mem := by
  unfold State.enterFallback
  grind [State.setPort_mem, State.enqueue_mem, State.enqueueFrame_mem, State.setPortBit_mem, foldl_mem]

theorem State.leaveFallback_mem (s : State) (p : Nat) :
    (s.leaveFallback p).mem = s.mem := by
  unfold State.leaveFallback
  grind [State.setPortBit_mem]

theorem State.flitsAcked_mem (s : State) (p : Nat) (ack : Option Nat) :
    (s.flitsAcked p ack).mem = s.mem := by
  unfold State.flitsAcked
  grind [State.setPort_mem, State.pump_mem, State.leaveFallback_mem]

theorem State.framesAcked_mem (s : State) (p : Nat) (ack : Option Nat) :
    (s.framesAcked p ack).mem = s.mem := by
  unfold State.framesAcked
  grind [State.setPort_mem, State.enqueueFrame_mem, State.leaveFallback_mem, foldl_mem]

theorem State.resendFlits_mem (s : State) (p seq : Nat) :
    (s.resendFlits p seq).mem = s.mem := by
  unfold State.resendFlits
  grind [State.bumpPort_mem, State.setPort_mem, State.portFail_mem, State.portRetrain_mem]

theorem State.resendFrames_mem (s : State) (p seq : Nat) :
    (s.resendFrames p seq).mem = s.mem := by
  unfold State.resendFrames
  grind [State.bumpPort_mem, State.setPort_mem, State.setPortBit_mem, State.enterFallback_mem]

theorem State.resendAll_mem (s : State) (p : Nat) :
    (s.resendAll p).mem = s.mem := by
  unfold State.resendAll
  grind [State.bumpPort_mem, State.setPort_mem, State.pump_mem, State.enqueueFrame_mem, foldl_mem]

theorem State.nakFlit_mem (s : State) (p : Nat) :
    (s.nakFlit p).mem = s.mem := by
  unfold State.nakFlit
  grind [State.setPort_mem]

theorem State.nakFrame_mem (s : State) (p : Nat) :
    (s.nakFrame p).mem = s.mem := by
  unfold State.nakFrame
  grind [State.setPort_mem]

theorem State.sendAck_mem (s : State) (p : Nat) :
    (s.sendAck p).mem = s.mem := by
  unfold State.sendAck
  grind [State.setPort_mem]

theorem State.sendIdle_mem (s : State) (p : Nat) :
    (s.sendIdle p).mem = s.mem := by
  unfold State.sendIdle
  grind [State.setPort_mem]

theorem State.sendOwed_mem (s : State) (p : Nat) :
    (s.sendOwed p).mem = s.mem := by
  unfold State.sendOwed
  grind [State.sendAck_mem, State.sendIdle_mem]

theorem State.acceptFlit_mem (s : State) (p vc : Nat) :
    (s.acceptFlit p vc).mem = s.mem := by
  unfold State.acceptFlit
  grind [State.bumpPort_mem, State.setPort_mem, State.sendAck_mem]

theorem State.acceptFrame_mem (s : State) (p : Nat) :
    (s.acceptFrame p).mem = s.mem := by
  unfold State.acceptFrame
  grind [State.setPort_mem]

theorem State.respond_mem (s : State) (typ node tag : Nat) (err : Bool) (bs : List Nat) :
    (s.respond typ node tag err bs).mem = s.mem := by
  unfold State.respond
  grind [State.sendFlit_mem]

theorem State.refuseTwin_mem (s : State) (f : Flit) :
    (s.refuseTwin f).mem = s.mem := by
  unfold State.refuseTwin
  grind [State.respond_mem]

theorem State.forward_mem (s : State) (p : Nat) (f : Flit) :
    (s.forward p f).mem = s.mem := by
  unfold State.forward
  grind [State.bumpPort_mem, State.enqueue_mem]

theorem State.rxFlit_mem (s : State) (r : Rx) (f : Flit) (deliver : State → State) (hdeliver : ∀ y0, (deliver y0).mem = y0.mem) :
    (s.rxFlit r f deliver).mem = s.mem := by
  unfold State.rxFlit
  grind [State.bumpPort_mem, State.flitsAcked_mem, State.nakFlit_mem, State.acceptFlit_mem, State.refuseTwin_mem, State.forward_mem]

theorem State.signalFrom_mem (s : State) (node die sem n : Nat) :
    (s.signalFrom node die sem n).mem = s.mem := by
  unfold State.signalFrom
  grind [State.signal_mem]

theorem State.frameAcks_mem (s : State) (p : Nat) (ack : Option Nat) (nak : Bool) :
    (s.frameAcks p ack nak).mem = s.mem := by
  unfold State.frameAcks
  grind [State.framesAcked_mem, State.resendFrames_mem]

theorem State.portEnableWrite_mem (s : State) (p : Nat) (v : Nat) :
    (s.portEnableWrite p v).1.mem = s.mem := by
  unfold State.portEnableWrite
  grind [State.setPortReg_mem, State.setPort_mem]

theorem State.takeAsked_mem (s : State) (tag : Nat) (read : Bool) :
    ∀ x, s.takeAsked tag read = some x → x.2.mem = s.mem := by
  intro t h
  unfold State.takeAsked at h
  grind

/-! ### VetchRows -/

theorem State.vetchSignalWrite_mem (s : State) (remote : Option Nat) (die v : Nat) :
    (s.vetchSignalWrite remote die v).1.mem = s.mem := by
  unfold State.vetchSignalWrite
  grind [State.addSem_mem, State.signalFrom_mem]

theorem State.vetchArriveWrite_mem (s : State) (die v : Nat) :
    (s.vetchArriveWrite die v).1.mem = s.mem := by
  unfold State.vetchArriveWrite
  grind [State.arriveAt_mem]

/-! ### Rennet -/

theorem State.rnRead_mem (s : State) (m : Fin 12) (e : Fin 4) (addr n : Nat) :
    (s.rnRead m e addr n).1.mem = s.mem := by
  unfold State.rnRead
  grind [State.memRead_mem]

theorem State.ldltProblem_mem (s : State) (m : Fin 12) (e : Fin 4) (x : RnEntry) :
    (s.ldltProblem m e x).1.mem = s.mem := by
  unfold State.ldltProblem
  grind [State.rnRead_mem]

theorem State.ldltIntake_mem (s : State) (m : Fin 12) (e : Fin 4) (i : Nat) (x : RnEntry) :
    (s.ldltIntake m e i x).1.mem = s.mem := by
  unfold State.ldltIntake
  grind [State.setRen_mem, State.rnRead_mem, State.ldltProblem_mem]

theorem State.rnEntryAt_mem (s : State) (m : Fin 12) (e : Fin 4) (i : Nat) :
    (s.rnEntryAt m e i).1.mem = s.mem := by
  unfold State.rnEntryAt
  grind [State.rnRead_mem]

/-! ### Press -/

theorem State.prRead_mem (s : State) (m : Fin 12) (e : Fin 8) (addr n : Nat) :
    (s.prRead m e addr n).1.mem = s.mem := by
  unfold State.prRead
  grind [State.memRead_mem]

theorem State.prEntryAt_mem (s : State) (m : Fin 12) (e : Fin 8) (map i : Nat) :
    (s.prEntryAt m e map i).1.mem = s.mem := by
  unfold State.prEntryAt
  grind [State.prRead_mem]

theorem State.prReads_mem (s : State) (m : Fin 12) (e : Fin 8) (x0 : List (Nat × Nat)) :
    (s.prReads m e x0).1.mem = s.mem := by
  fun_induction State.prReads <;> grind [State.prRead_mem]

theorem State.dirArm_mem (s : State) (m e : Nat) :
    (s.dirArm m e).mem = s.mem := by
  unfold State.dirArm
  grind [State.unitWait_mem]

theorem State.gateCheck_mem (s : State) :
    (s.gateCheck).mem = s.mem := by
  unfold State.gateCheck
  grind [State.setG_mem]

theorem State.pressBegin_mem (s : State) (m e : Nat) (skip : Bool) :
    (s.pressBegin m e skip).mem = s.mem := by
  unfold State.pressBegin
  grind [State.setFld_mem, State.unitWait_mem, State.setPress_mem, State.setPrState_mem, State.dirArm_mem, State.gateCheck_mem]

theorem State.sweepTile_mem (s : State) (m : Fin 12) (e : Fin 8) (x : PrEntry) (ar : Arith) (i : Nat) (masters : List Nat) :
    (s.sweepTile m e x ar i masters).1.mem = s.mem := by
  unfold State.sweepTile
  grind [State.readRaw_mem]

theorem State.pressArrive_mem (s : State) (m e : Nat) :
    (s.pressArrive m e).mem = s.mem := by
  unfold State.pressArrive
  grind [State.arriveAt_mem, State.setPress_mem]

theorem State.sorrelFault_mem (s : State) (cause : Nat) :
    (s.sorrelFault cause).mem = s.mem := by
  unfold State.sorrelFault
  grind [State.setG_mem, State.dieFault_mem]

theorem State.sorrelCompare_mem (s : State) :
    (s.sorrelCompare).mem = s.mem := by
  unfold State.sorrelCompare
  grind [State.setG_mem, State.sorrelFault_mem]

theorem State.clearDigests_mem (s : State) :
    (s.clearDigests).mem = s.mem := by
  unfold State.clearDigests
  grind

/-! ### Vat -/

theorem State.vatRecord_mem (s : State) (x cause cid chunk : Nat) :
    (s.vatRecord x cause cid chunk).mem = s.mem := by
  unfold State.vatRecord
  grind [State.setRg_mem]

theorem State.vatClear_mem (s : State) (x : Nat) :
    (s.vatClear x).mem = s.mem := by
  unfold State.vatClear
  grind [State.setFld_mem, State.dropWait_mem, State.setVat_mem]

theorem State.vatFault_mem (s : State) (x cause cid chunk : Nat) :
    (s.vatFault x cause cid chunk).mem = s.mem := by
  unfold State.vatFault
  grind [State.setFld_mem, State.dieFault_mem, State.vatRecord_mem, State.vatClear_mem]

theorem State.vatArm_mem (s : State) (x : Nat) :
    (s.vatArm x).mem = s.mem := by
  unfold State.vatArm
  grind [State.unitWait_mem]

theorem State.vatSubmitWrite_mem (s : State) (x : Fin 4) (val : Nat) :
    (s.vatSubmitWrite x val).1.mem = s.mem := by
  unfold State.vatSubmitWrite
  grind (splits := 40) (ematch := 40) (gen := 40) [State.freshVal_mem, State.memRead_mem, State.setVat_mem, State.vatRecord_mem, State.vatFault_mem, State.vatArm_mem]

theorem State.setColl_mem (s : State) (x : Nat) (c : Coll) :
    (s.setColl x c).mem = s.mem := by
  unfold State.setColl
  grind [State.setVat_mem]

theorem State.sendColl_mem (s : State) (c : Coll) (typ j chunk idx : Nat) (bs : List Nat) :
    (s.sendColl c typ j chunk idx bs).mem = s.mem := by
  unfold State.sendColl
  grind [State.sendFlit_mem]

theorem State.vatReads_mem (s : State) (x : Fin 4) (x0 : List (Nat × Nat)) :
    (s.vatReads x x0).1.mem = s.mem := by
  fun_induction State.vatReads <;> grind [State.memRead_mem]

theorem State.vatPlaces_mem (s : State) (x : Nat) (spill : Bool) (need : Nat) :
    (s.vatPlaces x spill need).1.mem = s.mem := by
  unfold State.vatPlaces
  grind [State.freshVal_mem]

theorem State.collFlit_mem (s : State) (r : Rx) (typ : Nat) (cid : BitVec 12) (addr : Nat) (bs : List Nat) (f : Fin 4 → Coll → Nat → State → State) (hf : ∀ y0 y1 y2 y3, (f y0 y1 y2 y3).mem = y3.mem) :
    (s.collFlit r typ cid addr bs f).mem = s.mem := by
  unfold State.collFlit
  grind [State.bumpPort_mem, State.rxFlit_mem]

theorem State.creditAfter_mem (s : State) (c : Coll) (i k : Nat) :
    (s.creditAfter c i k).mem = s.mem := by
  unfold State.creditAfter
  grind [State.sendColl_mem]

theorem State.partBytes_mem (s : State) (x : Fin 4) (c : Coll) (i k : Nat) :
    (s.partBytes x c i k).1.mem = s.mem := by
  unfold State.partBytes
  grind [State.vatReads_mem]

/-! ### Sequencer -/

theorem State.fetch_mem (s : State) (core : Nat) :
    (s.fetch core).1.mem = s.mem := by
  unfold State.fetch
  grind [State.readRange_mem]

theorem State.seqStep_mem (s : State) (core : Nat) (p : Parity) (opc : Nat) (fields : List (Nat × Nat)) (ok : BitVec 128 → Bool) (use : BitVec 128 → ScUse) (run : State → BitVec 128 → State) (hrun : ∀ y0 y1, (run y0 y1).mem = y0.mem) :
    (s.seqStep core p opc fields ok use run).mem = s.mem := by
  unfold State.seqStep
  grind [State.holdSeq_mem, State.seqFault_mem, State.fetch_mem]

theorem State.spaceRead_mem (s : State) (core space addr al n : Nat) :
    (s.spaceRead core space addr al n).1.mem = s.mem := by
  unfold State.spaceRead
  grind [State.readRange_mem]

theorem State.branch_mem (s : State) (core : Nat) (x : BitVec 128) (taken : Bool) :
    (s.branch core x taken).mem = s.mem := by
  unfold State.branch
  grind [State.retireTo_mem, State.retire_mem]

theorem State.synSig_mem (s : State) (core : Nat) (twin : Bool) (die sem n : Nat) :
    (s.synSig core twin die sem n).mem = s.mem := by
  unfold State.synSig
  grind [State.setSeq_mem, State.retire_mem, State.signal_mem]

theorem State.noteHoop_mem (s : State) (core h : Nat) :
    (s.noteHoop core h).mem = s.mem := by
  unfold State.noteHoop
  grind [State.setSeq_mem]

theorem State.teaSetCmd_mem (s : State) (c : CoreId) (p : Parity) (blk : Bool) :
    (s.teaSetCmd c p blk).mem = s.mem := by
  unfold State.teaSetCmd
  grind [State.retire_mem, State.seqFault_mem, State.teaWrite_mem, State.seqStep_mem]

/-! ### Stop -/

theorem State.seqWithdraw_mem (s : State) (core : Nat) :
    (s.seqWithdraw core).mem = s.mem := by
  unfold State.seqWithdraw
  grind [State.setSeq_mem, State.dropWaits_mem]

theorem State.teaStop_mem (s : State) (core : Nat) :
    (s.teaStop core).mem = s.mem := by
  unfold State.teaStop
  grind [State.setTea_mem]

theorem State.stopCore_mem (s : State) (core : Nat) :
    (s.stopCore core).mem = s.mem := by
  unfold State.stopCore
  grind [State.setRg_mem, State.setSeqState_mem, State.setArr_mem, State.setVec_mem, State.seqWithdraw_mem, State.teaStop_mem, foldl_mem]

theorem State.stopDmas_mem (s : State) :
    (s.stopDmas).mem = s.mem := by
  unfold State.stopDmas
  grind

theorem State.modFault_mem (s : State) (die cause : Nat) :
    (s.modFault die cause).mem = s.mem := by
  unfold State.modFault
  grind [State.setG_mem, State.alert_mem]

theorem State.stopPeers_mem (s : State) :
    (s.stopPeers).mem = s.mem := by
  unfold State.stopPeers
  grind [State.sendReg_mem, foldl_mem]

theorem State.faultClass_mem (s : State) (f : FaultRec) :
    (s.faultClass f).1.mem = s.mem := by
  unfold State.faultClass
  grind [State.freshVal_mem]

theorem State.resetCore_mem (s : State) (core : Nat) :
    (s.resetCore core).mem = s.mem := by
  unfold State.resetCore
  grind [State.setRg_mem, State.setSeqState_mem, State.setSc_mem, State.setArr_mem, State.setVec_mem, State.setTea_mem, State.seqWithdraw_mem, foldl_mem]

theorem State.arrWatchdog_mem (s : State) (c : CoreId) (a : Fin 4) (part : Option Nat) (cause row entered : Nat) :
    (s.arrWatchdog c a part cause row entered).mem = s.mem := by
  unfold State.arrWatchdog
  grind [State.arrFault_mem]

theorem State.vecWatchdog_mem (s : State) (c : CoreId) (cause row op : Nat) :
    (s.vecWatchdog c cause row op).mem = s.mem := by
  unfold State.vecWatchdog
  grind [State.vecFault_mem]

/-! ### Twin -/

theorem State.boardRenew_mem (s : State) :
    (s.boardRenew).mem = s.mem := by
  unfold State.boardRenew
  grind [State.enqueue_mem, State.nextTag_mem, foldl_mem]

theorem State.boardRenewal_mem (s : State) (e : Nat) (fromHolder : Bool) :
    (s.boardRenewal e fromHolder).mem = s.mem := by
  unfold State.boardRenewal
  grind [State.setG_mem, State.alert_mem]

theorem State.slotWrite_mem (s : State) (slot off : Nat) (bs : List Nat) :
    (s.slotWrite slot off bs).1.mem = s.mem := by
  unfold State.slotWrite
  grind [State.sendWrites_mem]

/-! ### Trust -/

theorem State.flashPut_mem (s : State) (slot off : Nat) (bs : List Nat) :
    (s.flashPut slot off bs).mem = s.mem := by
  unfold State.flashPut
  grind

theorem State.flashErase_mem (s : State) (slot : Nat) :
    (s.flashErase slot).mem = s.mem := by
  unfold State.flashErase
  grind

theorem State.raiseFloor_mem (s : State) :
    (s.raiseFloor).1.mem = s.mem := by
  unfold State.raiseFloor
  grind

theorem State.reloadWatcher_mem (s : State) :
    (s.reloadWatcher).mem = s.mem := by
  unfold State.reloadWatcher
  grind [State.setRg_mem, State.mrEvent_mem]

theorem State.yieldWrite_mem (s : State) :
    (s.yieldWrite).mem = s.mem := by
  unfold State.yieldWrite
  grind [State.setG_mem]

theorem State.report_mem (s : State) (nonce : List Nat) :
    (s.report nonce).1.mem = s.mem := by
  unfold State.report
  grind

theorem State.attCtrlWrite_mem (s : State) (die v : Nat) :
    (s.attCtrlWrite die v).1.mem = s.mem := by
  unfold State.attCtrlWrite
  grind [State.setFld_mem, State.report_mem]

theorem State.attEnd_mem (s : State) (err : Bool) :
    (s.attEnd err).mem = s.mem := by
  unfold State.attEnd
  grind [State.setRg_mem]

theorem State.enterTest_mem (s : State) (code : Nat) (data : List Nat) :
    (s.enterTest code data).mem = s.mem := by
  unfold State.enterTest
  grind [State.dieFault_mem, State.mrEvent_mem]

/-! ### RegWrite -/

theorem State.plainWrite_mem (s : State) (r : Reg) (die i j v : Nat) :
    (s.plainWrite r die i j v).1.mem = s.mem := by
  unfold State.plainWrite
  grind [State.setRg_mem]

theorem State.seqGo_mem (s : State) (core : Nat) :
    (s.seqGo core).1.mem = s.mem := by
  unfold State.seqGo
  grind [State.setRg_mem, State.setSeq_mem]

theorem State.leaseWrite_mem (s : State) (holder : Bool) (die v : Nat) :
    (s.leaseWrite holder die v).mem = s.mem := by
  unfold State.leaseWrite
  grind [State.setRg_mem]

theorem State.leaseCtrlWrite_mem (s : State) (v : Nat) :
    (s.leaseCtrlWrite v).mem = s.mem := by
  unfold State.leaseCtrlWrite
  grind [State.reloadWatcher_mem, State.yieldWrite_mem]

theorem State.slCfgWrite_mem (s : State) (p v : Nat) :
    (s.slCfgWrite p v).1.mem = s.mem := by
  unfold State.slCfgWrite
  grind [State.setPortReg_mem, State.portEnableWrite_mem]

theorem State.epochCheck_mem (s : State) (l e : Nat) :
    (s.epochCheck l e).1.mem = s.mem := by
  unfold State.epochCheck
  grind [State.setRg_mem, State.bump_mem]

/-! ### RegRows -/

theorem State.farStore_mem (s : State) (l : Nat) (wide : Bool) (v : Nat) :
    (s.farStore l wide v).1.mem = s.mem := by
  unfold State.farStore
  grind [State.sendRegFor_mem]

theorem State.farWrite_mem (s : State) (w : Writer) (l : Nat) (width : Width) (v : Nat) :
    (s.farWrite w l width v).1.mem = s.mem := by
  unfold State.farWrite
  grind [State.farStore_mem]

/-! ### Image -/

theorem State.applyReg_mem (s : State) (target v : Nat) :
    (s.applyReg target v).mem = s.mem := by
  unfold State.applyReg
  grind [State.setRg_mem]

theorem State.fixedStart_mem (s : State) :
    (s.fixedStart).mem = s.mem := by
  unfold State.fixedStart
  grind [State.setRg_mem, State.setG_mem, foldl_mem]

/-! ### JobLoad -/

theorem State.jobReset_mem (s : State) :
    (s.jobReset).mem = s.mem := by
  unfold State.jobReset
  grind [State.setRg_mem, State.setVat_mem, State.fixedStart_mem, foldl_mem]

theorem State.applyQueue_mem (s : State) (q : QEntry) :
    (s.applyQueue q).mem = s.mem := by
  unfold State.applyQueue
  grind [State.setRg_mem]

theorem State.jobArm_mem (s : State) :
    (s.jobArm).mem = s.mem := by
  unfold State.jobArm
  grind [State.autoArm_mem, State.setPress_mem, State.setPrState_mem, State.rennetArm_mem, foldl_mem]

theorem State.learnSlots_mem (s : State) (x : JobExtra) :
    (s.learnSlots x).mem = s.mem := by
  unfold State.learnSlots
  grind

/-! ### Startup -/

theorem State.setBoth_mem (s : State) (r : Reg) (v : Nat) :
    (s.setBoth r v).mem = s.mem := by
  unfold State.setBoth
  grind [State.setRg_mem]

theorem State.bootFail_mem (s : State) (step cause slot0 slot1 : Nat) :
    (s.bootFail step cause slot0 slot1).mem = s.mem := by
  unfold State.bootFail
  grind [State.alert_mem, State.setBoth_mem]

theorem State.measureSlot_mem (s : State) (i : Nat) :
    (s.measureSlot i).mem = s.mem := by
  unfold State.measureSlot
  grind [State.setDigest_mem, State.mrExtend_mem, State.setBoth_mem]

theorem State.markChannel_mem (s : State) (m ch : Nat) :
    (s.markChannel m ch).mem = s.mem := by
  unfold State.markChannel
  grind [State.setRg_mem]

theorem State.enableListed_mem (s : State) :
    (s.enableListed).mem = s.mem := by
  unfold State.enableListed
  grind [State.setPortReg_mem, State.portEnableWrite_mem, foldl_mem]

/-! ### Batch -/

theorem State.reply_mem (s : State) (q : Req) (typ status : Nat) (body : List Nat) :
    (s.reply q typ status body).mem = s.mem := by
  unfold State.reply
  grind [State.mgmtOut_mem]

theorem State.onSession_mem (s : State) (n : Nat) (f : Session → Session) :
    (s.onSession n f).mem = s.mem := by
  unfold State.onSession
  grind

theorem State.genAdmit_mem (s : State) :
    (s.genAdmit).mem = s.mem := by
  unfold State.genAdmit
  grind

theorem State.issueBatch_mem (s : State) :
    (s.issueBatch).mem = s.mem := by
  unfold State.issueBatch
  grind

theorem State.waitReset_mem (s : State) :
    (s.waitReset).mem = s.mem := by
  unfold State.waitReset
  grind

theorem State.genIssue_mem (s : State) :
    (s.genIssue).mem = s.mem := by
  unfold State.genIssue
  grind [State.issueBatch_mem]

theorem State.genEnd_mem (s : State) (g : GenReq) :
    (s.genEnd g).mem = s.mem := by
  unfold State.genEnd
  grind [State.mgmtOut_mem]

theorem State.batchTokens_mem (s : State) (x0 : List GenReq) (x1 : List (BitVec 32 × Bool)) :
    (s.batchTokens x0 x1).1.mem = s.mem := by
  fun_induction State.batchTokens <;> grind [State.freshVal_mem, State.mgmtOut_mem, State.genEnd_mem]

/-! ### Mgmt -/

theorem State.loseSessions_mem (s : State) (gone : Nat → Bool) :
    (s.loseSessions gone).mem = s.mem := by
  unfold State.loseSessions
  grind [State.genAdmit_mem, State.genIssue_mem]

theorem State.teleValues_mem (s : State) (x0 : List Nat) :
    (s.teleValues x0).1.mem = s.mem := by
  fun_induction State.teleValues <;> grind [State.freshVal_mem]

/-! ### Rind -/

theorem State.rindCycle_mem (s : State) (serve : State → State) (hserve : ∀ y0, (serve y0).mem = y0.mem) :
    (s.rindCycle serve).mem = s.mem := by
  unfold State.rindCycle
  grind [State.bump_mem]

theorem State.leaseIn_mem (s : State) (v : Nat) :
    (s.leaseIn v).mem = s.mem := by
  unfold State.leaseIn
  grind [State.boardRenewal_mem]

theorem State.fenceResult_mem (s : State) (code result : Nat) :
    (s.fenceResult code result).mem = s.mem := by
  unfold State.fenceResult
  grind [State.bump_mem]

theorem State.fence_mem (s : State) (code key : Nat) (act : State → Option State) (hact : ∀ y0 t, act y0 = some t → t.mem = y0.mem) :
    (s.fence code key act).mem = s.mem := by
  unfold State.fence
  grind [State.fenceResult_mem]

theorem State.actFenceFabric_mem (s : State) :
    ∀ t, s.actFenceFabric = some t → t.mem = s.mem := by
  intro t h
  unfold State.actFenceFabric at h
  grind [State.portEnableWrite_mem, foldl_mem]

theorem State.actUnfenceFabric_mem (s : State) :
    ∀ t, s.actUnfenceFabric = some t → t.mem = s.mem := by
  intro t h
  unfold State.actUnfenceFabric at h
  grind

/-! ### Power -/

theorem State.setDemands_mem (s : State) (pd td : Nat) :
    (s.setDemands pd td).mem = s.mem := by
  unfold State.setDemands
  grind [State.setG_mem, State.alert_mem]

theorem State.readTemp_mem (s : State) (die : Nat) (v : BitVec 16) :
    (s.readTemp die v).mem = s.mem := by
  unfold State.readTemp
  grind [State.setRg_mem, State.freshVal_mem, State.dieFault_mem]

theorem State.hotFaults_mem (s : State) (x0 : List Nat) :
    (s.hotFaults x0).mem = s.mem := by
  fun_induction State.hotFaults <;> grind [State.freshVal_mem, State.dieFault_mem]

theorem State.countStall_mem (s : State) (die : Nat) (x : Stall) :
    (s.countStall die x).mem = s.mem := by
  unfold State.countStall
  grind [State.bump_mem, State.rsArrive_mem, State.vetchFault_mem, State.disturb_mem]

theorem State.tickChannels_mem (s : State) (d : Die) (st : List Stall) :
    (s.tickChannels d st).mem = s.mem := by
  unfold State.tickChannels
  grind

theorem State.tickWaits_mem (s : State) (die : Nat) :
    (s.tickWaits die).mem = s.mem := by
  unfold State.tickWaits
  grind [State.bump_mem, foldl_mem]

theorem State.tickSeq_mem (s : State) (core : Nat) :
    (s.tickSeq core).mem = s.mem := by
  unfold State.tickSeq
  grind [State.bump_mem, State.setSeq_mem]

theorem State.tickCore_mem (s : State) (core : Nat) :
    (s.tickCore core).mem = s.mem := by
  unfold State.tickCore
  grind [State.bump_mem, State.tickSeq_mem, foldl_mem]

theorem State.tickDma_mem (s : State) (die : Nat) :
    (s.tickDma die).mem = s.mem := by
  unfold State.tickDma
  grind [State.setDma_mem, foldl_mem]

theorem State.tickPress_mem (s : State) (die : Nat) :
    (s.tickPress die).mem = s.mem := by
  unfold State.tickPress
  grind [State.bump_mem, foldl_mem]

theorem State.tickPort_mem (s : State) (p : Nat) :
    (s.tickPort p).mem = s.mem := by
  unfold State.tickPort
  grind [State.setPort_mem, State.sendOwed_mem]

theorem State.tickVat_mem (s : State) (x : Nat) :
    (s.tickVat x).mem = s.mem := by
  unfold State.tickVat
  grind [State.setVat_mem]

theorem State.tickWatcher_mem (s : State) :
    (s.tickWatcher).mem = s.mem := by
  unfold State.tickWatcher
  grind

end Sys2Proof.Machine
end

