-- ==== Sys2Proof/Laws/State.lean ====
section
/-!
SUPPORT. The small lemmas of State: what each raw update leaves of every other field (of memory: Memory.lean), and what reads
back after it.
-/

namespace Sys2Proof.Machine

section

variable (s : State)

/-! Storing a register -/

@[simp] theorem State.setRg_pending (r : Reg) (die i j v : Nat) : (s.setRg r die i j v).pending = s.pending := rfl
@[simp] theorem State.setRg_sidecar (r : Reg) (die i j v : Nat) : (s.setRg r die i j v).sidecar = s.sidecar := rfl
@[simp] theorem State.setRg_noise (r : Reg) (die i j v : Nat) : (s.setRg r die i j v).noise = s.noise := rfl
@[simp] theorem State.setRg_ecc (r : Reg) (die i j v : Nat) : (s.setRg r die i j v).ecc = s.ecc := rfl
@[simp] theorem State.setRg_twinB (r : Reg) (die i j v : Nat) : (s.setRg r die i j v).twinB = s.twinB := rfl
@[simp] theorem State.setRg_svc (r : Reg) (die i j v : Nat) : (s.setRg r die i j v).svc = s.svc := rfl
@[simp] theorem State.setRg_job (r : Reg) (die i j v : Nat) : (s.setRg r die i j v).job = s.job := rfl
@[simp] theorem State.setRg_seqs (r : Reg) (die i j v : Nat) : (s.setRg r die i j v).seqs = s.seqs := rfl
@[simp] theorem State.setRg_arrays (r : Reg) (die i j v : Nat) : (s.setRg r die i j v).arrays = s.arrays := rfl
@[simp] theorem State.setRg_accs (r : Reg) (die i j v : Nat) : (s.setRg r die i j v).accs = s.accs := rfl
@[simp] theorem State.setRg_vecs (r : Reg) (die i j v : Nat) : (s.setRg r die i j v).vecs = s.vecs := rfl
@[simp] theorem State.setRg_ocache (r : Reg) (die i j v : Nat) : (s.setRg r die i j v).ocache = s.ocache := rfl
@[simp] theorem State.setRg_teas (r : Reg) (die i j v : Nat) : (s.setRg r die i j v).teas = s.teas := rfl
@[simp] theorem State.setRg_dmas (r : Reg) (die i j v : Nat) : (s.setRg r die i j v).dmas = s.dmas := rfl
@[simp] theorem State.setRg_dmaLast (r : Reg) (die i j v : Nat) : (s.setRg r die i j v).dmaLast = s.dmaLast := rfl
@[simp] theorem State.setRg_semWaits (r : Reg) (die i j v : Nat) : (s.setRg r die i j v).semWaits = s.semWaits := rfl
@[simp] theorem State.setRg_grants (r : Reg) (die i j v : Nat) : (s.setRg r die i j v).grants = s.grants := rfl
@[simp] theorem State.setRg_autoGen (r : Reg) (die i j v : Nat) : (s.setRg r die i j v).autoGen = s.autoGen := rfl
@[simp] theorem State.setRg_barHeld (r : Reg) (die i j v : Nat) : (s.setRg r die i j v).barHeld = s.barHeld := rfl
@[simp] theorem State.setRg_rootArr (r : Reg) (die i j v : Nat) : (s.setRg r die i j v).rootArr = s.rootArr := rfl
@[simp] theorem State.setRg_vmsgs (r : Reg) (die i j v : Nat) : (s.setRg r die i j v).vmsgs = s.vmsgs := rfl
@[simp] theorem State.setRg_hoops (r : Reg) (die i j v : Nat) : (s.setRg r die i j v).hoops = s.hoops := rfl
@[simp] theorem State.setRg_migs (r : Reg) (die i j v : Nat) : (s.setRg r die i j v).migs = s.migs := rfl
@[simp] theorem State.setRg_guards (r : Reg) (die i j v : Nat) : (s.setRg r die i j v).guards = s.guards := rfl
@[simp] theorem State.setRg_faultQ (r : Reg) (die i j v : Nat) : (s.setRg r die i j v).faultQ = s.faultQ := rfl
@[simp] theorem State.setRg_rens (r : Reg) (die i j v : Nat) : (s.setRg r die i j v).rens = s.rens := rfl
@[simp] theorem State.setRg_presses (r : Reg) (die i j v : Nat) : (s.setRg r die i j v).presses = s.presses := rfl
@[simp] theorem State.setRg_ports (r : Reg) (die i j v : Nat) : (s.setRg r die i j v).ports = s.ports := rfl
@[simp] theorem State.setRg_vats (r : Reg) (die i j v : Nat) : (s.setRg r die i j v).vats = s.vats := rfl
@[simp] theorem State.setRg_asked (r : Reg) (die i j v : Nat) : (s.setRg r die i j v).asked = s.asked := rfl
@[simp] theorem State.setRg_heldWr (r : Reg) (die i j v : Nat) : (s.setRg r die i j v).heldWr = s.heldWr := rfl
@[simp] theorem State.setRg_tagCtr (r : Reg) (die i j v : Nat) : (s.setRg r die i j v).tagCtr = s.tagCtr := rfl
@[simp] theorem State.setRg_capture (r : Reg) (die i j v : Nat) : (s.setRg r die i j v).capture = s.capture := rfl
@[simp] theorem State.setRg_agree (r : Reg) (die i j v : Nat) : (s.setRg r die i j v).agree = s.agree := rfl
@[simp] theorem State.setRg_slots (r : Reg) (die i j v : Nat) : (s.setRg r die i j v).slots = s.slots := rfl
@[simp] theorem State.setRg_sorrelLt (r : Reg) (die i j v : Nat) : (s.setRg r die i j v).sorrelLt = s.sorrelLt := rfl
@[simp] theorem State.setRg_jobWdLt (r : Reg) (die i j v : Nat) : (s.setRg r die i j v).jobWdLt = s.jobWdLt := rfl
@[simp] theorem State.setRg_stopping (r : Reg) (die i j v : Nat) : (s.setRg r die i j v).stopping = s.stopping := rfl
@[simp] theorem State.setRg_stopLt (r : Reg) (die i j v : Nat) : (s.setRg r die i j v).stopLt = s.stopLt := rfl
@[simp] theorem State.setRg_stopReply (r : Reg) (die i j v : Nat) : (s.setRg r die i j v).stopReply = s.stopReply := rfl
@[simp] theorem State.setRg_leases (r : Reg) (die i j v : Nat) : (s.setRg r die i j v).leases = s.leases := rfl
@[simp] theorem State.setRg_strapEast (r : Reg) (die i j v : Nat) : (s.setRg r die i j v).strapEast = s.strapEast := rfl
@[simp] theorem State.setRg_yieldPending (r : Reg) (die i j v : Nat) : (s.setRg r die i j v).yieldPending = s.yieldPending := rfl
@[simp] theorem State.setRg_ccLines (r : Reg) (die i j v : Nat) : (s.setRg r die i j v).ccLines = s.ccLines := rfl
@[simp] theorem State.setRg_xTicks (r : Reg) (die i j v : Nat) : (s.setRg r die i j v).xTicks = s.xTicks := rfl
@[simp] theorem State.setRg_stalls (r : Reg) (die i j v : Nat) : (s.setRg r die i j v).stalls = s.stalls := rfl
@[simp] theorem State.setRg_hsWait (r : Reg) (die i j v : Nat) : (s.setRg r die i j v).hsWait = s.hsWait := rfl
@[simp] theorem State.setRg_flash (r : Reg) (die i j v : Nat) : (s.setRg r die i j v).flash = s.flash := rfl
@[simp] theorem State.setRg_floorFused (r : Reg) (die i j v : Nat) : (s.setRg r die i j v).floorFused = s.floorFused := rfl
@[simp] theorem State.setRg_testEntered (r : Reg) (die i j v : Nat) : (s.setRg r die i j v).testEntered = s.testEntered := rfl
@[simp] theorem State.setRg_floorFlags (r : Reg) (die i j v : Nat) : (s.setRg r die i j v).floorFlags = s.floorFlags := rfl
@[simp] theorem State.setRg_mgmtRecord (r : Reg) (die i j v : Nat) : (s.setRg r die i j v).mgmtRecord = s.mgmtRecord := rfl
@[simp] theorem State.setRg_testKey (r : Reg) (die i j v : Nat) : (s.setRg r die i j v).testKey = s.testKey := rfl
@[simp] theorem State.setRg_mgmtUp (r : Reg) (die i j v : Nat) : (s.setRg r die i j v).mgmtUp = s.mgmtUp := rfl
@[simp] theorem State.setRg_sessions (r : Reg) (die i j v : Nat) : (s.setRg r die i j v).sessions = s.sessions := rfl
@[simp] theorem State.setRg_staging (r : Reg) (die i j v : Nat) : (s.setRg r die i j v).staging = s.staging := rfl
@[simp] theorem State.setRg_att (r : Reg) (die i j v : Nat) : (s.setRg r die i j v).att = s.att := rfl
@[simp] theorem State.setRg_tokens (r : Reg) (die i j v : Nat) : (s.setRg r die i j v).tokens = s.tokens := rfl
@[simp] theorem State.setRg_gen (r : Reg) (die i j v : Nat) : (s.setRg r die i j v).gen = s.gen := rfl
@[simp] theorem State.setRg_batch (r : Reg) (die i j v : Nat) : (s.setRg r die i j v).batch = s.batch := rfl
@[simp] theorem State.setRg_decLt (r : Reg) (die i j v : Nat) : (s.setRg r die i j v).decLt = s.decLt := rfl
@[simp] theorem State.setRg_power (r : Reg) (die i j v : Nat) : (s.setRg r die i j v).power = s.power := rfl
@[simp] theorem State.setRg_rind (r : Reg) (die i j v : Nat) : (s.setRg r die i j v).rind = s.rind := rfl
@[simp] theorem State.setRg_fabricHeld (r : Reg) (die i j v : Nat) : (s.setRg r die i j v).fabricHeld = s.fabricHeld := rfl
@[simp] theorem State.setRg_resetN (r : Reg) (die i j v : Nat) : (s.setRg r die i j v).resetN = s.resetN := rfl
@[simp] theorem State.setRg_aux12 (r : Reg) (die i j v : Nat) : (s.setRg r die i j v).aux12 = s.aux12 := rfl
@[simp] theorem State.setRg_main54 (r : Reg) (die i j v : Nat) : (s.setRg r die i j v).main54 = s.main54 := rfl
@[simp] theorem State.setRg_auxGood (r : Reg) (die i j v : Nat) : (s.setRg r die i j v).auxGood = s.auxGood := rfl
@[simp] theorem State.setRg_mainGood (r : Reg) (die i j v : Nat) : (s.setRg r die i j v).mainGood = s.mainGood := rfl
@[simp] theorem State.setRg_thermTripN (r : Reg) (die i j v : Nat) : (s.setRg r die i j v).thermTripN = s.thermTripN := rfl
@[simp] theorem State.setRg_outbox (r : Reg) (die i j v : Nat) : (s.setRg r die i j v).outbox = s.outbox := rfl
@[simp] theorem State.setRg_resp (r : Reg) (die i j v : Nat) : (s.setRg r die i j v).resp = s.resp := rfl
@[simp] theorem State.setRg_freshCtr (r : Reg) (die i j v : Nat) : (s.setRg r die i j v).freshCtr = s.freshCtr := rfl

/-! Storing bytes of memory -/

@[simp] theorem State.putBytes_pending (a : Nat) (bs : List Nat) : (s.putBytes a bs).pending = s.pending := rfl
@[simp] theorem State.putBytes_regs (a : Nat) (bs : List Nat) : (s.putBytes a bs).regs = s.regs := rfl
@[simp] theorem State.putBytes_sidecar (a : Nat) (bs : List Nat) : (s.putBytes a bs).sidecar = s.sidecar := rfl
@[simp] theorem State.putBytes_noise (a : Nat) (bs : List Nat) : (s.putBytes a bs).noise = s.noise := rfl
@[simp] theorem State.putBytes_ecc (a : Nat) (bs : List Nat) : (s.putBytes a bs).ecc = s.ecc := rfl
@[simp] theorem State.putBytes_twinB (a : Nat) (bs : List Nat) : (s.putBytes a bs).twinB = s.twinB := rfl
@[simp] theorem State.putBytes_svc (a : Nat) (bs : List Nat) : (s.putBytes a bs).svc = s.svc := rfl
@[simp] theorem State.putBytes_job (a : Nat) (bs : List Nat) : (s.putBytes a bs).job = s.job := rfl
@[simp] theorem State.putBytes_seqs (a : Nat) (bs : List Nat) : (s.putBytes a bs).seqs = s.seqs := rfl
@[simp] theorem State.putBytes_arrays (a : Nat) (bs : List Nat) : (s.putBytes a bs).arrays = s.arrays := rfl
@[simp] theorem State.putBytes_accs (a : Nat) (bs : List Nat) : (s.putBytes a bs).accs = s.accs := rfl
@[simp] theorem State.putBytes_vecs (a : Nat) (bs : List Nat) : (s.putBytes a bs).vecs = s.vecs := rfl
@[simp] theorem State.putBytes_ocache (a : Nat) (bs : List Nat) : (s.putBytes a bs).ocache = s.ocache := rfl
@[simp] theorem State.putBytes_teas (a : Nat) (bs : List Nat) : (s.putBytes a bs).teas = s.teas := rfl
@[simp] theorem State.putBytes_dmas (a : Nat) (bs : List Nat) : (s.putBytes a bs).dmas = s.dmas := rfl
@[simp] theorem State.putBytes_dmaLast (a : Nat) (bs : List Nat) : (s.putBytes a bs).dmaLast = s.dmaLast := rfl
@[simp] theorem State.putBytes_semWaits (a : Nat) (bs : List Nat) : (s.putBytes a bs).semWaits = s.semWaits := rfl
@[simp] theorem State.putBytes_grants (a : Nat) (bs : List Nat) : (s.putBytes a bs).grants = s.grants := rfl
@[simp] theorem State.putBytes_autoGen (a : Nat) (bs : List Nat) : (s.putBytes a bs).autoGen = s.autoGen := rfl
@[simp] theorem State.putBytes_barHeld (a : Nat) (bs : List Nat) : (s.putBytes a bs).barHeld = s.barHeld := rfl
@[simp] theorem State.putBytes_rootArr (a : Nat) (bs : List Nat) : (s.putBytes a bs).rootArr = s.rootArr := rfl
@[simp] theorem State.putBytes_vmsgs (a : Nat) (bs : List Nat) : (s.putBytes a bs).vmsgs = s.vmsgs := rfl
@[simp] theorem State.putBytes_hoops (a : Nat) (bs : List Nat) : (s.putBytes a bs).hoops = s.hoops := rfl
@[simp] theorem State.putBytes_migs (a : Nat) (bs : List Nat) : (s.putBytes a bs).migs = s.migs := rfl
@[simp] theorem State.putBytes_guards (a : Nat) (bs : List Nat) : (s.putBytes a bs).guards = s.guards := rfl
@[simp] theorem State.putBytes_faultQ (a : Nat) (bs : List Nat) : (s.putBytes a bs).faultQ = s.faultQ := rfl
@[simp] theorem State.putBytes_rens (a : Nat) (bs : List Nat) : (s.putBytes a bs).rens = s.rens := rfl
@[simp] theorem State.putBytes_presses (a : Nat) (bs : List Nat) : (s.putBytes a bs).presses = s.presses := rfl
@[simp] theorem State.putBytes_ports (a : Nat) (bs : List Nat) : (s.putBytes a bs).ports = s.ports := rfl
@[simp] theorem State.putBytes_vats (a : Nat) (bs : List Nat) : (s.putBytes a bs).vats = s.vats := rfl
@[simp] theorem State.putBytes_asked (a : Nat) (bs : List Nat) : (s.putBytes a bs).asked = s.asked := rfl
@[simp] theorem State.putBytes_heldWr (a : Nat) (bs : List Nat) : (s.putBytes a bs).heldWr = s.heldWr := rfl
@[simp] theorem State.putBytes_tagCtr (a : Nat) (bs : List Nat) : (s.putBytes a bs).tagCtr = s.tagCtr := rfl
@[simp] theorem State.putBytes_capture (a : Nat) (bs : List Nat) : (s.putBytes a bs).capture = s.capture := rfl
@[simp] theorem State.putBytes_agree (a : Nat) (bs : List Nat) : (s.putBytes a bs).agree = s.agree := rfl
@[simp] theorem State.putBytes_slots (a : Nat) (bs : List Nat) : (s.putBytes a bs).slots = s.slots := rfl
@[simp] theorem State.putBytes_sorrelLt (a : Nat) (bs : List Nat) : (s.putBytes a bs).sorrelLt = s.sorrelLt := rfl
@[simp] theorem State.putBytes_jobWdLt (a : Nat) (bs : List Nat) : (s.putBytes a bs).jobWdLt = s.jobWdLt := rfl
@[simp] theorem State.putBytes_stopping (a : Nat) (bs : List Nat) : (s.putBytes a bs).stopping = s.stopping := rfl
@[simp] theorem State.putBytes_stopLt (a : Nat) (bs : List Nat) : (s.putBytes a bs).stopLt = s.stopLt := rfl
@[simp] theorem State.putBytes_stopReply (a : Nat) (bs : List Nat) : (s.putBytes a bs).stopReply = s.stopReply := rfl
@[simp] theorem State.putBytes_leases (a : Nat) (bs : List Nat) : (s.putBytes a bs).leases = s.leases := rfl
@[simp] theorem State.putBytes_strapEast (a : Nat) (bs : List Nat) : (s.putBytes a bs).strapEast = s.strapEast := rfl
@[simp] theorem State.putBytes_yieldPending (a : Nat) (bs : List Nat) : (s.putBytes a bs).yieldPending = s.yieldPending := rfl
@[simp] theorem State.putBytes_ccLines (a : Nat) (bs : List Nat) : (s.putBytes a bs).ccLines = s.ccLines := rfl
@[simp] theorem State.putBytes_xTicks (a : Nat) (bs : List Nat) : (s.putBytes a bs).xTicks = s.xTicks := rfl
@[simp] theorem State.putBytes_stalls (a : Nat) (bs : List Nat) : (s.putBytes a bs).stalls = s.stalls := rfl
@[simp] theorem State.putBytes_hsWait (a : Nat) (bs : List Nat) : (s.putBytes a bs).hsWait = s.hsWait := rfl
@[simp] theorem State.putBytes_flash (a : Nat) (bs : List Nat) : (s.putBytes a bs).flash = s.flash := rfl
@[simp] theorem State.putBytes_floorFused (a : Nat) (bs : List Nat) : (s.putBytes a bs).floorFused = s.floorFused := rfl
@[simp] theorem State.putBytes_testEntered (a : Nat) (bs : List Nat) : (s.putBytes a bs).testEntered = s.testEntered := rfl
@[simp] theorem State.putBytes_floorFlags (a : Nat) (bs : List Nat) : (s.putBytes a bs).floorFlags = s.floorFlags := rfl
@[simp] theorem State.putBytes_mgmtRecord (a : Nat) (bs : List Nat) : (s.putBytes a bs).mgmtRecord = s.mgmtRecord := rfl
@[simp] theorem State.putBytes_testKey (a : Nat) (bs : List Nat) : (s.putBytes a bs).testKey = s.testKey := rfl
@[simp] theorem State.putBytes_mgmtUp (a : Nat) (bs : List Nat) : (s.putBytes a bs).mgmtUp = s.mgmtUp := rfl
@[simp] theorem State.putBytes_sessions (a : Nat) (bs : List Nat) : (s.putBytes a bs).sessions = s.sessions := rfl
@[simp] theorem State.putBytes_staging (a : Nat) (bs : List Nat) : (s.putBytes a bs).staging = s.staging := rfl
@[simp] theorem State.putBytes_att (a : Nat) (bs : List Nat) : (s.putBytes a bs).att = s.att := rfl
@[simp] theorem State.putBytes_tokens (a : Nat) (bs : List Nat) : (s.putBytes a bs).tokens = s.tokens := rfl
@[simp] theorem State.putBytes_gen (a : Nat) (bs : List Nat) : (s.putBytes a bs).gen = s.gen := rfl
@[simp] theorem State.putBytes_batch (a : Nat) (bs : List Nat) : (s.putBytes a bs).batch = s.batch := rfl
@[simp] theorem State.putBytes_decLt (a : Nat) (bs : List Nat) : (s.putBytes a bs).decLt = s.decLt := rfl
@[simp] theorem State.putBytes_power (a : Nat) (bs : List Nat) : (s.putBytes a bs).power = s.power := rfl
@[simp] theorem State.putBytes_rind (a : Nat) (bs : List Nat) : (s.putBytes a bs).rind = s.rind := rfl
@[simp] theorem State.putBytes_fabricHeld (a : Nat) (bs : List Nat) : (s.putBytes a bs).fabricHeld = s.fabricHeld := rfl
@[simp] theorem State.putBytes_resetN (a : Nat) (bs : List Nat) : (s.putBytes a bs).resetN = s.resetN := rfl
@[simp] theorem State.putBytes_aux12 (a : Nat) (bs : List Nat) : (s.putBytes a bs).aux12 = s.aux12 := rfl
@[simp] theorem State.putBytes_main54 (a : Nat) (bs : List Nat) : (s.putBytes a bs).main54 = s.main54 := rfl
@[simp] theorem State.putBytes_auxGood (a : Nat) (bs : List Nat) : (s.putBytes a bs).auxGood = s.auxGood := rfl
@[simp] theorem State.putBytes_mainGood (a : Nat) (bs : List Nat) : (s.putBytes a bs).mainGood = s.mainGood := rfl
@[simp] theorem State.putBytes_thermTripN (a : Nat) (bs : List Nat) : (s.putBytes a bs).thermTripN = s.thermTripN := rfl
@[simp] theorem State.putBytes_outbox (a : Nat) (bs : List Nat) : (s.putBytes a bs).outbox = s.outbox := rfl
@[simp] theorem State.putBytes_resp (a : Nat) (bs : List Nat) : (s.putBytes a bs).resp = s.resp := rfl
@[simp] theorem State.putBytes_freshCtr (a : Nat) (bs : List Nat) : (s.putBytes a bs).freshCtr = s.freshCtr := rfl

/-! Storing a sequencer -/

@[simp] theorem State.setSeq_pending (c : Nat) (x : SeqS) : (s.setSeq c x).pending = s.pending := rfl
@[simp] theorem State.setSeq_regs (c : Nat) (x : SeqS) : (s.setSeq c x).regs = s.regs := rfl
@[simp] theorem State.setSeq_sidecar (c : Nat) (x : SeqS) : (s.setSeq c x).sidecar = s.sidecar := rfl
@[simp] theorem State.setSeq_noise (c : Nat) (x : SeqS) : (s.setSeq c x).noise = s.noise := rfl
@[simp] theorem State.setSeq_ecc (c : Nat) (x : SeqS) : (s.setSeq c x).ecc = s.ecc := rfl
@[simp] theorem State.setSeq_twinB (c : Nat) (x : SeqS) : (s.setSeq c x).twinB = s.twinB := rfl
@[simp] theorem State.setSeq_svc (c : Nat) (x : SeqS) : (s.setSeq c x).svc = s.svc := rfl
@[simp] theorem State.setSeq_job (c : Nat) (x : SeqS) : (s.setSeq c x).job = s.job := rfl
@[simp] theorem State.setSeq_arrays (c : Nat) (x : SeqS) : (s.setSeq c x).arrays = s.arrays := rfl
@[simp] theorem State.setSeq_accs (c : Nat) (x : SeqS) : (s.setSeq c x).accs = s.accs := rfl
@[simp] theorem State.setSeq_vecs (c : Nat) (x : SeqS) : (s.setSeq c x).vecs = s.vecs := rfl
@[simp] theorem State.setSeq_ocache (c : Nat) (x : SeqS) : (s.setSeq c x).ocache = s.ocache := rfl
@[simp] theorem State.setSeq_teas (c : Nat) (x : SeqS) : (s.setSeq c x).teas = s.teas := rfl
@[simp] theorem State.setSeq_dmas (c : Nat) (x : SeqS) : (s.setSeq c x).dmas = s.dmas := rfl
@[simp] theorem State.setSeq_dmaLast (c : Nat) (x : SeqS) : (s.setSeq c x).dmaLast = s.dmaLast := rfl
@[simp] theorem State.setSeq_semWaits (c : Nat) (x : SeqS) : (s.setSeq c x).semWaits = s.semWaits := rfl
@[simp] theorem State.setSeq_grants (c : Nat) (x : SeqS) : (s.setSeq c x).grants = s.grants := rfl
@[simp] theorem State.setSeq_autoGen (c : Nat) (x : SeqS) : (s.setSeq c x).autoGen = s.autoGen := rfl
@[simp] theorem State.setSeq_barHeld (c : Nat) (x : SeqS) : (s.setSeq c x).barHeld = s.barHeld := rfl
@[simp] theorem State.setSeq_rootArr (c : Nat) (x : SeqS) : (s.setSeq c x).rootArr = s.rootArr := rfl
@[simp] theorem State.setSeq_vmsgs (c : Nat) (x : SeqS) : (s.setSeq c x).vmsgs = s.vmsgs := rfl
@[simp] theorem State.setSeq_hoops (c : Nat) (x : SeqS) : (s.setSeq c x).hoops = s.hoops := rfl
@[simp] theorem State.setSeq_migs (c : Nat) (x : SeqS) : (s.setSeq c x).migs = s.migs := rfl
@[simp] theorem State.setSeq_guards (c : Nat) (x : SeqS) : (s.setSeq c x).guards = s.guards := rfl
@[simp] theorem State.setSeq_faultQ (c : Nat) (x : SeqS) : (s.setSeq c x).faultQ = s.faultQ := rfl
@[simp] theorem State.setSeq_rens (c : Nat) (x : SeqS) : (s.setSeq c x).rens = s.rens := rfl
@[simp] theorem State.setSeq_presses (c : Nat) (x : SeqS) : (s.setSeq c x).presses = s.presses := rfl
@[simp] theorem State.setSeq_ports (c : Nat) (x : SeqS) : (s.setSeq c x).ports = s.ports := rfl
@[simp] theorem State.setSeq_vats (c : Nat) (x : SeqS) : (s.setSeq c x).vats = s.vats := rfl
@[simp] theorem State.setSeq_asked (c : Nat) (x : SeqS) : (s.setSeq c x).asked = s.asked := rfl
@[simp] theorem State.setSeq_heldWr (c : Nat) (x : SeqS) : (s.setSeq c x).heldWr = s.heldWr := rfl
@[simp] theorem State.setSeq_tagCtr (c : Nat) (x : SeqS) : (s.setSeq c x).tagCtr = s.tagCtr := rfl
@[simp] theorem State.setSeq_capture (c : Nat) (x : SeqS) : (s.setSeq c x).capture = s.capture := rfl
@[simp] theorem State.setSeq_agree (c : Nat) (x : SeqS) : (s.setSeq c x).agree = s.agree := rfl
@[simp] theorem State.setSeq_slots (c : Nat) (x : SeqS) : (s.setSeq c x).slots = s.slots := rfl
@[simp] theorem State.setSeq_sorrelLt (c : Nat) (x : SeqS) : (s.setSeq c x).sorrelLt = s.sorrelLt := rfl
@[simp] theorem State.setSeq_jobWdLt (c : Nat) (x : SeqS) : (s.setSeq c x).jobWdLt = s.jobWdLt := rfl
@[simp] theorem State.setSeq_stopping (c : Nat) (x : SeqS) : (s.setSeq c x).stopping = s.stopping := rfl
@[simp] theorem State.setSeq_stopLt (c : Nat) (x : SeqS) : (s.setSeq c x).stopLt = s.stopLt := rfl
@[simp] theorem State.setSeq_stopReply (c : Nat) (x : SeqS) : (s.setSeq c x).stopReply = s.stopReply := rfl
@[simp] theorem State.setSeq_leases (c : Nat) (x : SeqS) : (s.setSeq c x).leases = s.leases := rfl
@[simp] theorem State.setSeq_strapEast (c : Nat) (x : SeqS) : (s.setSeq c x).strapEast = s.strapEast := rfl
@[simp] theorem State.setSeq_yieldPending (c : Nat) (x : SeqS) : (s.setSeq c x).yieldPending = s.yieldPending := rfl
@[simp] theorem State.setSeq_ccLines (c : Nat) (x : SeqS) : (s.setSeq c x).ccLines = s.ccLines := rfl
@[simp] theorem State.setSeq_xTicks (c : Nat) (x : SeqS) : (s.setSeq c x).xTicks = s.xTicks := rfl
@[simp] theorem State.setSeq_stalls (c : Nat) (x : SeqS) : (s.setSeq c x).stalls = s.stalls := rfl
@[simp] theorem State.setSeq_hsWait (c : Nat) (x : SeqS) : (s.setSeq c x).hsWait = s.hsWait := rfl
@[simp] theorem State.setSeq_flash (c : Nat) (x : SeqS) : (s.setSeq c x).flash = s.flash := rfl
@[simp] theorem State.setSeq_floorFused (c : Nat) (x : SeqS) : (s.setSeq c x).floorFused = s.floorFused := rfl
@[simp] theorem State.setSeq_testEntered (c : Nat) (x : SeqS) : (s.setSeq c x).testEntered = s.testEntered := rfl
@[simp] theorem State.setSeq_floorFlags (c : Nat) (x : SeqS) : (s.setSeq c x).floorFlags = s.floorFlags := rfl
@[simp] theorem State.setSeq_mgmtRecord (c : Nat) (x : SeqS) : (s.setSeq c x).mgmtRecord = s.mgmtRecord := rfl
@[simp] theorem State.setSeq_testKey (c : Nat) (x : SeqS) : (s.setSeq c x).testKey = s.testKey := rfl
@[simp] theorem State.setSeq_mgmtUp (c : Nat) (x : SeqS) : (s.setSeq c x).mgmtUp = s.mgmtUp := rfl
@[simp] theorem State.setSeq_sessions (c : Nat) (x : SeqS) : (s.setSeq c x).sessions = s.sessions := rfl
@[simp] theorem State.setSeq_staging (c : Nat) (x : SeqS) : (s.setSeq c x).staging = s.staging := rfl
@[simp] theorem State.setSeq_att (c : Nat) (x : SeqS) : (s.setSeq c x).att = s.att := rfl
@[simp] theorem State.setSeq_tokens (c : Nat) (x : SeqS) : (s.setSeq c x).tokens = s.tokens := rfl
@[simp] theorem State.setSeq_gen (c : Nat) (x : SeqS) : (s.setSeq c x).gen = s.gen := rfl
@[simp] theorem State.setSeq_batch (c : Nat) (x : SeqS) : (s.setSeq c x).batch = s.batch := rfl
@[simp] theorem State.setSeq_decLt (c : Nat) (x : SeqS) : (s.setSeq c x).decLt = s.decLt := rfl
@[simp] theorem State.setSeq_power (c : Nat) (x : SeqS) : (s.setSeq c x).power = s.power := rfl
@[simp] theorem State.setSeq_rind (c : Nat) (x : SeqS) : (s.setSeq c x).rind = s.rind := rfl
@[simp] theorem State.setSeq_fabricHeld (c : Nat) (x : SeqS) : (s.setSeq c x).fabricHeld = s.fabricHeld := rfl
@[simp] theorem State.setSeq_resetN (c : Nat) (x : SeqS) : (s.setSeq c x).resetN = s.resetN := rfl
@[simp] theorem State.setSeq_aux12 (c : Nat) (x : SeqS) : (s.setSeq c x).aux12 = s.aux12 := rfl
@[simp] theorem State.setSeq_main54 (c : Nat) (x : SeqS) : (s.setSeq c x).main54 = s.main54 := rfl
@[simp] theorem State.setSeq_auxGood (c : Nat) (x : SeqS) : (s.setSeq c x).auxGood = s.auxGood := rfl
@[simp] theorem State.setSeq_mainGood (c : Nat) (x : SeqS) : (s.setSeq c x).mainGood = s.mainGood := rfl
@[simp] theorem State.setSeq_thermTripN (c : Nat) (x : SeqS) : (s.setSeq c x).thermTripN = s.thermTripN := rfl
@[simp] theorem State.setSeq_outbox (c : Nat) (x : SeqS) : (s.setSeq c x).outbox = s.outbox := rfl
@[simp] theorem State.setSeq_resp (c : Nat) (x : SeqS) : (s.setSeq c x).resp = s.resp := rfl
@[simp] theorem State.setSeq_freshCtr (c : Nat) (x : SeqS) : (s.setSeq c x).freshCtr = s.freshCtr := rfl

/-! Storing an array -/

@[simp] theorem State.setArr_pending (c a : Nat) (x : ArrayS) : (s.setArr c a x).pending = s.pending := rfl
@[simp] theorem State.setArr_regs (c a : Nat) (x : ArrayS) : (s.setArr c a x).regs = s.regs := rfl
@[simp] theorem State.setArr_sidecar (c a : Nat) (x : ArrayS) : (s.setArr c a x).sidecar = s.sidecar := rfl
@[simp] theorem State.setArr_noise (c a : Nat) (x : ArrayS) : (s.setArr c a x).noise = s.noise := rfl
@[simp] theorem State.setArr_ecc (c a : Nat) (x : ArrayS) : (s.setArr c a x).ecc = s.ecc := rfl
@[simp] theorem State.setArr_twinB (c a : Nat) (x : ArrayS) : (s.setArr c a x).twinB = s.twinB := rfl
@[simp] theorem State.setArr_svc (c a : Nat) (x : ArrayS) : (s.setArr c a x).svc = s.svc := rfl
@[simp] theorem State.setArr_job (c a : Nat) (x : ArrayS) : (s.setArr c a x).job = s.job := rfl
@[simp] theorem State.setArr_seqs (c a : Nat) (x : ArrayS) : (s.setArr c a x).seqs = s.seqs := rfl
@[simp] theorem State.setArr_accs (c a : Nat) (x : ArrayS) : (s.setArr c a x).accs = s.accs := rfl
@[simp] theorem State.setArr_vecs (c a : Nat) (x : ArrayS) : (s.setArr c a x).vecs = s.vecs := rfl
@[simp] theorem State.setArr_ocache (c a : Nat) (x : ArrayS) : (s.setArr c a x).ocache = s.ocache := rfl
@[simp] theorem State.setArr_teas (c a : Nat) (x : ArrayS) : (s.setArr c a x).teas = s.teas := rfl
@[simp] theorem State.setArr_dmas (c a : Nat) (x : ArrayS) : (s.setArr c a x).dmas = s.dmas := rfl
@[simp] theorem State.setArr_dmaLast (c a : Nat) (x : ArrayS) : (s.setArr c a x).dmaLast = s.dmaLast := rfl
@[simp] theorem State.setArr_semWaits (c a : Nat) (x : ArrayS) : (s.setArr c a x).semWaits = s.semWaits := rfl
@[simp] theorem State.setArr_grants (c a : Nat) (x : ArrayS) : (s.setArr c a x).grants = s.grants := rfl
@[simp] theorem State.setArr_autoGen (c a : Nat) (x : ArrayS) : (s.setArr c a x).autoGen = s.autoGen := rfl
@[simp] theorem State.setArr_barHeld (c a : Nat) (x : ArrayS) : (s.setArr c a x).barHeld = s.barHeld := rfl
@[simp] theorem State.setArr_rootArr (c a : Nat) (x : ArrayS) : (s.setArr c a x).rootArr = s.rootArr := rfl
@[simp] theorem State.setArr_vmsgs (c a : Nat) (x : ArrayS) : (s.setArr c a x).vmsgs = s.vmsgs := rfl
@[simp] theorem State.setArr_hoops (c a : Nat) (x : ArrayS) : (s.setArr c a x).hoops = s.hoops := rfl
@[simp] theorem State.setArr_migs (c a : Nat) (x : ArrayS) : (s.setArr c a x).migs = s.migs := rfl
@[simp] theorem State.setArr_guards (c a : Nat) (x : ArrayS) : (s.setArr c a x).guards = s.guards := rfl
@[simp] theorem State.setArr_faultQ (c a : Nat) (x : ArrayS) : (s.setArr c a x).faultQ = s.faultQ := rfl
@[simp] theorem State.setArr_rens (c a : Nat) (x : ArrayS) : (s.setArr c a x).rens = s.rens := rfl
@[simp] theorem State.setArr_presses (c a : Nat) (x : ArrayS) : (s.setArr c a x).presses = s.presses := rfl
@[simp] theorem State.setArr_ports (c a : Nat) (x : ArrayS) : (s.setArr c a x).ports = s.ports := rfl
@[simp] theorem State.setArr_vats (c a : Nat) (x : ArrayS) : (s.setArr c a x).vats = s.vats := rfl
@[simp] theorem State.setArr_asked (c a : Nat) (x : ArrayS) : (s.setArr c a x).asked = s.asked := rfl
@[simp] theorem State.setArr_heldWr (c a : Nat) (x : ArrayS) : (s.setArr c a x).heldWr = s.heldWr := rfl
@[simp] theorem State.setArr_tagCtr (c a : Nat) (x : ArrayS) : (s.setArr c a x).tagCtr = s.tagCtr := rfl
@[simp] theorem State.setArr_capture (c a : Nat) (x : ArrayS) : (s.setArr c a x).capture = s.capture := rfl
@[simp] theorem State.setArr_agree (c a : Nat) (x : ArrayS) : (s.setArr c a x).agree = s.agree := rfl
@[simp] theorem State.setArr_slots (c a : Nat) (x : ArrayS) : (s.setArr c a x).slots = s.slots := rfl
@[simp] theorem State.setArr_sorrelLt (c a : Nat) (x : ArrayS) : (s.setArr c a x).sorrelLt = s.sorrelLt := rfl
@[simp] theorem State.setArr_jobWdLt (c a : Nat) (x : ArrayS) : (s.setArr c a x).jobWdLt = s.jobWdLt := rfl
@[simp] theorem State.setArr_stopping (c a : Nat) (x : ArrayS) : (s.setArr c a x).stopping = s.stopping := rfl
@[simp] theorem State.setArr_stopLt (c a : Nat) (x : ArrayS) : (s.setArr c a x).stopLt = s.stopLt := rfl
@[simp] theorem State.setArr_stopReply (c a : Nat) (x : ArrayS) : (s.setArr c a x).stopReply = s.stopReply := rfl
@[simp] theorem State.setArr_leases (c a : Nat) (x : ArrayS) : (s.setArr c a x).leases = s.leases := rfl
@[simp] theorem State.setArr_strapEast (c a : Nat) (x : ArrayS) : (s.setArr c a x).strapEast = s.strapEast := rfl
@[simp] theorem State.setArr_yieldPending (c a : Nat) (x : ArrayS) : (s.setArr c a x).yieldPending = s.yieldPending := rfl
@[simp] theorem State.setArr_ccLines (c a : Nat) (x : ArrayS) : (s.setArr c a x).ccLines = s.ccLines := rfl
@[simp] theorem State.setArr_xTicks (c a : Nat) (x : ArrayS) : (s.setArr c a x).xTicks = s.xTicks := rfl
@[simp] theorem State.setArr_stalls (c a : Nat) (x : ArrayS) : (s.setArr c a x).stalls = s.stalls := rfl
@[simp] theorem State.setArr_hsWait (c a : Nat) (x : ArrayS) : (s.setArr c a x).hsWait = s.hsWait := rfl
@[simp] theorem State.setArr_flash (c a : Nat) (x : ArrayS) : (s.setArr c a x).flash = s.flash := rfl
@[simp] theorem State.setArr_floorFused (c a : Nat) (x : ArrayS) : (s.setArr c a x).floorFused = s.floorFused := rfl
@[simp] theorem State.setArr_testEntered (c a : Nat) (x : ArrayS) : (s.setArr c a x).testEntered = s.testEntered := rfl
@[simp] theorem State.setArr_floorFlags (c a : Nat) (x : ArrayS) : (s.setArr c a x).floorFlags = s.floorFlags := rfl
@[simp] theorem State.setArr_mgmtRecord (c a : Nat) (x : ArrayS) : (s.setArr c a x).mgmtRecord = s.mgmtRecord := rfl
@[simp] theorem State.setArr_testKey (c a : Nat) (x : ArrayS) : (s.setArr c a x).testKey = s.testKey := rfl
@[simp] theorem State.setArr_mgmtUp (c a : Nat) (x : ArrayS) : (s.setArr c a x).mgmtUp = s.mgmtUp := rfl
@[simp] theorem State.setArr_sessions (c a : Nat) (x : ArrayS) : (s.setArr c a x).sessions = s.sessions := rfl
@[simp] theorem State.setArr_staging (c a : Nat) (x : ArrayS) : (s.setArr c a x).staging = s.staging := rfl
@[simp] theorem State.setArr_att (c a : Nat) (x : ArrayS) : (s.setArr c a x).att = s.att := rfl
@[simp] theorem State.setArr_tokens (c a : Nat) (x : ArrayS) : (s.setArr c a x).tokens = s.tokens := rfl
@[simp] theorem State.setArr_gen (c a : Nat) (x : ArrayS) : (s.setArr c a x).gen = s.gen := rfl
@[simp] theorem State.setArr_batch (c a : Nat) (x : ArrayS) : (s.setArr c a x).batch = s.batch := rfl
@[simp] theorem State.setArr_decLt (c a : Nat) (x : ArrayS) : (s.setArr c a x).decLt = s.decLt := rfl
@[simp] theorem State.setArr_power (c a : Nat) (x : ArrayS) : (s.setArr c a x).power = s.power := rfl
@[simp] theorem State.setArr_rind (c a : Nat) (x : ArrayS) : (s.setArr c a x).rind = s.rind := rfl
@[simp] theorem State.setArr_fabricHeld (c a : Nat) (x : ArrayS) : (s.setArr c a x).fabricHeld = s.fabricHeld := rfl
@[simp] theorem State.setArr_resetN (c a : Nat) (x : ArrayS) : (s.setArr c a x).resetN = s.resetN := rfl
@[simp] theorem State.setArr_aux12 (c a : Nat) (x : ArrayS) : (s.setArr c a x).aux12 = s.aux12 := rfl
@[simp] theorem State.setArr_main54 (c a : Nat) (x : ArrayS) : (s.setArr c a x).main54 = s.main54 := rfl
@[simp] theorem State.setArr_auxGood (c a : Nat) (x : ArrayS) : (s.setArr c a x).auxGood = s.auxGood := rfl
@[simp] theorem State.setArr_mainGood (c a : Nat) (x : ArrayS) : (s.setArr c a x).mainGood = s.mainGood := rfl
@[simp] theorem State.setArr_thermTripN (c a : Nat) (x : ArrayS) : (s.setArr c a x).thermTripN = s.thermTripN := rfl
@[simp] theorem State.setArr_outbox (c a : Nat) (x : ArrayS) : (s.setArr c a x).outbox = s.outbox := rfl
@[simp] theorem State.setArr_resp (c a : Nat) (x : ArrayS) : (s.setArr c a x).resp = s.resp := rfl
@[simp] theorem State.setArr_freshCtr (c a : Nat) (x : ArrayS) : (s.setArr c a x).freshCtr = s.freshCtr := rfl

/-! Storing an accumulator entry -/

@[simp] theorem State.setAcc_pending (k v : Nat) : (s.setAcc k v).pending = s.pending := rfl
@[simp] theorem State.setAcc_regs (k v : Nat) : (s.setAcc k v).regs = s.regs := rfl
@[simp] theorem State.setAcc_sidecar (k v : Nat) : (s.setAcc k v).sidecar = s.sidecar := rfl
@[simp] theorem State.setAcc_noise (k v : Nat) : (s.setAcc k v).noise = s.noise := rfl
@[simp] theorem State.setAcc_ecc (k v : Nat) : (s.setAcc k v).ecc = s.ecc := rfl
@[simp] theorem State.setAcc_twinB (k v : Nat) : (s.setAcc k v).twinB = s.twinB := rfl
@[simp] theorem State.setAcc_svc (k v : Nat) : (s.setAcc k v).svc = s.svc := rfl
@[simp] theorem State.setAcc_job (k v : Nat) : (s.setAcc k v).job = s.job := rfl
@[simp] theorem State.setAcc_seqs (k v : Nat) : (s.setAcc k v).seqs = s.seqs := rfl
@[simp] theorem State.setAcc_arrays (k v : Nat) : (s.setAcc k v).arrays = s.arrays := rfl
@[simp] theorem State.setAcc_vecs (k v : Nat) : (s.setAcc k v).vecs = s.vecs := rfl
@[simp] theorem State.setAcc_ocache (k v : Nat) : (s.setAcc k v).ocache = s.ocache := rfl
@[simp] theorem State.setAcc_teas (k v : Nat) : (s.setAcc k v).teas = s.teas := rfl
@[simp] theorem State.setAcc_dmas (k v : Nat) : (s.setAcc k v).dmas = s.dmas := rfl
@[simp] theorem State.setAcc_dmaLast (k v : Nat) : (s.setAcc k v).dmaLast = s.dmaLast := rfl
@[simp] theorem State.setAcc_semWaits (k v : Nat) : (s.setAcc k v).semWaits = s.semWaits := rfl
@[simp] theorem State.setAcc_grants (k v : Nat) : (s.setAcc k v).grants = s.grants := rfl
@[simp] theorem State.setAcc_autoGen (k v : Nat) : (s.setAcc k v).autoGen = s.autoGen := rfl
@[simp] theorem State.setAcc_barHeld (k v : Nat) : (s.setAcc k v).barHeld = s.barHeld := rfl
@[simp] theorem State.setAcc_rootArr (k v : Nat) : (s.setAcc k v).rootArr = s.rootArr := rfl
@[simp] theorem State.setAcc_vmsgs (k v : Nat) : (s.setAcc k v).vmsgs = s.vmsgs := rfl
@[simp] theorem State.setAcc_hoops (k v : Nat) : (s.setAcc k v).hoops = s.hoops := rfl
@[simp] theorem State.setAcc_migs (k v : Nat) : (s.setAcc k v).migs = s.migs := rfl
@[simp] theorem State.setAcc_guards (k v : Nat) : (s.setAcc k v).guards = s.guards := rfl
@[simp] theorem State.setAcc_faultQ (k v : Nat) : (s.setAcc k v).faultQ = s.faultQ := rfl
@[simp] theorem State.setAcc_rens (k v : Nat) : (s.setAcc k v).rens = s.rens := rfl
@[simp] theorem State.setAcc_presses (k v : Nat) : (s.setAcc k v).presses = s.presses := rfl
@[simp] theorem State.setAcc_ports (k v : Nat) : (s.setAcc k v).ports = s.ports := rfl
@[simp] theorem State.setAcc_vats (k v : Nat) : (s.setAcc k v).vats = s.vats := rfl
@[simp] theorem State.setAcc_asked (k v : Nat) : (s.setAcc k v).asked = s.asked := rfl
@[simp] theorem State.setAcc_heldWr (k v : Nat) : (s.setAcc k v).heldWr = s.heldWr := rfl
@[simp] theorem State.setAcc_tagCtr (k v : Nat) : (s.setAcc k v).tagCtr = s.tagCtr := rfl
@[simp] theorem State.setAcc_capture (k v : Nat) : (s.setAcc k v).capture = s.capture := rfl
@[simp] theorem State.setAcc_agree (k v : Nat) : (s.setAcc k v).agree = s.agree := rfl
@[simp] theorem State.setAcc_slots (k v : Nat) : (s.setAcc k v).slots = s.slots := rfl
@[simp] theorem State.setAcc_sorrelLt (k v : Nat) : (s.setAcc k v).sorrelLt = s.sorrelLt := rfl
@[simp] theorem State.setAcc_jobWdLt (k v : Nat) : (s.setAcc k v).jobWdLt = s.jobWdLt := rfl
@[simp] theorem State.setAcc_stopping (k v : Nat) : (s.setAcc k v).stopping = s.stopping := rfl
@[simp] theorem State.setAcc_stopLt (k v : Nat) : (s.setAcc k v).stopLt = s.stopLt := rfl
@[simp] theorem State.setAcc_stopReply (k v : Nat) : (s.setAcc k v).stopReply = s.stopReply := rfl
@[simp] theorem State.setAcc_leases (k v : Nat) : (s.setAcc k v).leases = s.leases := rfl
@[simp] theorem State.setAcc_strapEast (k v : Nat) : (s.setAcc k v).strapEast = s.strapEast := rfl
@[simp] theorem State.setAcc_yieldPending (k v : Nat) : (s.setAcc k v).yieldPending = s.yieldPending := rfl
@[simp] theorem State.setAcc_ccLines (k v : Nat) : (s.setAcc k v).ccLines = s.ccLines := rfl
@[simp] theorem State.setAcc_xTicks (k v : Nat) : (s.setAcc k v).xTicks = s.xTicks := rfl
@[simp] theorem State.setAcc_stalls (k v : Nat) : (s.setAcc k v).stalls = s.stalls := rfl
@[simp] theorem State.setAcc_hsWait (k v : Nat) : (s.setAcc k v).hsWait = s.hsWait := rfl
@[simp] theorem State.setAcc_flash (k v : Nat) : (s.setAcc k v).flash = s.flash := rfl
@[simp] theorem State.setAcc_floorFused (k v : Nat) : (s.setAcc k v).floorFused = s.floorFused := rfl
@[simp] theorem State.setAcc_testEntered (k v : Nat) : (s.setAcc k v).testEntered = s.testEntered := rfl
@[simp] theorem State.setAcc_floorFlags (k v : Nat) : (s.setAcc k v).floorFlags = s.floorFlags := rfl
@[simp] theorem State.setAcc_mgmtRecord (k v : Nat) : (s.setAcc k v).mgmtRecord = s.mgmtRecord := rfl
@[simp] theorem State.setAcc_testKey (k v : Nat) : (s.setAcc k v).testKey = s.testKey := rfl
@[simp] theorem State.setAcc_mgmtUp (k v : Nat) : (s.setAcc k v).mgmtUp = s.mgmtUp := rfl
@[simp] theorem State.setAcc_sessions (k v : Nat) : (s.setAcc k v).sessions = s.sessions := rfl
@[simp] theorem State.setAcc_staging (k v : Nat) : (s.setAcc k v).staging = s.staging := rfl
@[simp] theorem State.setAcc_att (k v : Nat) : (s.setAcc k v).att = s.att := rfl
@[simp] theorem State.setAcc_tokens (k v : Nat) : (s.setAcc k v).tokens = s.tokens := rfl
@[simp] theorem State.setAcc_gen (k v : Nat) : (s.setAcc k v).gen = s.gen := rfl
@[simp] theorem State.setAcc_batch (k v : Nat) : (s.setAcc k v).batch = s.batch := rfl
@[simp] theorem State.setAcc_decLt (k v : Nat) : (s.setAcc k v).decLt = s.decLt := rfl
@[simp] theorem State.setAcc_power (k v : Nat) : (s.setAcc k v).power = s.power := rfl
@[simp] theorem State.setAcc_rind (k v : Nat) : (s.setAcc k v).rind = s.rind := rfl
@[simp] theorem State.setAcc_fabricHeld (k v : Nat) : (s.setAcc k v).fabricHeld = s.fabricHeld := rfl
@[simp] theorem State.setAcc_resetN (k v : Nat) : (s.setAcc k v).resetN = s.resetN := rfl
@[simp] theorem State.setAcc_aux12 (k v : Nat) : (s.setAcc k v).aux12 = s.aux12 := rfl
@[simp] theorem State.setAcc_main54 (k v : Nat) : (s.setAcc k v).main54 = s.main54 := rfl
@[simp] theorem State.setAcc_auxGood (k v : Nat) : (s.setAcc k v).auxGood = s.auxGood := rfl
@[simp] theorem State.setAcc_mainGood (k v : Nat) : (s.setAcc k v).mainGood = s.mainGood := rfl
@[simp] theorem State.setAcc_thermTripN (k v : Nat) : (s.setAcc k v).thermTripN = s.thermTripN := rfl
@[simp] theorem State.setAcc_outbox (k v : Nat) : (s.setAcc k v).outbox = s.outbox := rfl
@[simp] theorem State.setAcc_resp (k v : Nat) : (s.setAcc k v).resp = s.resp := rfl
@[simp] theorem State.setAcc_freshCtr (k v : Nat) : (s.setAcc k v).freshCtr = s.freshCtr := rfl

/-! Storing a vector engine -/

@[simp] theorem State.setVec_pending (c : Nat) (x : VecS) : (s.setVec c x).pending = s.pending := rfl
@[simp] theorem State.setVec_regs (c : Nat) (x : VecS) : (s.setVec c x).regs = s.regs := rfl
@[simp] theorem State.setVec_sidecar (c : Nat) (x : VecS) : (s.setVec c x).sidecar = s.sidecar := rfl
@[simp] theorem State.setVec_noise (c : Nat) (x : VecS) : (s.setVec c x).noise = s.noise := rfl
@[simp] theorem State.setVec_ecc (c : Nat) (x : VecS) : (s.setVec c x).ecc = s.ecc := rfl
@[simp] theorem State.setVec_twinB (c : Nat) (x : VecS) : (s.setVec c x).twinB = s.twinB := rfl
@[simp] theorem State.setVec_svc (c : Nat) (x : VecS) : (s.setVec c x).svc = s.svc := rfl
@[simp] theorem State.setVec_job (c : Nat) (x : VecS) : (s.setVec c x).job = s.job := rfl
@[simp] theorem State.setVec_seqs (c : Nat) (x : VecS) : (s.setVec c x).seqs = s.seqs := rfl
@[simp] theorem State.setVec_arrays (c : Nat) (x : VecS) : (s.setVec c x).arrays = s.arrays := rfl
@[simp] theorem State.setVec_accs (c : Nat) (x : VecS) : (s.setVec c x).accs = s.accs := rfl
@[simp] theorem State.setVec_ocache (c : Nat) (x : VecS) : (s.setVec c x).ocache = s.ocache := rfl
@[simp] theorem State.setVec_teas (c : Nat) (x : VecS) : (s.setVec c x).teas = s.teas := rfl
@[simp] theorem State.setVec_dmas (c : Nat) (x : VecS) : (s.setVec c x).dmas = s.dmas := rfl
@[simp] theorem State.setVec_dmaLast (c : Nat) (x : VecS) : (s.setVec c x).dmaLast = s.dmaLast := rfl
@[simp] theorem State.setVec_semWaits (c : Nat) (x : VecS) : (s.setVec c x).semWaits = s.semWaits := rfl
@[simp] theorem State.setVec_grants (c : Nat) (x : VecS) : (s.setVec c x).grants = s.grants := rfl
@[simp] theorem State.setVec_autoGen (c : Nat) (x : VecS) : (s.setVec c x).autoGen = s.autoGen := rfl
@[simp] theorem State.setVec_barHeld (c : Nat) (x : VecS) : (s.setVec c x).barHeld = s.barHeld := rfl
@[simp] theorem State.setVec_rootArr (c : Nat) (x : VecS) : (s.setVec c x).rootArr = s.rootArr := rfl
@[simp] theorem State.setVec_vmsgs (c : Nat) (x : VecS) : (s.setVec c x).vmsgs = s.vmsgs := rfl
@[simp] theorem State.setVec_hoops (c : Nat) (x : VecS) : (s.setVec c x).hoops = s.hoops := rfl
@[simp] theorem State.setVec_migs (c : Nat) (x : VecS) : (s.setVec c x).migs = s.migs := rfl
@[simp] theorem State.setVec_guards (c : Nat) (x : VecS) : (s.setVec c x).guards = s.guards := rfl
@[simp] theorem State.setVec_faultQ (c : Nat) (x : VecS) : (s.setVec c x).faultQ = s.faultQ := rfl
@[simp] theorem State.setVec_rens (c : Nat) (x : VecS) : (s.setVec c x).rens = s.rens := rfl
@[simp] theorem State.setVec_presses (c : Nat) (x : VecS) : (s.setVec c x).presses = s.presses := rfl
@[simp] theorem State.setVec_ports (c : Nat) (x : VecS) : (s.setVec c x).ports = s.ports := rfl
@[simp] theorem State.setVec_vats (c : Nat) (x : VecS) : (s.setVec c x).vats = s.vats := rfl
@[simp] theorem State.setVec_asked (c : Nat) (x : VecS) : (s.setVec c x).asked = s.asked := rfl
@[simp] theorem State.setVec_heldWr (c : Nat) (x : VecS) : (s.setVec c x).heldWr = s.heldWr := rfl
@[simp] theorem State.setVec_tagCtr (c : Nat) (x : VecS) : (s.setVec c x).tagCtr = s.tagCtr := rfl
@[simp] theorem State.setVec_capture (c : Nat) (x : VecS) : (s.setVec c x).capture = s.capture := rfl
@[simp] theorem State.setVec_agree (c : Nat) (x : VecS) : (s.setVec c x).agree = s.agree := rfl
@[simp] theorem State.setVec_slots (c : Nat) (x : VecS) : (s.setVec c x).slots = s.slots := rfl
@[simp] theorem State.setVec_sorrelLt (c : Nat) (x : VecS) : (s.setVec c x).sorrelLt = s.sorrelLt := rfl
@[simp] theorem State.setVec_jobWdLt (c : Nat) (x : VecS) : (s.setVec c x).jobWdLt = s.jobWdLt := rfl
@[simp] theorem State.setVec_stopping (c : Nat) (x : VecS) : (s.setVec c x).stopping = s.stopping := rfl
@[simp] theorem State.setVec_stopLt (c : Nat) (x : VecS) : (s.setVec c x).stopLt = s.stopLt := rfl
@[simp] theorem State.setVec_stopReply (c : Nat) (x : VecS) : (s.setVec c x).stopReply = s.stopReply := rfl
@[simp] theorem State.setVec_leases (c : Nat) (x : VecS) : (s.setVec c x).leases = s.leases := rfl
@[simp] theorem State.setVec_strapEast (c : Nat) (x : VecS) : (s.setVec c x).strapEast = s.strapEast := rfl
@[simp] theorem State.setVec_yieldPending (c : Nat) (x : VecS) : (s.setVec c x).yieldPending = s.yieldPending := rfl
@[simp] theorem State.setVec_ccLines (c : Nat) (x : VecS) : (s.setVec c x).ccLines = s.ccLines := rfl
@[simp] theorem State.setVec_xTicks (c : Nat) (x : VecS) : (s.setVec c x).xTicks = s.xTicks := rfl
@[simp] theorem State.setVec_stalls (c : Nat) (x : VecS) : (s.setVec c x).stalls = s.stalls := rfl
@[simp] theorem State.setVec_hsWait (c : Nat) (x : VecS) : (s.setVec c x).hsWait = s.hsWait := rfl
@[simp] theorem State.setVec_flash (c : Nat) (x : VecS) : (s.setVec c x).flash = s.flash := rfl
@[simp] theorem State.setVec_floorFused (c : Nat) (x : VecS) : (s.setVec c x).floorFused = s.floorFused := rfl
@[simp] theorem State.setVec_testEntered (c : Nat) (x : VecS) : (s.setVec c x).testEntered = s.testEntered := rfl
@[simp] theorem State.setVec_floorFlags (c : Nat) (x : VecS) : (s.setVec c x).floorFlags = s.floorFlags := rfl
@[simp] theorem State.setVec_mgmtRecord (c : Nat) (x : VecS) : (s.setVec c x).mgmtRecord = s.mgmtRecord := rfl
@[simp] theorem State.setVec_testKey (c : Nat) (x : VecS) : (s.setVec c x).testKey = s.testKey := rfl
@[simp] theorem State.setVec_mgmtUp (c : Nat) (x : VecS) : (s.setVec c x).mgmtUp = s.mgmtUp := rfl
@[simp] theorem State.setVec_sessions (c : Nat) (x : VecS) : (s.setVec c x).sessions = s.sessions := rfl
@[simp] theorem State.setVec_staging (c : Nat) (x : VecS) : (s.setVec c x).staging = s.staging := rfl
@[simp] theorem State.setVec_att (c : Nat) (x : VecS) : (s.setVec c x).att = s.att := rfl
@[simp] theorem State.setVec_tokens (c : Nat) (x : VecS) : (s.setVec c x).tokens = s.tokens := rfl
@[simp] theorem State.setVec_gen (c : Nat) (x : VecS) : (s.setVec c x).gen = s.gen := rfl
@[simp] theorem State.setVec_batch (c : Nat) (x : VecS) : (s.setVec c x).batch = s.batch := rfl
@[simp] theorem State.setVec_decLt (c : Nat) (x : VecS) : (s.setVec c x).decLt = s.decLt := rfl
@[simp] theorem State.setVec_power (c : Nat) (x : VecS) : (s.setVec c x).power = s.power := rfl
@[simp] theorem State.setVec_rind (c : Nat) (x : VecS) : (s.setVec c x).rind = s.rind := rfl
@[simp] theorem State.setVec_fabricHeld (c : Nat) (x : VecS) : (s.setVec c x).fabricHeld = s.fabricHeld := rfl
@[simp] theorem State.setVec_resetN (c : Nat) (x : VecS) : (s.setVec c x).resetN = s.resetN := rfl
@[simp] theorem State.setVec_aux12 (c : Nat) (x : VecS) : (s.setVec c x).aux12 = s.aux12 := rfl
@[simp] theorem State.setVec_main54 (c : Nat) (x : VecS) : (s.setVec c x).main54 = s.main54 := rfl
@[simp] theorem State.setVec_auxGood (c : Nat) (x : VecS) : (s.setVec c x).auxGood = s.auxGood := rfl
@[simp] theorem State.setVec_mainGood (c : Nat) (x : VecS) : (s.setVec c x).mainGood = s.mainGood := rfl
@[simp] theorem State.setVec_thermTripN (c : Nat) (x : VecS) : (s.setVec c x).thermTripN = s.thermTripN := rfl
@[simp] theorem State.setVec_outbox (c : Nat) (x : VecS) : (s.setVec c x).outbox = s.outbox := rfl
@[simp] theorem State.setVec_resp (c : Nat) (x : VecS) : (s.setVec c x).resp = s.resp := rfl
@[simp] theorem State.setVec_freshCtr (c : Nat) (x : VecS) : (s.setVec c x).freshCtr = s.freshCtr := rfl

/-! Storing a Teasel -/

@[simp] theorem State.setTea_pending (c : Nat) (x : TeaS) : (s.setTea c x).pending = s.pending := rfl
@[simp] theorem State.setTea_regs (c : Nat) (x : TeaS) : (s.setTea c x).regs = s.regs := rfl
@[simp] theorem State.setTea_sidecar (c : Nat) (x : TeaS) : (s.setTea c x).sidecar = s.sidecar := rfl
@[simp] theorem State.setTea_noise (c : Nat) (x : TeaS) : (s.setTea c x).noise = s.noise := rfl
@[simp] theorem State.setTea_ecc (c : Nat) (x : TeaS) : (s.setTea c x).ecc = s.ecc := rfl
@[simp] theorem State.setTea_twinB (c : Nat) (x : TeaS) : (s.setTea c x).twinB = s.twinB := rfl
@[simp] theorem State.setTea_svc (c : Nat) (x : TeaS) : (s.setTea c x).svc = s.svc := rfl
@[simp] theorem State.setTea_job (c : Nat) (x : TeaS) : (s.setTea c x).job = s.job := rfl
@[simp] theorem State.setTea_seqs (c : Nat) (x : TeaS) : (s.setTea c x).seqs = s.seqs := rfl
@[simp] theorem State.setTea_arrays (c : Nat) (x : TeaS) : (s.setTea c x).arrays = s.arrays := rfl
@[simp] theorem State.setTea_accs (c : Nat) (x : TeaS) : (s.setTea c x).accs = s.accs := rfl
@[simp] theorem State.setTea_vecs (c : Nat) (x : TeaS) : (s.setTea c x).vecs = s.vecs := rfl
@[simp] theorem State.setTea_ocache (c : Nat) (x : TeaS) : (s.setTea c x).ocache = s.ocache := rfl
@[simp] theorem State.setTea_dmas (c : Nat) (x : TeaS) : (s.setTea c x).dmas = s.dmas := rfl
@[simp] theorem State.setTea_dmaLast (c : Nat) (x : TeaS) : (s.setTea c x).dmaLast = s.dmaLast := rfl
@[simp] theorem State.setTea_semWaits (c : Nat) (x : TeaS) : (s.setTea c x).semWaits = s.semWaits := rfl
@[simp] theorem State.setTea_grants (c : Nat) (x : TeaS) : (s.setTea c x).grants = s.grants := rfl
@[simp] theorem State.setTea_autoGen (c : Nat) (x : TeaS) : (s.setTea c x).autoGen = s.autoGen := rfl
@[simp] theorem State.setTea_barHeld (c : Nat) (x : TeaS) : (s.setTea c x).barHeld = s.barHeld := rfl
@[simp] theorem State.setTea_rootArr (c : Nat) (x : TeaS) : (s.setTea c x).rootArr = s.rootArr := rfl
@[simp] theorem State.setTea_vmsgs (c : Nat) (x : TeaS) : (s.setTea c x).vmsgs = s.vmsgs := rfl
@[simp] theorem State.setTea_hoops (c : Nat) (x : TeaS) : (s.setTea c x).hoops = s.hoops := rfl
@[simp] theorem State.setTea_migs (c : Nat) (x : TeaS) : (s.setTea c x).migs = s.migs := rfl
@[simp] theorem State.setTea_guards (c : Nat) (x : TeaS) : (s.setTea c x).guards = s.guards := rfl
@[simp] theorem State.setTea_faultQ (c : Nat) (x : TeaS) : (s.setTea c x).faultQ = s.faultQ := rfl
@[simp] theorem State.setTea_rens (c : Nat) (x : TeaS) : (s.setTea c x).rens = s.rens := rfl
@[simp] theorem State.setTea_presses (c : Nat) (x : TeaS) : (s.setTea c x).presses = s.presses := rfl
@[simp] theorem State.setTea_ports (c : Nat) (x : TeaS) : (s.setTea c x).ports = s.ports := rfl
@[simp] theorem State.setTea_vats (c : Nat) (x : TeaS) : (s.setTea c x).vats = s.vats := rfl
@[simp] theorem State.setTea_asked (c : Nat) (x : TeaS) : (s.setTea c x).asked = s.asked := rfl
@[simp] theorem State.setTea_heldWr (c : Nat) (x : TeaS) : (s.setTea c x).heldWr = s.heldWr := rfl
@[simp] theorem State.setTea_tagCtr (c : Nat) (x : TeaS) : (s.setTea c x).tagCtr = s.tagCtr := rfl
@[simp] theorem State.setTea_capture (c : Nat) (x : TeaS) : (s.setTea c x).capture = s.capture := rfl
@[simp] theorem State.setTea_agree (c : Nat) (x : TeaS) : (s.setTea c x).agree = s.agree := rfl
@[simp] theorem State.setTea_slots (c : Nat) (x : TeaS) : (s.setTea c x).slots = s.slots := rfl
@[simp] theorem State.setTea_sorrelLt (c : Nat) (x : TeaS) : (s.setTea c x).sorrelLt = s.sorrelLt := rfl
@[simp] theorem State.setTea_jobWdLt (c : Nat) (x : TeaS) : (s.setTea c x).jobWdLt = s.jobWdLt := rfl
@[simp] theorem State.setTea_stopping (c : Nat) (x : TeaS) : (s.setTea c x).stopping = s.stopping := rfl
@[simp] theorem State.setTea_stopLt (c : Nat) (x : TeaS) : (s.setTea c x).stopLt = s.stopLt := rfl
@[simp] theorem State.setTea_stopReply (c : Nat) (x : TeaS) : (s.setTea c x).stopReply = s.stopReply := rfl
@[simp] theorem State.setTea_leases (c : Nat) (x : TeaS) : (s.setTea c x).leases = s.leases := rfl
@[simp] theorem State.setTea_strapEast (c : Nat) (x : TeaS) : (s.setTea c x).strapEast = s.strapEast := rfl
@[simp] theorem State.setTea_yieldPending (c : Nat) (x : TeaS) : (s.setTea c x).yieldPending = s.yieldPending := rfl
@[simp] theorem State.setTea_ccLines (c : Nat) (x : TeaS) : (s.setTea c x).ccLines = s.ccLines := rfl
@[simp] theorem State.setTea_xTicks (c : Nat) (x : TeaS) : (s.setTea c x).xTicks = s.xTicks := rfl
@[simp] theorem State.setTea_stalls (c : Nat) (x : TeaS) : (s.setTea c x).stalls = s.stalls := rfl
@[simp] theorem State.setTea_hsWait (c : Nat) (x : TeaS) : (s.setTea c x).hsWait = s.hsWait := rfl
@[simp] theorem State.setTea_flash (c : Nat) (x : TeaS) : (s.setTea c x).flash = s.flash := rfl
@[simp] theorem State.setTea_floorFused (c : Nat) (x : TeaS) : (s.setTea c x).floorFused = s.floorFused := rfl
@[simp] theorem State.setTea_testEntered (c : Nat) (x : TeaS) : (s.setTea c x).testEntered = s.testEntered := rfl
@[simp] theorem State.setTea_floorFlags (c : Nat) (x : TeaS) : (s.setTea c x).floorFlags = s.floorFlags := rfl
@[simp] theorem State.setTea_mgmtRecord (c : Nat) (x : TeaS) : (s.setTea c x).mgmtRecord = s.mgmtRecord := rfl
@[simp] theorem State.setTea_testKey (c : Nat) (x : TeaS) : (s.setTea c x).testKey = s.testKey := rfl
@[simp] theorem State.setTea_mgmtUp (c : Nat) (x : TeaS) : (s.setTea c x).mgmtUp = s.mgmtUp := rfl
@[simp] theorem State.setTea_sessions (c : Nat) (x : TeaS) : (s.setTea c x).sessions = s.sessions := rfl
@[simp] theorem State.setTea_staging (c : Nat) (x : TeaS) : (s.setTea c x).staging = s.staging := rfl
@[simp] theorem State.setTea_att (c : Nat) (x : TeaS) : (s.setTea c x).att = s.att := rfl
@[simp] theorem State.setTea_tokens (c : Nat) (x : TeaS) : (s.setTea c x).tokens = s.tokens := rfl
@[simp] theorem State.setTea_gen (c : Nat) (x : TeaS) : (s.setTea c x).gen = s.gen := rfl
@[simp] theorem State.setTea_batch (c : Nat) (x : TeaS) : (s.setTea c x).batch = s.batch := rfl
@[simp] theorem State.setTea_decLt (c : Nat) (x : TeaS) : (s.setTea c x).decLt = s.decLt := rfl
@[simp] theorem State.setTea_power (c : Nat) (x : TeaS) : (s.setTea c x).power = s.power := rfl
@[simp] theorem State.setTea_rind (c : Nat) (x : TeaS) : (s.setTea c x).rind = s.rind := rfl
@[simp] theorem State.setTea_fabricHeld (c : Nat) (x : TeaS) : (s.setTea c x).fabricHeld = s.fabricHeld := rfl
@[simp] theorem State.setTea_resetN (c : Nat) (x : TeaS) : (s.setTea c x).resetN = s.resetN := rfl
@[simp] theorem State.setTea_aux12 (c : Nat) (x : TeaS) : (s.setTea c x).aux12 = s.aux12 := rfl
@[simp] theorem State.setTea_main54 (c : Nat) (x : TeaS) : (s.setTea c x).main54 = s.main54 := rfl
@[simp] theorem State.setTea_auxGood (c : Nat) (x : TeaS) : (s.setTea c x).auxGood = s.auxGood := rfl
@[simp] theorem State.setTea_mainGood (c : Nat) (x : TeaS) : (s.setTea c x).mainGood = s.mainGood := rfl
@[simp] theorem State.setTea_thermTripN (c : Nat) (x : TeaS) : (s.setTea c x).thermTripN = s.thermTripN := rfl
@[simp] theorem State.setTea_outbox (c : Nat) (x : TeaS) : (s.setTea c x).outbox = s.outbox := rfl
@[simp] theorem State.setTea_resp (c : Nat) (x : TeaS) : (s.setTea c x).resp = s.resp := rfl
@[simp] theorem State.setTea_freshCtr (c : Nat) (x : TeaS) : (s.setTea c x).freshCtr = s.freshCtr := rfl

/-! Storing a DMA channel -/

@[simp] theorem State.setDma_pending (d c : Nat) (x : DmaS) : (s.setDma d c x).pending = s.pending := rfl
@[simp] theorem State.setDma_regs (d c : Nat) (x : DmaS) : (s.setDma d c x).regs = s.regs := rfl
@[simp] theorem State.setDma_sidecar (d c : Nat) (x : DmaS) : (s.setDma d c x).sidecar = s.sidecar := rfl
@[simp] theorem State.setDma_noise (d c : Nat) (x : DmaS) : (s.setDma d c x).noise = s.noise := rfl
@[simp] theorem State.setDma_ecc (d c : Nat) (x : DmaS) : (s.setDma d c x).ecc = s.ecc := rfl
@[simp] theorem State.setDma_twinB (d c : Nat) (x : DmaS) : (s.setDma d c x).twinB = s.twinB := rfl
@[simp] theorem State.setDma_svc (d c : Nat) (x : DmaS) : (s.setDma d c x).svc = s.svc := rfl
@[simp] theorem State.setDma_job (d c : Nat) (x : DmaS) : (s.setDma d c x).job = s.job := rfl
@[simp] theorem State.setDma_seqs (d c : Nat) (x : DmaS) : (s.setDma d c x).seqs = s.seqs := rfl
@[simp] theorem State.setDma_arrays (d c : Nat) (x : DmaS) : (s.setDma d c x).arrays = s.arrays := rfl
@[simp] theorem State.setDma_accs (d c : Nat) (x : DmaS) : (s.setDma d c x).accs = s.accs := rfl
@[simp] theorem State.setDma_vecs (d c : Nat) (x : DmaS) : (s.setDma d c x).vecs = s.vecs := rfl
@[simp] theorem State.setDma_ocache (d c : Nat) (x : DmaS) : (s.setDma d c x).ocache = s.ocache := rfl
@[simp] theorem State.setDma_teas (d c : Nat) (x : DmaS) : (s.setDma d c x).teas = s.teas := rfl
@[simp] theorem State.setDma_dmaLast (d c : Nat) (x : DmaS) : (s.setDma d c x).dmaLast = s.dmaLast := rfl
@[simp] theorem State.setDma_semWaits (d c : Nat) (x : DmaS) : (s.setDma d c x).semWaits = s.semWaits := rfl
@[simp] theorem State.setDma_grants (d c : Nat) (x : DmaS) : (s.setDma d c x).grants = s.grants := rfl
@[simp] theorem State.setDma_autoGen (d c : Nat) (x : DmaS) : (s.setDma d c x).autoGen = s.autoGen := rfl
@[simp] theorem State.setDma_barHeld (d c : Nat) (x : DmaS) : (s.setDma d c x).barHeld = s.barHeld := rfl
@[simp] theorem State.setDma_rootArr (d c : Nat) (x : DmaS) : (s.setDma d c x).rootArr = s.rootArr := rfl
@[simp] theorem State.setDma_vmsgs (d c : Nat) (x : DmaS) : (s.setDma d c x).vmsgs = s.vmsgs := rfl
@[simp] theorem State.setDma_hoops (d c : Nat) (x : DmaS) : (s.setDma d c x).hoops = s.hoops := rfl
@[simp] theorem State.setDma_migs (d c : Nat) (x : DmaS) : (s.setDma d c x).migs = s.migs := rfl
@[simp] theorem State.setDma_guards (d c : Nat) (x : DmaS) : (s.setDma d c x).guards = s.guards := rfl
@[simp] theorem State.setDma_faultQ (d c : Nat) (x : DmaS) : (s.setDma d c x).faultQ = s.faultQ := rfl
@[simp] theorem State.setDma_rens (d c : Nat) (x : DmaS) : (s.setDma d c x).rens = s.rens := rfl
@[simp] theorem State.setDma_presses (d c : Nat) (x : DmaS) : (s.setDma d c x).presses = s.presses := rfl
@[simp] theorem State.setDma_ports (d c : Nat) (x : DmaS) : (s.setDma d c x).ports = s.ports := rfl
@[simp] theorem State.setDma_vats (d c : Nat) (x : DmaS) : (s.setDma d c x).vats = s.vats := rfl
@[simp] theorem State.setDma_asked (d c : Nat) (x : DmaS) : (s.setDma d c x).asked = s.asked := rfl
@[simp] theorem State.setDma_heldWr (d c : Nat) (x : DmaS) : (s.setDma d c x).heldWr = s.heldWr := rfl
@[simp] theorem State.setDma_tagCtr (d c : Nat) (x : DmaS) : (s.setDma d c x).tagCtr = s.tagCtr := rfl
@[simp] theorem State.setDma_capture (d c : Nat) (x : DmaS) : (s.setDma d c x).capture = s.capture := rfl
@[simp] theorem State.setDma_agree (d c : Nat) (x : DmaS) : (s.setDma d c x).agree = s.agree := rfl
@[simp] theorem State.setDma_slots (d c : Nat) (x : DmaS) : (s.setDma d c x).slots = s.slots := rfl
@[simp] theorem State.setDma_sorrelLt (d c : Nat) (x : DmaS) : (s.setDma d c x).sorrelLt = s.sorrelLt := rfl
@[simp] theorem State.setDma_jobWdLt (d c : Nat) (x : DmaS) : (s.setDma d c x).jobWdLt = s.jobWdLt := rfl
@[simp] theorem State.setDma_stopping (d c : Nat) (x : DmaS) : (s.setDma d c x).stopping = s.stopping := rfl
@[simp] theorem State.setDma_stopLt (d c : Nat) (x : DmaS) : (s.setDma d c x).stopLt = s.stopLt := rfl
@[simp] theorem State.setDma_stopReply (d c : Nat) (x : DmaS) : (s.setDma d c x).stopReply = s.stopReply := rfl
@[simp] theorem State.setDma_leases (d c : Nat) (x : DmaS) : (s.setDma d c x).leases = s.leases := rfl
@[simp] theorem State.setDma_strapEast (d c : Nat) (x : DmaS) : (s.setDma d c x).strapEast = s.strapEast := rfl
@[simp] theorem State.setDma_yieldPending (d c : Nat) (x : DmaS) : (s.setDma d c x).yieldPending = s.yieldPending := rfl
@[simp] theorem State.setDma_ccLines (d c : Nat) (x : DmaS) : (s.setDma d c x).ccLines = s.ccLines := rfl
@[simp] theorem State.setDma_xTicks (d c : Nat) (x : DmaS) : (s.setDma d c x).xTicks = s.xTicks := rfl
@[simp] theorem State.setDma_stalls (d c : Nat) (x : DmaS) : (s.setDma d c x).stalls = s.stalls := rfl
@[simp] theorem State.setDma_hsWait (d c : Nat) (x : DmaS) : (s.setDma d c x).hsWait = s.hsWait := rfl
@[simp] theorem State.setDma_flash (d c : Nat) (x : DmaS) : (s.setDma d c x).flash = s.flash := rfl
@[simp] theorem State.setDma_floorFused (d c : Nat) (x : DmaS) : (s.setDma d c x).floorFused = s.floorFused := rfl
@[simp] theorem State.setDma_testEntered (d c : Nat) (x : DmaS) : (s.setDma d c x).testEntered = s.testEntered := rfl
@[simp] theorem State.setDma_floorFlags (d c : Nat) (x : DmaS) : (s.setDma d c x).floorFlags = s.floorFlags := rfl
@[simp] theorem State.setDma_mgmtRecord (d c : Nat) (x : DmaS) : (s.setDma d c x).mgmtRecord = s.mgmtRecord := rfl
@[simp] theorem State.setDma_testKey (d c : Nat) (x : DmaS) : (s.setDma d c x).testKey = s.testKey := rfl
@[simp] theorem State.setDma_mgmtUp (d c : Nat) (x : DmaS) : (s.setDma d c x).mgmtUp = s.mgmtUp := rfl
@[simp] theorem State.setDma_sessions (d c : Nat) (x : DmaS) : (s.setDma d c x).sessions = s.sessions := rfl
@[simp] theorem State.setDma_staging (d c : Nat) (x : DmaS) : (s.setDma d c x).staging = s.staging := rfl
@[simp] theorem State.setDma_att (d c : Nat) (x : DmaS) : (s.setDma d c x).att = s.att := rfl
@[simp] theorem State.setDma_tokens (d c : Nat) (x : DmaS) : (s.setDma d c x).tokens = s.tokens := rfl
@[simp] theorem State.setDma_gen (d c : Nat) (x : DmaS) : (s.setDma d c x).gen = s.gen := rfl
@[simp] theorem State.setDma_batch (d c : Nat) (x : DmaS) : (s.setDma d c x).batch = s.batch := rfl
@[simp] theorem State.setDma_decLt (d c : Nat) (x : DmaS) : (s.setDma d c x).decLt = s.decLt := rfl
@[simp] theorem State.setDma_power (d c : Nat) (x : DmaS) : (s.setDma d c x).power = s.power := rfl
@[simp] theorem State.setDma_rind (d c : Nat) (x : DmaS) : (s.setDma d c x).rind = s.rind := rfl
@[simp] theorem State.setDma_fabricHeld (d c : Nat) (x : DmaS) : (s.setDma d c x).fabricHeld = s.fabricHeld := rfl
@[simp] theorem State.setDma_resetN (d c : Nat) (x : DmaS) : (s.setDma d c x).resetN = s.resetN := rfl
@[simp] theorem State.setDma_aux12 (d c : Nat) (x : DmaS) : (s.setDma d c x).aux12 = s.aux12 := rfl
@[simp] theorem State.setDma_main54 (d c : Nat) (x : DmaS) : (s.setDma d c x).main54 = s.main54 := rfl
@[simp] theorem State.setDma_auxGood (d c : Nat) (x : DmaS) : (s.setDma d c x).auxGood = s.auxGood := rfl
@[simp] theorem State.setDma_mainGood (d c : Nat) (x : DmaS) : (s.setDma d c x).mainGood = s.mainGood := rfl
@[simp] theorem State.setDma_thermTripN (d c : Nat) (x : DmaS) : (s.setDma d c x).thermTripN = s.thermTripN := rfl
@[simp] theorem State.setDma_outbox (d c : Nat) (x : DmaS) : (s.setDma d c x).outbox = s.outbox := rfl
@[simp] theorem State.setDma_resp (d c : Nat) (x : DmaS) : (s.setDma d c x).resp = s.resp := rfl
@[simp] theorem State.setDma_freshCtr (d c : Nat) (x : DmaS) : (s.setDma d c x).freshCtr = s.freshCtr := rfl

/-! Storing a Hoop slot -/

@[simp] theorem State.setHoop_pending (h : Nat) (x : HoopS) : (s.setHoop h x).pending = s.pending := rfl
@[simp] theorem State.setHoop_regs (h : Nat) (x : HoopS) : (s.setHoop h x).regs = s.regs := rfl
@[simp] theorem State.setHoop_sidecar (h : Nat) (x : HoopS) : (s.setHoop h x).sidecar = s.sidecar := rfl
@[simp] theorem State.setHoop_noise (h : Nat) (x : HoopS) : (s.setHoop h x).noise = s.noise := rfl
@[simp] theorem State.setHoop_ecc (h : Nat) (x : HoopS) : (s.setHoop h x).ecc = s.ecc := rfl
@[simp] theorem State.setHoop_twinB (h : Nat) (x : HoopS) : (s.setHoop h x).twinB = s.twinB := rfl
@[simp] theorem State.setHoop_svc (h : Nat) (x : HoopS) : (s.setHoop h x).svc = s.svc := rfl
@[simp] theorem State.setHoop_job (h : Nat) (x : HoopS) : (s.setHoop h x).job = s.job := rfl
@[simp] theorem State.setHoop_seqs (h : Nat) (x : HoopS) : (s.setHoop h x).seqs = s.seqs := rfl
@[simp] theorem State.setHoop_arrays (h : Nat) (x : HoopS) : (s.setHoop h x).arrays = s.arrays := rfl
@[simp] theorem State.setHoop_accs (h : Nat) (x : HoopS) : (s.setHoop h x).accs = s.accs := rfl
@[simp] theorem State.setHoop_vecs (h : Nat) (x : HoopS) : (s.setHoop h x).vecs = s.vecs := rfl
@[simp] theorem State.setHoop_ocache (h : Nat) (x : HoopS) : (s.setHoop h x).ocache = s.ocache := rfl
@[simp] theorem State.setHoop_teas (h : Nat) (x : HoopS) : (s.setHoop h x).teas = s.teas := rfl
@[simp] theorem State.setHoop_dmas (h : Nat) (x : HoopS) : (s.setHoop h x).dmas = s.dmas := rfl
@[simp] theorem State.setHoop_dmaLast (h : Nat) (x : HoopS) : (s.setHoop h x).dmaLast = s.dmaLast := rfl
@[simp] theorem State.setHoop_semWaits (h : Nat) (x : HoopS) : (s.setHoop h x).semWaits = s.semWaits := rfl
@[simp] theorem State.setHoop_grants (h : Nat) (x : HoopS) : (s.setHoop h x).grants = s.grants := rfl
@[simp] theorem State.setHoop_autoGen (h : Nat) (x : HoopS) : (s.setHoop h x).autoGen = s.autoGen := rfl
@[simp] theorem State.setHoop_barHeld (h : Nat) (x : HoopS) : (s.setHoop h x).barHeld = s.barHeld := rfl
@[simp] theorem State.setHoop_rootArr (h : Nat) (x : HoopS) : (s.setHoop h x).rootArr = s.rootArr := rfl
@[simp] theorem State.setHoop_vmsgs (h : Nat) (x : HoopS) : (s.setHoop h x).vmsgs = s.vmsgs := rfl
@[simp] theorem State.setHoop_migs (h : Nat) (x : HoopS) : (s.setHoop h x).migs = s.migs := rfl
@[simp] theorem State.setHoop_guards (h : Nat) (x : HoopS) : (s.setHoop h x).guards = s.guards := rfl
@[simp] theorem State.setHoop_faultQ (h : Nat) (x : HoopS) : (s.setHoop h x).faultQ = s.faultQ := rfl
@[simp] theorem State.setHoop_rens (h : Nat) (x : HoopS) : (s.setHoop h x).rens = s.rens := rfl
@[simp] theorem State.setHoop_presses (h : Nat) (x : HoopS) : (s.setHoop h x).presses = s.presses := rfl
@[simp] theorem State.setHoop_ports (h : Nat) (x : HoopS) : (s.setHoop h x).ports = s.ports := rfl
@[simp] theorem State.setHoop_vats (h : Nat) (x : HoopS) : (s.setHoop h x).vats = s.vats := rfl
@[simp] theorem State.setHoop_asked (h : Nat) (x : HoopS) : (s.setHoop h x).asked = s.asked := rfl
@[simp] theorem State.setHoop_heldWr (h : Nat) (x : HoopS) : (s.setHoop h x).heldWr = s.heldWr := rfl
@[simp] theorem State.setHoop_tagCtr (h : Nat) (x : HoopS) : (s.setHoop h x).tagCtr = s.tagCtr := rfl
@[simp] theorem State.setHoop_capture (h : Nat) (x : HoopS) : (s.setHoop h x).capture = s.capture := rfl
@[simp] theorem State.setHoop_agree (h : Nat) (x : HoopS) : (s.setHoop h x).agree = s.agree := rfl
@[simp] theorem State.setHoop_slots (h : Nat) (x : HoopS) : (s.setHoop h x).slots = s.slots := rfl
@[simp] theorem State.setHoop_sorrelLt (h : Nat) (x : HoopS) : (s.setHoop h x).sorrelLt = s.sorrelLt := rfl
@[simp] theorem State.setHoop_jobWdLt (h : Nat) (x : HoopS) : (s.setHoop h x).jobWdLt = s.jobWdLt := rfl
@[simp] theorem State.setHoop_stopping (h : Nat) (x : HoopS) : (s.setHoop h x).stopping = s.stopping := rfl
@[simp] theorem State.setHoop_stopLt (h : Nat) (x : HoopS) : (s.setHoop h x).stopLt = s.stopLt := rfl
@[simp] theorem State.setHoop_stopReply (h : Nat) (x : HoopS) : (s.setHoop h x).stopReply = s.stopReply := rfl
@[simp] theorem State.setHoop_leases (h : Nat) (x : HoopS) : (s.setHoop h x).leases = s.leases := rfl
@[simp] theorem State.setHoop_strapEast (h : Nat) (x : HoopS) : (s.setHoop h x).strapEast = s.strapEast := rfl
@[simp] theorem State.setHoop_yieldPending (h : Nat) (x : HoopS) : (s.setHoop h x).yieldPending = s.yieldPending := rfl
@[simp] theorem State.setHoop_ccLines (h : Nat) (x : HoopS) : (s.setHoop h x).ccLines = s.ccLines := rfl
@[simp] theorem State.setHoop_xTicks (h : Nat) (x : HoopS) : (s.setHoop h x).xTicks = s.xTicks := rfl
@[simp] theorem State.setHoop_stalls (h : Nat) (x : HoopS) : (s.setHoop h x).stalls = s.stalls := rfl
@[simp] theorem State.setHoop_hsWait (h : Nat) (x : HoopS) : (s.setHoop h x).hsWait = s.hsWait := rfl
@[simp] theorem State.setHoop_flash (h : Nat) (x : HoopS) : (s.setHoop h x).flash = s.flash := rfl
@[simp] theorem State.setHoop_floorFused (h : Nat) (x : HoopS) : (s.setHoop h x).floorFused = s.floorFused := rfl
@[simp] theorem State.setHoop_testEntered (h : Nat) (x : HoopS) : (s.setHoop h x).testEntered = s.testEntered := rfl
@[simp] theorem State.setHoop_floorFlags (h : Nat) (x : HoopS) : (s.setHoop h x).floorFlags = s.floorFlags := rfl
@[simp] theorem State.setHoop_mgmtRecord (h : Nat) (x : HoopS) : (s.setHoop h x).mgmtRecord = s.mgmtRecord := rfl
@[simp] theorem State.setHoop_testKey (h : Nat) (x : HoopS) : (s.setHoop h x).testKey = s.testKey := rfl
@[simp] theorem State.setHoop_mgmtUp (h : Nat) (x : HoopS) : (s.setHoop h x).mgmtUp = s.mgmtUp := rfl
@[simp] theorem State.setHoop_sessions (h : Nat) (x : HoopS) : (s.setHoop h x).sessions = s.sessions := rfl
@[simp] theorem State.setHoop_staging (h : Nat) (x : HoopS) : (s.setHoop h x).staging = s.staging := rfl
@[simp] theorem State.setHoop_att (h : Nat) (x : HoopS) : (s.setHoop h x).att = s.att := rfl
@[simp] theorem State.setHoop_tokens (h : Nat) (x : HoopS) : (s.setHoop h x).tokens = s.tokens := rfl
@[simp] theorem State.setHoop_gen (h : Nat) (x : HoopS) : (s.setHoop h x).gen = s.gen := rfl
@[simp] theorem State.setHoop_batch (h : Nat) (x : HoopS) : (s.setHoop h x).batch = s.batch := rfl
@[simp] theorem State.setHoop_decLt (h : Nat) (x : HoopS) : (s.setHoop h x).decLt = s.decLt := rfl
@[simp] theorem State.setHoop_power (h : Nat) (x : HoopS) : (s.setHoop h x).power = s.power := rfl
@[simp] theorem State.setHoop_rind (h : Nat) (x : HoopS) : (s.setHoop h x).rind = s.rind := rfl
@[simp] theorem State.setHoop_fabricHeld (h : Nat) (x : HoopS) : (s.setHoop h x).fabricHeld = s.fabricHeld := rfl
@[simp] theorem State.setHoop_resetN (h : Nat) (x : HoopS) : (s.setHoop h x).resetN = s.resetN := rfl
@[simp] theorem State.setHoop_aux12 (h : Nat) (x : HoopS) : (s.setHoop h x).aux12 = s.aux12 := rfl
@[simp] theorem State.setHoop_main54 (h : Nat) (x : HoopS) : (s.setHoop h x).main54 = s.main54 := rfl
@[simp] theorem State.setHoop_auxGood (h : Nat) (x : HoopS) : (s.setHoop h x).auxGood = s.auxGood := rfl
@[simp] theorem State.setHoop_mainGood (h : Nat) (x : HoopS) : (s.setHoop h x).mainGood = s.mainGood := rfl
@[simp] theorem State.setHoop_thermTripN (h : Nat) (x : HoopS) : (s.setHoop h x).thermTripN = s.thermTripN := rfl
@[simp] theorem State.setHoop_outbox (h : Nat) (x : HoopS) : (s.setHoop h x).outbox = s.outbox := rfl
@[simp] theorem State.setHoop_resp (h : Nat) (x : HoopS) : (s.setHoop h x).resp = s.resp := rfl
@[simp] theorem State.setHoop_freshCtr (h : Nat) (x : HoopS) : (s.setHoop h x).freshCtr = s.freshCtr := rfl

/-! Storing a port -/

@[simp] theorem State.setPort_pending (p : Nat) (x : PortS) : (s.setPort p x).pending = s.pending := rfl
@[simp] theorem State.setPort_regs (p : Nat) (x : PortS) : (s.setPort p x).regs = s.regs := rfl
@[simp] theorem State.setPort_sidecar (p : Nat) (x : PortS) : (s.setPort p x).sidecar = s.sidecar := rfl
@[simp] theorem State.setPort_noise (p : Nat) (x : PortS) : (s.setPort p x).noise = s.noise := rfl
@[simp] theorem State.setPort_ecc (p : Nat) (x : PortS) : (s.setPort p x).ecc = s.ecc := rfl
@[simp] theorem State.setPort_twinB (p : Nat) (x : PortS) : (s.setPort p x).twinB = s.twinB := rfl
@[simp] theorem State.setPort_svc (p : Nat) (x : PortS) : (s.setPort p x).svc = s.svc := rfl
@[simp] theorem State.setPort_job (p : Nat) (x : PortS) : (s.setPort p x).job = s.job := rfl
@[simp] theorem State.setPort_seqs (p : Nat) (x : PortS) : (s.setPort p x).seqs = s.seqs := rfl
@[simp] theorem State.setPort_arrays (p : Nat) (x : PortS) : (s.setPort p x).arrays = s.arrays := rfl
@[simp] theorem State.setPort_accs (p : Nat) (x : PortS) : (s.setPort p x).accs = s.accs := rfl
@[simp] theorem State.setPort_vecs (p : Nat) (x : PortS) : (s.setPort p x).vecs = s.vecs := rfl
@[simp] theorem State.setPort_ocache (p : Nat) (x : PortS) : (s.setPort p x).ocache = s.ocache := rfl
@[simp] theorem State.setPort_teas (p : Nat) (x : PortS) : (s.setPort p x).teas = s.teas := rfl
@[simp] theorem State.setPort_dmas (p : Nat) (x : PortS) : (s.setPort p x).dmas = s.dmas := rfl
@[simp] theorem State.setPort_dmaLast (p : Nat) (x : PortS) : (s.setPort p x).dmaLast = s.dmaLast := rfl
@[simp] theorem State.setPort_semWaits (p : Nat) (x : PortS) : (s.setPort p x).semWaits = s.semWaits := rfl
@[simp] theorem State.setPort_grants (p : Nat) (x : PortS) : (s.setPort p x).grants = s.grants := rfl
@[simp] theorem State.setPort_autoGen (p : Nat) (x : PortS) : (s.setPort p x).autoGen = s.autoGen := rfl
@[simp] theorem State.setPort_barHeld (p : Nat) (x : PortS) : (s.setPort p x).barHeld = s.barHeld := rfl
@[simp] theorem State.setPort_rootArr (p : Nat) (x : PortS) : (s.setPort p x).rootArr = s.rootArr := rfl
@[simp] theorem State.setPort_vmsgs (p : Nat) (x : PortS) : (s.setPort p x).vmsgs = s.vmsgs := rfl
@[simp] theorem State.setPort_hoops (p : Nat) (x : PortS) : (s.setPort p x).hoops = s.hoops := rfl
@[simp] theorem State.setPort_migs (p : Nat) (x : PortS) : (s.setPort p x).migs = s.migs := rfl
@[simp] theorem State.setPort_guards (p : Nat) (x : PortS) : (s.setPort p x).guards = s.guards := rfl
@[simp] theorem State.setPort_faultQ (p : Nat) (x : PortS) : (s.setPort p x).faultQ = s.faultQ := rfl
@[simp] theorem State.setPort_rens (p : Nat) (x : PortS) : (s.setPort p x).rens = s.rens := rfl
@[simp] theorem State.setPort_presses (p : Nat) (x : PortS) : (s.setPort p x).presses = s.presses := rfl
@[simp] theorem State.setPort_vats (p : Nat) (x : PortS) : (s.setPort p x).vats = s.vats := rfl
@[simp] theorem State.setPort_asked (p : Nat) (x : PortS) : (s.setPort p x).asked = s.asked := rfl
@[simp] theorem State.setPort_heldWr (p : Nat) (x : PortS) : (s.setPort p x).heldWr = s.heldWr := rfl
@[simp] theorem State.setPort_tagCtr (p : Nat) (x : PortS) : (s.setPort p x).tagCtr = s.tagCtr := rfl
@[simp] theorem State.setPort_capture (p : Nat) (x : PortS) : (s.setPort p x).capture = s.capture := rfl
@[simp] theorem State.setPort_agree (p : Nat) (x : PortS) : (s.setPort p x).agree = s.agree := rfl
@[simp] theorem State.setPort_slots (p : Nat) (x : PortS) : (s.setPort p x).slots = s.slots := rfl
@[simp] theorem State.setPort_sorrelLt (p : Nat) (x : PortS) : (s.setPort p x).sorrelLt = s.sorrelLt := rfl
@[simp] theorem State.setPort_jobWdLt (p : Nat) (x : PortS) : (s.setPort p x).jobWdLt = s.jobWdLt := rfl
@[simp] theorem State.setPort_stopping (p : Nat) (x : PortS) : (s.setPort p x).stopping = s.stopping := rfl
@[simp] theorem State.setPort_stopLt (p : Nat) (x : PortS) : (s.setPort p x).stopLt = s.stopLt := rfl
@[simp] theorem State.setPort_stopReply (p : Nat) (x : PortS) : (s.setPort p x).stopReply = s.stopReply := rfl
@[simp] theorem State.setPort_leases (p : Nat) (x : PortS) : (s.setPort p x).leases = s.leases := rfl
@[simp] theorem State.setPort_strapEast (p : Nat) (x : PortS) : (s.setPort p x).strapEast = s.strapEast := rfl
@[simp] theorem State.setPort_yieldPending (p : Nat) (x : PortS) : (s.setPort p x).yieldPending = s.yieldPending := rfl
@[simp] theorem State.setPort_ccLines (p : Nat) (x : PortS) : (s.setPort p x).ccLines = s.ccLines := rfl
@[simp] theorem State.setPort_xTicks (p : Nat) (x : PortS) : (s.setPort p x).xTicks = s.xTicks := rfl
@[simp] theorem State.setPort_stalls (p : Nat) (x : PortS) : (s.setPort p x).stalls = s.stalls := rfl
@[simp] theorem State.setPort_hsWait (p : Nat) (x : PortS) : (s.setPort p x).hsWait = s.hsWait := rfl
@[simp] theorem State.setPort_flash (p : Nat) (x : PortS) : (s.setPort p x).flash = s.flash := rfl
@[simp] theorem State.setPort_floorFused (p : Nat) (x : PortS) : (s.setPort p x).floorFused = s.floorFused := rfl
@[simp] theorem State.setPort_testEntered (p : Nat) (x : PortS) : (s.setPort p x).testEntered = s.testEntered := rfl
@[simp] theorem State.setPort_floorFlags (p : Nat) (x : PortS) : (s.setPort p x).floorFlags = s.floorFlags := rfl
@[simp] theorem State.setPort_mgmtRecord (p : Nat) (x : PortS) : (s.setPort p x).mgmtRecord = s.mgmtRecord := rfl
@[simp] theorem State.setPort_testKey (p : Nat) (x : PortS) : (s.setPort p x).testKey = s.testKey := rfl
@[simp] theorem State.setPort_mgmtUp (p : Nat) (x : PortS) : (s.setPort p x).mgmtUp = s.mgmtUp := rfl
@[simp] theorem State.setPort_sessions (p : Nat) (x : PortS) : (s.setPort p x).sessions = s.sessions := rfl
@[simp] theorem State.setPort_staging (p : Nat) (x : PortS) : (s.setPort p x).staging = s.staging := rfl
@[simp] theorem State.setPort_att (p : Nat) (x : PortS) : (s.setPort p x).att = s.att := rfl
@[simp] theorem State.setPort_tokens (p : Nat) (x : PortS) : (s.setPort p x).tokens = s.tokens := rfl
@[simp] theorem State.setPort_gen (p : Nat) (x : PortS) : (s.setPort p x).gen = s.gen := rfl
@[simp] theorem State.setPort_batch (p : Nat) (x : PortS) : (s.setPort p x).batch = s.batch := rfl
@[simp] theorem State.setPort_decLt (p : Nat) (x : PortS) : (s.setPort p x).decLt = s.decLt := rfl
@[simp] theorem State.setPort_power (p : Nat) (x : PortS) : (s.setPort p x).power = s.power := rfl
@[simp] theorem State.setPort_rind (p : Nat) (x : PortS) : (s.setPort p x).rind = s.rind := rfl
@[simp] theorem State.setPort_fabricHeld (p : Nat) (x : PortS) : (s.setPort p x).fabricHeld = s.fabricHeld := rfl
@[simp] theorem State.setPort_resetN (p : Nat) (x : PortS) : (s.setPort p x).resetN = s.resetN := rfl
@[simp] theorem State.setPort_aux12 (p : Nat) (x : PortS) : (s.setPort p x).aux12 = s.aux12 := rfl
@[simp] theorem State.setPort_main54 (p : Nat) (x : PortS) : (s.setPort p x).main54 = s.main54 := rfl
@[simp] theorem State.setPort_auxGood (p : Nat) (x : PortS) : (s.setPort p x).auxGood = s.auxGood := rfl
@[simp] theorem State.setPort_mainGood (p : Nat) (x : PortS) : (s.setPort p x).mainGood = s.mainGood := rfl
@[simp] theorem State.setPort_thermTripN (p : Nat) (x : PortS) : (s.setPort p x).thermTripN = s.thermTripN := rfl
@[simp] theorem State.setPort_outbox (p : Nat) (x : PortS) : (s.setPort p x).outbox = s.outbox := rfl
@[simp] theorem State.setPort_resp (p : Nat) (x : PortS) : (s.setPort p x).resp = s.resp := rfl
@[simp] theorem State.setPort_freshCtr (p : Nat) (x : PortS) : (s.setPort p x).freshCtr = s.freshCtr := rfl

/-! Storing a Rennet engine -/

@[simp] theorem State.setRen_pending (m e : Nat) (x : RenS) : (s.setRen m e x).pending = s.pending := rfl
@[simp] theorem State.setRen_regs (m e : Nat) (x : RenS) : (s.setRen m e x).regs = s.regs := rfl
@[simp] theorem State.setRen_sidecar (m e : Nat) (x : RenS) : (s.setRen m e x).sidecar = s.sidecar := rfl
@[simp] theorem State.setRen_noise (m e : Nat) (x : RenS) : (s.setRen m e x).noise = s.noise := rfl
@[simp] theorem State.setRen_ecc (m e : Nat) (x : RenS) : (s.setRen m e x).ecc = s.ecc := rfl
@[simp] theorem State.setRen_twinB (m e : Nat) (x : RenS) : (s.setRen m e x).twinB = s.twinB := rfl
@[simp] theorem State.setRen_svc (m e : Nat) (x : RenS) : (s.setRen m e x).svc = s.svc := rfl
@[simp] theorem State.setRen_job (m e : Nat) (x : RenS) : (s.setRen m e x).job = s.job := rfl
@[simp] theorem State.setRen_seqs (m e : Nat) (x : RenS) : (s.setRen m e x).seqs = s.seqs := rfl
@[simp] theorem State.setRen_arrays (m e : Nat) (x : RenS) : (s.setRen m e x).arrays = s.arrays := rfl
@[simp] theorem State.setRen_accs (m e : Nat) (x : RenS) : (s.setRen m e x).accs = s.accs := rfl
@[simp] theorem State.setRen_vecs (m e : Nat) (x : RenS) : (s.setRen m e x).vecs = s.vecs := rfl
@[simp] theorem State.setRen_ocache (m e : Nat) (x : RenS) : (s.setRen m e x).ocache = s.ocache := rfl
@[simp] theorem State.setRen_teas (m e : Nat) (x : RenS) : (s.setRen m e x).teas = s.teas := rfl
@[simp] theorem State.setRen_dmas (m e : Nat) (x : RenS) : (s.setRen m e x).dmas = s.dmas := rfl
@[simp] theorem State.setRen_dmaLast (m e : Nat) (x : RenS) : (s.setRen m e x).dmaLast = s.dmaLast := rfl
@[simp] theorem State.setRen_semWaits (m e : Nat) (x : RenS) : (s.setRen m e x).semWaits = s.semWaits := rfl
@[simp] theorem State.setRen_grants (m e : Nat) (x : RenS) : (s.setRen m e x).grants = s.grants := rfl
@[simp] theorem State.setRen_autoGen (m e : Nat) (x : RenS) : (s.setRen m e x).autoGen = s.autoGen := rfl
@[simp] theorem State.setRen_barHeld (m e : Nat) (x : RenS) : (s.setRen m e x).barHeld = s.barHeld := rfl
@[simp] theorem State.setRen_rootArr (m e : Nat) (x : RenS) : (s.setRen m e x).rootArr = s.rootArr := rfl
@[simp] theorem State.setRen_vmsgs (m e : Nat) (x : RenS) : (s.setRen m e x).vmsgs = s.vmsgs := rfl
@[simp] theorem State.setRen_hoops (m e : Nat) (x : RenS) : (s.setRen m e x).hoops = s.hoops := rfl
@[simp] theorem State.setRen_migs (m e : Nat) (x : RenS) : (s.setRen m e x).migs = s.migs := rfl
@[simp] theorem State.setRen_guards (m e : Nat) (x : RenS) : (s.setRen m e x).guards = s.guards := rfl
@[simp] theorem State.setRen_faultQ (m e : Nat) (x : RenS) : (s.setRen m e x).faultQ = s.faultQ := rfl
@[simp] theorem State.setRen_presses (m e : Nat) (x : RenS) : (s.setRen m e x).presses = s.presses := rfl
@[simp] theorem State.setRen_ports (m e : Nat) (x : RenS) : (s.setRen m e x).ports = s.ports := rfl
@[simp] theorem State.setRen_vats (m e : Nat) (x : RenS) : (s.setRen m e x).vats = s.vats := rfl
@[simp] theorem State.setRen_asked (m e : Nat) (x : RenS) : (s.setRen m e x).asked = s.asked := rfl
@[simp] theorem State.setRen_heldWr (m e : Nat) (x : RenS) : (s.setRen m e x).heldWr = s.heldWr := rfl
@[simp] theorem State.setRen_tagCtr (m e : Nat) (x : RenS) : (s.setRen m e x).tagCtr = s.tagCtr := rfl
@[simp] theorem State.setRen_capture (m e : Nat) (x : RenS) : (s.setRen m e x).capture = s.capture := rfl
@[simp] theorem State.setRen_agree (m e : Nat) (x : RenS) : (s.setRen m e x).agree = s.agree := rfl
@[simp] theorem State.setRen_slots (m e : Nat) (x : RenS) : (s.setRen m e x).slots = s.slots := rfl
@[simp] theorem State.setRen_sorrelLt (m e : Nat) (x : RenS) : (s.setRen m e x).sorrelLt = s.sorrelLt := rfl
@[simp] theorem State.setRen_jobWdLt (m e : Nat) (x : RenS) : (s.setRen m e x).jobWdLt = s.jobWdLt := rfl
@[simp] theorem State.setRen_stopping (m e : Nat) (x : RenS) : (s.setRen m e x).stopping = s.stopping := rfl
@[simp] theorem State.setRen_stopLt (m e : Nat) (x : RenS) : (s.setRen m e x).stopLt = s.stopLt := rfl
@[simp] theorem State.setRen_stopReply (m e : Nat) (x : RenS) : (s.setRen m e x).stopReply = s.stopReply := rfl
@[simp] theorem State.setRen_leases (m e : Nat) (x : RenS) : (s.setRen m e x).leases = s.leases := rfl
@[simp] theorem State.setRen_strapEast (m e : Nat) (x : RenS) : (s.setRen m e x).strapEast = s.strapEast := rfl
@[simp] theorem State.setRen_yieldPending (m e : Nat) (x : RenS) : (s.setRen m e x).yieldPending = s.yieldPending := rfl
@[simp] theorem State.setRen_ccLines (m e : Nat) (x : RenS) : (s.setRen m e x).ccLines = s.ccLines := rfl
@[simp] theorem State.setRen_xTicks (m e : Nat) (x : RenS) : (s.setRen m e x).xTicks = s.xTicks := rfl
@[simp] theorem State.setRen_stalls (m e : Nat) (x : RenS) : (s.setRen m e x).stalls = s.stalls := rfl
@[simp] theorem State.setRen_hsWait (m e : Nat) (x : RenS) : (s.setRen m e x).hsWait = s.hsWait := rfl
@[simp] theorem State.setRen_flash (m e : Nat) (x : RenS) : (s.setRen m e x).flash = s.flash := rfl
@[simp] theorem State.setRen_floorFused (m e : Nat) (x : RenS) : (s.setRen m e x).floorFused = s.floorFused := rfl
@[simp] theorem State.setRen_testEntered (m e : Nat) (x : RenS) : (s.setRen m e x).testEntered = s.testEntered := rfl
@[simp] theorem State.setRen_floorFlags (m e : Nat) (x : RenS) : (s.setRen m e x).floorFlags = s.floorFlags := rfl
@[simp] theorem State.setRen_mgmtRecord (m e : Nat) (x : RenS) : (s.setRen m e x).mgmtRecord = s.mgmtRecord := rfl
@[simp] theorem State.setRen_testKey (m e : Nat) (x : RenS) : (s.setRen m e x).testKey = s.testKey := rfl
@[simp] theorem State.setRen_mgmtUp (m e : Nat) (x : RenS) : (s.setRen m e x).mgmtUp = s.mgmtUp := rfl
@[simp] theorem State.setRen_sessions (m e : Nat) (x : RenS) : (s.setRen m e x).sessions = s.sessions := rfl
@[simp] theorem State.setRen_staging (m e : Nat) (x : RenS) : (s.setRen m e x).staging = s.staging := rfl
@[simp] theorem State.setRen_att (m e : Nat) (x : RenS) : (s.setRen m e x).att = s.att := rfl
@[simp] theorem State.setRen_tokens (m e : Nat) (x : RenS) : (s.setRen m e x).tokens = s.tokens := rfl
@[simp] theorem State.setRen_gen (m e : Nat) (x : RenS) : (s.setRen m e x).gen = s.gen := rfl
@[simp] theorem State.setRen_batch (m e : Nat) (x : RenS) : (s.setRen m e x).batch = s.batch := rfl
@[simp] theorem State.setRen_decLt (m e : Nat) (x : RenS) : (s.setRen m e x).decLt = s.decLt := rfl
@[simp] theorem State.setRen_power (m e : Nat) (x : RenS) : (s.setRen m e x).power = s.power := rfl
@[simp] theorem State.setRen_rind (m e : Nat) (x : RenS) : (s.setRen m e x).rind = s.rind := rfl
@[simp] theorem State.setRen_fabricHeld (m e : Nat) (x : RenS) : (s.setRen m e x).fabricHeld = s.fabricHeld := rfl
@[simp] theorem State.setRen_resetN (m e : Nat) (x : RenS) : (s.setRen m e x).resetN = s.resetN := rfl
@[simp] theorem State.setRen_aux12 (m e : Nat) (x : RenS) : (s.setRen m e x).aux12 = s.aux12 := rfl
@[simp] theorem State.setRen_main54 (m e : Nat) (x : RenS) : (s.setRen m e x).main54 = s.main54 := rfl
@[simp] theorem State.setRen_auxGood (m e : Nat) (x : RenS) : (s.setRen m e x).auxGood = s.auxGood := rfl
@[simp] theorem State.setRen_mainGood (m e : Nat) (x : RenS) : (s.setRen m e x).mainGood = s.mainGood := rfl
@[simp] theorem State.setRen_thermTripN (m e : Nat) (x : RenS) : (s.setRen m e x).thermTripN = s.thermTripN := rfl
@[simp] theorem State.setRen_outbox (m e : Nat) (x : RenS) : (s.setRen m e x).outbox = s.outbox := rfl
@[simp] theorem State.setRen_resp (m e : Nat) (x : RenS) : (s.setRen m e x).resp = s.resp := rfl
@[simp] theorem State.setRen_freshCtr (m e : Nat) (x : RenS) : (s.setRen m e x).freshCtr = s.freshCtr := rfl

/-! Storing a Press engine -/

@[simp] theorem State.setPress_pending (m e : Nat) (x : PressS) : (s.setPress m e x).pending = s.pending := rfl
@[simp] theorem State.setPress_regs (m e : Nat) (x : PressS) : (s.setPress m e x).regs = s.regs := rfl
@[simp] theorem State.setPress_sidecar (m e : Nat) (x : PressS) : (s.setPress m e x).sidecar = s.sidecar := rfl
@[simp] theorem State.setPress_noise (m e : Nat) (x : PressS) : (s.setPress m e x).noise = s.noise := rfl
@[simp] theorem State.setPress_ecc (m e : Nat) (x : PressS) : (s.setPress m e x).ecc = s.ecc := rfl
@[simp] theorem State.setPress_twinB (m e : Nat) (x : PressS) : (s.setPress m e x).twinB = s.twinB := rfl
@[simp] theorem State.setPress_svc (m e : Nat) (x : PressS) : (s.setPress m e x).svc = s.svc := rfl
@[simp] theorem State.setPress_job (m e : Nat) (x : PressS) : (s.setPress m e x).job = s.job := rfl
@[simp] theorem State.setPress_seqs (m e : Nat) (x : PressS) : (s.setPress m e x).seqs = s.seqs := rfl
@[simp] theorem State.setPress_arrays (m e : Nat) (x : PressS) : (s.setPress m e x).arrays = s.arrays := rfl
@[simp] theorem State.setPress_accs (m e : Nat) (x : PressS) : (s.setPress m e x).accs = s.accs := rfl
@[simp] theorem State.setPress_vecs (m e : Nat) (x : PressS) : (s.setPress m e x).vecs = s.vecs := rfl
@[simp] theorem State.setPress_ocache (m e : Nat) (x : PressS) : (s.setPress m e x).ocache = s.ocache := rfl
@[simp] theorem State.setPress_teas (m e : Nat) (x : PressS) : (s.setPress m e x).teas = s.teas := rfl
@[simp] theorem State.setPress_dmas (m e : Nat) (x : PressS) : (s.setPress m e x).dmas = s.dmas := rfl
@[simp] theorem State.setPress_dmaLast (m e : Nat) (x : PressS) : (s.setPress m e x).dmaLast = s.dmaLast := rfl
@[simp] theorem State.setPress_semWaits (m e : Nat) (x : PressS) : (s.setPress m e x).semWaits = s.semWaits := rfl
@[simp] theorem State.setPress_grants (m e : Nat) (x : PressS) : (s.setPress m e x).grants = s.grants := rfl
@[simp] theorem State.setPress_autoGen (m e : Nat) (x : PressS) : (s.setPress m e x).autoGen = s.autoGen := rfl
@[simp] theorem State.setPress_barHeld (m e : Nat) (x : PressS) : (s.setPress m e x).barHeld = s.barHeld := rfl
@[simp] theorem State.setPress_rootArr (m e : Nat) (x : PressS) : (s.setPress m e x).rootArr = s.rootArr := rfl
@[simp] theorem State.setPress_vmsgs (m e : Nat) (x : PressS) : (s.setPress m e x).vmsgs = s.vmsgs := rfl
@[simp] theorem State.setPress_hoops (m e : Nat) (x : PressS) : (s.setPress m e x).hoops = s.hoops := rfl
@[simp] theorem State.setPress_migs (m e : Nat) (x : PressS) : (s.setPress m e x).migs = s.migs := rfl
@[simp] theorem State.setPress_guards (m e : Nat) (x : PressS) : (s.setPress m e x).guards = s.guards := rfl
@[simp] theorem State.setPress_faultQ (m e : Nat) (x : PressS) : (s.setPress m e x).faultQ = s.faultQ := rfl
@[simp] theorem State.setPress_rens (m e : Nat) (x : PressS) : (s.setPress m e x).rens = s.rens := rfl
@[simp] theorem State.setPress_ports (m e : Nat) (x : PressS) : (s.setPress m e x).ports = s.ports := rfl
@[simp] theorem State.setPress_vats (m e : Nat) (x : PressS) : (s.setPress m e x).vats = s.vats := rfl
@[simp] theorem State.setPress_asked (m e : Nat) (x : PressS) : (s.setPress m e x).asked = s.asked := rfl
@[simp] theorem State.setPress_heldWr (m e : Nat) (x : PressS) : (s.setPress m e x).heldWr = s.heldWr := rfl
@[simp] theorem State.setPress_tagCtr (m e : Nat) (x : PressS) : (s.setPress m e x).tagCtr = s.tagCtr := rfl
@[simp] theorem State.setPress_capture (m e : Nat) (x : PressS) : (s.setPress m e x).capture = s.capture := rfl
@[simp] theorem State.setPress_agree (m e : Nat) (x : PressS) : (s.setPress m e x).agree = s.agree := rfl
@[simp] theorem State.setPress_slots (m e : Nat) (x : PressS) : (s.setPress m e x).slots = s.slots := rfl
@[simp] theorem State.setPress_sorrelLt (m e : Nat) (x : PressS) : (s.setPress m e x).sorrelLt = s.sorrelLt := rfl
@[simp] theorem State.setPress_jobWdLt (m e : Nat) (x : PressS) : (s.setPress m e x).jobWdLt = s.jobWdLt := rfl
@[simp] theorem State.setPress_stopping (m e : Nat) (x : PressS) : (s.setPress m e x).stopping = s.stopping := rfl
@[simp] theorem State.setPress_stopLt (m e : Nat) (x : PressS) : (s.setPress m e x).stopLt = s.stopLt := rfl
@[simp] theorem State.setPress_stopReply (m e : Nat) (x : PressS) : (s.setPress m e x).stopReply = s.stopReply := rfl
@[simp] theorem State.setPress_leases (m e : Nat) (x : PressS) : (s.setPress m e x).leases = s.leases := rfl
@[simp] theorem State.setPress_strapEast (m e : Nat) (x : PressS) : (s.setPress m e x).strapEast = s.strapEast := rfl
@[simp] theorem State.setPress_yieldPending (m e : Nat) (x : PressS) : (s.setPress m e x).yieldPending = s.yieldPending := rfl
@[simp] theorem State.setPress_ccLines (m e : Nat) (x : PressS) : (s.setPress m e x).ccLines = s.ccLines := rfl
@[simp] theorem State.setPress_xTicks (m e : Nat) (x : PressS) : (s.setPress m e x).xTicks = s.xTicks := rfl
@[simp] theorem State.setPress_stalls (m e : Nat) (x : PressS) : (s.setPress m e x).stalls = s.stalls := rfl
@[simp] theorem State.setPress_hsWait (m e : Nat) (x : PressS) : (s.setPress m e x).hsWait = s.hsWait := rfl
@[simp] theorem State.setPress_flash (m e : Nat) (x : PressS) : (s.setPress m e x).flash = s.flash := rfl
@[simp] theorem State.setPress_floorFused (m e : Nat) (x : PressS) : (s.setPress m e x).floorFused = s.floorFused := rfl
@[simp] theorem State.setPress_testEntered (m e : Nat) (x : PressS) : (s.setPress m e x).testEntered = s.testEntered := rfl
@[simp] theorem State.setPress_floorFlags (m e : Nat) (x : PressS) : (s.setPress m e x).floorFlags = s.floorFlags := rfl
@[simp] theorem State.setPress_mgmtRecord (m e : Nat) (x : PressS) : (s.setPress m e x).mgmtRecord = s.mgmtRecord := rfl
@[simp] theorem State.setPress_testKey (m e : Nat) (x : PressS) : (s.setPress m e x).testKey = s.testKey := rfl
@[simp] theorem State.setPress_mgmtUp (m e : Nat) (x : PressS) : (s.setPress m e x).mgmtUp = s.mgmtUp := rfl
@[simp] theorem State.setPress_sessions (m e : Nat) (x : PressS) : (s.setPress m e x).sessions = s.sessions := rfl
@[simp] theorem State.setPress_staging (m e : Nat) (x : PressS) : (s.setPress m e x).staging = s.staging := rfl
@[simp] theorem State.setPress_att (m e : Nat) (x : PressS) : (s.setPress m e x).att = s.att := rfl
@[simp] theorem State.setPress_tokens (m e : Nat) (x : PressS) : (s.setPress m e x).tokens = s.tokens := rfl
@[simp] theorem State.setPress_gen (m e : Nat) (x : PressS) : (s.setPress m e x).gen = s.gen := rfl
@[simp] theorem State.setPress_batch (m e : Nat) (x : PressS) : (s.setPress m e x).batch = s.batch := rfl
@[simp] theorem State.setPress_decLt (m e : Nat) (x : PressS) : (s.setPress m e x).decLt = s.decLt := rfl
@[simp] theorem State.setPress_power (m e : Nat) (x : PressS) : (s.setPress m e x).power = s.power := rfl
@[simp] theorem State.setPress_rind (m e : Nat) (x : PressS) : (s.setPress m e x).rind = s.rind := rfl
@[simp] theorem State.setPress_fabricHeld (m e : Nat) (x : PressS) : (s.setPress m e x).fabricHeld = s.fabricHeld := rfl
@[simp] theorem State.setPress_resetN (m e : Nat) (x : PressS) : (s.setPress m e x).resetN = s.resetN := rfl
@[simp] theorem State.setPress_aux12 (m e : Nat) (x : PressS) : (s.setPress m e x).aux12 = s.aux12 := rfl
@[simp] theorem State.setPress_main54 (m e : Nat) (x : PressS) : (s.setPress m e x).main54 = s.main54 := rfl
@[simp] theorem State.setPress_auxGood (m e : Nat) (x : PressS) : (s.setPress m e x).auxGood = s.auxGood := rfl
@[simp] theorem State.setPress_mainGood (m e : Nat) (x : PressS) : (s.setPress m e x).mainGood = s.mainGood := rfl
@[simp] theorem State.setPress_thermTripN (m e : Nat) (x : PressS) : (s.setPress m e x).thermTripN = s.thermTripN := rfl
@[simp] theorem State.setPress_outbox (m e : Nat) (x : PressS) : (s.setPress m e x).outbox = s.outbox := rfl
@[simp] theorem State.setPress_resp (m e : Nat) (x : PressS) : (s.setPress m e x).resp = s.resp := rfl
@[simp] theorem State.setPress_freshCtr (m e : Nat) (x : PressS) : (s.setPress m e x).freshCtr = s.freshCtr := rfl

/-! Storing a Vat -/

@[simp] theorem State.setVat_pending (x : Nat) (v : VatS) : (s.setVat x v).pending = s.pending := rfl
@[simp] theorem State.setVat_regs (x : Nat) (v : VatS) : (s.setVat x v).regs = s.regs := rfl
@[simp] theorem State.setVat_sidecar (x : Nat) (v : VatS) : (s.setVat x v).sidecar = s.sidecar := rfl
@[simp] theorem State.setVat_noise (x : Nat) (v : VatS) : (s.setVat x v).noise = s.noise := rfl
@[simp] theorem State.setVat_ecc (x : Nat) (v : VatS) : (s.setVat x v).ecc = s.ecc := rfl
@[simp] theorem State.setVat_twinB (x : Nat) (v : VatS) : (s.setVat x v).twinB = s.twinB := rfl
@[simp] theorem State.setVat_svc (x : Nat) (v : VatS) : (s.setVat x v).svc = s.svc := rfl
@[simp] theorem State.setVat_job (x : Nat) (v : VatS) : (s.setVat x v).job = s.job := rfl
@[simp] theorem State.setVat_seqs (x : Nat) (v : VatS) : (s.setVat x v).seqs = s.seqs := rfl
@[simp] theorem State.setVat_arrays (x : Nat) (v : VatS) : (s.setVat x v).arrays = s.arrays := rfl
@[simp] theorem State.setVat_accs (x : Nat) (v : VatS) : (s.setVat x v).accs = s.accs := rfl
@[simp] theorem State.setVat_vecs (x : Nat) (v : VatS) : (s.setVat x v).vecs = s.vecs := rfl
@[simp] theorem State.setVat_ocache (x : Nat) (v : VatS) : (s.setVat x v).ocache = s.ocache := rfl
@[simp] theorem State.setVat_teas (x : Nat) (v : VatS) : (s.setVat x v).teas = s.teas := rfl
@[simp] theorem State.setVat_dmas (x : Nat) (v : VatS) : (s.setVat x v).dmas = s.dmas := rfl
@[simp] theorem State.setVat_dmaLast (x : Nat) (v : VatS) : (s.setVat x v).dmaLast = s.dmaLast := rfl
@[simp] theorem State.setVat_semWaits (x : Nat) (v : VatS) : (s.setVat x v).semWaits = s.semWaits := rfl
@[simp] theorem State.setVat_grants (x : Nat) (v : VatS) : (s.setVat x v).grants = s.grants := rfl
@[simp] theorem State.setVat_autoGen (x : Nat) (v : VatS) : (s.setVat x v).autoGen = s.autoGen := rfl
@[simp] theorem State.setVat_barHeld (x : Nat) (v : VatS) : (s.setVat x v).barHeld = s.barHeld := rfl
@[simp] theorem State.setVat_rootArr (x : Nat) (v : VatS) : (s.setVat x v).rootArr = s.rootArr := rfl
@[simp] theorem State.setVat_vmsgs (x : Nat) (v : VatS) : (s.setVat x v).vmsgs = s.vmsgs := rfl
@[simp] theorem State.setVat_hoops (x : Nat) (v : VatS) : (s.setVat x v).hoops = s.hoops := rfl
@[simp] theorem State.setVat_migs (x : Nat) (v : VatS) : (s.setVat x v).migs = s.migs := rfl
@[simp] theorem State.setVat_guards (x : Nat) (v : VatS) : (s.setVat x v).guards = s.guards := rfl
@[simp] theorem State.setVat_faultQ (x : Nat) (v : VatS) : (s.setVat x v).faultQ = s.faultQ := rfl
@[simp] theorem State.setVat_rens (x : Nat) (v : VatS) : (s.setVat x v).rens = s.rens := rfl
@[simp] theorem State.setVat_presses (x : Nat) (v : VatS) : (s.setVat x v).presses = s.presses := rfl
@[simp] theorem State.setVat_ports (x : Nat) (v : VatS) : (s.setVat x v).ports = s.ports := rfl
@[simp] theorem State.setVat_asked (x : Nat) (v : VatS) : (s.setVat x v).asked = s.asked := rfl
@[simp] theorem State.setVat_heldWr (x : Nat) (v : VatS) : (s.setVat x v).heldWr = s.heldWr := rfl
@[simp] theorem State.setVat_tagCtr (x : Nat) (v : VatS) : (s.setVat x v).tagCtr = s.tagCtr := rfl
@[simp] theorem State.setVat_capture (x : Nat) (v : VatS) : (s.setVat x v).capture = s.capture := rfl
@[simp] theorem State.setVat_agree (x : Nat) (v : VatS) : (s.setVat x v).agree = s.agree := rfl
@[simp] theorem State.setVat_slots (x : Nat) (v : VatS) : (s.setVat x v).slots = s.slots := rfl
@[simp] theorem State.setVat_sorrelLt (x : Nat) (v : VatS) : (s.setVat x v).sorrelLt = s.sorrelLt := rfl
@[simp] theorem State.setVat_jobWdLt (x : Nat) (v : VatS) : (s.setVat x v).jobWdLt = s.jobWdLt := rfl
@[simp] theorem State.setVat_stopping (x : Nat) (v : VatS) : (s.setVat x v).stopping = s.stopping := rfl
@[simp] theorem State.setVat_stopLt (x : Nat) (v : VatS) : (s.setVat x v).stopLt = s.stopLt := rfl
@[simp] theorem State.setVat_stopReply (x : Nat) (v : VatS) : (s.setVat x v).stopReply = s.stopReply := rfl
@[simp] theorem State.setVat_leases (x : Nat) (v : VatS) : (s.setVat x v).leases = s.leases := rfl
@[simp] theorem State.setVat_strapEast (x : Nat) (v : VatS) : (s.setVat x v).strapEast = s.strapEast := rfl
@[simp] theorem State.setVat_yieldPending (x : Nat) (v : VatS) : (s.setVat x v).yieldPending = s.yieldPending := rfl
@[simp] theorem State.setVat_ccLines (x : Nat) (v : VatS) : (s.setVat x v).ccLines = s.ccLines := rfl
@[simp] theorem State.setVat_xTicks (x : Nat) (v : VatS) : (s.setVat x v).xTicks = s.xTicks := rfl
@[simp] theorem State.setVat_stalls (x : Nat) (v : VatS) : (s.setVat x v).stalls = s.stalls := rfl
@[simp] theorem State.setVat_hsWait (x : Nat) (v : VatS) : (s.setVat x v).hsWait = s.hsWait := rfl
@[simp] theorem State.setVat_flash (x : Nat) (v : VatS) : (s.setVat x v).flash = s.flash := rfl
@[simp] theorem State.setVat_floorFused (x : Nat) (v : VatS) : (s.setVat x v).floorFused = s.floorFused := rfl
@[simp] theorem State.setVat_testEntered (x : Nat) (v : VatS) : (s.setVat x v).testEntered = s.testEntered := rfl
@[simp] theorem State.setVat_floorFlags (x : Nat) (v : VatS) : (s.setVat x v).floorFlags = s.floorFlags := rfl
@[simp] theorem State.setVat_mgmtRecord (x : Nat) (v : VatS) : (s.setVat x v).mgmtRecord = s.mgmtRecord := rfl
@[simp] theorem State.setVat_testKey (x : Nat) (v : VatS) : (s.setVat x v).testKey = s.testKey := rfl
@[simp] theorem State.setVat_mgmtUp (x : Nat) (v : VatS) : (s.setVat x v).mgmtUp = s.mgmtUp := rfl
@[simp] theorem State.setVat_sessions (x : Nat) (v : VatS) : (s.setVat x v).sessions = s.sessions := rfl
@[simp] theorem State.setVat_staging (x : Nat) (v : VatS) : (s.setVat x v).staging = s.staging := rfl
@[simp] theorem State.setVat_att (x : Nat) (v : VatS) : (s.setVat x v).att = s.att := rfl
@[simp] theorem State.setVat_tokens (x : Nat) (v : VatS) : (s.setVat x v).tokens = s.tokens := rfl
@[simp] theorem State.setVat_gen (x : Nat) (v : VatS) : (s.setVat x v).gen = s.gen := rfl
@[simp] theorem State.setVat_batch (x : Nat) (v : VatS) : (s.setVat x v).batch = s.batch := rfl
@[simp] theorem State.setVat_decLt (x : Nat) (v : VatS) : (s.setVat x v).decLt = s.decLt := rfl
@[simp] theorem State.setVat_power (x : Nat) (v : VatS) : (s.setVat x v).power = s.power := rfl
@[simp] theorem State.setVat_rind (x : Nat) (v : VatS) : (s.setVat x v).rind = s.rind := rfl
@[simp] theorem State.setVat_fabricHeld (x : Nat) (v : VatS) : (s.setVat x v).fabricHeld = s.fabricHeld := rfl
@[simp] theorem State.setVat_resetN (x : Nat) (v : VatS) : (s.setVat x v).resetN = s.resetN := rfl
@[simp] theorem State.setVat_aux12 (x : Nat) (v : VatS) : (s.setVat x v).aux12 = s.aux12 := rfl
@[simp] theorem State.setVat_main54 (x : Nat) (v : VatS) : (s.setVat x v).main54 = s.main54 := rfl
@[simp] theorem State.setVat_auxGood (x : Nat) (v : VatS) : (s.setVat x v).auxGood = s.auxGood := rfl
@[simp] theorem State.setVat_mainGood (x : Nat) (v : VatS) : (s.setVat x v).mainGood = s.mainGood := rfl
@[simp] theorem State.setVat_thermTripN (x : Nat) (v : VatS) : (s.setVat x v).thermTripN = s.thermTripN := rfl
@[simp] theorem State.setVat_outbox (x : Nat) (v : VatS) : (s.setVat x v).outbox = s.outbox := rfl
@[simp] theorem State.setVat_resp (x : Nat) (v : VatS) : (s.setVat x v).resp = s.resp := rfl
@[simp] theorem State.setVat_freshCtr (x : Nat) (v : VatS) : (s.setVat x v).freshCtr = s.freshCtr := rfl

/-! Storing the answer -/

@[simp] theorem State.answer_pending (a : Resp) : (s.answer a).pending = s.pending := rfl
@[simp] theorem State.answer_regs (a : Resp) : (s.answer a).regs = s.regs := rfl
@[simp] theorem State.answer_sidecar (a : Resp) : (s.answer a).sidecar = s.sidecar := rfl
@[simp] theorem State.answer_noise (a : Resp) : (s.answer a).noise = s.noise := rfl
@[simp] theorem State.answer_ecc (a : Resp) : (s.answer a).ecc = s.ecc := rfl
@[simp] theorem State.answer_twinB (a : Resp) : (s.answer a).twinB = s.twinB := rfl
@[simp] theorem State.answer_svc (a : Resp) : (s.answer a).svc = s.svc := rfl
@[simp] theorem State.answer_job (a : Resp) : (s.answer a).job = s.job := rfl
@[simp] theorem State.answer_seqs (a : Resp) : (s.answer a).seqs = s.seqs := rfl
@[simp] theorem State.answer_arrays (a : Resp) : (s.answer a).arrays = s.arrays := rfl
@[simp] theorem State.answer_accs (a : Resp) : (s.answer a).accs = s.accs := rfl
@[simp] theorem State.answer_vecs (a : Resp) : (s.answer a).vecs = s.vecs := rfl
@[simp] theorem State.answer_ocache (a : Resp) : (s.answer a).ocache = s.ocache := rfl
@[simp] theorem State.answer_teas (a : Resp) : (s.answer a).teas = s.teas := rfl
@[simp] theorem State.answer_dmas (a : Resp) : (s.answer a).dmas = s.dmas := rfl
@[simp] theorem State.answer_dmaLast (a : Resp) : (s.answer a).dmaLast = s.dmaLast := rfl
@[simp] theorem State.answer_semWaits (a : Resp) : (s.answer a).semWaits = s.semWaits := rfl
@[simp] theorem State.answer_grants (a : Resp) : (s.answer a).grants = s.grants := rfl
@[simp] theorem State.answer_autoGen (a : Resp) : (s.answer a).autoGen = s.autoGen := rfl
@[simp] theorem State.answer_barHeld (a : Resp) : (s.answer a).barHeld = s.barHeld := rfl
@[simp] theorem State.answer_rootArr (a : Resp) : (s.answer a).rootArr = s.rootArr := rfl
@[simp] theorem State.answer_vmsgs (a : Resp) : (s.answer a).vmsgs = s.vmsgs := rfl
@[simp] theorem State.answer_hoops (a : Resp) : (s.answer a).hoops = s.hoops := rfl
@[simp] theorem State.answer_migs (a : Resp) : (s.answer a).migs = s.migs := rfl
@[simp] theorem State.answer_guards (a : Resp) : (s.answer a).guards = s.guards := rfl
@[simp] theorem State.answer_faultQ (a : Resp) : (s.answer a).faultQ = s.faultQ := rfl
@[simp] theorem State.answer_rens (a : Resp) : (s.answer a).rens = s.rens := rfl
@[simp] theorem State.answer_presses (a : Resp) : (s.answer a).presses = s.presses := rfl
@[simp] theorem State.answer_ports (a : Resp) : (s.answer a).ports = s.ports := rfl
@[simp] theorem State.answer_vats (a : Resp) : (s.answer a).vats = s.vats := rfl
@[simp] theorem State.answer_asked (a : Resp) : (s.answer a).asked = s.asked := rfl
@[simp] theorem State.answer_heldWr (a : Resp) : (s.answer a).heldWr = s.heldWr := rfl
@[simp] theorem State.answer_tagCtr (a : Resp) : (s.answer a).tagCtr = s.tagCtr := rfl
@[simp] theorem State.answer_capture (a : Resp) : (s.answer a).capture = s.capture := rfl
@[simp] theorem State.answer_agree (a : Resp) : (s.answer a).agree = s.agree := rfl
@[simp] theorem State.answer_slots (a : Resp) : (s.answer a).slots = s.slots := rfl
@[simp] theorem State.answer_sorrelLt (a : Resp) : (s.answer a).sorrelLt = s.sorrelLt := rfl
@[simp] theorem State.answer_jobWdLt (a : Resp) : (s.answer a).jobWdLt = s.jobWdLt := rfl
@[simp] theorem State.answer_stopping (a : Resp) : (s.answer a).stopping = s.stopping := rfl
@[simp] theorem State.answer_stopLt (a : Resp) : (s.answer a).stopLt = s.stopLt := rfl
@[simp] theorem State.answer_stopReply (a : Resp) : (s.answer a).stopReply = s.stopReply := rfl
@[simp] theorem State.answer_leases (a : Resp) : (s.answer a).leases = s.leases := rfl
@[simp] theorem State.answer_strapEast (a : Resp) : (s.answer a).strapEast = s.strapEast := rfl
@[simp] theorem State.answer_yieldPending (a : Resp) : (s.answer a).yieldPending = s.yieldPending := rfl
@[simp] theorem State.answer_ccLines (a : Resp) : (s.answer a).ccLines = s.ccLines := rfl
@[simp] theorem State.answer_xTicks (a : Resp) : (s.answer a).xTicks = s.xTicks := rfl
@[simp] theorem State.answer_stalls (a : Resp) : (s.answer a).stalls = s.stalls := rfl
@[simp] theorem State.answer_hsWait (a : Resp) : (s.answer a).hsWait = s.hsWait := rfl
@[simp] theorem State.answer_flash (a : Resp) : (s.answer a).flash = s.flash := rfl
@[simp] theorem State.answer_floorFused (a : Resp) : (s.answer a).floorFused = s.floorFused := rfl
@[simp] theorem State.answer_testEntered (a : Resp) : (s.answer a).testEntered = s.testEntered := rfl
@[simp] theorem State.answer_floorFlags (a : Resp) : (s.answer a).floorFlags = s.floorFlags := rfl
@[simp] theorem State.answer_mgmtRecord (a : Resp) : (s.answer a).mgmtRecord = s.mgmtRecord := rfl
@[simp] theorem State.answer_testKey (a : Resp) : (s.answer a).testKey = s.testKey := rfl
@[simp] theorem State.answer_mgmtUp (a : Resp) : (s.answer a).mgmtUp = s.mgmtUp := rfl
@[simp] theorem State.answer_sessions (a : Resp) : (s.answer a).sessions = s.sessions := rfl
@[simp] theorem State.answer_staging (a : Resp) : (s.answer a).staging = s.staging := rfl
@[simp] theorem State.answer_att (a : Resp) : (s.answer a).att = s.att := rfl
@[simp] theorem State.answer_tokens (a : Resp) : (s.answer a).tokens = s.tokens := rfl
@[simp] theorem State.answer_gen (a : Resp) : (s.answer a).gen = s.gen := rfl
@[simp] theorem State.answer_batch (a : Resp) : (s.answer a).batch = s.batch := rfl
@[simp] theorem State.answer_decLt (a : Resp) : (s.answer a).decLt = s.decLt := rfl
@[simp] theorem State.answer_power (a : Resp) : (s.answer a).power = s.power := rfl
@[simp] theorem State.answer_rind (a : Resp) : (s.answer a).rind = s.rind := rfl
@[simp] theorem State.answer_fabricHeld (a : Resp) : (s.answer a).fabricHeld = s.fabricHeld := rfl
@[simp] theorem State.answer_resetN (a : Resp) : (s.answer a).resetN = s.resetN := rfl
@[simp] theorem State.answer_aux12 (a : Resp) : (s.answer a).aux12 = s.aux12 := rfl
@[simp] theorem State.answer_main54 (a : Resp) : (s.answer a).main54 = s.main54 := rfl
@[simp] theorem State.answer_auxGood (a : Resp) : (s.answer a).auxGood = s.auxGood := rfl
@[simp] theorem State.answer_mainGood (a : Resp) : (s.answer a).mainGood = s.mainGood := rfl
@[simp] theorem State.answer_thermTripN (a : Resp) : (s.answer a).thermTripN = s.thermTripN := rfl
@[simp] theorem State.answer_outbox (a : Resp) : (s.answer a).outbox = s.outbox := rfl
@[simp] theorem State.answer_freshCtr (a : Resp) : (s.answer a).freshCtr = s.freshCtr := rfl

/-! Storing a management message -/

@[simp] theorem State.mgmtOut_pending (n typ st id : Nat) (b : List Nat) : (s.mgmtOut n typ st id b).pending = s.pending := rfl
@[simp] theorem State.mgmtOut_regs (n typ st id : Nat) (b : List Nat) : (s.mgmtOut n typ st id b).regs = s.regs := rfl
@[simp] theorem State.mgmtOut_sidecar (n typ st id : Nat) (b : List Nat) : (s.mgmtOut n typ st id b).sidecar = s.sidecar := rfl
@[simp] theorem State.mgmtOut_noise (n typ st id : Nat) (b : List Nat) : (s.mgmtOut n typ st id b).noise = s.noise := rfl
@[simp] theorem State.mgmtOut_ecc (n typ st id : Nat) (b : List Nat) : (s.mgmtOut n typ st id b).ecc = s.ecc := rfl
@[simp] theorem State.mgmtOut_twinB (n typ st id : Nat) (b : List Nat) : (s.mgmtOut n typ st id b).twinB = s.twinB := rfl
@[simp] theorem State.mgmtOut_svc (n typ st id : Nat) (b : List Nat) : (s.mgmtOut n typ st id b).svc = s.svc := rfl
@[simp] theorem State.mgmtOut_job (n typ st id : Nat) (b : List Nat) : (s.mgmtOut n typ st id b).job = s.job := rfl
@[simp] theorem State.mgmtOut_seqs (n typ st id : Nat) (b : List Nat) : (s.mgmtOut n typ st id b).seqs = s.seqs := rfl
@[simp] theorem State.mgmtOut_arrays (n typ st id : Nat) (b : List Nat) : (s.mgmtOut n typ st id b).arrays = s.arrays := rfl
@[simp] theorem State.mgmtOut_accs (n typ st id : Nat) (b : List Nat) : (s.mgmtOut n typ st id b).accs = s.accs := rfl
@[simp] theorem State.mgmtOut_vecs (n typ st id : Nat) (b : List Nat) : (s.mgmtOut n typ st id b).vecs = s.vecs := rfl
@[simp] theorem State.mgmtOut_ocache (n typ st id : Nat) (b : List Nat) : (s.mgmtOut n typ st id b).ocache = s.ocache := rfl
@[simp] theorem State.mgmtOut_teas (n typ st id : Nat) (b : List Nat) : (s.mgmtOut n typ st id b).teas = s.teas := rfl
@[simp] theorem State.mgmtOut_dmas (n typ st id : Nat) (b : List Nat) : (s.mgmtOut n typ st id b).dmas = s.dmas := rfl
@[simp] theorem State.mgmtOut_dmaLast (n typ st id : Nat) (b : List Nat) : (s.mgmtOut n typ st id b).dmaLast = s.dmaLast := rfl
@[simp] theorem State.mgmtOut_semWaits (n typ st id : Nat) (b : List Nat) : (s.mgmtOut n typ st id b).semWaits = s.semWaits := rfl
@[simp] theorem State.mgmtOut_grants (n typ st id : Nat) (b : List Nat) : (s.mgmtOut n typ st id b).grants = s.grants := rfl
@[simp] theorem State.mgmtOut_autoGen (n typ st id : Nat) (b : List Nat) : (s.mgmtOut n typ st id b).autoGen = s.autoGen := rfl
@[simp] theorem State.mgmtOut_barHeld (n typ st id : Nat) (b : List Nat) : (s.mgmtOut n typ st id b).barHeld = s.barHeld := rfl
@[simp] theorem State.mgmtOut_rootArr (n typ st id : Nat) (b : List Nat) : (s.mgmtOut n typ st id b).rootArr = s.rootArr := rfl
@[simp] theorem State.mgmtOut_vmsgs (n typ st id : Nat) (b : List Nat) : (s.mgmtOut n typ st id b).vmsgs = s.vmsgs := rfl
@[simp] theorem State.mgmtOut_hoops (n typ st id : Nat) (b : List Nat) : (s.mgmtOut n typ st id b).hoops = s.hoops := rfl
@[simp] theorem State.mgmtOut_migs (n typ st id : Nat) (b : List Nat) : (s.mgmtOut n typ st id b).migs = s.migs := rfl
@[simp] theorem State.mgmtOut_guards (n typ st id : Nat) (b : List Nat) : (s.mgmtOut n typ st id b).guards = s.guards := rfl
@[simp] theorem State.mgmtOut_faultQ (n typ st id : Nat) (b : List Nat) : (s.mgmtOut n typ st id b).faultQ = s.faultQ := rfl
@[simp] theorem State.mgmtOut_rens (n typ st id : Nat) (b : List Nat) : (s.mgmtOut n typ st id b).rens = s.rens := rfl
@[simp] theorem State.mgmtOut_presses (n typ st id : Nat) (b : List Nat) : (s.mgmtOut n typ st id b).presses = s.presses := rfl
@[simp] theorem State.mgmtOut_ports (n typ st id : Nat) (b : List Nat) : (s.mgmtOut n typ st id b).ports = s.ports := rfl
@[simp] theorem State.mgmtOut_vats (n typ st id : Nat) (b : List Nat) : (s.mgmtOut n typ st id b).vats = s.vats := rfl
@[simp] theorem State.mgmtOut_asked (n typ st id : Nat) (b : List Nat) : (s.mgmtOut n typ st id b).asked = s.asked := rfl
@[simp] theorem State.mgmtOut_heldWr (n typ st id : Nat) (b : List Nat) : (s.mgmtOut n typ st id b).heldWr = s.heldWr := rfl
@[simp] theorem State.mgmtOut_tagCtr (n typ st id : Nat) (b : List Nat) : (s.mgmtOut n typ st id b).tagCtr = s.tagCtr := rfl
@[simp] theorem State.mgmtOut_capture (n typ st id : Nat) (b : List Nat) : (s.mgmtOut n typ st id b).capture = s.capture := rfl
@[simp] theorem State.mgmtOut_agree (n typ st id : Nat) (b : List Nat) : (s.mgmtOut n typ st id b).agree = s.agree := rfl
@[simp] theorem State.mgmtOut_slots (n typ st id : Nat) (b : List Nat) : (s.mgmtOut n typ st id b).slots = s.slots := rfl
@[simp] theorem State.mgmtOut_sorrelLt (n typ st id : Nat) (b : List Nat) : (s.mgmtOut n typ st id b).sorrelLt = s.sorrelLt := rfl
@[simp] theorem State.mgmtOut_jobWdLt (n typ st id : Nat) (b : List Nat) : (s.mgmtOut n typ st id b).jobWdLt = s.jobWdLt := rfl
@[simp] theorem State.mgmtOut_stopping (n typ st id : Nat) (b : List Nat) : (s.mgmtOut n typ st id b).stopping = s.stopping := rfl
@[simp] theorem State.mgmtOut_stopLt (n typ st id : Nat) (b : List Nat) : (s.mgmtOut n typ st id b).stopLt = s.stopLt := rfl
@[simp] theorem State.mgmtOut_stopReply (n typ st id : Nat) (b : List Nat) : (s.mgmtOut n typ st id b).stopReply = s.stopReply := rfl
@[simp] theorem State.mgmtOut_leases (n typ st id : Nat) (b : List Nat) : (s.mgmtOut n typ st id b).leases = s.leases := rfl
@[simp] theorem State.mgmtOut_strapEast (n typ st id : Nat) (b : List Nat) : (s.mgmtOut n typ st id b).strapEast = s.strapEast := rfl
@[simp] theorem State.mgmtOut_yieldPending (n typ st id : Nat) (b : List Nat) : (s.mgmtOut n typ st id b).yieldPending = s.yieldPending := rfl
@[simp] theorem State.mgmtOut_ccLines (n typ st id : Nat) (b : List Nat) : (s.mgmtOut n typ st id b).ccLines = s.ccLines := rfl
@[simp] theorem State.mgmtOut_xTicks (n typ st id : Nat) (b : List Nat) : (s.mgmtOut n typ st id b).xTicks = s.xTicks := rfl
@[simp] theorem State.mgmtOut_stalls (n typ st id : Nat) (b : List Nat) : (s.mgmtOut n typ st id b).stalls = s.stalls := rfl
@[simp] theorem State.mgmtOut_hsWait (n typ st id : Nat) (b : List Nat) : (s.mgmtOut n typ st id b).hsWait = s.hsWait := rfl
@[simp] theorem State.mgmtOut_flash (n typ st id : Nat) (b : List Nat) : (s.mgmtOut n typ st id b).flash = s.flash := rfl
@[simp] theorem State.mgmtOut_floorFused (n typ st id : Nat) (b : List Nat) : (s.mgmtOut n typ st id b).floorFused = s.floorFused := rfl
@[simp] theorem State.mgmtOut_testEntered (n typ st id : Nat) (b : List Nat) : (s.mgmtOut n typ st id b).testEntered = s.testEntered := rfl
@[simp] theorem State.mgmtOut_floorFlags (n typ st id : Nat) (b : List Nat) : (s.mgmtOut n typ st id b).floorFlags = s.floorFlags := rfl
@[simp] theorem State.mgmtOut_mgmtRecord (n typ st id : Nat) (b : List Nat) : (s.mgmtOut n typ st id b).mgmtRecord = s.mgmtRecord := rfl
@[simp] theorem State.mgmtOut_testKey (n typ st id : Nat) (b : List Nat) : (s.mgmtOut n typ st id b).testKey = s.testKey := rfl
@[simp] theorem State.mgmtOut_mgmtUp (n typ st id : Nat) (b : List Nat) : (s.mgmtOut n typ st id b).mgmtUp = s.mgmtUp := rfl
@[simp] theorem State.mgmtOut_sessions (n typ st id : Nat) (b : List Nat) : (s.mgmtOut n typ st id b).sessions = s.sessions := rfl
@[simp] theorem State.mgmtOut_staging (n typ st id : Nat) (b : List Nat) : (s.mgmtOut n typ st id b).staging = s.staging := rfl
@[simp] theorem State.mgmtOut_att (n typ st id : Nat) (b : List Nat) : (s.mgmtOut n typ st id b).att = s.att := rfl
@[simp] theorem State.mgmtOut_tokens (n typ st id : Nat) (b : List Nat) : (s.mgmtOut n typ st id b).tokens = s.tokens := rfl
@[simp] theorem State.mgmtOut_gen (n typ st id : Nat) (b : List Nat) : (s.mgmtOut n typ st id b).gen = s.gen := rfl
@[simp] theorem State.mgmtOut_batch (n typ st id : Nat) (b : List Nat) : (s.mgmtOut n typ st id b).batch = s.batch := rfl
@[simp] theorem State.mgmtOut_decLt (n typ st id : Nat) (b : List Nat) : (s.mgmtOut n typ st id b).decLt = s.decLt := rfl
@[simp] theorem State.mgmtOut_power (n typ st id : Nat) (b : List Nat) : (s.mgmtOut n typ st id b).power = s.power := rfl
@[simp] theorem State.mgmtOut_rind (n typ st id : Nat) (b : List Nat) : (s.mgmtOut n typ st id b).rind = s.rind := rfl
@[simp] theorem State.mgmtOut_fabricHeld (n typ st id : Nat) (b : List Nat) : (s.mgmtOut n typ st id b).fabricHeld = s.fabricHeld := rfl
@[simp] theorem State.mgmtOut_resetN (n typ st id : Nat) (b : List Nat) : (s.mgmtOut n typ st id b).resetN = s.resetN := rfl
@[simp] theorem State.mgmtOut_aux12 (n typ st id : Nat) (b : List Nat) : (s.mgmtOut n typ st id b).aux12 = s.aux12 := rfl
@[simp] theorem State.mgmtOut_main54 (n typ st id : Nat) (b : List Nat) : (s.mgmtOut n typ st id b).main54 = s.main54 := rfl
@[simp] theorem State.mgmtOut_auxGood (n typ st id : Nat) (b : List Nat) : (s.mgmtOut n typ st id b).auxGood = s.auxGood := rfl
@[simp] theorem State.mgmtOut_mainGood (n typ st id : Nat) (b : List Nat) : (s.mgmtOut n typ st id b).mainGood = s.mainGood := rfl
@[simp] theorem State.mgmtOut_thermTripN (n typ st id : Nat) (b : List Nat) : (s.mgmtOut n typ st id b).thermTripN = s.thermTripN := rfl
@[simp] theorem State.mgmtOut_resp (n typ st id : Nat) (b : List Nat) : (s.mgmtOut n typ st id b).resp = s.resp := rfl
@[simp] theorem State.mgmtOut_freshCtr (n typ st id : Nat) (b : List Nat) : (s.mgmtOut n typ st id b).freshCtr = s.freshCtr := rfl

/-! Storing an alert -/

@[simp] theorem State.alert_pending (i : Nat) : (s.alert i).pending = s.pending := rfl
@[simp] theorem State.alert_regs (i : Nat) : (s.alert i).regs = s.regs := rfl
@[simp] theorem State.alert_sidecar (i : Nat) : (s.alert i).sidecar = s.sidecar := rfl
@[simp] theorem State.alert_noise (i : Nat) : (s.alert i).noise = s.noise := rfl
@[simp] theorem State.alert_ecc (i : Nat) : (s.alert i).ecc = s.ecc := rfl
@[simp] theorem State.alert_twinB (i : Nat) : (s.alert i).twinB = s.twinB := rfl
@[simp] theorem State.alert_svc (i : Nat) : (s.alert i).svc = s.svc := rfl
@[simp] theorem State.alert_job (i : Nat) : (s.alert i).job = s.job := rfl
@[simp] theorem State.alert_seqs (i : Nat) : (s.alert i).seqs = s.seqs := rfl
@[simp] theorem State.alert_arrays (i : Nat) : (s.alert i).arrays = s.arrays := rfl
@[simp] theorem State.alert_accs (i : Nat) : (s.alert i).accs = s.accs := rfl
@[simp] theorem State.alert_vecs (i : Nat) : (s.alert i).vecs = s.vecs := rfl
@[simp] theorem State.alert_ocache (i : Nat) : (s.alert i).ocache = s.ocache := rfl
@[simp] theorem State.alert_teas (i : Nat) : (s.alert i).teas = s.teas := rfl
@[simp] theorem State.alert_dmas (i : Nat) : (s.alert i).dmas = s.dmas := rfl
@[simp] theorem State.alert_dmaLast (i : Nat) : (s.alert i).dmaLast = s.dmaLast := rfl
@[simp] theorem State.alert_semWaits (i : Nat) : (s.alert i).semWaits = s.semWaits := rfl
@[simp] theorem State.alert_grants (i : Nat) : (s.alert i).grants = s.grants := rfl
@[simp] theorem State.alert_autoGen (i : Nat) : (s.alert i).autoGen = s.autoGen := rfl
@[simp] theorem State.alert_barHeld (i : Nat) : (s.alert i).barHeld = s.barHeld := rfl
@[simp] theorem State.alert_rootArr (i : Nat) : (s.alert i).rootArr = s.rootArr := rfl
@[simp] theorem State.alert_vmsgs (i : Nat) : (s.alert i).vmsgs = s.vmsgs := rfl
@[simp] theorem State.alert_hoops (i : Nat) : (s.alert i).hoops = s.hoops := rfl
@[simp] theorem State.alert_migs (i : Nat) : (s.alert i).migs = s.migs := rfl
@[simp] theorem State.alert_guards (i : Nat) : (s.alert i).guards = s.guards := rfl
@[simp] theorem State.alert_faultQ (i : Nat) : (s.alert i).faultQ = s.faultQ := rfl
@[simp] theorem State.alert_rens (i : Nat) : (s.alert i).rens = s.rens := rfl
@[simp] theorem State.alert_presses (i : Nat) : (s.alert i).presses = s.presses := rfl
@[simp] theorem State.alert_ports (i : Nat) : (s.alert i).ports = s.ports := rfl
@[simp] theorem State.alert_vats (i : Nat) : (s.alert i).vats = s.vats := rfl
@[simp] theorem State.alert_asked (i : Nat) : (s.alert i).asked = s.asked := rfl
@[simp] theorem State.alert_heldWr (i : Nat) : (s.alert i).heldWr = s.heldWr := rfl
@[simp] theorem State.alert_tagCtr (i : Nat) : (s.alert i).tagCtr = s.tagCtr := rfl
@[simp] theorem State.alert_capture (i : Nat) : (s.alert i).capture = s.capture := rfl
@[simp] theorem State.alert_agree (i : Nat) : (s.alert i).agree = s.agree := rfl
@[simp] theorem State.alert_slots (i : Nat) : (s.alert i).slots = s.slots := rfl
@[simp] theorem State.alert_sorrelLt (i : Nat) : (s.alert i).sorrelLt = s.sorrelLt := rfl
@[simp] theorem State.alert_jobWdLt (i : Nat) : (s.alert i).jobWdLt = s.jobWdLt := rfl
@[simp] theorem State.alert_stopping (i : Nat) : (s.alert i).stopping = s.stopping := rfl
@[simp] theorem State.alert_stopLt (i : Nat) : (s.alert i).stopLt = s.stopLt := rfl
@[simp] theorem State.alert_stopReply (i : Nat) : (s.alert i).stopReply = s.stopReply := rfl
@[simp] theorem State.alert_leases (i : Nat) : (s.alert i).leases = s.leases := rfl
@[simp] theorem State.alert_strapEast (i : Nat) : (s.alert i).strapEast = s.strapEast := rfl
@[simp] theorem State.alert_yieldPending (i : Nat) : (s.alert i).yieldPending = s.yieldPending := rfl
@[simp] theorem State.alert_ccLines (i : Nat) : (s.alert i).ccLines = s.ccLines := rfl
@[simp] theorem State.alert_xTicks (i : Nat) : (s.alert i).xTicks = s.xTicks := rfl
@[simp] theorem State.alert_stalls (i : Nat) : (s.alert i).stalls = s.stalls := rfl
@[simp] theorem State.alert_hsWait (i : Nat) : (s.alert i).hsWait = s.hsWait := rfl
@[simp] theorem State.alert_flash (i : Nat) : (s.alert i).flash = s.flash := rfl
@[simp] theorem State.alert_floorFused (i : Nat) : (s.alert i).floorFused = s.floorFused := rfl
@[simp] theorem State.alert_testEntered (i : Nat) : (s.alert i).testEntered = s.testEntered := rfl
@[simp] theorem State.alert_floorFlags (i : Nat) : (s.alert i).floorFlags = s.floorFlags := rfl
@[simp] theorem State.alert_mgmtRecord (i : Nat) : (s.alert i).mgmtRecord = s.mgmtRecord := rfl
@[simp] theorem State.alert_testKey (i : Nat) : (s.alert i).testKey = s.testKey := rfl
@[simp] theorem State.alert_mgmtUp (i : Nat) : (s.alert i).mgmtUp = s.mgmtUp := rfl
@[simp] theorem State.alert_sessions (i : Nat) : (s.alert i).sessions = s.sessions := rfl
@[simp] theorem State.alert_staging (i : Nat) : (s.alert i).staging = s.staging := rfl
@[simp] theorem State.alert_att (i : Nat) : (s.alert i).att = s.att := rfl
@[simp] theorem State.alert_tokens (i : Nat) : (s.alert i).tokens = s.tokens := rfl
@[simp] theorem State.alert_gen (i : Nat) : (s.alert i).gen = s.gen := rfl
@[simp] theorem State.alert_batch (i : Nat) : (s.alert i).batch = s.batch := rfl
@[simp] theorem State.alert_decLt (i : Nat) : (s.alert i).decLt = s.decLt := rfl
@[simp] theorem State.alert_power (i : Nat) : (s.alert i).power = s.power := rfl
@[simp] theorem State.alert_fabricHeld (i : Nat) : (s.alert i).fabricHeld = s.fabricHeld := rfl
@[simp] theorem State.alert_resetN (i : Nat) : (s.alert i).resetN = s.resetN := rfl
@[simp] theorem State.alert_aux12 (i : Nat) : (s.alert i).aux12 = s.aux12 := rfl
@[simp] theorem State.alert_main54 (i : Nat) : (s.alert i).main54 = s.main54 := rfl
@[simp] theorem State.alert_auxGood (i : Nat) : (s.alert i).auxGood = s.auxGood := rfl
@[simp] theorem State.alert_mainGood (i : Nat) : (s.alert i).mainGood = s.mainGood := rfl
@[simp] theorem State.alert_thermTripN (i : Nat) : (s.alert i).thermTripN = s.thermTripN := rfl
@[simp] theorem State.alert_outbox (i : Nat) : (s.alert i).outbox = s.outbox := rfl
@[simp] theorem State.alert_resp (i : Nat) : (s.alert i).resp = s.resp := rfl
@[simp] theorem State.alert_freshCtr (i : Nat) : (s.alert i).freshCtr = s.freshCtr := rfl

/-! Taking a fresh open value -/

@[simp] theorem State.freshVal_pending : s.freshVal.2.pending = s.pending := rfl
@[simp] theorem State.freshVal_regs : s.freshVal.2.regs = s.regs := rfl
@[simp] theorem State.freshVal_sidecar : s.freshVal.2.sidecar = s.sidecar := rfl
@[simp] theorem State.freshVal_noise : s.freshVal.2.noise = s.noise := rfl
@[simp] theorem State.freshVal_ecc : s.freshVal.2.ecc = s.ecc := rfl
@[simp] theorem State.freshVal_twinB : s.freshVal.2.twinB = s.twinB := rfl
@[simp] theorem State.freshVal_svc : s.freshVal.2.svc = s.svc := rfl
@[simp] theorem State.freshVal_job : s.freshVal.2.job = s.job := rfl
@[simp] theorem State.freshVal_seqs : s.freshVal.2.seqs = s.seqs := rfl
@[simp] theorem State.freshVal_arrays : s.freshVal.2.arrays = s.arrays := rfl
@[simp] theorem State.freshVal_accs : s.freshVal.2.accs = s.accs := rfl
@[simp] theorem State.freshVal_vecs : s.freshVal.2.vecs = s.vecs := rfl
@[simp] theorem State.freshVal_ocache : s.freshVal.2.ocache = s.ocache := rfl
@[simp] theorem State.freshVal_teas : s.freshVal.2.teas = s.teas := rfl
@[simp] theorem State.freshVal_dmas : s.freshVal.2.dmas = s.dmas := rfl
@[simp] theorem State.freshVal_dmaLast : s.freshVal.2.dmaLast = s.dmaLast := rfl
@[simp] theorem State.freshVal_semWaits : s.freshVal.2.semWaits = s.semWaits := rfl
@[simp] theorem State.freshVal_grants : s.freshVal.2.grants = s.grants := rfl
@[simp] theorem State.freshVal_autoGen : s.freshVal.2.autoGen = s.autoGen := rfl
@[simp] theorem State.freshVal_barHeld : s.freshVal.2.barHeld = s.barHeld := rfl
@[simp] theorem State.freshVal_rootArr : s.freshVal.2.rootArr = s.rootArr := rfl
@[simp] theorem State.freshVal_vmsgs : s.freshVal.2.vmsgs = s.vmsgs := rfl
@[simp] theorem State.freshVal_hoops : s.freshVal.2.hoops = s.hoops := rfl
@[simp] theorem State.freshVal_migs : s.freshVal.2.migs = s.migs := rfl
@[simp] theorem State.freshVal_guards : s.freshVal.2.guards = s.guards := rfl
@[simp] theorem State.freshVal_faultQ : s.freshVal.2.faultQ = s.faultQ := rfl
@[simp] theorem State.freshVal_rens : s.freshVal.2.rens = s.rens := rfl
@[simp] theorem State.freshVal_presses : s.freshVal.2.presses = s.presses := rfl
@[simp] theorem State.freshVal_ports : s.freshVal.2.ports = s.ports := rfl
@[simp] theorem State.freshVal_vats : s.freshVal.2.vats = s.vats := rfl
@[simp] theorem State.freshVal_asked : s.freshVal.2.asked = s.asked := rfl
@[simp] theorem State.freshVal_heldWr : s.freshVal.2.heldWr = s.heldWr := rfl
@[simp] theorem State.freshVal_tagCtr : s.freshVal.2.tagCtr = s.tagCtr := rfl
@[simp] theorem State.freshVal_capture : s.freshVal.2.capture = s.capture := rfl
@[simp] theorem State.freshVal_agree : s.freshVal.2.agree = s.agree := rfl
@[simp] theorem State.freshVal_slots : s.freshVal.2.slots = s.slots := rfl
@[simp] theorem State.freshVal_sorrelLt : s.freshVal.2.sorrelLt = s.sorrelLt := rfl
@[simp] theorem State.freshVal_jobWdLt : s.freshVal.2.jobWdLt = s.jobWdLt := rfl
@[simp] theorem State.freshVal_stopping : s.freshVal.2.stopping = s.stopping := rfl
@[simp] theorem State.freshVal_stopLt : s.freshVal.2.stopLt = s.stopLt := rfl
@[simp] theorem State.freshVal_stopReply : s.freshVal.2.stopReply = s.stopReply := rfl
@[simp] theorem State.freshVal_leases : s.freshVal.2.leases = s.leases := rfl
@[simp] theorem State.freshVal_strapEast : s.freshVal.2.strapEast = s.strapEast := rfl
@[simp] theorem State.freshVal_yieldPending : s.freshVal.2.yieldPending = s.yieldPending := rfl
@[simp] theorem State.freshVal_ccLines : s.freshVal.2.ccLines = s.ccLines := rfl
@[simp] theorem State.freshVal_xTicks : s.freshVal.2.xTicks = s.xTicks := rfl
@[simp] theorem State.freshVal_stalls : s.freshVal.2.stalls = s.stalls := rfl
@[simp] theorem State.freshVal_hsWait : s.freshVal.2.hsWait = s.hsWait := rfl
@[simp] theorem State.freshVal_flash : s.freshVal.2.flash = s.flash := rfl
@[simp] theorem State.freshVal_floorFused : s.freshVal.2.floorFused = s.floorFused := rfl
@[simp] theorem State.freshVal_testEntered : s.freshVal.2.testEntered = s.testEntered := rfl
@[simp] theorem State.freshVal_floorFlags : s.freshVal.2.floorFlags = s.floorFlags := rfl
@[simp] theorem State.freshVal_mgmtRecord : s.freshVal.2.mgmtRecord = s.mgmtRecord := rfl
@[simp] theorem State.freshVal_testKey : s.freshVal.2.testKey = s.testKey := rfl
@[simp] theorem State.freshVal_mgmtUp : s.freshVal.2.mgmtUp = s.mgmtUp := rfl
@[simp] theorem State.freshVal_sessions : s.freshVal.2.sessions = s.sessions := rfl
@[simp] theorem State.freshVal_staging : s.freshVal.2.staging = s.staging := rfl
@[simp] theorem State.freshVal_att : s.freshVal.2.att = s.att := rfl
@[simp] theorem State.freshVal_tokens : s.freshVal.2.tokens = s.tokens := rfl
@[simp] theorem State.freshVal_gen : s.freshVal.2.gen = s.gen := rfl
@[simp] theorem State.freshVal_batch : s.freshVal.2.batch = s.batch := rfl
@[simp] theorem State.freshVal_decLt : s.freshVal.2.decLt = s.decLt := rfl
@[simp] theorem State.freshVal_power : s.freshVal.2.power = s.power := rfl
@[simp] theorem State.freshVal_rind : s.freshVal.2.rind = s.rind := rfl
@[simp] theorem State.freshVal_fabricHeld : s.freshVal.2.fabricHeld = s.fabricHeld := rfl
@[simp] theorem State.freshVal_resetN : s.freshVal.2.resetN = s.resetN := rfl
@[simp] theorem State.freshVal_aux12 : s.freshVal.2.aux12 = s.aux12 := rfl
@[simp] theorem State.freshVal_main54 : s.freshVal.2.main54 = s.main54 := rfl
@[simp] theorem State.freshVal_auxGood : s.freshVal.2.auxGood = s.auxGood := rfl
@[simp] theorem State.freshVal_mainGood : s.freshVal.2.mainGood = s.mainGood := rfl
@[simp] theorem State.freshVal_thermTripN : s.freshVal.2.thermTripN = s.thermTripN := rfl
@[simp] theorem State.freshVal_outbox : s.freshVal.2.outbox = s.outbox := rfl
@[simp] theorem State.freshVal_resp : s.freshVal.2.resp = s.resp := rfl

/-! ### Read after write -/

/-- A stored register reads back cut to its width; every other location reads as before. -/
theorem State.rg_setRg (r q : Reg) (die i j v d k l : Nat) : (s.setRg r die i j v).rg q d k l =
    if loc q d k l = loc r die i j then (if r.row.w64 then v % 2 ^ 64 else v % 2 ^ 32) else s.rg q d k l := by
  unfold State.rg State.setRg
  rw [Sparse.get_set]
  split
  · rw [BitVec.toNat_ofNat]
    by_cases h : r.row.w64 = true
    · rw [if_pos h, if_pos h]
    · rw [if_neg h, if_neg h]
      omega
  · rfl

/-- A byte outside a stored run reads as before. -/
theorem State.byte_putBytes_outside (a n : Nat) (bs : List Nat) (h : n < a ∨ a + bs.length ≤ n) :
    (s.putBytes a bs).byte n = s.byte n := by
  unfold State.byte State.putBytes
  rw [Sparse.get_setRun_outside _ _ _ _ _ (by simpa using h)]

theorem State.seq_setSeq (c d : Nat) (x : SeqS) : (s.setSeq c x).seq d =
    if d = c then x else s.seq d := Sparse.get_set _ _ _ _ _

theorem State.vec_setVec (c d : Nat) (x : VecS) : (s.setVec c x).vec d =
    if d = c then x else s.vec d := Sparse.get_set _ _ _ _ _

theorem State.tea_setTea (c d : Nat) (x : TeaS) : (s.setTea c x).tea d =
    if d = c then x else s.tea d := Sparse.get_set _ _ _ _ _

theorem State.hoop_setHoop (c d : Nat) (x : HoopS) : (s.setHoop c x).hoop d =
    if d = c then x else s.hoop d := Sparse.get_set _ _ _ _ _

theorem State.port_setPort (c d : Nat) (x : PortS) : (s.setPort c x).port d =
    if d = c then x else s.port d := Sparse.get_set _ _ _ _ _

theorem State.vat_setVat (c d : Nat) (x : VatS) : (s.setVat c x).vat d =
    if d = c then x else s.vat d := Sparse.get_set _ _ _ _ _

theorem State.arr_setArr (c a d b : Nat) (x : ArrayS) : (s.setArr c a x).arr d b =
    if d * 4 + b = c * 4 + a then x else s.arr d b := Sparse.get_set _ _ _ _ _

theorem State.dma_setDma (c a d b : Nat) (x : DmaS) : (s.setDma c a x).dma d b =
    if d * 32 + b = c * 32 + a then x else s.dma d b := Sparse.get_set _ _ _ _ _

theorem State.ren_setRen (c a d b : Nat) (x : RenS) : (s.setRen c a x).ren d b =
    if d * 16 + b = c * 16 + a then x else s.ren d b := Sparse.get_set _ _ _ _ _

theorem State.press_setPress (c a d b : Nat) (x : PressS) : (s.setPress c a x).press d b =
    if d * 16 + b = c * 16 + a then x else s.press d b := Sparse.get_set _ _ _ _ _

end

end Sys2Proof.Machine
end

