-- ==== Sys2Proof/Tests/Slice0.lean ====
section
/-!
SUPPORT. The author's own tests: well-formedness refuses an ill-formed term of each check; hand-worked examples of single steps;
and for each clause of each statement a concrete state and operands that meet its hypotheses together.
-/

namespace Sys2Proof.Tests

open Sys2Proof.Machine

set_option Elab.async false

/-! ### Well-formedness: each check refuses an ill-formed term -/

def reqs : Req := ⟨0, 7⟩
def rx0 : Rx := ⟨0, 0, none, 0, 0, 0, 0⟩

theorem test_wf_tick : (Instr.localTick (.m 0) [.vecPort 0]).wf = false := by decide
theorem test_wf_sensor : (Instr.thermalSample [] (some (.m 0, 2))).wf = false := by decide
theorem test_wf_stall : (Instr.localTick (.x 0) [.fec 0 [] []]).wf = false := by decide
theorem test_wf_value : (Instr.registerWrite .mgmt ⟨false, 0⟩ .w4 0x100000000).wf = false := by decide
theorem test_wf_far : (Instr.registerWrite .mgmt ⟨true, 0⟩ .w4 0).wf = false := by decide
theorem test_wf_submit : (Instr.dmaChSubmit .mgmt (.m 0) 16 0).wf = false := by decide
theorem test_wf_start : (Instr.dmaDescriptorStart (.x 0) 16).wf = false := by decide
theorem test_wf_burst : (Instr.dmaBurstComplete (.x 0) 16 []).wf = false := by decide
theorem test_wf_dma_end : (Instr.dmaDescriptorComplete (.m 1) 31).wf = false := by decide
theorem test_wf_dma_time : (Instr.dmaProgressTimeout (.m 1) 31).wf = false := by decide
theorem test_wf_watchdog : (Instr.handshakeWatchdogExpiry (.dma (.m 0) 16)).wf = false := by decide
theorem test_wf_tier : (Instr.tierWrite .twin 255 [0, 0]).wf = false := by decide
theorem test_wf_sram_read : (Instr.sramAccess .twin 0 (.read 0) 0).wf = false := by decide
theorem test_wf_sram_write : (Instr.sramAccess .twin 0 (.write []) 0).wf = false := by decide
theorem test_wf_credits : (Instr.linkctl 0 none none [1]).wf = false := by decide
theorem test_wf_wr : (Instr.wr rx0 0 []).wf = false := by decide
theorem test_wf_rd_req : (Instr.rdReq rx0 1 255).wf = false := by decide
theorem test_wf_rd_resp : (Instr.rdResp rx0 false (List.replicate 257 0)).wf = false := by decide +kernel
theorem test_wf_reg_wr : (Instr.regWr rx0 0 .w4 0x100000000).wf = false := by decide
theorem test_wf_coll_data : (Instr.collData rx0 0 0 0 []).wf = false := by decide
theorem test_wf_message : messageFits 8 1 16777209 = false := by decide

/-! ### Helpers -/

def k0 : CoreId := ⟨0, 0⟩

/-- A state with bytes stored at an address. -/
def put (s : State) (a : Nat) (bs : List Nat) : State := s.putBytes a bs

/-- The sequencer of core 0 in RUN at index 0, with `w` as its first command, on a state. -/
def seqOn (s : State) (w : Nat) : State :=
  let s1 := s.setRg .SEQ_STATUS 0 0 0 1
  put s1 (s1.cmAddr 0 0) (leBytes 16 w)

def seqAt (w : Nat) : State := seqOn .reset w

/-- A command word: an opcode and its fields, each with its lowest bit. -/
def word (opc : Nat) (fs : List (Nat × Nat)) : Nat := fs.foldl (fun z f => z + f.2 * 2 ^ f.1) (opc * 2 ^ 120)

def cmd (opc : Nat) (fs : List (Nat × Nat)) : BitVec 128 := BitVec.ofNat 128 (word opc fs)

/-- An access that delivers bytes and leaves the state, as a Bool. -/
def gives (p : State × Except MemErr (List Nat)) (s : State) (bs : List Nat) : Bool :=
  decide (p.1 = s) && (match p.2 with
    | .ok b => b == bs
    | .error _ => false)

theorem gives_eq {p : State × Except MemErr (List Nat)} {s : State} {bs : List Nat} (h : gives p s bs = true) :
    p = (s, .ok bs) := by
  obtain ⟨t, r⟩ := p
  cases r <;> simp_all [gives]

def withSc (s : State) (i v : Nat) : State := s.setSc 0 i v

/-! ### Sequencer commands: states in which each of them runs -/

theorem witness_nop : (seqAt (word 0x00 [])).atCommand k0 (cmd 0x00 []) 0x00 [] ⟨[], []⟩ = true := by decide +kernel

theorem witness_li : let x := cmd 0x01 [(115, 31), (0, 2 ^ 64 - 1)]
    (seqAt x.toNat).atCommand k0 x 0x01 [(115, 5), (0, 64)] ⟨[], [cDst x]⟩ = true := by decide +kernel

theorem witness_alu : let x := cmd 0x02 [(115, 3), (110, 1), (105, 31), (101, 14)]
    (seqAt x.toNat).atCommand k0 x 0x02 [(115, 5), (110, 5), (105, 5), (101, 4)] ⟨[cSrc1 x, cSrc2 x], [cDst x]⟩ = true ∧
      cf x 101 4 ≠ 15 := by decide +kernel

theorem witness_alui : let x := cmd 0x03 [(115, 3), (110, 1), (101, 14), (0, 5)]
    (seqAt x.toNat).atCommand k0 x 0x03 [(115, 5), (110, 5), (101, 4), (0, 64)] ⟨[cSrc1 x], [cDst x]⟩ = true ∧
      cf x 101 4 ≠ 15 := by decide +kernel

theorem witness_getid : let x := cmd 0x06 [(115, 1)]
    (seqAt x.toNat).atCommand k0 x 0x06 [(115, 5)] ⟨[], [cDst x]⟩ = true := by decide +kernel

theorem witness_epoch : let x := cmd 0x24 [(115, 1)]
    (seqAt x.toNat).atCommand k0 x 0x24 [(115, 5)] ⟨[], [cDst x]⟩ = true := by decide +kernel

theorem witness_scalar_register : (31 : Nat) < 32 ∧ (0 : Nat) < 32 ∧ 2 ^ 64 - 1 < 2 ^ 64 := by decide

theorem witness_j : let x := cmd 0x10 [(0, 16383)]
    (seqAt x.toNat).atCommand k0 x 0x10 [(0, 14)] ⟨[], []⟩ = true := by decide +kernel

theorem witness_cmp : let x := cmd 0x11 [(110, 1), (105, 2), (102, 5), (0, 9)]
    (seqAt x.toNat).atCommand k0 x 0x11 [(110, 5), (105, 5), (102, 3), (0, 14)] ⟨[cSrc1 x, cSrc2 x], []⟩ = true ∧
      cf x 102 3 < 6 := by decide +kernel

theorem witness_sum : let x := cmd 0x12 [(110, 1), (102, 6), (92, 511), (0, 9)]
    (seqAt x.toNat).atCommand k0 x 0x12 [(110, 5), (102, 3), (92, 9), (0, 14)] ⟨[cSrc1 x], []⟩ = true ∧
      cf x 102 3 ≠ 7 := by decide +kernel

theorem witness_dec : let x := cmd 0x13 [(115, 4), (0, 9)]
    (seqAt x.toNat).atCommand k0 x 0x13 [(115, 5), (0, 14)] ⟨[cDst x], [cDst x]⟩ = true := by decide +kernel

theorem witness_call : let x := cmd 0x14 [(115, 4), (0, 9)]
    (seqAt x.toNat).atCommand k0 x 0x14 [(115, 5), (0, 14)] ⟨[], [cDst x]⟩ = true := by decide +kernel

theorem witness_ret : let x := cmd 0x15 [(110, 4)]
    let s := withSc (seqAt x.toNat) 4 16383
    s.atCommand k0 x 0x15 [(110, 5)] ⟨[cSrc1 x], []⟩ = true ∧ s.sc 0 (cSrc1 x) ≤ 16383 := by decide +kernel

theorem witness_ld : let x := cmd 0x04 [(115, 2), (110, 1), (0, 0)]
    let s := withSc (seqAt x.toNat) 1 (spaceSize 0 - 8)
    let a := (s.sc 0 (cSrc1 x) + cImm x) % 2 ^ 64
    s.atCommand k0 x 0x04 [(115, 5), (110, 5), (100, 1), (0, 64)] ⟨[cSrc1 x], [cDst x]⟩ = true ∧ a % 8 = 0 ∧
      a + 8 ≤ spaceSize 0 ∧ gives (s.readRange (s.spaceAddr 0 0 a) 8) s (List.replicate 8 0) = true := by decide +kernel

theorem witness_st : let x := cmd 0x05 [(110, 1), (105, 2), (100, 1), (0, 0)]
    let s := withSc (seqAt x.toNat) 1 (spaceSize 1 - 8)
    let a := (s.sc 0 (cSrc1 x) + cImm x) % 2 ^ 64
    s.atCommand k0 x 0x05 [(110, 5), (105, 5), (100, 1), (0, 64)] ⟨[cSrc1 x, cSrc2 x], []⟩ = true ∧ a % 8 = 0 ∧
      a + 8 ≤ spaceSize 1 ∧ s.ecc = [] ∧ s.pc 0 < 16383 ∧ cf x 100 1 = 1 := by decide +kernel

theorem witness_ld_misaligned : let x := cmd 0x04 [(115, 2), (110, 1), (0, 1)]
    let s := seqAt x.toNat
    s.atCommand k0 x 0x04 [(115, 5), (110, 5), (100, 1), (0, 64)] ⟨[cSrc1 x], [cDst x]⟩ = true ∧
      (s.sc 0 (cSrc1 x) + cImm x) % 2 ^ 64 % 8 ≠ 0 := by decide +kernel

theorem witness_st_outside : let x := cmd 0x05 [(110, 1), (105, 2), (0, 0)]
    let s := withSc (seqAt x.toNat) 1 (spaceSize 0)
    s.atCommand k0 x 0x05 [(110, 5), (105, 5), (100, 1), (0, 64)] ⟨[cSrc1 x, cSrc2 x], []⟩ = true ∧
      spaceSize 0 < (s.sc 0 (cSrc1 x) + cImm x) % 2 ^ 64 + 8 := by decide +kernel

theorem witness_sig : let x := cmd 0x20 [(112, 0xFF), (96, 4095), (80, 1)]
    (seqAt x.toNat).atCommand k0 x 0x20 [(112, 8), (111, 1), (96, 12), (80, 16)] ⟨[], []⟩ = true ∧ cN x ≠ 0 ∧
      (cf x 112 8 = 0xFF ∨ dieCode (cf x 112 8) = true) := by decide +kernel

/-- A signal of C-die 0 to the twin, whose node 1 is reached through port 35; the frame sent before it, if any. -/
def sigState (sent : Option (Nat × Nat)) : State :=
  (seqOn ((State.reset.setPortReg .SL_STATUS 35 (2 + 2 ^ 4)).setRg .ROUTE_ENT 0x60 0 1 (2 ^ 31 + 35))
    (word 0x20 [(112, 0xFF), (111, 1), (96, 4095), (80, 1)])).setSeq 0 { SeqS.init with sigSent := sent }

theorem witness_sig_twin : let x := cmd 0x20 [(112, 0xFF), (111, 1), (96, 4095), (80, 1)]
    let s := sigState none
    let t := sigState (some (35, 7))
    s.atCommand k0 x 0x20 [(112, 8), (111, 1), (96, 12), (80, 16)] ⟨[], []⟩ = true ∧ cN x ≠ 0 ∧ cf x 112 8 = 0xFF ∧
      cf x 111 1 = 1 ∧ (s.seq 0).sigSent = none ∧ s.frameTicket = some (35, 0) ∧
      t.atCommand k0 x 0x20 [(112, 8), (111, 1), (96, 12), (80, 16)] ⟨[], []⟩ = true ∧ (t.seq 0).sigSent = some (35, 7) ∧
      t.frameTaken 35 7 = true := by decide +kernel

theorem witness_wait : let x := cmd 0x21 [(96, 4), (80, 2)]
    let s := (seqAt x.toNat).setRg .VETCH_SEM 0 0 4 2
    s.atCommand k0 x 0x21 [(96, 12), (80, 16)] ⟨[], []⟩ = true ∧ cN x ≠ 0 ∧ (∀ w ∈ s.semWaits, w.who ≠ Waiter.seq 0) ∧
      (∀ w ∈ s.semWaits, ¬ (w.die = 0 ∧ w.sem = cSem x)) ∧ cN x ≤ s.sem 0 (cSem x) := by decide +kernel

theorem witness_wait_held : let x := cmd 0x21 [(96, 4), (80, 2)]
    let s := (seqAt x.toNat).setRg .VETCH_SEM 0 0 4 1
    s.atCommand k0 x 0x21 [(96, 12), (80, 16)] ⟨[], []⟩ = true ∧ cN x ≠ 0 ∧ (∀ w ∈ s.semWaits, w.who ≠ Waiter.seq 0) ∧
      s.sem 0 (cSem x) < cN x := by decide +kernel

/-- Context 3 of C-die 0 expects one arrival. -/
def barOn (s : State) : State := s.setRg .VETCH_BAR_CFG 0 0 3 0x201

theorem witness_bar : let x := cmd 0x22 [(104, 3), (103, 1)]
    let s := barOn (seqAt x.toNat)
    s.atCommand k0 x 0x22 [(104, 8), (103, 1)] ⟨[], []⟩ = true ∧ (s.seq 0).barWait = none ∧ (∀ h ∈ s.barHeld, h.core ≠ 0) ∧
      (s.arriveAt 0 (cf x 104 8)).2 = .counted 0 ∧ cf x 103 1 = 1 := by decide +kernel

theorem witness_bar_refused : let x := cmd 0x22 [(104, 3), (103, 0)]
    let s := seqAt x.toNat
    s.atCommand k0 x 0x22 [(104, 8), (103, 1)] ⟨[], []⟩ = true ∧ (s.seq 0).barWait = none ∧ (∀ h ∈ s.barHeld, h.core ≠ 0) ∧
      (s.arriveAt 0 (cf x 104 8)).2 = .refused := by decide +kernel

theorem witness_fence : let x := cmd 0x23 [(116, 15), (115, 1), (114, 1)]
    (seqAt x.toNat).atCommand k0 x 0x23 [(116, 4), (115, 1), (114, 1)] ⟨[], []⟩ = true := by decide +kernel

/-! ### Hoop, DMA, array, vector and Teasel commands -/

theorem witness_hoop_stage : let x := cmd 0x30 [(116, 15), (108, 6), (103, 1), (98, 2), (93, 3)]
    (seqAt x.toNat).atCommand k0 x 0x30 [(116, 4), (108, 8), (103, 5), (98, 5), (93, 5)] ⟨[cf x 103 5, cf x 98 5],
      [cf x 93 5]⟩ = true ∧ 1 ≤ cf x 108 8 ∧ cf x 108 8 ≤ 6 := by decide +kernel

theorem witness_hoop_ready : let x := cmd 0x31 [(116, 1)]
    (seqAt x.toNat).atCommand k0 x 0x31 [(116, 4)] ⟨[], []⟩ = true := by decide +kernel

/-- A Hoop slot opened once, with a decided instance 0: committed with epoch 5, or aborted. -/
def hoopDone (s : State) (committed : Bool) : State :=
  s.setHoop 1 { HoopS.init with opened := 1, hist := [(0, committed, 5)] }

def isDecided (a : HoopAns) (c : Bool) (e : Nat) : Bool :=
  match a with
  | .decided c' e' => c' == c && e' == e
  | .undecided _ => false

theorem witness_hoop_wait : let x := cmd 0x32 [(116, 1), (111, 2), (106, 3)]
    (let s := hoopDone (seqAt x.toNat) true
     s.atCommand k0 x 0x32 [(116, 4), (111, 5), (106, 5)] ⟨[], [cf x 111 5, cf x 106 5]⟩ = true ∧
       isDecided (s.hoopOutcome 0 1) true 5 = true) ∧
    (let s := hoopDone (seqAt x.toNat) false
     s.atCommand k0 x 0x32 [(116, 4), (111, 5), (106, 5)] ⟨[], [cf x 111 5, cf x 106 5]⟩ = true ∧
       isDecided (s.hoopOutcome 0 1) false 0 = true) ∧
    (let s := (seqAt x.toNat).hoopOpen 1
     s.atCommand k0 x 0x32 [(116, 4), (111, 5), (106, 5)] ⟨[], [cf x 111 5, cf x 106 5]⟩ = true ∧
       (match s.hoopOutcome 0 1 with
         | .undecided i => i == 0
         | .decided _ _ => false) = true) := by decide +kernel

/-- A fill descriptor (Table 6.3): OP 1, one line of 256 bytes to the scratchpad of core 0 at byte 0x1000. -/
def fillWord : Nat := 1 * 2 ^ 389 + 255 * 2 ^ 192 + (1 * 2 ^ 391 + 3 * 2 ^ 401 + 1 * 2 ^ 413) +
  (State.reset.spAddr 0 0x1000) * 2 ^ 64

theorem witness_dma_sub : let x := cmd 0x40 [(115, 0), (109, 2)]
    let s0 := withSc ((seqAt x.toNat).setRg .DMA_CH_CTRL 0 0 0 0) 2 64
    let s := put s0 (s0.spAddr 0 64) (leBytes 64 fillWord)
    s.atCommand k0 x 0x40 [(115, 5), (114, 1), (109, 5)] ⟨[cf x 109 5], []⟩ = true ∧ s.dmaMine 0 0 0 = true ∧
      (s.dma 0 0).mode ≠ 2 ∧ (s.dma 0 0).queue.length < 8 ∧ s.sc 0 2 + 64 ≤ spaceSize 0 ∧ s.spaceAddr 0 0 64 % 64 = 0 ∧
      s.populated (s.spaceAddr 0 0 64) 64 = true ∧
      gives (s.memRead (.core k0) (s.spaceAddr 0 0 64) 64) s (leBytes 64 fillWord) = true ∧
      s.dmaRefusal (BitVec.ofNat 512 (ofLeBytes (leBytes 64 fillWord))) = 0 := by decide +kernel

/-- A descriptor as a channel holds it. -/
def fillHeld (started : Bool) (done : Nat) : DmaDesc := ⟨BitVec.ofNat 512 fillWord, started, done⟩

theorem witness_dma_sub_full : let x := cmd 0x40 [(115, 0), (109, 2)]
    let s := (seqAt x.toNat).setDma 0 0 { DmaS.init with queue := List.replicate 8 (fillHeld false 0) }
    s.atCommand k0 x 0x40 [(115, 5), (114, 1), (109, 5)] ⟨[cf x 109 5], []⟩ = true ∧ s.dmaMine 0 0 0 = true ∧
      (s.dma 0 0).mode ≠ 2 ∧ 8 ≤ (s.dma 0 0).queue.length := by decide +kernel

theorem witness_cload : let x := cmd 0x41 [(115, 2), (100, 16382), (86, 1)]
    let s := withSc (seqAt x.toNat) 2 0x200
    s.atCommand k0 x 0x41 [(115, 5), (100, 14), (86, 14)] ⟨[cf x 115 5], []⟩ = true ∧
      cf x 100 14 + (cf x 86 14 + 1) ≤ 16384 ∧ s.pc 0 < cf x 100 14 ∧ s.sc 0 2 % 16 = 0 ∧
      s.sc 0 2 + 16 * (cf x 86 14 + 1) ≤ spSize ∧ (s.seq 0).cload = 0 ∧
      gives (s.spRead 0 (s.sc 0 2) 32) s (List.replicate 32 0) = true := by decide +kernel

/-- A 2 by 2 FP32 pass on array 0: M, K and N in bytes of its word, stationary from R1, streaming from R2, result to R4. -/
def passWord (stat : Nat) : BitVec 128 :=
  cmd 0x50 [(106, stat), (86, 1), (80, 1), (75, 1), (57, 1), (52, 2), (47, 3), (42, 4)]

/-- An address pair: base and row stride (R141). -/
def pairAt (base stride : Nat) : Nat := base + stride * 2 ^ 32

def passState (stat : Nat) : State :=
  let s := withSc (seqAt (passWord stat).toNat) 1 (pairAt 0x1000 8)
  withSc (withSc s 2 (pairAt 0x2000 8)) 4 (pairAt 0x3000 8)

theorem witness_pass : let x := passWord 0
    let s := passState 0
    let f := matFields x
    let sc (i : Nat) : BitVec 64 := BitVec.ofNat 64 (s.sc 0 i)
    s.atCommand k0 x 0x50 [(42, 78)] ⟨(if f.stat = 2 then [] else [f.ra]) ++ [f.rb] ++ (if f.acc = 2 then [f.rc] else []) ++
        (if f.dfmt = 7 then [] else [f.rd]), []⟩ = true ∧ s.arrFaulted 0 f.array = false ∧
      matParamsBad (s.arr 0 f.array) f (sc f.ra) (sc f.rb) (sc f.rc) (sc f.rd) = false ∧ s.snoopRefused 0 f = false := by
  decide +kernel

/-- Stream descriptor of one FP32 element (Table 4.4). -/
def oneFp32 (base : Nat) : Nat := 1 * 2 ^ 160 + 1 * 2 ^ 144 + base

/-- Descriptor slots 0 and 1 hold one element each; chain slot 0 copies A to D (MOV, FP32). -/
def vecState (s : State) : State :=
  let slot (z : State) (i v : Nat) : State :=
    (List.range 4).foldl (fun y w => y.setRg .VE_SDESC 0 0 (4 * i + w) (bits v (64 * w) 64)) z
  (slot (slot s 0 (oneFp32 0x100)) 1 (oneFp32 0x200)).setRg .VE_CHAIN 0 0 0 (1 * 2 ^ 26 + 8 * 2 ^ 22 + 8 * 2 ^ 18)

def runWord : BitVec 128 :=
  cmd 0x60 [(109, 0), (103, 63), (97, 1), (91, 63), (85, 63), (79, 63), (74, 1), (69, 1), (50, 5)]

theorem witness_vec_run : let x := runWord
    let s := vecState (seqAt x.toNat)
    let v := vecFields x
    s.atCommand k0 x 0x60 [(37, 83)] ⟨[v.sca, v.scb], [v.sumreg]⟩ = true ∧ v.rop ≤ 6 ∧ v.rsrc ≤ 9 ∧
      s.vecFaulted 0 = false ∧ s.vecRefused 0 x = false := by decide +kernel

theorem witness_lds : let x := cmd 0x61 [(115, 31), (109, 2)]
    let s := withSc (seqAt x.toNat) 2 0x400
    s.atCommand k0 x 0x61 [(115, 5), (114, 1), (109, 5)] ⟨[cf x 109 5], []⟩ = true ∧ s.vecFaulted 0 = false ∧
      (∀ w ∈ s.vecWaiting 0, cf x 115 5 ∉ [w.a, w.b, w.d, w.c0, w.c1, w.e]) ∧
      s.spaceRead 0 (cf x 114 1) (s.sc 0 (cf x 109 5)) 32 32 = (s, some (List.replicate 32 0)) := by decide +kernel

theorem witness_ldc : let x := cmd 0x62 [(115, 31), (109, 2)]
    let s := withSc (seqAt x.toNat) 2 0x400
    s.atCommand k0 x 0x62 [(115, 5), (114, 1), (109, 5)] ⟨[cf x 109 5], []⟩ = true ∧ s.vecFaulted 0 = false ∧
      (∀ w ∈ s.vecWaiting 0, w.chain ≠ cf x 115 5) ∧
      s.spaceRead 0 (cf x 114 1) (s.sc 0 (cf x 109 5)) 64 64 = (s, some (List.replicate 64 0)) := by decide +kernel

theorem witness_fill : let x := cmd 0x63 [(115, 2)]
    let s := seqAt x.toNat
    s.atCommand k0 x 0x63 [(115, 5)] ⟨[cDst x], []⟩ = true ∧ s.vecFaulted 0 = false ∧ s.vecWaiting 0 = [] := by decide +kernel

theorem witness_tea_set :
    (let x := cmd 0x70 [(116, 4), (111, 2)]
     let s := seqAt x.toNat
     s.atCommand k0 x 0x70 [(116, 4), (111, 5)] ⟨[cf x 111 5], []⟩ = true ∧ s.teaInv 0 = false ∧
       s.teaBad 0 (cf x 116 4) (s.sc 0 (cf x 111 5)) = false) ∧
    (let x := cmd 0x70 [(116, 0), (111, 2)]
     let s := seqAt x.toNat
     s.atCommand k0 x 0x70 [(116, 4), (111, 5)] ⟨[cf x 111 5], []⟩ = true ∧ s.teaInv 0 = false ∧
       s.teaBad 0 (cf x 116 4) (s.sc 0 (cf x 111 5)) = true) := by decide +kernel

theorem witness_tea_set_block :
    (let x := cmd 0x70 [(116, 6), (111, 2)]
     let s := seqAt x.toNat
     s.atCommand k0 x 0x70 [(116, 4), (111, 5)] ⟨[cf x 111 5], []⟩ = true ∧ s.teaInv 0 = false ∧
       s.teaBad 0 (cf x 116 4) (s.sc 0 (cf x 111 5)) = false) ∧
    (let x := cmd 0x70 [(116, 5), (111, 2)]
     let s := withSc (seqAt x.toNat) 2 (257 * 2 ^ 16)
     s.atCommand k0 x 0x70 [(116, 4), (111, 5)] ⟨[cf x 111 5], []⟩ = true ∧ s.teaInv 0 = false ∧
       s.teaBad 0 (cf x 116 4) (s.sc 0 (cf x 111 5)) = true) := by decide +kernel

/-- Teasel configured with 180 slots of which the flush takes the last. -/
def flushCfg (s : State) : State :=
  (s.setRg .TEA_CFG 0 0 4 (180 * 2 ^ 48)).setRg .TEA_CFG 0 0 7 (179 + 1 * 2 ^ 16)

theorem witness_tea_flush : let x := cmd 0x71 [(115, 2), (74, 1), (62, 4095)]
    let s := withSc (flushCfg (seqAt x.toNat)) 2 (State.reset.boardAddr 1 256)
    s.atCommand k0 x 0x71 [(115, 5), (74, 1), (62, 12)] ⟨[cDst x], []⟩ = true ∧
      s.flushRefused 0 (s.sc 0 (cDst x)) = false := by decide +kernel

theorem witness_halt : let x := cmd 0x0F []
    let s := seqAt x.toNat
    s.atCommand k0 x 0x0F [] ⟨[], []⟩ = true ∧ ∀ i, i < 32 → s.pendingSum 0 i = false := by decide +kernel

theorem witness_refusals :
    (let x := cmd 0xFF []
     let s := seqAt x.toNat
     s.seqRuns 0 = true ∧ s.fetch 0 = (s, some x) ∧ opcodeListed (opcodeOf x) = false) ∧
    (let x := cmd 0x01 [(64, 1)]
     let s := seqAt x.toNat
     s.seqRuns 0 = true ∧ s.fetch 0 = (s, some x) ∧ opcodeOf x = 0x01 ∧ reservedSet x [(115, 5), (0, 64)] = true) ∧
    (let x := cmd 0x10 [(14, 1)]
     let s := seqAt x.toNat
     s.seqRuns 0 = true ∧ s.fetch 0 = (s, some x) ∧ opcodeOf x = 0x10 ∧ reservedSet x [(0, 14)] = true) ∧
    State.reset.seqRuns 0 = false := by decide +kernel

theorem witness_command_fault : (255 : Nat) < 256 ∧ (15 : Nat) < 16 ∧ State.reset.pc 0 ≤ 16383 := by decide +kernel

/-! ### Units of a core -/

/-- The pass of `passWord` as the array holds it. -/
def passOf (stat bank : Nat) (delivered : Bool) : Pass :=
  ⟨passWord stat, BitVec.ofNat 64 (pairAt 0x1000 8), BitVec.ofNat 64 (pairAt 0x2000 8), 0, BitVec.ofNat 64 (pairAt 0x3000 8),
    bank, some (State.reset.arith 0), delivered, none, 0⟩

def arrWith (x : ArrayS) : State := State.reset.setArr 0 0 x

theorem witness_pass_start :
    (let s := arrWith { ArrayS.init with queue := [passOf 2 0 false] }
     s.arrFaulted 0 0 = false ∧ (matFields (passOf 2 0 false).word).part = 0 ∧ (matFields (passOf 2 0 false).word).stat = 2 ∧
       ((s.arr 0 0).prepare (matFields (passOf 2 0 false).word) (s.arith 0).strict).p0.inflight.length < 2) ∧
    (let p := passOf 0 0 false
     let s := arrWith { ArrayS.init with queue := [p] }
     let f := matFields p.word
     let q := ((s.arr 0 0).prepare f (s.arith 0).strict).part 0
     s.arrFaulted 0 0 = false ∧ f.part = 0 ∧ q.inflight.length < 2 ∧ f.stat ≠ 2 ∧ q.loadHeld = false ∧
       (s.readRuns 0 (pairBase p.sa) (pairStride p.sa) f.statRuns.2 f.statRuns.1).1 = s ∧
       (s.readRuns 0 (pairBase p.sa) (pairStride p.sa) f.statRuns.2 f.statRuns.1).2.isSome = true) := by decide +kernel

theorem witness_load_release :
    let p := passOf 0 0 false
    let x : ArrayS := { ArrayS.init with queue := [p], p0 := { PartS.init with inflight := [p] } }
    (matFields p.word).part = 0 ∧ (matFields p.word).stat ≠ 2 ∧ ((arrWith x).arr 0 0).p0.loadHeld = true := by decide +kernel

/-- One pass in flight, its tile in bank 0. -/
def flyPart : PartS := ⟨[passOf 0 0 false], [[0, 0], [0, 0]], [], some 0, true, true⟩

def flyState : State := arrWith { ArrayS.init with p0 := flyPart }

theorem witness_pass_complete :
    let s := flyState
    let q := (s.arr 0 0).part 0
    ∃ p rest, q.inflight = p :: rest ∧ (s.arr 0 0).olderFirst p = false ∧ p.captured = true ∧
      (s.runRows 0 0 p (p.arith.getD (s.arith 0)) (q.tileOf (matFields p.word) p.bank) (matFields p.word).m 0).2.1 = none :=
  ⟨passOf 0 0 false, [], by decide +kernel⟩

theorem witness_array_fault : ((flyState.arr 0 0).part 0).inflight = [passOf 0 0 false] ∧
    (flyState.arr 0 0).oldest = some (0, passOf 0 0 false) ∧ (flyState.arr 0 0).olderFirst (passOf 0 0 false) = false := by
  decide +kernel

/-- The command of `runWord` as the engine holds it. -/
def vcmd (started : Bool) : VecCmd :=
  { word := runWord, s0 := 0, s1 := 0, started := started, chain := [1 * 2 ^ 26 + 8 * 2 ^ 22 + 8 * 2 ^ 18] ++ List.replicate 15 0,
    descs := [some (oneFp32 0x100), none, some (oneFp32 0x200), none, none, none], arith := State.reset.arith 0, fill := 0 }

def vecWith (started stop : Bool) : State := (vecState .reset).setVec 0 ⟨[vcmd started], stop⟩

theorem witness_vec_start : let s := vecWith false false
    s.vecFaulted 0 = false ∧ (s.vec 0).stopAt = false ∧ s.vecHeld 0 = false ∧
      splitStarted (s.vec 0).queue = ([], some (vcmd false, [])) := by decide +kernel

theorem witness_vec_complete : let s := vecWith true false
    let v := VecRun.of (vcmd true) s.freshCtr
    (s.vec 0).queue = [vcmd true] ∧ (s.vec 0).stopAt = false ∧
      (s.freshVal.2.vecRows 0 v v.rows 0 (0, 0, 0, 0)).2.2 = none := by decide +kernel

/-- A command of two rows, with the request to stop. -/
def twoRows : State :=
  let d := { vcmd true with descs := [some (oneFp32 0x100 + 2 ^ 160), none, some (oneFp32 0x200 + 2 ^ 160), none, none, none] }
  (vecState .reset).setVec 0 ⟨[d], true⟩

theorem witness_vec_stop : let s := vecWith true true
    let v := VecRun.of (vcmd true) s.freshCtr
    let z := twoRows
    (s.vec 0).queue = [vcmd true] ∧ (s.vec 0).stopAt = true ∧ v.rows ≤ 0 + 1 ∧
      (s.freshVal.2.vecRows 0 v (Nat.min (0 + 1) v.rows) 0 (0, 0, 0, 0)).2.2 = none ∧
      (match (z.vec 0).queue with
        | d :: _ => let w := VecRun.of d z.freshCtr
          d.started && decide (0 + 1 < w.rows) && (z.freshVal.2.vecRows 0 w (Nat.min (0 + 1) w.rows) 0 (0, 0, 0, 0)).2.2.isNone
        | [] => false) = true := by decide +kernel

/-- Panel and slots of Teasel as its chapter lays them out: one input panel of 4 rows of 256 bytes at 0x10000, slots from 0x20000. -/
def teaCfgd (s : State) : State :=
  (s.setRg .TEA_CFG 0 0 2 (4 * 2 ^ 48 + 256 * 2 ^ 32 + 0x10000)).setRg .TEA_CFG 0 0 4 (180 * 2 ^ 48 + 0x20000)

/-- A sweep of the input side in slot 0, one BF16 pass of it captured. -/
def sweepOf (updating : Bool) : Sweep := ⟨0, 0, 0, 2, 2, 0, some (2, 0, 1, 2), 2, 0, 1, 1, 0, updating, 0⟩

def snoopPass : Pass := { passOf 0 0 false with snoop := some ⟨1, 0, 1, 0, 1, 2, 0, []⟩ }

theorem witness_capture :
    let s := (teaCfgd .reset).setArr 0 0 { ArrayS.init with p0 := { PartS.init with inflight := [snoopPass] } }
    let q := (s.arr 0 0).part 0
    let n : Snoop := ⟨1, 0, 1, 0, 1, 2, 0, []⟩
    let f := matFields snoopPass.word
    let pr := s.teaCfg 0 2
    firstUncaptured q.inflight 0 = some (0, snoopPass, n) ∧ (s.tea 0).captureWaits f.side n.panel n.sweep = false ∧
      gives (s.streamRow 0 snoopPass (firstSample n.tokBase n.sample + n.captured * n.sample)) s (List.replicate 8 0) = true ∧
      (s.spWrite 0 (bits pr 0 25 + (n.panel * bits pr 48 16 + n.captured) * bits pr 32 16 + n.cursor * f.sf.size)
        (List.replicate 8 0)).2 = none := by decide +kernel

/-- Slot 0 with an empty header; the sweep given closed. -/
def sweepState (updating : Bool) : State := (teaCfgd .reset).setTea 0 { TeaS.init with closed := [sweepOf updating], nextId := 1 }

theorem witness_update : let s := sweepState false
    let w := sweepOf false
    s.stopping = false ∧ (s.tea 0).closed = [w] ∧ w.updating = false ∧ w.passes ≤ w.passesDone ∧ (s.tea 0).updateWaits w = false ∧
      (if w.side = 0 then some 0 else (s.brineExp w.step).map (2 * ·)) = some 0 ∧
      gives (s.spRead 0 (s.slotOff 0 w.slot) 256) s (List.replicate 256 0) = true ∧
      bits (ofLeBytes (List.replicate 256 0)) 128 64 = 0 := by decide +kernel

theorem witness_update_complete :
    let s := put (sweepState true) ((sweepState true).spAddr 0 (0x20000 + 12)) [1]
    let w := sweepOf true
    let hd := List.replicate 12 0 ++ [1] ++ List.replicate 35 0
    (s.tea 0).closed = [w] ∧ gives (s.spRead 0 (s.slotOff 0 w.slot) 48) s hd = true ∧ bits (ofLeBytes hd) 96 8 ≠ 0 ∧
      (s.spWrite 0 (s.slotOff 0 w.slot + 12) (List.replicate 36 1)).2 = none := by decide +kernel

theorem witness_flush_complete :
    let g : Flush := ⟨State.reset.boardAddr 1 0, 0, 0, true, 4095, 0, false⟩
    let s := (teaCfgd .reset).setTea 0 { TeaS.init with flushes := [g] }
    s.stopping = false ∧ (s.tea 0).flushes = [g] ∧ g.posted = false ∧ (∀ w ∈ (s.tea 0).closed, g.mark ≤ w.closedAt) ∧
      s.guarded g.addr (slotBytes * g.count) = false ∧ (s.freshVal.2.flushSlots 0 g g.count).2 = none ∧
      (s.freshVal.2.flushSlots 0 g g.count).1.flushAsked 0 = false := by decide +kernel

theorem witness_idle_units : (State.reset.arr 0 0).queue = [] ∧ (State.reset.arr 0 0).flying = [] ∧
    (State.reset.vec 0).queue = [] ∧ (State.reset.tea 0).closed = [] ∧ (State.reset.tea 0).flushes = [] := by decide +kernel

/-! ### Register writes, DMA, memory -/

theorem witness_reaches : State.reset.leases.fencedEast ≠ some false ∧ State.reset.reaches .mgmt .VAT_PROG_TO 0x53 0 0 (2 ^ 32 - 1) = true ∧
    State.reset.reaches (.unit (.c 0)) .JOB_WD 0x60 0 0 0 = true ∧
    State.reset.reaches (.cc false 15 1) .ARITH_STICKY 0x3F 0 0 1 = true ∧
    State.reset.reaches .twin .DIE_FAULT 0x4B 0 0 (2 ^ 64 - 1) = true ∧
    State.reset.reaches .mgmt .PWR_CFG 0x60 0 0 0 = true := by decide +kernel

theorem witness_stale : let s := State.reset.setRg .DIE_LEASE 0x53 0 0 6
    let l := loc .VAT_PROG_TO 0x53 0 0
    l < 2 ^ 32 ∧ s.resolve l = l ∧ badAccess l (Reg.row .VAT_PROG_TO).w64 = false ∧ s.unserved l = false ∧
      s.leases.fencedEast ≠ some false ∧ s.watcherBlock false l = false ∧ s.leaseDie l = some 0x53 ∧
      (5 : BitVec 64).toNat < s.rg .DIE_LEASE 0x53 0 0 := by decide +kernel

/-- A fill descriptor at scratchpad byte 64 of core 0. -/
def descState : State := put .reset (State.reset.spAddr 0 64) (leBytes 64 fillWord)

theorem witness_dma_ch_submit : let s := descState
    let a := State.reset.spAddr 0 64
    s.reaches .mgmt .DMA_CH_SUBMIT 0x53 0 15 a = true ∧ s.dmaMine 0x53 15 16 = true ∧ (s.dma 0x53 15).mode ≠ 2 ∧
      (s.dma 0x53 15).queue.length < 8 ∧ bits a 0 44 = a ∧ s.isOwn a = true ∧ a % 64 = 0 ∧ s.populated a 64 = true ∧
      gives (s.memRead (.dma (.x 3)) a 64) s (leBytes 64 fillWord) = true ∧
      s.dmaRefusal (BitVec.ofNat 512 (ofLeBytes (leBytes 64 fillWord))) = 0 := by decide +kernel

def dmaWith (d : DmaDesc) (prog : Nat) : State := State.reset.setDma 0 31 { DmaS.init with queue := [d], progLt := prog }

theorem witness_dma_start : let q := (dmaWith (fillHeld false 0) 0).dma 0 31
    q.queue = [fillHeld false 0] ∧ (fillHeld false 0).started = false ∧ q.mode ≠ 2 ∧ q.mode ≠ 4 := by decide +kernel

/-- A copy of one line of 256 bytes within the scratchpad of core 0, from byte 0x2000 to byte 0x1000. -/
def copyHeld : DmaDesc :=
  ⟨BitVec.ofNat 512 (fillWord - 1 * 2 ^ 389 + State.reset.spAddr 0 0x2000 + 255 * 2 ^ 128), true, 0⟩

/-- Whether the channel that the engine grants is 31, its burst touches this module only, and its bytes are stored. -/
def burstRuns (d : DmaDesc) : Bool :=
  let s := dmaWith d 0
  match s.readyBurst 0 31, s.dmaChoice 0 with
  | some (f, b), some (ch, _) =>
    let u := b.units f.swap
    let r := if f.op = 1 then (s, Except.ok (fillBytes f b.dstOff b.n)) else
      match s.memRead (.dma (.c 0)) (b.src.toNat - u.1) u.2 with
      | (t, .ok raw) => (t, Except.ok (b.cut f.swap raw))
      | (t, .error e) => (t, Except.error e)
    ch == 31 && !outOfMemory b.dst b.n && s.isOwn b.dst.toNat &&
      (f.op == 1 || (!outOfMemory b.src b.n && s.isOwn (b.src.toNat - u.1))) &&
      (match r with
        | (t, .ok bs) =>
          let o := t.overlapFree f b bs
          let w := o.1.memWrite (.dma (.c 0)) b.dst.toNat o.2
          w.2.isNone && (w.1.dma 0 31).queue == [d]
        | _ => false)
  | _, _ => false

theorem witness_dma_burst : burstRuns (fillHeld true 0) = true ∧ burstRuns copyHeld = true := by decide +kernel

theorem witness_dma_complete : let s := dmaWith (fillHeld true 256) 0
    let q := s.dma 0 31
    q.queue = [fillHeld true 256] ∧ q.mode = 0 ∧ (dmaFields (fillHeld true 256).word).total ≤ 256 := by decide +kernel

theorem witness_dma_timeout : let s := dmaWith (fillHeld true 0) 65535
    (s.dma 0 31).cur.isSome = true ∧ (s.dma 0 31).mode = 0 ∧ s.fld .DMA_CFG 0 0 0 0 16 ≤ (s.dma 0 31).progLt := by
  decide +kernel

theorem witness_dma_fault : ((dmaWith (fillHeld true 0) 0).dma 0 31).cur = some (fillHeld true 0) ∧
    (State.reset.dma 0 31).cur = none := by decide +kernel

theorem witness_tier_write : let s := State.reset
    let a := s.boardAddr 0 0x2000000FF
    s.job = none ∧ s.sidecar = [] ∧ regionOf a < 2 ∧ s.isOwn a = true ∧ s.guarded a 1 = false ∧ s.populated a 1 = true ∧
      s.writeRefused .twin a 1 = false := by decide +kernel

theorem witness_tier_read : let s := State.reset
    let b := s.boardAddr 1 256
    regionOf b < 2 ∧ s.isOwn b = true ∧ s.populated b 256 = true ∧
      (s.tierServe (regionOf b) (offOf b)).isSome = true ∧ 2 ≤ regionOf (s.boardAddr 2 0) := by decide +kernel

theorem witness_sram_read : let s := State.reset
    let a := s.spAddr 0 64
    s.ecc = [] ∧ s.populated a 64 = true ∧ regionOf a = 2 ∧ sramForbidden (.core k0) a 64 = false ∧
      (sramLoc (offOf (a / 8 * 8))).isSome = true ∧ regionOf (s.boardAddr 1 0) ≠ 2 := by decide +kernel

theorem witness_sram_write : let s := State.reset
    let a := s.spAddr 0 64
    s.populated a 64 = true ∧ regionOf a = 2 ∧ sramForbidden (.core k0) a 64 = false ∧ s.writeRefused (.core k0) a 64 = false := by
  decide +kernel

/-- The fast tier's reserve lines are there. -/
def reserveState : State := State.reset.setG (tierReg 0) (setBits (State.reset.g (tierReg 0)) 32 1 1)

theorem witness_retire : let s := reserveState
    s.reaches .mgmt .MC_RETIRE 0x4B 0 0 15 = true ∧ bits 15 0 5 < 24 ∧ bit (s.g (tierReg 0)) 32 = true ∧
      (∀ c ∈ tierLocals 0, s.chState 11 c = 0) := by decide +kernel

theorem witness_retire_refused : let s := reserveState
    s.reaches .mgmt .MC_RETIRE 0x4B 0 0 24 = true ∧ 24 ≤ bits 24 0 5 := by decide +kernel

def migState (line : Nat) : State := { State.reset with migs := [⟨11, 0, 15, line, false⟩] }

theorem witness_migration :
    (let s := migState 0
     s.migOf 11 0 = some ⟨11, 0, 15, 0, false⟩ ∧ s.badLine 11 0 15 0 = none ∧ 0 + 1 < s.primaryLines 0) ∧
    (let n := State.reset.primaryLines 0 - 1
     let s := migState n
     s.migOf 11 0 = some ⟨11, 0, 15, n, false⟩ ∧ s.badLine 11 0 15 n = none ∧ s.primaryLines 0 ≤ n + 1) := by decide +kernel

theorem witness_cc_invalidate : State.reset.reaches (.cc false 0 1) .CC_CACHE 0x50 0 0 (1 * 2 ^ 62 + 0x1000) = true := by
  decide +kernel

/-- A dirty line of the east half's caches. -/
def lineState : State := State.reset.ccHold true 0x1000 (List.replicate 64 0xAB) true

theorem witness_cc_clean : let s := lineState
    s.reaches .mgmt .CC_CACHE 0x52 0 0 (2 * 2 ^ 62 + 0x1000) = true ∧ s.reaches .mgmt .CC_CACHE 0x52 0 0 (3 * 2 ^ 62 + 0x1000) = true ∧
      s.ccLine true 0x1000 = some (List.replicate 64 0xAB, true) ∧ s.guarded 0x1000 64 = false := by decide +kernel

/-! ### Vetch and Hoop -/

theorem witness_signal : let s := State.reset.setRg .VETCH_SEM 0x53 0 4095 0xFFFF0000
    s.sem 0x53 4095 + (0xFFFF : BitVec 16).toNat < 2 ^ 32 ∧
      2 ^ 32 ≤ (State.reset.setRg .VETCH_SEM 0x53 0 4095 0xFFFF0001).sem 0x53 4095 + (0xFFFF : BitVec 16).toNat := by
  decide +kernel

theorem witness_signal_write : State.reset.reaches .mgmt .VETCH_SIGNAL 0x53 0 0 7 = true ∧ bits 7 32 16 = 0 ∧
    State.reset.reaches (.node 3) .VETCH_SIGNAL 0x50 0 0 (2 ^ 32) = true ∧ bits (2 ^ 32) 32 16 ≠ 0 := by decide +kernel

theorem witness_waits : let w : SemWait := ⟨0, 5, 2, .seq 3, 0⟩
    let s : State := { State.reset with semWaits := [⟨0, 4, 1, .auto, 0⟩, w, ⟨0, 5, 1, .seq 4, 0⟩] }
    let on (w : SemWait) : Bool := w.die == 0 && w.sem == 5
    s.semWaits.find? on = some w ∧ w.n ≤ s.sem 0 5 + (2 : BitVec 16).toNat ∧ s.sem 0 5 + (1 : BitVec 16).toNat < w.n := by
  decide +kernel

theorem witness_arrive : let s := barOn .reset
    s.reaches .mgmt .VETCH_ARRIVE 0 0 0 3 = true ∧ (s.arriveAt 0 (bits 3 0 8)).2 = .counted 0 ∧
      State.reset.reaches .mgmt .VETCH_ARRIVE 0 0 0 3 = true ∧ (State.reset.arriveAt 0 (bits 3 0 8)).2 = .refused := by
  decide +kernel

theorem witness_barrier : let s := barOn .reset
    let done := s.setRg .VETCH_BAR_STATUS 0 0 3 1
    let full := s.setRg .VETCH_BAR_STATUS 0 0 3 0x101
    State.reset.barExpect 0 3 = 0 ∧ bits (s.rg .VETCH_BAR_STATUS 0 0 3) 0 8 < s.barExpect 0 3 ∧
      (0 < done.barExpect 0 3 ∧ done.barExpect 0 3 ≤ bits (done.rg .VETCH_BAR_STATUS 0 0 3) 0 8 ∧
        bits (done.rg .VETCH_BAR_STATUS 0 0 3) 8 8 < done.barExpect 0 3) ∧
      (full.barExpect 0 3 ≤ bits (full.rg .VETCH_BAR_STATUS 0 0 3) 0 8 ∧
        full.barExpect 0 3 ≤ bits (full.rg .VETCH_BAR_STATUS 0 0 3) 8 8) := by decide +kernel

theorem witness_messages :
    ({ State.reset with vmsgs := [.complete 1 255 7, .arrive 0 255 7 1 2] } : State).vmsgs =
      [.complete 1 255 7] ++ VMsg.arrive (Die.c 0).code (255 : Fin 256).val (7 : BitVec 32).toNat (1 : BitVec 16).toNat
        (2 : BitVec 8).toNat :: [] ∧
    ({ State.reset with vmsgs := [.complete 0 3 7] } : State).vmsgs =
      [] ++ VMsg.complete (Die.c 0).code (3 : Fin 256).val (7 : BitVec 32).toNat :: [] ∧
    ({ State.reset with vmsgs := [.advance 0 9 0 0 []] } : State).vmsgs =
      [] ++ VMsg.advance (Die.c 0).code (9 : BitVec 64).toNat 0 0 [] :: [] := by decide

/-- Port 35 UP with its synchronisation lane in use, nodes 0 to 2 admitted. -/
def portUp (p : Nat) : State := (State.reset.setPortReg .SL_STATUS p (2 + 2 ^ 4)).setRg .SL_ADMIT 0x60 0 0 7

theorem witness_lane : let s := portUp 35
    let r : FRx := ⟨35, 0, none, false, 0, 0⟩
    let s1 := s.frameAcks 35 none false
    let x := s1.port 35
    let s2 := s1.acceptFrame 35
    s.portState 35 = 2 ∧ bit (s.portReg .SL_STATUS 35) 4 = true ∧ r.seq.toNat = x.fRx ∧ s2.admitted 0 = true ∧
      s2.fenced 0 = false ∧ r.dst.toNat = s2.node := by decide +kernel

theorem witness_epoch_bound : 2 ^ 64 - 1 < 2 ^ 64 := by decide

theorem witness_auto :
    (let s := (State.reset.setRg .VETCH_AUTO 0x40 0 0 (2 ^ 31)).setRg .VETCH_BAR_CFG 0x40 0 0 0x301
     DieSet.mx.has 0x40 = true ∧ bit (s.rg .VETCH_AUTO 0x40 0 0) 31 = true ∧ bit (s.rg .VETCH_AUTO 0x40 0 0) 30 = false ∧
       Sparse.get (fun _ => 0) s.autoGen 0x40 ≠ s.barGen 0x40 0 + 1 ∧ (s.arriveAt 0x40 0).2 = .counted 0) ∧
    (let w : SemWait := ⟨0x53, 5, 2, .auto, 1⟩
     let s : State := { State.reset.setRg .VETCH_SEM_TO 0x53 0 0 1 with semWaits := [w] }
     s.semWaits.find? (fun w => w.die == 0x53 && w.who == Waiter.auto) = some w ∧ s.rg .VETCH_SEM_TO 0x53 0 0 ≠ 0 ∧
       s.rg .VETCH_SEM_TO 0x53 0 0 ≤ w.lt) := by decide +kernel

/-- Core 0 held, with timeouts of one tick and one tick waited. -/
def heldSeq (q : SeqS) : State :=
  (((State.reset.setRg .SEQ_STATUS 0 0 0 2).setRg .VETCH_SEM_TO 0 0 0 1).setRg .VETCH_BAR_TO 0 0 0 1).setSeq 0 q

theorem witness_wait_timeouts :
    (let s : State := { heldSeq { SeqS.init with waitLt := 1 } with semWaits := [⟨0, 5, 2, .seq 0, 1⟩] }
     s.seqState 0 = 2 ∧ (∃ w ∈ s.semWaits, w.who = Waiter.seq 0) ∧ s.rg .VETCH_SEM_TO 0 0 0 ≠ 0 ∧
       s.rg .VETCH_SEM_TO 0 0 0 ≤ (s.seq 0).waitLt) ∧
    (let s := heldSeq { SeqS.init with waitLt := 1, barWait := some (3, 0) }
     s.seqState 0 = 2 ∧ (s.seq 0).barWait ≠ none ∧ s.rg .VETCH_BAR_TO 0 0 0 ≠ 0 ∧
       s.rg .VETCH_BAR_TO 0 0 0 ≤ (s.seq 0).waitLt) := by decide +kernel

/-- Hoop slot 15 open for more ticks than its limit, with one declaration expected. -/
def openSlot : State :=
  let s := (State.reset.setRg .HOOP_CFG 0x60 0 15 1).hoopOpen 15
  s.setHoop 15 { s.hoop 15 with ticks := 2 ^ 32 }

theorem witness_hoop_timeout : let s := openSlot
    s.hoopUndecided 15 = true ∧ s.hoopSt 15 28 1 = 0 ∧ s.rg .HOOP_TO 0x60 0 15 ≤ (s.hoop 15).ticks := by decide +kernel

theorem witness_hoop_writes : let s := openSlot
    State.reset.reaches .mgmt .HOOP_CTRL 0x60 0 15 1 = true ∧ bit 1 1 = false ∧ State.reset.hoopUndecided 15 = false ∧
      s.reaches .mgmt .HOOP_CTRL 0x60 0 15 1 = true ∧ s.hoopUndecided 15 = true ∧
      s.reaches .mgmt .HOOP_CTRL 0x60 0 15 2 = true ∧ bit 2 0 = false ∧
      s.reaches .mgmt .HOOP_STG_CMD 0x60 0 15 0x10F = true ∧ bit 0x10F 16 = false ∧ 1 ≤ bits 0x10F 8 8 ∧ bits 0x10F 8 8 ≤ 6 ∧
      s.reaches .mgmt .HOOP_STG_CMD 0x60 0 15 0xFF0F = true ∧ 6 < bits 0xFF0F 8 8 ∧
      s.reaches .mgmt .HOOP_STG_CMD 0x60 0 15 0x1000F = true ∧ bits 0x1000F 8 8 = 0 := by decide +kernel

theorem witness_hoop_items : let s := openSlot
    s.hoopUndecided 15 = true ∧ s.hoopSt 15 28 1 = 0 ∧ s.hoopSt 15 0 9 < 256 ∧ s.itemOk 15 4 0 1 = true ∧
      s.hoopSt 15 9 11 < 2047 ∧ State.reset.hoopUndecided 15 = false := by decide +kernel

/-! ### Rennet and Press -/

/-- Engine 3 of M0 in a state, with a list of one entry at staging byte 0. -/
def renWith (st : Nat) (entry : List Nat) : State :=
  let s := ((State.reset.setRg .RN_LIST 0x40 0 3 (1 * 2 ^ 32)).setRg .RN_BUF_LEN 0x40 0 3 (2 ^ 21)).setRg .RN_STATUS 0x40 0 3 st
  let s := (s.setRg .RN_BUF0 0x40 0 3 (s.boardAddr 0 0x200000000)).setRg .RN_BUF1 0x40 0 3 (s.boardAddr 0 0x200200000)
  put s (s.rnEntryAddr 0 3 0) entry

theorem witness_refresh : let s : State := { renWith 1 [] with grants := [(0x40, .rennet 3)] }
    s.renState 0 3 = 1 ∧ s.rnCount 0 3 ≠ 0 ∧ s.granted 0x40 (.rennet 3) = true := by decide +kernel

/-- An LDLT entry that solves (Table 9.2) and its problem: one block row, no right-hand side. -/
def ldltState (st : Nat) : State :=
  let s := renWith st ([3, 0, 0, 1, 0, 0, 0, 0] ++ leBytes 8 (State.reset.stAddr 0 0x1000))
  put s (s.stAddr 0 0x1000) ([1, 0, 0, 0, 0, 0, 0, 0] ++ leBytes 8 (s.stAddr 0 0x2000) ++ leBytes 8 (s.stAddr 0 0x4000) ++
    leBytes 8 0 ++ leBytes 8 (2 ^ 34))

theorem witness_intake : let s := ldltState 2
    s.renState 0 3 = 2 ∧ s.intakeGuarded 0 3 = false ∧ (s.intakeRun 0 3 (s.rnCount 0 3)).2 = none ∧
      ((s.intakeRun 0 3 (s.rnCount 0 3)).1.ren 0 3).decided = false := by decide +kernel

theorem witness_ldlt_job : let s := ldltState 3
    (match s.rnEntryAt 0 3 (s.ren 0 3).next with
      | (t, .ok x) => (match t.ldltProblem 0 3 x with
        | (u, .ok p) => (match ldltJob (rnArith (s.ren 0 3).arith) (s.ren 0 3) (bit (u.rg .RN_STATUS 0x40 0 3) 8) false x p [] with
          | .done res _ _ _ => s.renState 0 3 == 3 && x.mode != 1 && !(decide x.solves && p.r != 0) &&
              decide (x.outOff + x.outLen (some p) ≤ u.rg .RN_BUF_LEN 0x40 0 3) && !u.rnGuarded 0 3 x (x.outLen (some p)) &&
              (u.rnCopy 0 3 x (x.outLen (some p)) res).2.isNone && (u.rnResult 0 3 0 res).2.isNone
          | _ => false)
        | _ => false)
      | _ => false) = true := by decide +kernel

theorem witness_rennet_timeout : let w : SemWait := ⟨0x40, 5, 2, .rennet 3, 1⟩
    let s : State := { (renWith 1 []).setRg .VETCH_SEM_TO 0x40 0 0 1 with semWaits := [w] }
    s.semWaits.find? (fun w => w.die == 0x40 && w.who == Waiter.rennet 3) = some w ∧ s.renState 0 3 = 1 ∧
      s.rg .VETCH_SEM_TO 0x40 0 0 ≠ 0 ∧ s.rg .VETCH_SEM_TO 0x40 0 0 ≤ w.lt := by decide +kernel

/-- A root entry of an empty factor. -/
def rootState : State := renWith 3 ([1, 2, 8, 1, 2, 0, 0, 0] ++ leBytes 8 (State.reset.boardAddr 1 0))

def rootOk : Bool :=
  let s := rootState
  match s.rnEntryAt 0 3 (s.ren 0 3).next with
  | (t, .ok x) => (match t.rnRead 0 3 x.src slotBytes with
    | (u, .ok b) =>
      let res := rootJob (rnArith (s.ren 0 3).arith) x b
      s.renState 0 3 == 3 && x.mode == 1 && !t.rnGuarded 0 3 x (x.outLen none) && (u.rnCopy 0 3 x (x.outLen none) res).2.isNone &&
        (u.rnResult 0 3 0 res).2.isNone
    | _ => false)
  | _ => false
theorem witness_root_job : rootOk = true := by decide +kernel

/-- Engine 0 of M0: a list of one entry at staging byte 0x100, a program that stores the master as it is. -/
def pressWith (st : Nat) : State :=
  let s := State.reset.setG .TIER_SLOW 0x100
  let s0 := ((s.setRg .PR_LIST 0x40 0 0 (0x100 + 1 * 2 ^ 32)).setRg .PR_STATUS 0x40 0 0 st).setG .PR_CFG (2 ^ 16)
  let s1 := (((s0.setRg .PR_PLEN 0x40 0 0 3).setRg .PR_PROG 0x40 0 0 (1 * 2 ^ 26)).setRg .PR_PROG 0x40 0 1 (2 * 2 ^ 26)).setRg
    .PR_PROG 0x40 0 2 (4 * 2 ^ 26)
  let s2 := ((s1.setRg .PR_WC_LEN 0x40 0 0 256).setRg .PR_GRAD_RING 0x40 0 0 256).setRg .PR_WC0 0x40 0 0
    (s1.boardAddr 0 0x200000000)
  let b := s2.boardAddr 1 (s2.localPart 1 0).1
  put s2 (s2.prEntryAddr 0 0 0 0) ([0, 0, 0, 2, 2, 7, 0, 0] ++ leBytes 8 1 ++ leBytes 8 0 ++ leBytes 8 b ++ leBytes 8 (b + 256) ++
    leBytes 8 (b + 512))

theorem witness_update_start :
    let s := (((pressWith 1).setRg .HOOP_CFG 0x60 0 0 1).hoopOpen 0).setRg .VETCH_EPOCH 0x40 0 0 1
    let p := s.press 0 0
    s.prState 0 0 = 1 ∧ s.prActive 0 0 = true ∧ bit (s.g .PR_CFG) 16 = true ∧ bit (s.g .RESTART_CTRL) 0 = false ∧
      p.aborted = [] ∧ s.brineOverflow p.step = false ∧ s.updateOpen p.step = true ∧
      (if bits (s.g .PR_CFG) 4 3 < 2 then s.boundary (p.step + 1) else s.boundary (p.step + bits (s.g .PR_CFG) 4 3 - 1)) ≤
        (s.epochOf 0x40 : Int) := by decide +kernel

/-- The step that the waiting engine works on overflowed, as Brine's history tells (R311). -/
theorem witness_update_discard :
    let s := (pressWith 1).setRg .BRINE_HIST 0x60 0 0 (2 ^ 7 + 2 ^ 5 + 2 ^ 6)
    s.prState 0 0 = 1 ∧ s.prActive 0 0 = true ∧ bit (s.g .PR_CFG) 16 = true ∧ bit (s.g .RESTART_CTRL) 0 = false ∧
      s.brineOverflow (s.press 0 0).step = true := by decide +kernel

/-- The engine in its update, with what it holds. -/
def updating (p : PressS) : State := (pressWith 2).setPress 0 0 p

theorem witness_shard_gate : let s : State := { updating { PressS.init with map := 1 } with grants := [(0x40, .gate 0)] }
    let p := s.press 0 0
    let t := (s.useGrant 0x40 (.gate 0)).setPress 0 0 { p with gatePassed := true, lastMap := some p.map }
    s.prState 0 0 = 2 ∧ p.gatePassed = false ∧ s.granted 0x40 (.gate 0) = true ∧
      ((enginePairs 8).all fun q => !t.prActive q.1 q.2 || (t.press q.1 q.2).lastMap == some (t.g .SHARD_SEL % 2)) = false := by
  decide +kernel

/-- The same list with a BF16 direction for its entry, and a ring of one chunk of 1,024 bytes at staging byte 0x1000. -/
def dirState : State :=
  let s0 := updating { PressS.init with gatePassed := true }
  let s1 := (s0.setRg .PR_DIR_RING 0x40 0 0 (0x1000 + 1 * 2 ^ 26 + 1 * 2 ^ 48)).setRg .PR_DIR_SEM 0x40 0 0 (3 * 2 ^ 24 + 6 * 2 ^ 12)
  put { s1 with grants := [(0x40, .dirRing 0)] } (s1.prEntryAddr 0 0 0 0 + 5) [2]

theorem witness_dir_chunk : let s := dirState
    let u := s.useGrant 0x40 (.dirRing 0)
    s.prState 0 0 = 2 ∧ s.dirWanted 0 0 = true ∧ s.granted 0x40 (.dirRing 0) = true ∧
      (match u.prRead 0 0 (u.stAddr 0 0x1000) 2 with
        | (t, .ok bs) => decide (t = u) && bs == [0, 0]
        | _ => false) = true ∧ dieCode (bits (u.rg .PR_DIR_SEM 0x40 0 0) 24 8) = true := by decide +kernel

theorem witness_dir_timeout : let w : SemWait := ⟨0x40, 5, 1, .dirRing 0, 1⟩
    let s : State := { dirState.setRg .VETCH_SEM_TO 0x40 0 0 1 with semWaits := [w] }
    s.semWaits.find? (fun w => w.die == 0x40 && w.who == Waiter.dirRing 0) = some w ∧ s.rg .VETCH_SEM_TO 0x40 0 0 ≠ 0 ∧
      s.rg .VETCH_SEM_TO 0x40 0 0 ≤ w.lt := by decide +kernel

theorem witness_tile : let s := updating { PressS.init with gatePassed := true }
    let p := s.press 0 0
    s.prState 0 0 = 2 ∧ p.skip = false ∧ p.gatePassed = true ∧ p.entry < s.prCount 0 0 p.map ∧
      (match s.prEntryAt 0 0 p.map p.entry with
        | (t, .ok x) => decide (x.tile p.elem * x.dirSize ≤ p.dirBuf.length) && !t.tileGuarded 0 0 x p.elem (x.tile p.elem)
        | _ => false) = true := by decide +kernel

theorem witness_update_finished : let s := updating { PressS.init with gatePassed := true, entry := 1 }
    let p := s.press 0 0
    s.stopping = false ∧ s.prState 0 0 = 2 ∧ p.skip = false ∧ p.gatePassed = true ∧ s.prCount 0 0 p.map ≤ p.entry := by decide +kernel

/-- The update of step 0 finished, its slot open, the next epoch the one of its updates. -/
def arriving : State :=
  let s := (((pressWith 3).setRg .HOOP_CFG 0x60 0 0 1).hoopOpen 0).setG .STEP_E0 1
  s.setPress 0 0 { PressS.init with finished := some 0 }

theorem witness_arrival : let s := arriving
    let p := s.press 0 0
    s.prActive 0 0 = true ∧ bit (s.g .PR_CFG) 16 = true ∧ s.prState 0 0 < 4 ∧ p.arrivedGen ≠ some (s.barGen 0x40 0) ∧
      s.arrivalHeld 0 0 = some 0 ∧ p.finished = some 0 := by decide +kernel

theorem witness_arrival_stages : let s := arriving
    let r := s.hoopStage 0 2 (BitVec.ofNat 64 (0x40 * 256 + 8 + 0)) (BitVec.ofNat 64 (1 - s.rg .PR_WC_SEL 0x40 0 0))
    r.2 = 0 ∧ (r.1.hoopReady 0).2 = true := by decide +kernel

theorem witness_engine_fault : (255 : Nat) < 256 ∧ bit (State.reset.rg .RN_FAULT 0x40 0 3) 31 = false ∧
    bit (State.reset.rg .PR_FAULT 0x40 0 0) 31 = false := by decide +kernel

/-! ### Links and reductions -/

theorem witness_port_enable : let s : State := { State.reset with svc := .normal }
    s.reaches .mgmt .SL_CFG (portAt 35).1 0 (portAt 35).2 (2 ^ 31 + s.portReg .SL_CFG 35) = true ∧ s.svc ≠ .startup ∧
      s.fabricHeld = false ∧ bit (s.portReg .SL_CFG 35) 31 = false ∧
      (s.portReg .SL_CFG 35 &&& (Reg.row .SL_CFG).lock) =
        ((2 ^ 31 + s.portReg .SL_CFG 35) &&& (Reg.row .SL_CFG).lock) := by decide +kernel

theorem witness_port_training : let s := State.reset.setPortReg .SL_STATUS 0 1
    let t := (State.reset.setPortReg .SL_STATUS 0 3).setPortReg .SL_PEER 0 (2 ^ 31 + 63 * 2 ^ 8 + 255)
    s.portState 0 = 1 ∧ lanesInUse 0xFF (bit (s.portReg .SL_STATUS 0) 3) (bit (s.portReg .SL_CFG 0) 29) = some (0xFF, false) ∧
      t.portState 0 = 3 ∧ t.portReg .SL_PEER 0 = 2 ^ 31 + (63 : BitVec 6).toNat * 2 ^ 8 + (255 : BitVec 8).toNat ∧
      lanesInUse 0x1F (bit (t.portReg .SL_STATUS 0) 3) true = some (0x0F, true) := by decide +kernel

theorem witness_training_timeout : let s := (State.reset.setPortReg .SL_STATUS 0 1).setPort 0 { PortS.init with trainLt := 2 ^ 18 }
    s.portState 0 = 1 ∧ bits (s.portReg .SL_CFG 0) 16 8 * 1024 ≤ (s.port 0).trainLt := by decide +kernel

def aFlit : Flit := ⟨0x01, 0, 1, 0, 0, 0, 0, [0]⟩
def aFrame : FrameMsg := ⟨1, 0, 0, .signal 0 0 1⟩

theorem witness_port_up : let p0 := { PortS.init with replay := [(0, 0, aFlit)], ackLt := 4 }
    let s := ((portUp 35).setPort 35 { p0 with freplay := [(255, 0, aFrame)], fAckLt := 4 }).setPortReg .SL_STATUS 35
      (2 + 2 ^ 4 + 0xFF * 2 ^ 16)
    let x := s.port 35
    s.portState 35 = 2 ∧ (0x80 : BitVec 8).toNat &&& bits (s.portReg .SL_STATUS 35) 16 8 ≠ 0 ∧ x.replay = [(0, 0, aFlit)] ∧
      4 ≤ x.ackLt ∧ x.freplay = [(255, 0, aFrame)] ∧ 4 ≤ x.fAckLt ∧ bit (s.portReg .SL_STATUS 35) 4 = true := by decide +kernel

/-- What the first clauses of a flit's statement say of a state, as one Bool. -/
def flitIn (s : State) (r : Rx) : Bool :=
  decide (s.portState r.port.val = 2) && decide (r.seq.toNat = (s.port r.port.val).rxSeq) && s.admitted r.src.toNat &&
    !s.fenced r.src.toNat && decide (r.dst.toNat = s.node)

def zOf (s : State) (r : Rx) (vc : Nat) : State := (s.flitsAcked r.port.val (r.ack.map BitVec.toNat)).acceptFlit r.port.val vc

def rxFrom (n : BitVec 8) : Rx := ⟨35, 0, none, 0, 0, n, 5⟩

theorem witness_flit : flitIn (portUp 35) (rxFrom 1) = true ∧ flitIn (portUp 35) (rxFrom 2) = true := by decide +kernel

theorem witness_wr_rd : let z := zOf (portUp 35) (rxFrom 1) 0
    z.fromTwin 1 0x200000000 = true ∧ z.guarded 0x200000000 256 = false ∧
      gives (z.memRead .twin 0x200000000 ((0 : BitVec 8).toNat + 1)) z [0] = true := by decide +kernel

theorem witness_answers : let s : State := { portUp 35 with asked := [⟨5, .cc, true⟩, ⟨5, .cc, false⟩] }
    flitIn s (rxFrom 1) = true ∧ ((zOf s (rxFrom 1) 1).takeAsked 5 true).map (fun q => q.1.who) = some Asker.cc ∧
      ((zOf s (rxFrom 1) 1).takeAsked 5 false).map (fun q => q.1.who) = some Asker.cc := by decide +kernel

theorem witness_reg_wr : let z := zOf (portUp 35) (rxFrom 1) 0
    let y := zOf (portUp 35) (rxFrom 2) 0
    1 = z.twinNode ∧ (z.busWrite .twin (0x53010000 : BitVec 32).toNat false 1).2 = .done ∧ 2 ≠ y.twinNode ∧
      locate (0x60400000 : BitVec 32).toNat = some (.SL_NODE, 0x60, 0, 0) ∧ y.resolve 0x60400000 = 0x60400000 ∧
      Reg.nodeWritable .SL_NODE = false := by decide +kernel

theorem witness_vetch : let t := (zOf (portUp 35) (rxFrom 1) 3).framesAcked 35 (some 7)
    (0 : BitVec 8).toNat = (t.port 35).fRx := by decide +kernel

/-- Node 255 reached through port 35. -/
def routed : State := (portUp 35).setRg .ROUTE_ENT 0x60 0 255 (2 ^ 31 + 35)

theorem witness_out_of_sequence :
    ({ rxFrom 1 with seq := 1 }).seq.toNat ≠ (((portUp 35).flitsAcked 35 none).port 35).rxSeq ∧
    (zOf (portUp 35) (rxFrom 3) 0).admitted 3 = false ∧ State.reset.portState 35 ≠ 2 ∧
    (zOf ((portUp 35).setG .TWIN_FENCE 1) (rxFrom 1) 0).fenced 1 = true ∧
    (let r : Rx := { rxFrom 1 with dst := 255, hops := 14 }
     let z := zOf routed r 0
     z.admitted 1 = true ∧ z.fenced 1 = false ∧ r.dst.toNat ≠ z.node ∧
       z.pickPort 255 (rxAsFlit r 0x01 0 0 [1]).spread = some 35 ∧
       (zOf (portUp 35) r 0).pickPort 255 (rxAsFlit r 0x01 0 0 [1]).spread = none) := by decide +kernel

/-- An all-gather descriptor of two members, this node first, of `n` FP32 elements (Table 11.6). -/
def gatherBytes (n : Nat) : List Nat :=
  [2, 0, 0, 0] ++ leBytes 2 1 ++ [1, 0] ++ leBytes 2 2 ++ leBytes 2 0 ++ leBytes 4 (3 + 1 * 2 ^ 12) ++ leBytes 8 0x200001000 ++
    leBytes 8 0x200010000 ++ leBytes 8 0 ++ leBytes 8 0x200020000 ++ leBytes 8 n ++ leBytes 4 0 ++ leBytes 4 0

def gatherState : State := put (put State.reset 0x200000000 (gatherBytes 64)) 0x200001000 [0, 1]

theorem witness_vat_submit : let s := gatherState
    let d := vatDesc (gatherBytes 64)
    s.reaches .mgmt .VAT_SUBMIT 0x50 0 0 0x200000000 = true ∧ s.vatFaulted 0 = false ∧ (s.vat 0).queue.length < 64 ∧
      s.inFast 0x200000000 64 = true ∧ gives (s.memRead (.vat 0) 0x200000000 64) s (gatherBytes 64) = true ∧
      vatFieldsOk (gatherBytes 64) d 2 = true ∧ fieldAt (gatherBytes 64) 8 2 = 2 ∧ fieldAt (gatherBytes 64) 16 8 = 0x200001000 ∧
      bits d.cid 10 2 = 0 ∧ s.inFast 0x200001000 2 = true ∧ d.op ≠ 3 ∧
      gives (s.memRead (.vat 0) 0x200001000 2) s [0, 1] = true ∧ [0, 1][d.self]? = some s.node ∧
      s.vatPlacesOk d 2 0x200001000 (sendSegs 2 []) = true := by decide +kernel

theorem witness_vat_nodes : ∀ i j, i < 2 → j < i → nth 0 [0, 1] i ≠ nth 0 [0, 1] j := by
  intro i j hi hj
  obtain ⟨rfl, rfl⟩ : i = 1 ∧ j = 0 := by omega
  decide

def gather : VatDesc := { vatDesc (gatherBytes 64) with nodes := [0, 1] }

theorem witness_collective_start : let v : VatS := { VatS.init with queue := [gather], granted := true }
    let s := gatherState.setVat 0 v
    (s.vat 0).queue = [gather] ∧ (s.vat 0).granted = true ∧ (s.vat 0).active = [] ∧ (s.vatAdmit 0 gather).isSome = true := by
  decide +kernel

/-- A collective active at Vat 0 of a descriptor. -/
def collOf (d : VatDesc) (opened : Bool) : Coll :=
  { desc := d, inst := 1, spill := false, tickets := 0, places := [], arith := State.reset.arith 0x50, segs := [], counts := [(1, 64)],
    opened := opened, rx := [⟨1, 0, [], 0, true, [], true⟩], tx := [⟨1, 0, true, true⟩], red := [], progLt := 100000 }

def collState (c : Coll) : State := (portUp 35).setVat 0 { VatS.init with active := [c] }

theorem witness_chunk_reduce : let c := collOf { gather with op := 1 } true
    let s := collState c
    s.coll 0 1 = some c ∧ c.opened = true ∧ c.desc.op = 1 ∧ (c.redOf 0).done = false ∧ s.stopping = false ∧
      (∀ g ∈ c.accPieces 0, s.guarded g.1 g.2 = false) ∧
      0 < chunkCount (c.recvLen c.desc.self) ∧
      s.guarded (c.desc.dst + chunkBytes * 0 / c.desc.size * c.desc.outSize) (2 * chunkBytes) = false := by decide +kernel

theorem witness_collective_complete : let c := collOf { gather with src := gather.dst } true
    let s := collState c
    s.coll 0 1 = some c ∧ c.allIn = true ∧ c.allOut = true ∧
      s.guarded (c.placeOf c.desc.self) (c.sendLen c.desc.self) = false ∧ s.ownCopy 0 c = (s, none) := by decide +kernel

theorem witness_vat_timeouts : let c := collOf gather true
    let s := collState c
    (s.vat 0).active.find? (fun c => decide (s.rg .VAT_PROG_TO 0x50 0 0 ≤ c.progLt)) = some c ∧
    (let w : SemWait := ⟨0x50, 3, 1, .vat, 1⟩
     let t : State := { (State.reset.setRg .VETCH_SEM_TO 0x50 0 0 1).setVat 0 { VatS.init with queue := [gather] } with semWaits := [w] }
     t.semWaits.find? (fun w => w.die == 0x50 && w.who == Waiter.vat) = some w ∧ (t.vat 0).queue = [gather] ∧
       t.rg .VETCH_SEM_TO 0x50 0 0 ≠ 0 ∧ t.rg .VETCH_SEM_TO 0x50 0 0 ≤ w.lt) := by decide +kernel

theorem witness_coll_flit : let c := { collOf gather false with rx := [], tx := [] }
    let s := collState c
    let z := zOf s (rxFrom 1) 2
    flitIn s (rxFrom 1) = true ∧ z.coll 0 1 = some c ∧ z.coll 0 2 = none ∧
      (c.others.find? fun i => nth 0x100 c.desc.nodes i == 1) = some 1 ∧ c.tx = [] ∧ 0 < chunkCount (c.sendLen 1) ∧
      (c.rxOf 1 0).ok = false ∧ (c.others.find? fun i => nth 0x100 c.desc.nodes i == 2) = none ∧
      flitIn s (rxFrom 2) = true ∧ chunkCount (c.sendLen 1) ≤ (0xFFFF : BitVec 16).toNat := by decide +kernel

theorem witness_coll_count : let c := collOf gather false
    let b : CollCount := ⟨1, 64, 2, 0, 0, 0, 2, 0⟩
    b.inst.toNat = c.inst ∧ b.op.toNat = c.desc.op ∧ b.fmt.toNat = c.desc.fmt ∧ b.ofmt.toNat = c.desc.ofmt ∧
      b.flags.toNat = c.desc.flags ∧ b.p.toNat = c.desc.p := by decide +kernel

theorem witness_coll_end : let c := { collOf gather true with
      counts := [(1, 1)], rx := [⟨1, 0, [(0, [0, 0, 0, 0])], 3, false, [], false⟩] }
    let e := c.rxOf 1 0
    let bs := (List.range 256).flatMap fun j => ((e.flits.find? fun f => f.1 == j).map Prod.snd).getD []
    e.ok = false ∧ bs.length = 4 ∧ bs.length = chunkLen (c.recvLen 1) 0 ∧
      crc32c bs = (BitVec.ofNat 32 (crc32c bs)).toNat ∧ bs.length ≠ (0 : BitVec 32).toNat ∧ e.tries = 3 := by decide +kernel

theorem witness_coll_resend : let c := { collOf gather true with tx := [⟨1, 0, true, false⟩] }
    ∃ t ∈ c.tx, t.dst = 1 ∧ t.chunk = 0 ∧ t.sent = true ∧ t.confirmed = false :=
  ⟨⟨1, 0, true, false⟩, by decide +kernel⟩

/-! ### Leases, stops and watchdogs -/

/-- A job of this node alone. -/
def aJob : Job :=
  { generation := false, root := 0, nodes := [0], contexts := [], barRootEast := false, maxRows := 32, decWait := 4,
    cachePool := 0x1000, cacheBase := 0x200000000, tokenBase := 0x200100000, tokenLen := 8, tokenSem := none,
    tokenNext := 0, slotsDiffer := false, cacheBytes := 16, interval := 1,
    rootLag := 1, started := true, stopped := false }

def running : State := { State.reset with job := some aJob, svc := .normal }

/-- The board lease held. -/
def holder : State := State.reset.setG .LEASE_STATUS 8

/-- The board lease with the twin. -/
def unheld : State := State.reset.setG .LEASE_STATUS 0

theorem witness_die_lease : let s : State := { State.reset with leases := { LeaseS.init with changing := true, unwritten := [0, 1] } }
    State.reset.reaches .mgmt .DIE_LEASE 0 0 0 (2 ^ 64 - 1) = true ∧ (State.reset.holds .mgmt && State.reset.leases.changing) = false ∧
      s.reaches (.cc false 0 1) .DIE_LEASE 0 0 0 1 = true ∧ (s.holds (.cc false 0 1) && s.leases.changing) = true := by
  decide +kernel

theorem witness_half_renewal : State.reset.leases.watcherEpoch ≤ (1 : BitVec 64).toNat ∧
    (0 : BitVec 64).toNat < State.reset.leases.watcherEpoch ∧ State.reset.g .HALF_LEASE < (2 : BitVec 64).toNat ∧
      State.reset.g .HALF_LEASE = (1 : BitVec 64).toNat ∧ bit (State.reset.g .LEASE_STATUS) 0 = false ∧
      (let t := State.reset.setG .LEASE_STATUS 1
       bit (t.g .LEASE_STATUS) 0 = true ∧ t.g .HALF_LEASE = (1 : BitVec 64).toNat) := by decide +kernel

theorem witness_lease_times : let s : State := { unheld with leases := { LeaseS.init with halfLt := 3000, boardLt := 3000, renewLt := 1000 } }
    let t : State := { holder with leases := s.leases }
    1000 ≤ s.leases.renewLt ∧ s.boardHolder = false ∧ t.boardHolder = true ∧ 3000 ≤ s.leases.halfLt ∧
      s.leases.fencedEast ≠ some (!bit (s.g .LEASE_STATUS) 0) ∧ 3000 ≤ s.leases.boardLt ∧ bit (s.g .LEASE_STATUS) 5 = false ∧
      (let x := (s.setG .BOARD_LEASE ((s.g .BOARD_LEASE + 1) % 2 ^ 64)).setG .LEASE_STATUS (setBits (s.g .LEASE_STATUS) 3 1 1)
       (((x.setFence true).alert 3).boardRenew).usesTwin = false) := by decide +kernel

theorem witness_twin_fence : holder.reaches .mgmt .TWIN_FENCE 0x60 0 0 0 = true ∧ holder.boardHolder = true ∧ bit 0 0 = false ∧
    holder.usesTwin = false ∧ ({ holder with job := some { aJob with nodes := [0, 1] } } : State).usesTwin = true ∧
      unheld.reaches .mgmt .TWIN_FENCE 0x60 0 0 1 = true ∧ unheld.boardHolder = false := by decide +kernel

/-- Slot 1 committed. -/
def committed : State := State.reset.flashPut 1 (commitSector + 2048) (leBytes 8 commitWord)

theorem witness_lease_ctrl : State.reset.reaches .mgmt .LEASE_CTRL 0x60 0 0 1 = true ∧
    committed.reaches .mgmt .LEASE_CTRL 0x60 0 0 2 = true ∧ committed.slotOrder = [1] := by decide +kernel

/-- Array 0 with a load at its queue head, and a pass in flight that drains. -/
def loadState : State :=
  arrWith { ArrayS.init with
    queue := [passOf 0 0 false]
    p0 := flyPart }

theorem witness_watchdogs :
    (let ch : Chan := .seqFetch k0
     let s : State := { (seqAt 0).setRg .DIE_HS_WD 0 0 0 1 with hsWait := [(ch, 1)] }
     s.chanAtWork ch = true ∧ 1 ≤ s.waited ch ∧ s.rg .DIE_HS_WD ch.die.code 0 0 ≤ s.waited ch) ∧
    (loadState.arr k0.ix 0).busyPart = some 0 ∧ (loadState.arr k0.ix 0).loadPart = some 0 ∧
    (loadState.arr k0.ix 0).drainPart = some 0 := by decide +kernel

theorem witness_watchdogs_memory : (renWith 2 []).renState 0 3 = 2 ∧ (pressWith 2).prState 0 0 = 2 ∧
    ((collState (collOf gather true)).vat 0).active = [collOf gather true] := by decide +kernel

theorem witness_seq_stopped : let s := State.reset.setRg .SEQ_STATUS 63 15 0 3
    s.seqState 1023 = 3 ∧ s.unitsIdle 1023 = true ∧ (s.tea 1023).idle = true := by decide +kernel

theorem witness_seq_go : State.reset.reaches .mgmt .SEQ_CTRL 63 15 0 1 = true ∧ State.reset.seqAtRest 1023 = true ∧
    (State.reset.setRg .SEQ_START 63 15 0 16383).rg .SEQ_START 63 15 0 ≤ 16383 ∧ State.reset.loaded = false ∧
    (let s : State := { running with svc := .recovery }
     s.reaches .mgmt .SEQ_CTRL 63 15 0 1 = true ∧ s.loaded = true ∧ s.svc ≠ .normal) := by decide +kernel

theorem witness_module_stop : let f : FaultRec := ⟨0x40, 0x40, 0, 1⟩
    ({ running with faultQ := [f] } : State).faultQ = f :: [] ∧ running.canStop = true ∧ State.reset.canStop = false ∧
      running.stopReply = [] := by decide +kernel

theorem witness_stop_timeout : let s : State := { running with stopping := true, stopLt := 2 ^ 17 }
    s.stopping = true ∧ bits (s.g .JOB_CTRL) 12 17 ≤ s.stopLt := by decide +kernel

theorem witness_job_watchdog : let s : State := { seqAt 0 with job := some aJob, svc := .normal, jobWdLt := 2 ^ 64 }
    s.jobRuns = true ∧ s.g .JOB_WD ≤ s.jobWdLt := by decide +kernel

/-! ### Captures, replicas and trust -/

/-- Slots of the twin in its tiers; the twin reached through port 35. -/
def caveState (c : Capture) : State :=
  let s0 := ((portUp 35).setG .TIER_SLOW 0x100).setRg .ROUTE_ENT 0x60 0 1 (2 ^ 31 + 35)
  let s1 := ((s0.setRg .CAVE_SLOT 0x60 1 0 (2 ^ 43 + 2 ^ 41)).setRg .CAVE_SLOT 0x60 1 1 0x10000).setRg .CAVE_SLOT 0x60 1 2
    (2 ^ 43 + 0x200000000)
  let s2 := (List.range 4).foldl (fun (z : State) x => z.setRg .VAT_SHARE (0x50 + x) 0 0 (1 * 2 ^ 16)) s1
  { (s2.setRg .CAVE_SLOT 0x60 1 3 0x10000) with capture := some c }

/-- The start of M0's part of the slow tier. -/
def capAddr : Nat :=
  let s := State.reset.setG .TIER_SLOW 0x100
  s.boardAddr 1 (s.localPart 1 0).1

/-- A capture of one range of 512 bytes in the part of M0. -/
def aCapture (d : Nat) : Capture :=
  { step := 0, slot := 1, ranges := [(capAddr, 512)], done := [d], crc := [0], digests := [],
    next := List.replicate 12 0, regs := [], cstep := 0, progLt := 2 ^ 40, held := [0] }

/-- A place of the first Vat's reduction memory. -/
def place (i : Nat) : Nat := State.reset.rmAddr 0 (chunkBytes * i)

/-- A collective that holds every place but the first. -/
def fullColl : Coll := { collOf gather true with places := (List.range' 1 1023).map place }

/-- The capture of `aCapture`, where every place of the reduction memory but the first is a collective's. -/
def chunkState : State := (caveState (aCapture 0)).setVat 0 { VatS.init with active := [fullColl] }

def firstPlace : Nat := place 0

/-- `chunkState` with the chunk of 512 zeros in its place. -/
def chunkRead : State :=
  (chunkState.freshVal.2.vatWrites (Fin.ofNat 4 (caveDie 0 - 0x50)) [(firstPlace, List.replicate 512 0)]).1

theorem chunk_one (g : Nat → Nat) (hg : ∀ i j, g i = g j → i = j) (n : Nat) :
    ((List.range (n + 1)).map g).filter (fun a => !(((List.range' 1 n).map g).contains a)) = [g 0] := by
  have h0 : (((List.range' 1 n).map g).contains (g 0)) = false := by
    simp only [List.contains_eq_mem, decide_eq_false_iff_not, List.mem_map, List.mem_range'_1, not_exists, not_and]
    intro i hi he
    have := hg i 0 he
    omega
  have hr : ((List.range' 1 n).map g).filter (fun a => !(((List.range' 1 n).map g).contains a)) = [] := by
    rw [List.filter_eq_nil_iff]
    intro a ha
    simp only [List.contains_eq_mem, decide_eq_true ha, Bool.not_true, Bool.false_eq_true, not_false_eq_true]
  rw [List.range_eq_range', List.range'_succ, List.map_cons, List.filter_cons_of_pos (by simp only [h0, Bool.not_false]), hr]

theorem chunk_active : (chunkState.vat 0).active = [fullColl] ∧ chunkState.ownBit = State.reset.ownBit := by decide +kernel

theorem chunk_free : (((List.range 1024).map fun i => chunkState.rmAddr 0 (chunkBytes * i)).filter
    fun a => !((chunkState.vat 0).active.any fun c => c.places.contains a)) = [firstPlace] := by
  have hm : (fun i => chunkState.rmAddr 0 (chunkBytes * i)) = place := by
    funext i
    simp only [place, State.rmAddr, State.boardAddr, chunk_active.2]
  have hg : ∀ i j, place i = place j → i = j := by
    intro i j h
    simp only [place, State.rmAddr, State.boardAddr, chunkBytes] at h
    omega
  rw [hm, chunk_active.1]
  simp only [List.any_cons, List.any_nil, Bool.or_false, fullColl]
  exact chunk_one place hg 1023

theorem chunk_place : chunkState.vatPlaces 0 false 1 = (chunkState.freshVal.2, [firstPlace]) := by
  have h := chunk_free
  unfold State.vatPlaces
  simp only [Nat.one_ne_zero, if_false, Bool.false_eq_true, h, List.length_singleton, Nat.mod_one, List.drop_zero, List.take_zero,
    List.append_nil]
  rfl

theorem chunk_read : gives (chunkState.readRaw capAddr 512) chunkState (List.replicate 512 0) = true ∧
    (chunkState.freshVal.2.vatWrites (Fin.ofNat 4 (caveDie 0 - 0x50)) [(firstPlace, List.replicate 512 0)]).2 = true ∧
    gives (chunkRead.readRaw firstPlace 512) chunkRead (List.replicate 512 0) = true := by decide +kernel

theorem pair_eta {α : Type} {p : α × Bool} (h : p.2 = true) : p = (p.1, true) := Prod.ext rfl h

theorem caveRead_good (s z : State) (m addr n a : Nat) (bs : List Nat) (h : s.readRaw addr n = (s, .ok bs))
    (hp : s.vatPlaces (caveDie m - 0x50) false 1 = (s.freshVal.2, [a]))
    (hw : s.freshVal.2.vatWrites (Fin.ofNat 4 (caveDie m - 0x50)) [(a, bs)] = (z, true)) (hr : z.readRaw a n = (z, .ok bs)) :
    s.caveRead m addr n = (z, some bs) := by
  simp only [State.caveRead, h, hp, List.map_cons, List.map_nil, hw, List.headD_cons, hr]

theorem witness_cave_chunk : chunkState.caveTake 0 = chunkState ∧ chunkState.capture = some (aCapture 0) ∧
    (chunkState.caveNext (aCapture 0) 0).isSome = true ∧
    chunkState.caveRead 0 capAddr 512 = (chunkRead, some (List.replicate 512 0)) := by
  refine ⟨by decide +kernel, by decide +kernel, by decide +kernel, ?_⟩
  exact caveRead_good _ _ _ _ _ _ _ (gives_eq chunk_read.1) chunk_place (pair_eta chunk_read.2.1) (gives_eq chunk_read.2.2)

theorem witness_cave_write :
    let c := aCapture 0
    let p0 := chunkRead.slotWrite c.slot 48 (leBytes 8 0)
    let p1 := p0.1.slotWrite c.slot (c.place 0) (List.replicate 512 0)
    p0.2 = true ∧ p1.2 = true ∧ bit (p1.1.g .TWIN_FENCE) 0 = false := by decide +kernel

/-- A block of the range bears a sidecar mark. -/
def markedState : State := { caveState (aCapture 0) with sidecar := [(capAddr / 256, 1)] }

theorem marked_block : markedState.populated capAddr 512 = true ∧ markedState.sidecar = [(capAddr / 256, 1)] ∧ markedState.noise = [] ∧
    (unitsOf 256 capAddr 512).map (· * 256) = [capAddr, capAddr + 256] ∧
    ((Sparse.get (fun _ => 0) markedState.sidecar (capAddr / 256)).toNat != 0) = true := by decide +kernel

theorem badBlock_marks (s : State) (l : List Nat) (hs : s.sidecar ≠ []) :
    s.badBlock l = (l.find? fun a => s.mismatch (a / 256)).map (· / 256) := by
  unfold State.badBlock
  exact if_neg hs

theorem badBlock_head (s : State) (a : Nat) (l : List Nat) (hs : s.sidecar ≠ [])
    (hm : ((Sparse.get (fun _ => 0) s.sidecar (a / 256)).toNat != 0) = true) : s.badBlock (a :: l) = some (a / 256) := by
  rw [badBlock_marks s _ hs, List.find?_cons_of_pos]
  · rfl
  · exact (State.mismatch_eq s _).trans hm

theorem caveRead_bad (s : State) (m addr n b : Nat) (as : List Nat) (hp : s.populated addr n = true) (hs : s.sidecar ≠ [])
    (hn : s.noise = []) (hu : (unitsOf 256 addr n).map (· * 256) = as) (hb : s.badBlock as = some b) :
    (s.caveRead m addr n).2 = none := by
  simp [State.caveRead, State.readRaw, hp, hs, hn, hu, State.mendBlocks, hb]

theorem marked_take : markedState.caveTake 0 = markedState := by decide +kernel

theorem witness_cave_error : markedState.caveTake 0 = markedState ∧ (markedState.caveRead 0 capAddr 512).2 = none := by
  obtain ⟨hp, hs, hn, hu, hm⟩ := marked_block
  have h : markedState.sidecar ≠ [] := by
    rw [hs]
    exact List.cons_ne_nil _ _
  exact ⟨marked_take, caveRead_bad _ _ _ _ _ _ hp h hn hu (badBlock_head _ _ _ h hm)⟩

theorem witness_cave_commit : let c := aCapture 512
    let s := caveState c
    s.capture = some c ∧ ((c.ranges.zip c.done).all fun e => e.2 == e.1.2) = true ∧
      (let h := s.caveHeader c
       let p1 := s.slotWrite c.slot (c.place c.ranges.length) (c.digestList.flatMap (leBytes 8))
       let p2 := p1.1.slotWrite c.slot 0 h.1
       let p3 := p2.1.slotWrite c.slot 56 h.2
       let p4 := p3.1.slotWrite c.slot 48 (leBytes 8 c.step)
       p1.2 = true ∧ p2.2 = true ∧ p3.2 = true ∧ p4.2 = true ∧ bit (p4.1.g .TWIN_FENCE) 0 = false) := by decide +kernel

theorem witness_cave_agreed : let s : State := { caveState (aCapture 0) with agree := some (0, 1) }
    s.agree = some (0, 1) ∧ (bits (s.g .SORREL_CFG) 16 6 ≤ 1 ∨ 0 ≤ s.g .SORREL_AGREED) ∧
      (s.slotWrite 1 56 (leBytes 8 0)).2 = true ∧ bit ((s.slotWrite 1 56 (leBytes 8 0)).1.g .TWIN_FENCE) 0 = false := by
  decide +kernel

theorem witness_cave_timeout : (caveState (aCapture 0)).capture = some (aCapture 0) ∧
    (caveState (aCapture 0)).g .CAVE_PROG_TO ≤ (aCapture 0).progLt := by decide +kernel

theorem witness_sorrel :
    (let s := updating { PressS.init with digest := some (0, 5) }
     s.digestReady = some 0 ∧ bits (s.clearDigests.g .SORREL_CFG) 16 6 ≤ 1) ∧
    1 < bits (((updating { PressS.init with digest := some (0, 5) }).setG .SORREL_CFG (2 * 2 ^ 16)).g .SORREL_CFG) 16 6 ∧
    (let s : State := { State.reset.setG .SORREL_STATUS 4 with sorrelLt := 2 ^ 40 }
     bit (s.g .SORREL_STATUS) 2 = true ∧ s.g .SORREL_TO ≤ s.sorrelLt) := by decide +kernel

theorem witness_rederive : let s : State := { (updating PressS.init).setG .RESTART_CTRL 1 with job := some aJob }
    bit (s.g .RESTART_CTRL) 0 = true ∧ s.loaded = true ∧ (s.press 0 0).rederived = false ∧ s.prState 0 0 < 5 ∧
      s.prCount 0 0 (s.g .SHARD_SEL % 2) ≠ 0 ∧
      (s.rederiveRun 0 0 (s.g .SHARD_SEL % 2) (s.prCount 0 0 (s.g .SHARD_SEL % 2))).2 = none := by decide +kernel

theorem witness_raise_floor : let s : State := { State.reset with
        regs := [(loc .SEC_FUSE 0x50 0 0, 62), (loc .BOOT_SLOT 0x50 0 0, 63 * 2 ^ 8)], svc := .normal, floorFlags := (true, false) }
    s.reaches .mgmt .SEC_CTRL s.headDie 0 0 1 = true ∧ s.svc = .normal ∧ s.floorFlag = true ∧
      Nat.max s.floor s.floorFused < bits (s.rg .BOOT_SLOT s.headDie 0 0) 8 8 ∧ State.reset.svc ≠ .normal := by decide +kernel

theorem witness_att_go : let s : State := { State.reset with svc := .normal }
    s.reaches .mgmt .ATT_CTRL s.headDie 0 0 (setBits 0x50003 31 1 1) = true ∧ s.attBusy s.headDie = false ∧
      s.reportsGiven = true ∧ (s.setFld .ATT_STATUS 0x50 0 0 0 1 1).attBusy 0x50 = true := by decide +kernel

theorem witness_report_done : let s : State := { State.reset with att := some ([7], 0x200000000, 0x50, 3) }
    s.isOwn 0x200000000 = true ∧ (s.memWrite .mgmt 0x200000000 [7]).2 = none ∧ (s.memWrite .mgmt 0x100000000000 [7]).2 ≠ none := by
  decide +kernel

theorem witness_report_twin : let a := 2 ^ 43 + 0x200000000
    let s : State := { portUp 35 with att := some ([7], a, 0x50, 3) }.setRg .ROUTE_ENT 0x60 0 1 (2 ^ 31 + 35)
    s.isOwn a = false ∧ (s.sendWrites .unit (blockPieces 4096 a [7])).2 = true := by decide +kernel

theorem witness_scan : State.reset.svc ≠ .test ∧ State.reset.loaded = false ∧ running.svc ≠ .test ∧ running.loaded = true := by
  decide +kernel

/-! ### Management messages -/

/-- Session 0 open, with a session record that lists a key; in a mode. -/
def served (m : Svc) : State :=
  { State.reset with svc := m, mgmtUp := true, mgmtRecord := List.replicate 96 0, sessions := [⟨0, none, none, 0⟩] }

theorem witness_session : (served .normal).sessionOpen reqs.session.val = true ∧ (served .normal).svc ≠ .startup ∧
    (served .normal).fallback = false ∧ (served .startup).svc = .startup ∧ (served .startup).sessionOpen 0 = true ∧
      ({ served .normal with mgmtRecord := [] } : State).fallback = true := by decide +kernel

theorem witness_fw : let s := served .normal
    let g : Staging := ⟨1, commitSector, 4⟩
    (1 : BitVec 8).toNat ≤ 1 ∧ s.staging = none ∧ bits (s.rg .BOOT_SLOT s.headDie 0 0) 0 1 ≠ (1 : BitVec 8).toNat ∧
      (0x1FFF000 : BitVec 32).toNat ≤ commitSector ∧ ({ s with staging := some g } : State).staging = some g ∧
      g.off ≤ (4 : BitVec 32).toNat ∧ (4 : BitVec 32).toNat + [1, 2].length ≤ g.len := by decide +kernel

theorem witness_test_enter : let s : State := { served .normal with testKey := some 1, sessions := [⟨0, some (9, 0), none, 0⟩] }
    s.svc ≠ .test ∧ s.testKey = some 1 ∧ s.nonceOf reqs.session.val = some 9 := by decide +kernel

theorem witness_connect : let s : State := { served .normal with mgmtRecord := List.replicate 58 0 ++ [1] ++ List.replicate 37 0 }
    s.mgmtUp = true ∧ s.keyListed 0 = true ∧ s.freeSession = some 1 ∧ 10 ≤ ({ s with regs :=
      (s.setRg .BOOT_STATUS 0x50 0 0 (10 * 2 ^ 40)).regs } : State).bootStep := by decide +kernel

theorem witness_telemetry : let x : Session := ⟨7, none, some (1000, [0]), 1000⟩
    let s : State := { served .normal with sessions := [x] }
    (s.sessions.find? fun y => y.id == (7 : Fin 8).val) = some x ∧ x.tele = some (1000, [0]) ∧ 1000 ≤ x.teleLt := by decide +kernel

theorem witness_reg_messages : let s := served .normal
    (match s.readRegs 0 [0] with
      | .ok vs => vs == [0x72640021]
      | _ => false) = true ∧
    (match s.readRegs 0 [0, 1] with
      | .error i => i == 1
      | _ => false) = true ∧
    (s.writeRegs 0 [(0x53010000, 1)]).2 = none ∧ (s.writeRegs 0 [(0x53010000, 1), (1, 0)]).2 = some 1 := by decide +kernel

theorem witness_tele_sub : 1000 ≤ (1000 : BitVec 64).toNat ∧ (0xFFFFFFFF : BitVec 64).toNat < 2 ^ 32 ∧
    (List.replicate 64 (0 : BitVec 64)).length ≤ 64 ∧ (List.replicate 256 (0 : BitVec 64)).length ≤ 256 := by decide +kernel

def extra : JobExtra :=
  { generation := false, root := 0, nodes := [0], contexts := [], holders := [0], replicas := [], tensors := [], vatDies := [],
    queues := [], maxRows := some 32, decWait := some 1, cachePool := 0, cacheBase := 0, tokenBase := 0, tokenLen := 0,
    tokenSem := none, cacheBytes := 0,
    interval := 1, rootLag := 1, twinHost := none, twinSlots := none }

/-- An END record alone (R424). -/
def endRecord : List (BitVec 8) := [0xFF, 0, 0, 0, 16, 0, 0, 0, 0, 0, 0, 0, 0, 0, 0, 0]

theorem witness_job_load : (served .normal).jobRefusal (endRecord.map BitVec.toNat) extra = none := by decide +kernel

theorem witness_job_refused : (served .normal).loaded = false ∧
    (match firstViol ((served .normal).recViols false [] (imageRecs [1, 0]) 0) with
      | some v => v == (0, 1)
      | none => false) = true := by decide +kernel

/-- The job of `running`, served over session 0. -/
def jobServed : State := { served .normal with job := some aJob }

theorem witness_jobs : let s := jobServed
    let t : State := { s with job := some { aJob with stopped := true } }
    s.loaded = true ∧ s.jobCores.all s.seqAtRest = true ∧ s.stopping = false ∧ s.canStop = true ∧ t.canStop = false ∧
      s.unitsAtRest = true ∧ (s.setRg .RN_STATUS 0x40 0 0 1).unitsAtRest = false ∧ (served .normal).loaded = false := by decide +kernel

theorem witness_tokens : let s := jobServed.setG .STEP_E0 5
    s.job = some aJob ∧ aJob.generation = false ∧ s.stepBegun aJob 9 = false ∧ 4 * (1 + [7].length) ≤ aJob.tokenLen := by
  decide +kernel

theorem witness_mem_messages : let s := served .recovery
    let a := s.boardAddr 0 0x200000000
    s.svc = .recovery ∧ s.isOwn a = true ∧ inTier a 1 = true ∧ 1 ≤ memLimit ∧ gives (s.memRead .mgmt a 1) s [0] = true ∧
      (s.memWrite .mgmt a [255]).2 = none := by decide +kernel

/-! ### Generation -/

def genJob : Job := { aJob with generation := true }
def aGen (b : Bool) : GenReq := ⟨0, 7, 3, 4, 0, [1], some (0, 256), b⟩
def genState (b : Bool) : State := { served .normal with job := some genJob, gen := [aGen b], decLt := 4 }

theorem witness_gen_request : let s := genState false
    s.sessionOpen reqs.session.val = true ∧ s.svc ≠ .startup ∧ s.fallback = false ∧ s.job = some genJob ∧ genJob.generation = true ∧
      genJob.cachePool < regionBytes genJob 1 (256 : BitVec 32).toNat ∧ regionBytes genJob 1 (255 : BitVec 32).toNat ≤ genJob.cachePool ∧
      regionBytes genJob 1 (0 : BitVec 32).toNat ≤ genJob.cachePool ∧ (served .normal).job = none ∧ aJob.generation = false := by
  decide +kernel

theorem witness_decode : let s := genState false
    genJob.decWait ≤ s.decLt ∧ s.genHeld ≠ 0 ∧ s.batchRuns = false ∧ (genState true).batchRuns = true ∧
      ({ s with decLt := 0 } : State).decLt < genJob.decWait ∧ ({ s with gen := [] } : State).genHeld = 0 ∧
      (aGen false).inBatch = false ∧ (aGen true).inBatch = true ∧ (aGen true).region ≠ none ∧
      ({ aGen true with region := none }).region = none ∧ (aGen true).pos + 1 < (aGen true).maxNew ∧
      ({ aGen true with pos := 3 }).maxNew ≤ ({ aGen true with pos := 3 }).pos + 1 := by decide +kernel

/-! ### Rind, start-up, power and the whole machine -/

theorem witness_rind : State.reset.mainGood = true ∧ ({ State.reset with mainGood := false } : State).mainGood = false ∧
    (let c := State.reset.bump .RIND_CYCLES State.reset.headDie 0 0 1
     (0xFFF : BitVec 12).toNat ≠ bits (c.g .BOARD_LEASE) 0 12 ∧ c.boardHolder = true ∧ c.usesTwin = false ∧ c.canStop = false) ∧
    (let c := unheld.bump .RIND_CYCLES unheld.headDie 0 0 1
     c.boardHolder = false ∧ (1 : BitVec 12).toNat = bits ((c.setG .BOARD_LEASE 0x1001).g .BOARD_LEASE) 0 12) ∧
    (let c := running.bump .RIND_CYCLES running.headDie 0 0 1
     c.canStop = true) := by decide +kernel

/-- What start-up finds where nothing fails. -/
def goodBoot : Boot :=
  { twinB := false, east := false, trimOk := true, diesAnswer := true, steppingsOk := true, badSlots := [], flashOk := true,
    zeroOk := true, badChannels := [], selfTestOk := true }

theorem witness_start_up : State.reset.bootIdle = true ∧ State.reset.aux12 = true ∧ State.reset.main54 = true ∧
    ({ State.reset with aux12 := false } : State).aux12 = false ∧ ({ State.reset with svc := .test } : State).bootIdle = false ∧
      goodBoot.trimOk = true ∧ ({ goodBoot with diesAnswer := false }).diesAnswer = false ∧
      ({ goodBoot with steppingsOk := false }).steppingsOk = false ∧ ({ goodBoot with trimOk := false }).trimOk = false := by
  decide +kernel

theorem witness_power : State.reset.power.count + 1 < 10 ∧ 10 ≤ ({ PowerS.init with count := 9 }).count + 1 ∧
    (let x := [((Die.x 3), (200 : BitVec 16))].foldl (fun (z : State) r => z.readTemp r.1.code r.2) State.reset
     x.power.tCount + 1 < 10) ∧
    (let s : State := { State.reset with power := { PowerS.init with tCount := 9 } }
     let x := [((Die.x 3), (200 : BitVec 16))].foldl (fun (z : State) r => z.readTemp r.1.code r.2) s
     10 ≤ x.power.tCount + 1) := by decide +kernel

theorem witness_tick : State.reset.stopping = false ∧ 31 < dmaChannels 0 ∧ 0x50 + (0 : Fin 4).val = State.reset.headDie ∧
    0x50 + (2 : Fin 4).val = State.reset.watchDie := by decide +kernel

theorem witness_reset_register : locate (loc .DMA_CH_CTRL 63 0 31) = some (.DMA_CH_CTRL, 63, 0, 31) ∧
    Reg.resetVal .DMA_CH_CTRL 63 31 < 2 ^ 64 := by decide +kernel

theorem witness_step : let s : State := { State.reset with pending := [.resetNLow, .leaseRenew] }
    s.canonical = true ∧ s.pending = .resetNLow :: [.leaseRenew] ∧
      (match step s with
        | .next t => decide (t.pending = [.leaseRenew])
        | _ => false) = true := by decide +kernel

theorem witness_service_modes :
    (let s : State := { running with pending := [.moduleStop], faultQ := [⟨0x40, 0x40, 0, 1⟩] }
     (match step s with
       | .next t => s.svc != t.svc
       | _ => false) = true) ∧
    (let s : State := { running with pending := [.resetNLow] }
     (match step s with
       | .next t => s.svc != t.svc
       | _ => false) = true) ∧
    (let s : State := { served .recovery with pending := [.scanTestEntry .bypass] }
     (match step s with
       | .next t => s.svc == t.svc
       | _ => false) = true) := by decide +kernel

theorem witness_flash : let c : Instr := .stopJob 1
    let s : State := { State.reset with pending := [.leaseRenew] }
    c.stopsAJob = true ∧ s.pending = .leaseRenew :: [] ∧ (match step s with
      | .next t => !t.testEntered && decide (t.flash = s.flash)
      | _ => false) = true := by decide +kernel

theorem witness_stores_nothing : (Instr.leaseRenew).storesNothing = true ∧ (match exec .leaseRenew State.reset with
    | .next t => decide (t = State.reset)
    | _ => false) = true := by decide +kernel

/-! ### Worked examples of the manual, and single steps by hand -/

/-- The next state of one step with a command at the front, as a Bool over it. -/
def after (c : Instr) (s : State) (f : State → Bool) : Bool :=
  match step { s with pending := [c] } with
  | .next t => f t && t.pending.isEmpty
  | _ => false

/-- Register Index, "locating a counter": ARR_FEED_STALL of array 2, core 5, C-die 27 of twin B. -/
theorem test_locate_counter : loc .ARR_FEED_STALL 0x1B 5 2 = 0x1B150498 ∧
    ({ State.reset with twinB := true } : State).boardAddr 3 0x1B150498 = 0xE001B150498 := by decide +kernel

/-- Sequencer and Command Set: the command memory of core 3 of C-die 5 in twin A. -/
theorem test_command_memory_address : State.reset.cmAddr (5 * 16 + 3) 0 = 0x400B80C0000 := by decide +kernel

/-- Memory Tiers, Table 6.4 and the channels of rows 3 and 8 of the worked copy. -/
theorem test_worked_copy :
    let s := State.reset.setG .TIER_FAST 16515072
    let w : BitVec 512 := BitVec.ofNat 512 (0x242400000 + 0x40283040000 * 2 ^ 64 + 0xFF0000FF * 2 ^ 128 + 0xFFFF * 2 ^ 192 +
      0x4800 * 2 ^ 256 + 0x203C2884 * 2 ^ 384)
    s.dmaRefusal w = 0 ∧ (s.tierLocate 0 (0x242400000 + 3 * 18432)).map (·.2.1) = some 25 ∧
      (s.tierLocate 0 (0x242400000 + 8 * 18432)).map (·.2.1) = some 3 := by decide +kernel

/-- Number Formats, "FP32 to BF16 at a tie". -/
theorem test_bf16_tie : let a : Arith := ⟨false, .rne, false, true⟩
    fconv a .fp32 .bf16 0x3F808000 = (0x3F80, 0) ∧ fconv a .fp32 .bf16 0x3F818000 = (0x3F82, 0) := by decide +kernel

/-- Number Formats, "FP32 into Rennet". -/
theorem test_q230 : fp32ToQ230 0x3DCCCCCD = (0x06666668, 0) ∧ q230ToFp32 0x06666668 = 0x3DCCCCCD ∧
    fp32ToQ230 0x40200000 = (0x7FFFFFFF, flSAT) := by decide +kernel

/-- Synchronisation, "switching a board to strict mode": the target of an item for M-die 0x4B. -/
theorem test_arith_target : loc .ARITH_CTRL 0x4B 0 0 = 0x4B030000 := by decide +kernel

/-- Management and Rind, Table 15.8: FENCE_TWIN under key 0x001 is done, and STATE shows the fence. -/
theorem test_rind_fence : after (.fenceTwin 1) holder (fun t => t.rindWord 0x11 == 0x1101 && bit (t.rindWord 0x02) 6) = true := by
  decide +kernel

/-- The same, of the word 0x08. -/
theorem test_rind_latch : after .rindLeaseOutLatch holder (fun t => t.resp == some (.value 1) && t.rind.out == 1) = true := by
  decide +kernel

/-- R144: 0 − 1 wraps to 2^64 − 1, and the program goes on at the next index. -/
theorem test_alu_sub_wraps : let w := word 0x02 [(115, 3), (110, 1), (105, 2), (101, 1)]
    after (.sclAlu k0 .none) (withSc (seqAt w) 2 1) (fun t => t.sc 0 3 == 2 ^ 64 - 1 && t.pc 0 == 1) = true := by decide +kernel

/-- R141: a write to SC0 is discarded. -/
theorem test_sc0_stays_zero : after (.sclLi k0 .none) (seqAt (word 0x01 [(115, 0), (0, 7)])) (fun t => t.sc 0 0 == 0 && t.pc 0 == 1) =
    true := by decide +kernel

/-- R144: BR.DEC of a register that holds 1 leaves 0 and does not branch; of one that holds 2 it branches. -/
theorem test_br_dec : let s := seqAt (word 0x13 [(115, 4), (0, 9)])
    after (.brDec k0 .none) (withSc s 4 1) (fun t => t.sc 0 4 == 0 && t.pc 0 == 1) = true ∧
      after (.brDec k0 .none) (withSc s 4 2) (fun t => t.sc 0 4 == 1 && t.pc 0 == 9) = true := by decide +kernel

/-- R16: a store of 2 bytes is an access error and changes no register. -/
theorem test_odd_width : after (.registerWrite .mgmt ⟨false, 0x53010000⟩ (.other 2) 1) State.reset
    (fun t => t.resp == some .accessError && t.regs.isEmpty) = true := by decide +kernel

/-- R392: a watchdog of 2 ticks does not expire after 1, and does after 2 (cause 0x0C of R160). -/
theorem test_watchdog_counts : let s (n : Nat) : State := { (seqAt 0).setRg .DIE_HS_WD 0 0 0 2 with hsWait := [(.seqFetch k0, n)] }
    after (.handshakeWatchdogExpiry (.seqFetch k0)) (s 1) (fun t => t.seqState 0 == 1) = true ∧
      after (.handshakeWatchdogExpiry (.seqFetch k0)) (s 2) (fun t => t.seqState 0 == 4 &&
        bits (t.rg .SEQ_FAULT 0 0 0) 40 8 == 0x0C) = true := by decide +kernel

/-- R29, R382: two requests held make a pass of 2 rows, with 30 masked. -/
theorem test_masked_rows : let s : State := { genState false with gen := [aGen false, { aGen false with id := 8 }] }
    after .decodeWaitExpiry s (fun t => t.batch.length == 32 && (t.batch.filter Option.isSome).length == 2) = true := by decide +kernel

/-- Register Index, R483: what C-die 27 reads. -/
theorem test_die_id : State.reset.rg .DIE_ID 27 0 0 = 0x72641B21 := by decide +kernel

/-- The opcode table gives no row bits: no word spells a command, and fetching one changes nothing. -/
theorem test_no_words : decodeTableWord 128 0 = none ∧ State.reset.withFetchWord 128 0 = State.reset := by decide +kernel

end Sys2Proof.Tests
end

namespace Sys2Proof.Proofs

open Sys2Proof.Machine

/-- Settles O1: both clauses are `step` on the two forms of the queue. -/
theorem stepTakesTheFrontCommand : Obligations.StepTakesTheFrontCommand := by
  refine ⟨fun c s rest => rfl, fun s h => ?_⟩
  simp [step, h]

end Sys2Proof.Proofs

/-!
SUPPORT. The spaces of a sequencer lie in the SRAM window of its own die; what a store of bytes without an error mark does.
-/

namespace Sys2Proof.Machine

/-! ### Board addresses of SRAM places -/

theorem State.ownBit_lt (s : State) : s.ownBit < 2 := by
  unfold State.ownBit b2n
  split <;> omega

theorem State.regionOf_boardAddr (s : State) {o : Nat} (ho : o < 2 ^ 41) : regionOf (s.boardAddr 2 o) = 2 := by
  have := s.ownBit_lt
  simp only [regionOf, bits, State.boardAddr]
  omega

theorem State.offOf_boardAddr (s : State) {o : Nat} (ho : o < 2 ^ 41) : offOf (s.boardAddr 2 o) = o := by
  simp only [offOf, bits, State.boardAddr]
  omega

theorem State.isOwn_boardAddr (s : State) {o : Nat} (ho : o < 2 ^ 41) : s.isOwn (s.boardAddr 2 o) = true := by
  have := s.ownBit_lt
  simp only [State.isOwn, bits, State.boardAddr, beq_iff_eq]
  omega

/-- The part of a C-die's window with scratchpads and command memories names a place on that die. -/
theorem sramLoc_slot_of_core {d t : Nat} (hd : d < 64) (ht : t < 0x18400000) :
    ∃ l, sramLoc (0x20000000 * d + t) = some l ∧ l.slot = d := by
  have h1 : 0x20000000 * d + t < 0x800000000 := by omega
  have h2 : (0x20000000 * d + t) / 0x20000000 = d := by omega
  have h3 : (0x20000000 * d + t) % 0x20000000 = t := by omega
  unfold sramLoc
  rw [if_pos h1]
  simp only [h2, h3]
  split
  · exact ⟨_, rfl, rfl⟩
  · rw [if_pos (by omega)]
    exact ⟨_, rfl, rfl⟩

/-- A range there is memory of this module. -/
theorem State.populated_core (s : State) {d t n : Nat} (hd : d < 64) (hn : 1 ≤ n) (ht : t + n ≤ 0x18400000) :
    s.populated (s.boardAddr 2 (0x20000000 * d + t)) n = true := by
  have ho : 0x20000000 * d + t < 2 ^ 41 := by omega
  obtain ⟨a, ha, hda⟩ := sramLoc_slot_of_core hd (show t < 0x18400000 by omega)
  obtain ⟨b, hb, hdb⟩ := sramLoc_slot_of_core hd (show t + (n - 1) < 0x18400000 by omega)
  have hb' : sramLoc (n - 1 + (0x20000000 * d + t)) = some b := by rw [← hb]; congr 1; omega
  have hle : n + (0x20000000 * d + t) ≤ 0x880000000 := by omega
  simp only [State.populated, State.assigned, s.isOwn_boardAddr ho, s.regionOf_boardAddr ho, s.offOf_boardAddr ho, ha, hb',
    hda, hdb, BEq.rfl, decide_eq_true hle, Bool.and_self]

/-- Eight bytes of a space of a sequencer lie at one board address of SRAM of this module. -/
theorem State.spaceAddr_sram (s : State) (c : CoreId) {sp a n : Nat} (hsp : sp < 2) (hn : 1 ≤ n) (ha : a + n ≤ spaceSize sp) :
    s.populated (s.spaceAddr c.ix sp a) n = true ∧ regionOf (s.spaceAddr c.ix sp a) = 2 := by
  have hd : c.ix / 16 < 64 := by have := c.die.isLt; have := c.core.isLt; unfold CoreId.ix; omega
  have hu : c.ix % 16 < 16 := Nat.mod_lt _ (by omega)
  obtain rfl | rfl : sp = 0 ∨ sp = 1 := by omega
  · have hsize : a + n ≤ 0x1800000 := ha
    exact ⟨s.populated_core hd hn (by omega), s.regionOf_boardAddr (by omega)⟩
  · have hsize : a + n ≤ 0x40000 := ha
    have hcm : s.spaceAddr c.ix 1 a =
        s.boardAddr 2 (0x20000000 * (c.ix / 16) + (0x18000000 + (0x40000 * (c.ix % 16) + a))) := by
      change s.boardAddr 2 _ = _
      congr 1
      omega
    rw [hcm]
    exact ⟨s.populated_core hd hn (by omega), s.regionOf_boardAddr (by omega)⟩

/-! ### Stored bytes -/

/-- A set run reads back. -/
theorem Sparse.get_setRun_inside {α : Type} [DecidableEq α] (d : Nat → α) (m : List (Nat × α)) (k : Nat) (vs : List α)
    (i : Nat) (hi : i < vs.length) : Sparse.get d (Sparse.setRun d m k vs) (k + i) = vs[i] := by
  induction vs generalizing m k i with
  | nil => cases hi
  | cons v vs ih =>
    cases i with
    | zero =>
      rw [Sparse.setRun, Sparse.get_setRun_outside _ _ _ _ _ (.inl (by omega)), Sparse.get_set]
      simp
    | succ i =>
      rw [Sparse.setRun, show k + (i + 1) = k + 1 + i by omega]
      exact ih _ _ _ (by simpa using hi)

/-- A byte inside a stored run reads back. -/
theorem State.byte_putBytes_inside (s : State) (a : Nat) (bs : List Nat) (i : Nat) (hi : i < bs.length) :
    (s.putBytes a bs).byte (a + i) = bs[i] % 256 := by
  unfold State.byte State.putBytes
  rw [Sparse.get_setRun_inside _ _ _ _ _ (by simpa using hi)]
  simp

theorem length_leBytes (n v : Nat) : (leBytes n v).length = n := by
  induction n generalizing v with
  | zero => rfl
  | succ n ih => rw [leBytes, List.length_cons, ih]

theorem leBytes_get (n v i : Nat) (hi : i < (leBytes n v).length) : (leBytes n v)[i] = v / 256 ^ i % 256 := by
  induction n generalizing v i with
  | zero => cases hi
  | succ n ih =>
    cases i with
    | zero => simp [leBytes]
    | succ i =>
      simp only [leBytes, List.getElem_cons_succ]
      rw [ih, Nat.div_div_eq_div_mul, Nat.pow_succ']

/-- A write to populated SRAM without error marks stores its bytes and nothing else. -/
theorem State.writeRange_sram (s : State) (addr : Nat) (bs : List Nat) (hn : bs.length ≠ 0)
    (hp : s.populated addr bs.length = true) (hr : regionOf addr = 2) (he : s.ecc = []) :
    (s.writeRange addr bs).1 = s.putBytes addr bs := by
  have hs : { s with ecc := [] } = s := by rw [← he]
  have hmarked : s.markedWords addr bs.length = [] := by rw [State.markedWords, he]; rfl
  have hpart : (partialUnits 8 addr bs.length).filter (fun w => (s.markedWords addr bs.length).contains w) = [] := by
    rw [List.filter_eq_nil_iff, hmarked]
    exact fun _ _ => Bool.false_ne_true
  simp only [State.writeRange, if_neg hn, hp, if_pos hr, hpart, State.checkWords, he, List.filter_nil, hs, Bool.not_true,
    Bool.false_eq_true, if_false]

/-! ### Retiring -/

/-- Retiring goes on at the next index. -/
theorem State.pc_retire (s : State) (core : Nat) (h : s.pc core < 16383) : (s.retire core).pc core = s.pc core + 1 := by
  have hle : s.pc core + 1 ≤ 16383 := h
  unfold State.retire State.retireTo
  simp only [if_pos hle]
  rw [State.pc, State.rg_setRg, if_pos rfl]
  split <;> omega

theorem byte_congr {s t : State} (h : t.mem = s.mem) (a : Nat) : t.byte a = s.byte a := by
  rw [State.byte, State.byte, h]

/-! ### SCL.LD and SCL.ST -/

theorem execSclLd_at (s : State) (c : CoreId) (x : BitVec 128)
    (h : s.atCommand c x 0x04 [(115, 5), (110, 5), (100, 1), (0, 64)] ⟨[cSrc1 x], [cDst x]⟩ = true) :
    exec (.sclLd c .none) s = .next (match s.spaceRead c.ix (cf x 100 1) (s.effAddr c.ix x) 8 8 with
      | (z, some bs) => (z.setSc c.ix (cDst x) (ofLeBytes bs)).retire c.ix
      | (z, none) => z.seqFault c.ix 0x07 7) :=
  congrArg Host.Outcome.next (s.seqStep_atCommand c x 0x04 _ anyWord (fun x => ⟨[cSrc1 x], [cDst x]⟩) _ h rfl)

theorem execSclSt_at (s : State) (c : CoreId) (x : BitVec 128)
    (h : s.atCommand c x 0x05 [(110, 5), (105, 5), (100, 1), (0, 64)] ⟨[cSrc1 x, cSrc2 x], []⟩ = true) :
    exec (.sclSt c .none) s = .next
      (if s.effAddr c.ix x % 8 ≠ 0 ∨ spaceSize (cf x 100 1) < s.effAddr c.ix x + 8 then s.seqFault c.ix 0x07 7
      else ((s.writeRange (s.spaceAddr c.ix (cf x 100 1) (s.effAddr c.ix x)) (leBytes 8 (s.sc c.ix (cSrc2 x)))).1).retire
        c.ix) :=
  congrArg Host.Outcome.next (s.seqStep_atCommand c x 0x05 _ anyWord (fun x => ⟨[cSrc1 x, cSrc2 x], []⟩) _ h rfl)

end Sys2Proof.Machine

namespace Sys2Proof.Proofs

open Sys2Proof.Machine

/-- Settles O7: the command runs (`State.seqStep_atCommand`), and its space lies in SRAM of this module. -/
theorem scalarLoadsAndStores : Obligations.ScalarLoadsAndStores := by
  intro s c x sp hsp a board
  have hsp2 : sp < 2 := by rw [hsp]; exact Nat.mod_lt _ (by decide)
  refine ⟨fun bs h hal hin hread => ?_, fun h hal hin hecc hpc => ?_, fun hbad => ⟨fun h => ?_, fun h => ?_⟩⟩
  · have hgo : ¬ (a % 8 ≠ 0 ∨ spaceSize sp < a + 8) := by omega
    have hsr : s.spaceRead c.ix sp a 8 8 = (s, some bs) := by
      simp only [State.spaceRead, if_neg hgo]
      rw [hread]
    rw [execSclLd_at s c x h, ← hsp]
    change Host.Outcome.next (match s.spaceRead c.ix sp a 8 8 with | (z, some bs) => _ | (z, none) => _) = _
    rw [hsr]
  · have hgo : ¬ (a % 8 ≠ 0 ∨ spaceSize sp < a + 8) := by omega
    obtain ⟨hpop, hreg⟩ := s.spaceAddr_sram c hsp2 (show 1 ≤ 8 by decide) hin
    let bs := leBytes 8 (s.sc c.ix (cSrc2 x))
    have hlen : bs.length = 8 := length_leBytes 8 _
    have hput : (s.writeRange board bs).1 = s.putBytes board bs :=
      s.writeRange_sram board bs (by omega) (by rw [hlen]; exact hpop) hreg hecc
    refine ⟨(s.putBytes board bs).retire c.ix, ?_, State.pc_retire _ _ hpc, fun i hi => ?_, fun b hb => ?_⟩
    · rw [execSclSt_at s c x h, ← hsp, ← hput]
      exact congrArg Host.Outcome.next (if_neg hgo)
    · rw [byte_congr (State.retire_mem _ _), State.byte_putBytes_inside _ _ _ _ (by omega), leBytes_get, Nat.mod_mod]
    · rw [byte_congr (State.retire_mem _ _), State.byte_putBytes_outside _ _ _ _ (by omega)]
  · have hsr : s.spaceRead c.ix sp a 8 8 = (s, none) := by
      simp only [State.spaceRead, if_pos hbad]
    rw [execSclLd_at s c x h, ← hsp]
    change Host.Outcome.next (match s.spaceRead c.ix sp a 8 8 with | (z, some bs) => _ | (z, none) => _) = _
    rw [hsr]
  · rw [execSclSt_at s c x h, ← hsp]
    exact congrArg Host.Outcome.next (if_pos hbad)

end Sys2Proof.Proofs

/-!
SUPPORT. A register write that passes the checks of the bus comes to its register's own action.
-/

namespace Sys2Proof.Machine

/-- The register that a location names lies on the die of the location's top byte. -/
theorem locate_die {l : Nat} {r : Reg} {d i j : Nat} (h : locate l = some (r, d, i, j)) : d = l / 0x1000000 := by
  have hin (rs : List Reg) (h : locateIn rs l = some (r, d, i, j)) : d = l / 0x1000000 := by
    induction rs with
    | nil => cases h
    | cons q rs ih =>
      simp only [locateIn, Reg.locate?] at h
      split at h
      · next heq =>
        split at h
        · split at heq
          · split at heq
            · simp only [Option.some.injEq, Prod.mk.injEq] at h heq
              obtain ⟨hd, -⟩ := heq
              obtain ⟨-, hd', -⟩ := h
              rw [← hd', ← hd]
            · cases heq
          · cases heq
        · exact ih h
      · exact ih h
  exact hin Reg.all h

/-- What `State.reaches` asks of a register write. -/
theorem State.reaches_iff (s : State) (w : Writer) (r : Reg) (die i j v : Nat) :
    s.reaches w r die i j v = true ↔ loc r die i j < 2 ^ 32 ∧ s.resolve (loc r die i j) = loc r die i j ∧
      badAccess (loc r die i j) r.row.w64 = false ∧ s.unserved (loc r die i j) = false ∧
      locate (loc r die i j) = some (r, die, i, j) ∧ s.mayWrite w r (loc r die i j) = true ∧
      s.lockedReg r die i j v = false := by
  simp [State.reaches, and_assoc]

/-- A requester that carries the epoch of the location's die passes the epoch check, which changes nothing. -/
theorem State.epochCheck_same (s : State) (l e : Nat)
    (h : (match s.leaseDie l with
      | none => true
      | some d => s.rg .DIE_LEASE d 0 0 == e) = true) : s.epochCheck l e = (s, true) := by
  unfold State.epochCheck
  split
  · rfl
  · next d hd =>
    rw [hd] at h
    have he : s.rg .DIE_LEASE d 0 0 = e := by simpa using h
    simp [he]

/-- A requester with an older epoch does not: the stale write is counted. -/
theorem State.epochCheck_stale (s : State) (l e d : Nat) (hd : s.leaseDie l = some d) (he : e < s.rg .DIE_LEASE d 0 0) :
    s.epochCheck l e = (s.bump .DIE_STALE d 0 0 1, false) := by
  simp [State.epochCheck, hd, he]

/-- A write whose requester may make it, at a register that no lock holds, is the register's action. -/
theorem State.regWriteAt_mayWrite (s : State) (w : Writer) (r : Reg) (k d i j v : Nat) (hl : locate k = some (r, d, i, j))
    (hw : s.mayWrite w r k = true) (hlock : s.lockedReg r d i j v = false) :
    s.regWriteAt w k v = s.regAct w r d i j v := by
  have hd := locate_die hl
  unfold State.regWriteAt
  rw [hl]
  cases w with
  | twin =>
    have hatt : ¬ (k / 0x10000 % 0x100 = 0x50 ∧ d < 0x60 ∧ 0x50 ≤ d ∧ (!r.attWritable) = true) := by
      rintro ⟨h1, h2, h3, h4⟩
      subst hd
      simp_all [State.mayWrite]
    simp only [if_neg hatt, hlock, Bool.false_eq_true, if_false]
  | node n =>
    have hn : r.nodeWritable = true := hw
    simp [hn, hlock]
  | cc east core e => simp [hlock]
  | mgmt => simp [hlock]
  | unit u => simp [hlock]

/-- A location in the register space, of the access's width and served, is not refused. -/
theorem State.access_served (s : State) {l : Nat} {wide : Bool} (hlt : l < 2 ^ 32) (hbad : badAccess l wide = false)
    (huns : s.unserved l = false) : ¬ (2 ^ 32 ≤ l ∨ badAccess l wide = true ∨ s.unserved l = true) := by
  rw [hbad, huns]
  rintro (h | h | h)
  · omega
  · cases h
  · cases h

/-- Past the bus's checks, the write is the register's action. -/
theorem State.busWrite_reaches (s : State) (w : Writer) (r : Reg) (die i j v : Nat) (h : s.reaches w r die i j v = true) :
    s.busWrite w (loc r die i j) r.row.w64 v = s.regAct w r die i j v := by
  obtain ⟨hlt, hres, hbad, huns, hloc, hmay, hlock⟩ := (s.reaches_iff w r die i j v).1 h
  have hgo := s.access_served hlt hbad huns
  have hact := s.regWriteAt_mayWrite w r _ die i j v hloc hmay hlock
  unfold State.busWrite
  simp only [hres, if_neg hgo]
  cases w with
  | cc east core e =>
    simp only [State.mayWrite, Bool.and_eq_true, bne_iff_ne, ne_eq, Bool.or_eq_true] at hmay
    obtain ⟨hf, hw⟩ := hmay
    simp only [if_neg hf]
    split
    · exact hact
    · next hwb => simp only [s.epochCheck_same _ _ (hw.resolve_left hwb), hact]
  | mgmt => simp only [s.epochCheck_same _ _ hmay, hact]
  | twin => exact hact
  | node n => exact hact
  | unit u => exact hact

end Sys2Proof.Machine

namespace Sys2Proof.Proofs

open Sys2Proof.Machine

/-- Settles O20: the bus's checks pass (`State.busWrite_reaches`), or the epoch check counts a stale write. -/
theorem registerWritesReachTheirRules : Obligations.RegisterWritesReachTheirRules := by
  intro s w r die i j v
  refine ⟨fun h => congrArg State.wrote (s.busWrite_reaches w r die i j v h), ?_⟩
  rintro east core e d rfl hlt hres hbad huns hfence hwatch hdie hstale
  have hgo := s.access_served hlt hbad huns
  have hbus : s.busWrite (.cc east core e) (loc r die i j) r.row.w64 v = (s.bump .DIE_STALE d 0 0 1, .error) := by
    simp only [State.busWrite, hres, if_neg hgo, hfence, hwatch, Bool.false_eq_true, if_false,
      s.epochCheck_stale _ _ d hdie hstale]
  exact congrArg State.wrote hbus

end Sys2Proof.Proofs

namespace Sys2Proof.Machine

/-- An ordinary write of a register without a fixed field. -/
theorem State.plainWrite_eq (s : State) (r : Reg) (die i j v : Nat) (hr : r ≠ .DMA_CH_CTRL) :
    s.plainWrite r die i j v =
      (s.setRg r die i j (writeBits (s.rg r die i j) v (if s.svc = .startup then r.row.wr ||| r.row.lock else r.row.wr) r.row.w1c),
        decide (s.svc = .startup) || r.row.lock == 0) := by
  by_cases h : s.svc = .startup <;> simp [State.plainWrite, hr, h]

/-- The registers of O21 have no action of their own. -/
theorem State.regAct_plain (s : State) (w : Writer) (r : Reg) (die i j v : Nat)
    (hr : r ∈ [Reg.VAT_PROG_TO, .JOB_WD, .ARITH_STICKY, .DIE_FAULT, .PWR_CFG]) :
    s.regAct w r die i j v = wans (s.plainWrite r die i j v) := by
  simp only [List.mem_cons, List.not_mem_nil, or_false] at hr
  obtain rfl | rfl | rfl | rfl | rfl := hr <;> rfl

/-- Storing a register leaves the others, and all but the registers. -/
theorem State.setRg_sameRegsBut (s : State) (r : Reg) (die i j v : Nat) :
    SameRegsBut [loc r die i j] s (s.setRg r die i j v) := by
  intro l hl
  have hl' : l ≠ loc r die i j := by simpa using hl
  rw [State.setRg, Sparse.get_set, if_neg hl']

theorem State.wrote_wans (t : State) (ok : Bool) : State.wrote (wans (t, ok)) = t.answer (if ok then .ok else .accessError) := by
  cases ok <;> rfl

/-- Such a write stores the bits that its masks let through, and is an access error where locked bits stay as they are. -/
theorem State.widthWrite_plain (s : State) (w : Writer) (r : Reg) (die i j : Nat) (v : BitVec 64)
    (hr : r ∈ [Reg.VAT_PROG_TO, .JOB_WD, .ARITH_STICKY, .DIE_FAULT, .PWR_CFG]) (hv : r.row.w64 = false → v.toNat < 2 ^ 32)
    (h : s.reaches w r die i j v.toNat = true) :
    s.widthWrite w (BitVec.ofNat 32 (loc r die i j)).toNat (if r.row.w64 then .w8 else .w4) v.toNat =
      wans (s.setRg r die i j (writeBits (s.rg r die i j) v.toNat
        (if s.svc = .startup then r.row.wr ||| r.row.lock else r.row.wr) r.row.w1c),
        decide (s.svc = .startup) || r.row.lock == 0) := by
  obtain ⟨hlt, -⟩ := (s.reaches_iff w r die i j v.toNat).1 h
  have hne : r ≠ .DMA_CH_CTRL := by rintro rfl; simp at hr
  have hact := (s.busWrite_reaches w r die i j v.toNat h).trans
    ((s.regAct_plain w r die i j _ hr).trans (congrArg wans (s.plainWrite_eq r die i j _ hne)))
  rw [BitVec.toNat_ofNat, Nat.mod_eq_of_lt hlt]
  cases h64 : r.row.w64 with
  | true => rw [h64] at hact; exact hact
  | false =>
    rw [h64] at hact
    simpa only [State.widthWrite, Bool.false_eq_true, if_false, Nat.mod_eq_of_lt (hv h64)] using hact

end Sys2Proof.Machine

namespace Sys2Proof.Proofs

open Sys2Proof.Machine

/-- Settles O21: the write reaches `State.plainWrite`, or is refused by its width, or leaves as a REG_WR. -/
theorem plainRegisterWrites : Obligations.PlainRegisterWrites := by
  refine ⟨?_, ?_, ?_⟩
  · intro s w r die i j v hr hv h mask ok
    let t := s.setRg r die i j (writeBits (s.rg r die i j) v.toNat mask r.row.w1c)
    refine ⟨t.answer (if ok then .ok else .accessError), ?_, ?_, s.setRg_sameRegsBut r die i j _, rfl⟩
    · exact congrArg Host.Outcome.next
        ((congrArg State.wrote (s.widthWrite_plain w r die i j v hr hv h)).trans (State.wrote_wans t ok))
    · change t.rg r die i j % _ = _
      rw [State.rg_setRg, if_pos rfl]
      split <;> simp
  · intro s w a n v
    have hfar : s.farWrite w a.off.toNat (.other n) v.toNat = (s, .error) := by cases w <;> rfl
    change Host.Outcome.next (State.wrote (if a.far then s.farWrite w a.off.toNat (.other n) v.toNat else (s, .error))) = _
    rw [hfar, ite_self]
    rfl
  · intro s z east core e a v sent hf hs
    have hfar : s.farWrite (.cc east core e) a.toNat .w8 v.toNat = (z, if sent then .later else .error) := by
      cases sent <;> simp [State.farWrite, State.farStore, hf, hs]
    change Host.Outcome.next (State.wrote (s.farWrite (.cc east core e) a.toNat .w8 v.toNat)) = _
    rw [hfar]
    cases sent <;> rfl

end Sys2Proof.Proofs

/-!
SUPPORT. What a flit that a port delivers does at its destination.
-/

namespace Sys2Proof.Machine

/-- Nor does the twin's node change. -/
theorem PortOnly.twinNode {s t : State} (h : PortOnly s t) : t.twinNode = s.twinNode := by
  simp [State.twinNode, h.node]

/-- A VETCH flit next in sequence takes effect whatever its source and destination. -/
theorem State.rxFlit_vetch (s : State) (r : Rx) (f : Flit) (deliver : State → State) (h : s.portState r.port.val = 2)
    (hq : r.seq.toNat = (s.port r.port.val).rxSeq) (ht : f.typ = 0x20) :
    s.rxFlit r f deliver = deliver ((s.flitsAcked r.port.val (r.ack.map BitVec.toNat)).acceptFlit r.port.val 3) := by
  obtain ⟨-, hseq⟩ := s.flitsAcked_sends r.port.val (r.ack.map BitVec.toNat) r.port.isLt
  simp [State.rxFlit, h, hseq, hq, ht, vcOf]

/-- A write of the twin to memory of this module that no capture holds up is written and acknowledged. -/
theorem State.serveWr_twin (s : State) (w : HeldWr) (hf : s.fromTwin w.node w.addr = true)
    (hg : s.guarded w.addr w.data.length = false) :
    s.serveWr w = (s.memWrite .twin w.addr w.data).1.respond 0x04 w.node w.tag
      (s.memWrite .twin w.addr w.data).2.isSome [] := by
  simp [State.serveWr, hf, hg]

/-- A write of another node to a register that R344 does not name is refused. -/
theorem State.busWrite_node_refused (s : State) (n : BitVec 8) (l v : Nat) (wide : Bool) (x : Reg) (d i j : Nat)
    (hl : locate l = some (x, d, i, j)) (hr : s.resolve l = l) (hx : x.nodeWritable = false) :
    s.busWrite (.node n) l wide v = (s, .error) := by
  have hat : s.regWriteAt (.node n) l v = (s, .error) := by simp [State.regWriteAt, hl, hx]
  unfold State.busWrite
  simp only [hr, hat, ite_self]

/-- The delivery of a flit of a row, at the state in which its virtual channel accepted it. -/
theorem State.rxFlit_row (s : State) (r : Rx) (typ lm1 addr : Nat) (bs : List Nat) (deliver : State → State)
    (h : s.portState r.port.val = 2) (hq : r.seq.toNat = (s.port r.port.val).rxSeq) (ha : s.admitted r.src.toNat = true)
    (hf : s.fenced r.src.toNat = false) (hd : r.dst.toNat = s.node) :
    s.rxFlit r (rxAsFlit r typ lm1 addr bs) deliver =
      deliver ((s.flitsAcked r.port.val (r.ack.map BitVec.toNat)).acceptFlit r.port.val (vcOf typ)) :=
  s.rxFlit_delivers r (rxAsFlit r typ lm1 addr bs) deliver h hq ha hf hd

end Sys2Proof.Machine

namespace Sys2Proof.Proofs

open Sys2Proof.Machine

/-- Settles O40: each flit's own effect, at the state that `State.rxFlit_delivers` gives. -/
theorem flitsTakeEffect : Obligations.FlitsTakeEffect := by
  intro s r hup
  extract_lets p s1 z src tag
  intro hseq
  have hport : PortOnly s (z 0) :=
    (s.flitsAcked_sends p (r.ack.map BitVec.toNat) r.port.isLt).1.trans (s1.acceptFlit_portOnly p 0 r.port.isLt)
  refine ⟨fun q k f => ?_, fun hadm hfen hdst => ?_⟩
  · exact congrArg Host.Outcome.next ((s.rxFlit_vetch r _ _ hup hseq rfl).trans (ite_not _ _ _))
  · have hdel (typ lm1 addr : Nat) (bs : List Nat) (deliver : State → State) :
        s.rxFlit r (rxAsFlit r typ lm1 addr bs) deliver = deliver (z (vcOf typ)) :=
      s.rxFlit_row r typ lm1 addr bs deliver hup hseq hadm hfen hdst
    have hvc : vcOf 0x02 = 0 ∧ vcOf 0x05 = 0 ∧ vcOf 0x03 = 1 ∧ vcOf 0x04 = 1 := by decide
    obtain ⟨hrd, hreg, hresp, hack⟩ := hvc
    clear_value z
    subst src tag
    refine ⟨fun a data => ?_, fun a n t bs hf hm => ?_, fun data q t hq hw => ?_, fun q t hq hw => ?_,
      fun off v => ⟨?_, ?_, ?_⟩⟩
    · intro bs hf hg w
      exact congrArg Host.Outcome.next ((hdel _ _ _ _ _).trans ((z 0).serveWr_twin ⟨_, _, a.toNat, bs⟩ hf hg))
    · simp only [exec, execRdReq, hdel, hrd, hf, hm, Bool.not_true, Bool.false_eq_true, if_false]
    · simp only [exec, execRdResp, hdel, hresp, hq, hw, Bool.false_eq_true, if_false]
    · simp only [exec, execWrAck, hdel, hack, hq, hw, Bool.false_eq_true, if_false]
    · intro t hsrc hbus
      have hv : (v.zeroExtend 64).toNat % 2 ^ 32 = v.toNat := by simp; omega
      have hw : r.src.toNat = (z 0).twinNode := hsrc.trans hport.twinNode.symm
      simp only [exec, execRegWr, hdel, hreg, State.widthWrite, hv, if_pos hw, hbus]
    · intro x d i j hsrc hl hr hx
      have hw : r.src.toNat ≠ (z 0).twinNode := fun h => hsrc (h.trans hport.twinNode)
      simp only [exec, execRegWr, hdel, hreg, State.widthWrite, if_neg hw,
        (z 0).busWrite_node_refused r.src off.toNat _ false x d i j hl hr hx]
    · intro n
      simp only [exec, execRegWr, hdel, hreg, State.widthWrite]

end Sys2Proof.Proofs

/-!
SUPPORT. What the loss of sessions leaves of their generation requests, and which requests an open session is served.
-/

namespace Sys2Proof.Machine

/-- The batch scheduler changes nothing but the generation requests, the batch and the time waited for it. -/
def BatchOnly (s t : State) : Prop := ∃ gen batch lt, t = { s with gen := gen, batch := batch, decLt := lt }

theorem BatchOnly.trans {s t u : State} (h : BatchOnly s t) (k : BatchOnly t u) : BatchOnly s u := by
  obtain ⟨gen, batch, lt, rfl⟩ := h
  obtain ⟨gen', batch', lt', rfl⟩ := k
  exact ⟨gen', batch', lt', rfl⟩

theorem State.genAdmit_batchOnly (s : State) : BatchOnly s s.genAdmit := by
  unfold State.genAdmit
  split
  · exact ⟨_, _, _, rfl⟩
  · exact ⟨s.gen, s.batch, s.decLt, rfl⟩

theorem State.genIssue_batchOnly (s : State) : BatchOnly s s.genIssue := by
  unfold State.genIssue State.issueBatch
  split
  · split
    · exact ⟨_, _, _, rfl⟩
    · exact ⟨s.gen, s.batch, s.decLt, rfl⟩
  · exact ⟨s.gen, s.batch, s.decLt, rfl⟩

/-- Sessions lost: their entries go, and registers, memory and the job stay. -/
theorem State.loseSessions_frame (s : State) (gone : Nat → Bool) :
    (s.loseSessions gone).sessions = s.sessions.filter (fun x => !gone x.id) ∧ (s.loseSessions gone).mgmtUp = s.mgmtUp ∧
      (s.loseSessions gone).regs = s.regs ∧ (s.loseSessions gone).mem = s.mem ∧ (s.loseSessions gone).job = s.job := by
  unfold State.loseSessions
  extract_lets s1
  obtain ⟨gen, batch, lt, h⟩ := s1.genAdmit_batchOnly.trans s1.genAdmit.genIssue_batchOnly
  rw [h]
  exact ⟨rfl, rfl, rfl, rfl, rfl⟩

/-- A request dropped for all sessions keeps its row in the batch in progress, and no region. -/
theorem dropGen_all (gs : List GenReq) : ∀ g ∈ dropGen (fun _ => true) gs, g.inBatch = true ∧ g.region = none := by
  intro g hg
  simp only [dropGen, if_true, List.mem_filterMap] at hg
  obtain ⟨g', -, hg'⟩ := hg
  split at hg'
  · next hb =>
    cases hg'
    exact ⟨hb, rfl⟩
  · cases hg'

/-- Requests of the batch in progress wait for no region. -/
theorem admitGen_inBatch (j : Job) (used : List (Nat × Nat)) (gs : List GenReq) (h : ∀ g ∈ gs, g.inBatch = true) :
    admitGen j used gs = gs := by
  induction gs with
  | nil => rfl
  | cons g gs ih =>
    have hg : g.inBatch = true := h g List.mem_cons_self
    have hgs := ih fun x hx => h x (List.mem_cons_of_mem g hx)
    simp [admitGen, hg, hgs]

/-- With every request in the batch in progress, the scheduler changes no request. -/
theorem State.genAdmit_genIssue_inBatch (s : State) (h : ∀ g ∈ s.gen, g.inBatch = true) :
    s.genAdmit.genIssue.gen = s.gen := by
  have hadmit : s.genAdmit.gen = s.gen := by
    unfold State.genAdmit
    split
    · exact admitGen_inBatch _ _ _ h
    · rfl
  have hheld : s.genAdmit.genHeld = 0 := by
    simp only [State.genHeld, hadmit, List.length_eq_zero_iff, List.filter_eq_nil_iff]
    intro g hg
    simp [h g hg]
  simp [State.genIssue, hheld, minRows, hadmit]

/-- With all sessions lost no request holds a region. -/
theorem State.loseSessions_all_regions (s : State) : ∀ g ∈ (s.loseSessions fun _ => true).gen, g.region = none := by
  unfold State.loseSessions
  extract_lets s1
  have hall : ∀ g ∈ s1.gen, g.inBatch = true ∧ g.region = none := dropGen_all s.gen
  rw [s1.genAdmit_genIssue_inBatch fun g hg => (hall g hg).1]
  exact fun g hg => (hall g hg).2

/-- A session whose entries are filtered out is not open. -/
theorem State.sessionOpen_of_filtered (s : State) (n : Nat) (l : List Session)
    (h : s.sessions = l.filter fun x => x.id != n) : s.sessionOpen n = false := by
  simp [State.sessionOpen, h]

/-- A request of an open session is served. -/
theorem State.asks_open (s : State) (q : Req) (serve : State) (h : s.sessionOpen q.session.val = true) :
    s.asks q serve = serve := by
  rw [State.asks, if_pos h]

/-- A request of an open session is served in normal, recovery and test mode, unless fallback settings are in force. -/
theorem State.asksNormal_open (s : State) (q : Req) (typ : Nat) (serve : State) (h : s.sessionOpen q.session.val = true)
    (hs : s.svc ≠ .startup) (hf : s.fallback = false) : s.asksNormal q typ serve = serve := by
  have hno : ¬ (s.svc = .startup ∨ s.fallback = true) := by simp [hs, hf]
  rw [State.asksNormal, s.asks_open q _ h, if_neg hno]

end Sys2Proof.Machine

namespace Sys2Proof.Proofs

open Sys2Proof.Machine

/-- Settles O49: a request of an open session comes to what the row serves (`State.asks_open`, `State.asksNormal_open`). -/
theorem managementSessions : Obligations.ManagementSessions := by
  intro s
  refine ⟨fun hup h => ?_, fun hboot => ?_, ?_, fun n => ?_, fun n x period offs hx htele hlt => ?_, fun q hopen => ?_⟩
  · intro good no
    refine ⟨fun n hgood hfree => ?_, fun hbad => ?_⟩
    · simp only [good] at hgood
      simp [exec, execMgmtConnect, hup, hgood, hfree]
    · show execMgmtConnect h s = .next no
      unfold execMgmtConnect
      rw [if_neg (by simp [hup])]
      obtain hbad | hfree := hbad
      · exact if_pos (congrArg not hbad)
      · rw [hfree]
        exact ite_self _
  · simp [exec, execMgmtLinkUp, hboot]
  · obtain ⟨hsess, hup, -⟩ := ({ s with mgmtUp := false } : State).loseSessions_frame fun _ => true
    exact ⟨_, rfl, by simp [hsess], hup, State.loseSessions_all_regions _⟩
  · obtain ⟨hsess, -, hregs, hmem, hjob⟩ := s.loseSessions_frame fun i => i == n.val
    exact ⟨_, rfl, hsess, State.sessionOpen_of_filtered _ _ _ hsess, hregs, hmem, hjob⟩
  · have hnot : ¬ x.teleLt < period := by omega
    simp only [exec, execTelemetry, hx, htele, if_neg hnot]
  · refine ⟨fun typ => congrArg Host.Outcome.next (s.asks_open q _ hopen),
      congrArg Host.Outcome.next (s.asks_open q _ hopen), fun hs hf => ?_⟩
    have hserve (typ : Nat) (serve : State) := s.asksNormal_open q typ serve hopen hs hf
    refine ⟨fun offs hlen => ⟨fun vs hvs => ?_, fun i hi => ?_⟩, fun ws t hlen => ?_, fun period offs hlo hhi hlen => ?_⟩
    · simp only [exec, execRegRead, hserve, if_neg (Nat.not_lt.2 hlen), hvs]
    · simp only [exec, execRegRead, hserve, if_neg (Nat.not_lt.2 hlen), hi]
    · intro p
      refine ⟨fun hp => ?_, fun i hp => ?_⟩
      · simp only [exec, execRegWrite, hserve, if_neg (Nat.not_lt.2 hlen), show s.writeRegs 0 _ = _ from hp]
      · simp only [exec, execRegWrite, hserve, if_neg (Nat.not_lt.2 hlen), show s.writeRegs 0 _ = _ from hp]
    · have hper : ¬ (period.toNat < 1000 ∨ 2 ^ 32 ≤ period.toNat) := by
        have h1000 : (1000 : BitVec 64).toNat = 1000 := rfl
        omega
      simp only [exec, execTeleSub, hserve, if_neg hper, if_neg (Nat.not_lt.2 hlen)]

end Sys2Proof.Proofs

/-!
SUPPORT. A local tick of the half in charge that ends a wait: it copies the tokens of a step whose boundary the barrier epoch has
reached, and signals the job's token semaphore (R24, R450).
-/

namespace Sys2Proof.Machine

/-- A started job of this node alone whose token semaphore is the semaphore 5 of X-die 0x50. -/
def tokenJob : Job :=
  { generation := false, root := 0, nodes := [0], contexts := [], barRootEast := false, maxRows := 32, decWait := 4,
    cachePool := 0x1000, cacheBase := 0x200000000, tokenBase := 0x200100000, tokenLen := 4, tokenSem := some (0x50, 5),
    tokenNext := 0, slotsDiffer := false, cacheBytes := 16, interval := 1, rootLag := 1, started := true, stopped := false }

/-- The job runs, the token of its first step is held, and the Vat of X-die 0x50 waits for the token semaphore. -/
def tokenWait : State :=
  { State.reset with
    svc := .normal
    job := some tokenJob
    tokens := [⟨0, 0, [7]⟩]
    semWaits := [⟨0x50, 5, 1, .vat, 0⟩] }

/-- The waits after a local tick of X-die 0x50 without stalls. -/
def waitsAfterTick (s : State) : Option (List SemWait) :=
  match exec (.localTick (.x 0) []) s with
  | .next t => some t.semWaits
  | _ => none

/-- The tick serves the wait. -/
theorem waitsAfterTick_tokenWait : waitsAfterTick tokenWait = some [] := by decide +kernel

end Sys2Proof.Machine

namespace Sys2Proof.Proofs

open Sys2Proof.Machine

/-- Refutes O55: a tick of X-die 0x50, which is in charge, copies the tokens of the job's step, and their signal serves a wait on
that die; the wait is gone, not counted. -/
theorem not_powerThermalAndTicks : ¬ Obligations.PowerThermalAndTicks := by
  intro h
  obtain ⟨-, -, -, -, -, htick⟩ := h tokenWait
  obtain ⟨t, hnext, -, hcounted, -⟩ := htick (.x 0) [] rfl
  have hgone : t.semWaits = [] := by
    have h := waitsAfterTick_tokenWait
    rw [waitsAfterTick, hnext] at h
    exact Option.some.inj h
  rw [hgone] at hcounted
  exact absurd hcounted (by decide)

end Sys2Proof.Proofs

/-!
SUPPORT. The state that a module reset leaves: stores in canonical form, memory that reads 0, and registers at their reset
values but for the fused floor (R15, R415).
-/

namespace Sys2Proof.Machine

theorem State.reset_canonical : State.reset.canonical = true := rfl

/-- A register of the state right after reset reads the reset value of its row. -/
theorem State.reset_rg (r : Reg) (die i j : Nat) (h : locate (loc r die i j) = some (r, die, i, j)) :
    State.reset.rg r die i j = r.resetVal die j % 2 ^ 64 := by
  have hget : State.reset.rg r die i j = (resetAt (loc r die i j)).toNat := rfl
  rw [hget, resetAt, h]
  exact BitVec.toNat_ofNat _ _

theorem locate_dieId (d : Fin 64) : locate (loc .DIE_ID d.val 0 0) = some (.DIE_ID, d.val, 0, 0) := by
  revert d
  decide +kernel

theorem locate_dmaChCtrl (c : Fin 32) : locate (loc .DMA_CH_CTRL 0 0 c.val) = some (.DMA_CH_CTRL, 0, 0, c.val) := by
  revert c
  decide +kernel

/-- A state with the fused floor, where one is fused, in both halves' copies of its register. -/
def State.withFloor (z : State) (floor : Nat) : State :=
  if floor = 0 then z else (z.setRg .SEC_FUSE 0x50 0 0 floor).setRg .SEC_FUSE 0x52 0 0 floor

theorem State.withFloor_eq (z : State) (floor : Nat) : ∃ regs, z.withFloor floor = { z with regs := regs } := by
  unfold State.withFloor
  split
  · exact ⟨z.regs, rfl⟩
  · exact ⟨_, rfl⟩

theorem State.withFloor_keeps (z : State) (floor : Nat) : Keeps z (z.withFloor floor) := by
  unfold State.withFloor
  split
  · exact Keeps.refl z
  · exact (z.setRg_keeps _ _ _ _ _).trans (State.setRg_keeps _ _ _ _ _ _)

theorem State.withFloor_sameRegsBut (z : State) (floor : Nat) :
    SameRegsBut [loc .SEC_FUSE 0x50 0 0, loc .SEC_FUSE 0x52 0 0] z (z.withFloor floor) := by
  intro l hl
  simp only [List.mem_cons, List.not_mem_nil, or_false, not_or] at hl
  obtain ⟨hwest, heast⟩ := hl
  unfold State.withFloor
  split
  · rfl
  · simp only [State.setRg, Sparse.get_set, if_neg hwest, if_neg heast]

/-- What lies outside the module, as a reset finds it. -/
def State.outside (s : State) : State :=
  { State.reset with
    pending := s.pending, flash := s.flash, floorFused := s.floorFused, resetN := s.resetN, aux12 := s.aux12
    main54 := s.main54, auxGood := s.auxGood, mainGood := s.mainGood, outbox := s.outbox, freshCtr := s.freshCtr }

theorem State.moduleReset_eq (s : State) : s.moduleReset = s.outside.withFloor s.floorFused := rfl

/-- All but its registers, a module reset leaves as in the state right after reset, or as outside the module. -/
theorem State.moduleReset_outside (s : State) : ∃ regs, s.moduleReset = { s.outside with regs := regs } :=
  s.outside.withFloor_eq s.floorFused

/-- The module itself is as in the state right after reset. -/
theorem State.moduleReset_module (s : State) : s.moduleReset.svc = .startup ∧ s.moduleReset.job = none ∧
    s.moduleReset.sessions = [] ∧ s.moduleReset.faultQ = [] := by
  obtain ⟨regs, h⟩ := s.moduleReset_outside
  rw [h]
  exact ⟨rfl, rfl, rfl, rfl⟩

/-- The queue, the flash and what has been sent stay. -/
theorem State.moduleReset_stays (s : State) : s.moduleReset.pending = s.pending ∧ s.moduleReset.flash = s.flash ∧
    s.moduleReset.outbox = s.outbox := by
  obtain ⟨regs, h⟩ := s.moduleReset_outside
  rw [h]
  exact ⟨rfl, rfl, rfl⟩

/-- Pins and supplies stay. -/
theorem State.moduleReset_pins (s : State) : s.moduleReset.mainGood = s.mainGood ∧ s.moduleReset.auxGood = s.auxGood ∧
    s.moduleReset.resetN = s.resetN ∧ s.moduleReset.main54 = s.main54 ∧ s.moduleReset.aux12 = s.aux12 := by
  obtain ⟨regs, h⟩ := s.moduleReset_outside
  rw [h]
  exact ⟨rfl, rfl, rfl, rfl, rfl⟩

/-- A module reset leaves the stores in canonical form, whatever they were. -/
theorem State.moduleReset_canonical (s : State) : s.moduleReset.canonical = true := by
  rw [s.moduleReset_eq]
  exact (s.outside.withFloor_keeps s.floorFused).tidy rfl

/-- Every byte reads 0 after a module reset. -/
theorem State.moduleReset_byte (s : State) (a : Nat) : s.moduleReset.byte a = 0 := by
  obtain ⟨regs, h⟩ := s.moduleReset_outside
  rw [h]
  rfl

/-- Every register but the fused floor is at its reset value. -/
theorem State.moduleReset_sameRegsBut (s : State) :
    SameRegsBut [loc .SEC_FUSE 0x50 0 0, loc .SEC_FUSE 0x52 0 0] State.reset s.moduleReset := by
  rw [s.moduleReset_eq]
  exact s.outside.withFloor_sameRegsBut s.floorFused

end Sys2Proof.Machine

namespace Sys2Proof.Proofs

open Sys2Proof.Machine

/-- Settles O56: the stores of the reset state are empty, and a module reset writes nothing but the fused floor into it
(`State.moduleReset_eq`). -/
theorem resetLeavesTheResetState : Obligations.ResetLeavesTheResetState := by
  refine ⟨State.reset_canonical, rfl, rfl, rfl, rfl, fun _ => rfl, fun r die i j hloc hlt => ?_, fun d => ?_, fun c => ?_,
    fun s => ?_, fun s main => ?_⟩
  · rw [State.reset_rg r die i j hloc, Nat.mod_eq_of_lt hlt]
  · rw [State.reset_rg _ _ _ _ (locate_dieId d), Reg.resetVal]
    omega
  · rw [State.reset_rg _ _ _ _ (locate_dmaChCtrl c), Reg.resetVal, if_pos (by decide)]
    omega
  · let z : State := { s with resetN := false, mainGood := false }
    obtain ⟨hsvc, hjob, hsess, hfq⟩ := z.moduleReset_module
    obtain ⟨hpend, hflash, hout⟩ := z.moduleReset_stays
    obtain ⟨hmain, -, hresetN, -⟩ := z.moduleReset_pins
    exact ⟨z.moduleReset, rfl, hsvc, hjob, hmain, hresetN, hpend, hflash, hout, hsess, hfq, z.moduleReset_canonical,
      z.moduleReset_byte, z.moduleReset_sameRegsBut⟩
  · cases main with
    | true =>
      let z : State := { s with main54 := false, mainGood := false }
      obtain ⟨hsvc, hjob, -⟩ := z.moduleReset_module
      obtain ⟨hpend, hflash, -⟩ := z.moduleReset_stays
      obtain ⟨hmain, haux, -, h54, -⟩ := z.moduleReset_pins
      exact ⟨z.moduleReset, rfl, hsvc, hjob, hmain, fun _ => ⟨h54, haux⟩, nofun, hpend, hflash,
        z.moduleReset_canonical, z.moduleReset_sameRegsBut⟩
    | false =>
      let z : State := { s with aux12 := false, auxGood := false, mainGood := false }
      obtain ⟨hsvc, hjob, -⟩ := z.moduleReset_module
      obtain ⟨hpend, hflash, -⟩ := z.moduleReset_stays
      obtain ⟨hmain, haux, -, -, h12⟩ := z.moduleReset_pins
      exact ⟨z.moduleReset, rfl, hsvc, hjob, hmain, nofun, fun _ => ⟨h12, haux⟩, hpend, hflash,
        z.moduleReset_canonical, z.moduleReset_sameRegsBut⟩

end Sys2Proof.Proofs

/-!
SUPPORT. What every command does to the queue, the straps, the service mode, the flash and the records of start-up (Laws/Keep.lean):
most keep them all; the others end a stop, stop a job, load one, start up, enter test mode or write the flash.
-/

namespace Sys2Proof.Machine

/-! ### What an outcome answers -/

/-- The next state that an outcome answers, if any, has the property. -/
def Answers (P : State → Prop) : Host.Outcome State Fault Refusal → Prop
  | .next t => P t
  | .fault _ => True
  | .refused _ => True

theorem answers_next {P : State → Prop} {t : State} : Answers P (.next t) ↔ P t := Iff.rfl

theorem Answers.of_eq {P : State → Prop} {o : Host.Outcome State Fault Refusal} {t : State} (h : Answers P o)
    (ho : o = .next t) : P t := by
  subst ho; exact h

theorem Answers.mono {P Q : State → Prop} {o : Host.Outcome State Fault Refusal} (h : Answers P o) (hpq : ∀ t, P t → Q t) :
    Answers Q o := by
  cases o with
  | next t => exact hpq t h
  | fault r => trivial
  | refused r => trivial

/-! ### How the fields that few commands change may change -/

/-- `t` keeps the stores' form, and its fields of `Still` stand to those of `s` as `R` says. -/
def Shifts (R : Still → Still → Prop) (s t : State) : Prop := Tidy s t ∧ R s.still t.still

/-- A module reset, and nothing else: start-up mode, and no record of test mode (R431, R434). -/
def Still.resets (a b : Still) : Prop :=
  b.pending = a.pending ∧ b.flash = a.flash ∧ b.svc = .startup ∧ b.testEntered = false

/-- The end of a stop: nothing changes, or a RESET that waited for it resets the module (R447). -/
def Still.ends (a b : Still) : Prop := b = a ∨ a.resets b

/-- A stop: normal service may give way to recovery mode (R431), and a stop that is over at once ends. -/
def Still.stops (a b : Still) : Prop := a.ends b ∨ a.svc = .normal ∧ b = { a with svc := .recovery }

/-- The load of a job: recovery mode may give way to normal service (R431). -/
def Still.loads (a b : Still) : Prop := b = a ∨ (a.svc = .normal ∨ a.svc = .recovery) ∧ b = { a with svc := .normal }

/-- Test mode may be entered (R434). -/
def Still.tests (a b : Still) : Prop := b = a ∨ a.svc ≠ .test ∧ b = { a with svc := .test, testEntered := true }

/-- Start-up may set the straps and the records of the image, and end in normal service (R415). -/
def Still.boots (a b : Still) : Prop :=
  b.pending = a.pending ∧ b.flash = a.flash ∧ b.testEntered = a.testEntered ∧
    (b.svc = a.svc ∨ a.svc = .startup ∧ b.svc = .normal)

/-- The flash may be written. -/
def Still.flashes (a b : Still) : Prop := b = { a with flash := b.flash }

theorem Still.stops_trans {a b c : Still} (h : a.stops b) (k : b.stops c) : a.stops c := by
  grind [Still.stops, Still.ends, Still.resets]

theorem Keeps.shifts {R : Still → Still → Prop} {s t : State} (hR : ∀ a, R a a) (h : Keeps s t) : Shifts R s t :=
  ⟨h.2, h.1 ▸ hR s.still⟩

theorem Shifts.mono {R Q : Still → Still → Prop} {s t : State} (h : Shifts R s t) (hRQ : ∀ a b, R a b → Q a b) :
    Shifts Q s t := ⟨h.1, hRQ _ _ h.2⟩

theorem Shifts.trans {R : Still → Still → Prop} {s t u : State} (h : Shifts R s t) (hR : ∀ {a b c}, R a b → R b c → R a c)
    (k : Shifts R t u) : Shifts R s u := ⟨h.1.trans k.1, hR h.2 k.2⟩

/-- Keeping them before a shift changes nothing about it. -/
theorem Keeps.shifts_trans {R : Still → Still → Prop} {s t u : State} (h : Keeps s t) (k : Shifts R t u) : Shifts R s u :=
  ⟨h.tidy.trans k.1, h.1 ▸ k.2⟩

/-- Nor does keeping them after it. -/
theorem Shifts.trans_keeps {R : Still → Still → Prop} {s t u : State} (h : Shifts R s t) (k : Keeps t u) : Shifts R s u :=
  ⟨h.1.trans k.tidy, k.1.symm ▸ h.2⟩

/-! ### Resets and the end of a stop -/

theorem State.moduleReset_still (s : State) :
    s.moduleReset.still = { State.reset.still with pending := s.pending, flash := s.flash } := by
  have k (z : State) (r : Reg) (d i j v : Nat) := (z.setRg_keeps r d i j v).1
  unfold State.moduleReset
  dsimp only
  split
  · rfl
  · rw [k, k]; rfl

theorem State.moduleReset_resets (s : State) : Shifts Still.resets s s.moduleReset :=
  ⟨s.moduleReset_tidy, by rw [s.moduleReset_still]; exact ⟨rfl, rfl, rfl, rfl⟩⟩

theorem State.stopReplies_ends (s : State) (l : List (Nat × Nat × Bool)) : Shifts Still.ends s (s.stopReplies l) := by
  induction l generalizing s with
  | nil => exact (Keeps.refl s).shifts fun _ => .inl rfl
  | cons e rest ih =>
    obtain ⟨n, i, r⟩ := e
    unfold State.stopReplies
    have h := s.mgmtOut_keeps n (if r then 0x8070 else 0x8012) 0 i []
    cases r with
    | false => exact h.shifts_trans (ih _)
    | true => exact h.shifts_trans ((State.moduleReset_resets _).mono fun _ _ => .inr)

theorem State.stopDone_ends (s : State) : Shifts Still.ends s s.stopDone := by
  have h := foldl_keeps State.slotsUndefined s.coresInUse s State.slotsUndefined_keeps
  exact Keeps.shifts_trans (t := { s.coresInUse.foldl State.slotsUndefined s with
    stopping := false, stopReply := [], job := s.job.map fun j => { j with started := false } })
    ⟨h.1, h.2⟩ (State.stopReplies_ends _ _)

theorem State.stopCheck_ends (s : State) : Shifts Still.ends s s.stopCheck := by
  unfold State.stopCheck
  split
  · exact s.stopDone_ends
  · exact (Keeps.refl s).shifts fun _ => .inl rfl

/-! ### Stopping a job -/

theorem State.stopJob_stops (s : State) : Shifts Still.stops s s.stopJob := by
  refine ⟨s.stopJob_tidy, ?_⟩
  unfold State.stopJob
  extract_lets svc job s1 s2 s3
  have hk : Keeps s1 (s3.stopDmas.stopEngines.stopVats.hoopStop).stopPeers :=
    s1.caveAbandon_keeps.trans <| (foldl_keeps _ _ _ State.stopCore_keeps).trans <| s3.stopDmas_keeps.trans <|
      (State.stopEngines_keeps _).trans <| (State.stopVats_keeps _).trans <| (State.hoopStop_keeps _).trans
        (State.stopPeers_keeps _)
  have he := (hk.shifts_trans (State.stopCheck_ends _)).2
  have h1 : s.still.stops s1.still := by
    by_cases hs : s.svc = .normal
    · exact .inr ⟨hs, by simp [s1, svc, State.still, hs]⟩
    · exact .inl (.inl (by simp [s1, svc, State.still, hs]))
  exact Still.stops_trans h1 (.inl he)

theorem State.stopFor_stops (s : State) (q : Req) (reset : Bool) : Shifts Still.stops s (s.stopFor q reset) := by
  unfold State.stopFor
  extract_lets z
  have hz : Keeps s z := ⟨rfl, id⟩
  split
  · exact hz.shifts fun _ => .inl (.inl rfl)
  split
  · exact hz.shifts_trans z.stopJob_stops
  · exact hz.shifts_trans (z.stopDone_ends.mono fun _ _ => .inl)

theorem State.fence_shifts {R : Still → Still → Prop} (hR : ∀ a, R a a) (s : State) (code key : Nat) (act : State → Option State)
    (h : ∀ t, act s = some t → Shifts R s t) : Shifts R s (s.fence code key act) := by
  unfold State.fence
  split
  · exact (s.fenceResult_keeps _ _).shifts hR
  split
  · next t ht => exact (h t ht).trans_keeps (State.fenceResult_keeps _ _ _)
  · exact (s.fenceResult_keeps _ _).shifts hR

theorem Still.stops_refl (a : Still) : a.stops a := .inl (.inl rfl)

theorem State.actStopJob_stops (s t : State) (h : s.actStopJob = some t) : Shifts Still.stops s t := by
  unfold State.actStopJob at h
  obtain rfl := Option.some.inj h
  split
  · exact (s.modFault_keeps _ _).shifts_trans (State.stopJob_stops _)
  · exact (Keeps.refl s).shifts Still.stops_refl

theorem State.fenceWord_stops (s : State) (v : Nat) : Shifts Still.stops s (s.fenceWord v) := by
  have k (code key : Nat) (act : State → Option State) (h : ∀ t, act s = some t → Keeps s t) :
      Shifts Still.stops s (s.fence code key act) :=
    s.fence_shifts Still.stops_refl _ _ _ fun t ht => (h t ht).shifts Still.stops_refl
  unfold State.fenceWord
  dsimp only
  split
  · exact k _ _ _ s.actFenceTwin_keeps
  · exact k _ _ _ s.actUnfenceTwin_keeps
  · exact k _ _ _ s.actFenceFabric_keeps
  · exact k _ _ _ s.actUnfenceFabric_keeps
  · exact s.fence_shifts Still.stops_refl _ _ _ s.actStopJob_stops
  · exact (s.fenceResult_keeps _ _).shifts Still.stops_refl

theorem State.rindPut_stops (s : State) (a v : Nat) : Shifts Still.stops s (s.rindPut a v) := by
  have same (r : RindS) : Shifts Still.stops s { s with rind := r } := ⟨id, Still.stops_refl _⟩
  unfold State.rindPut
  extract_lets r low
  split
  case h_4 => exact (s.leaseIn_keeps _).shifts Still.stops_refl
  case h_5 => exact s.fenceWord_stops _
  all_goals exact same _

theorem State.rindCycle_shifts {R : Still → Still → Prop} (hR : ∀ a, R a a) (s : State) (serve : State → State)
    (h : ∀ z, Shifts R z (serve z)) : Shifts R s (s.rindCycle serve) := by
  unfold State.rindCycle
  split
  · exact (s.bump_keeps _ _ _ _ _).shifts_trans (h _)
  · exact (Keeps.refl s).shifts hR

/-! ### Requests of the management protocol -/

theorem State.asks_shifts {R : Still → Still → Prop} (hR : ∀ a, R a a) (s : State) (q : Req) (serve : State)
    (h : Shifts R s serve) : Shifts R s (s.asks q serve) := by
  unfold State.asks
  split
  · exact h
  · exact (Keeps.refl s).shifts hR

theorem State.asksNormal_shifts {R : Still → Still → Prop} (hR : ∀ a, R a a) (s : State) (q : Req) (typ : Nat) (serve : State)
    (h : Shifts R s serve) : Shifts R s (s.asksNormal q typ serve) := by
  refine s.asks_shifts hR q _ ?_
  split
  · exact (s.reply_keeps _ _ _ _).shifts hR
  · exact h

/-! ### Loading a job, test mode, start-up and the flash -/

theorem State.jobReset_still (s : State) : s.jobReset.still = { s.still with svc := .normal } := by
  unfold State.jobReset
  extract_lets regs dmas z z1
  have hz : Keeps z z1 := foldl_keeps _ _ _ fun y x => y.setVat_keeps x _
  calc
    _ = z.still := (hz.trans <| (foldl_keeps _ _ _ fun y d => y.setRg_keeps .DIE_FAULT d 0 0 0).trans
          (State.fixedStart_keeps _)).1
    _ = _ := rfl

theorem State.jobTrial_keeps_jobReset (s : State) (x : JobExtra) (recs : List Rec) :
    Keeps s.jobReset (s.jobTrial x recs) := by
  unfold State.jobTrial
  extract_lets z restart z1
  have hz : Keeps s.jobReset z := State.applyRecs_keeps _ _
  have hz1 : Keeps z z1 := by
    unfold z1
    split
    · exact Keeps.refl z
    · exact z.fixedStart_keeps
  exact hz.trans (hz1.trans (foldl_keeps _ _ _ State.applyQueue_keeps))

theorem State.jobMeasured_still (s : State) (image : List Nat) (x : JobExtra) :
    (s.jobMeasured image x).still = { s.still with svc := .normal } := by
  have hm (b : List Nat) : Keeps s ((s.mrExtend 6 b).setDigest .JOB_DIGEST 0 b) :=
    (s.mrExtend_keeps 6 b).trans (State.setDigest_keeps _ .JOB_DIGEST 0 b)
  unfold State.jobMeasured
  rw [(State.jobTrial_keeps_jobReset _ _ _).1, State.jobReset_still, (hm _).1]

theorem State.jobAccept_loads (s : State) (image : List Nat) (x : JobExtra) (h : s.svc = .normal ∨ s.svc = .recovery) :
    Shifts Still.loads s (s.jobAccept image x) := by
  have hj (z : State) (j : Option Job) : Keeps z { z with job := j } := ⟨rfl, id⟩
  refine ⟨s.jobAccept_tidy image x, .inr ⟨h, ?_⟩⟩
  rw [← s.jobMeasured_still image x]
  unfold State.jobAccept
  exact ((State.jobStarted_keeps _ x).trans ((hj _ _).trans (State.jobArm_keeps _))).1

theorem State.enterTest_tests (s : State) (code : Nat) (data : List Nat) (h : s.svc ≠ .test) :
    Shifts Still.tests s (s.enterTest code data) := by
  refine ⟨s.enterTest_tidy code data, .inr ⟨h, ?_⟩⟩
  unfold State.enterTest
  extract_lets s1 s2
  have h2 : Keeps s1 s2 := s1.mrEvent_keeps code data
  split
  · exact (h2.trans (s2.dieFault_keeps _ _ _ _)).1
  · exact h2.1

theorem Still.boots_refl (a : Still) : a.boots a := ⟨rfl, rfl, rfl, .inl rfl⟩

theorem Still.boots_trans {a b c : Still} (h : a.boots b) (k : b.boots c) : a.boots c := by
  grind [Still.boots]

theorem State.bootFail_boots (s : State) (step cause slot0 slot1 : Nat) :
    Shifts Still.boots s (s.bootFail step cause slot0 slot1) :=
  (s.bootFail_keeps step cause slot0 slot1).shifts Still.boots_refl

theorem State.strapped_boots (s : State) (b : Boot) : Shifts Still.boots s (s.strapped b) := by
  refine ⟨s.strapped_tidy b, ?_⟩
  unfold State.strapped
  rw [((State.setG_keeps _ .LEASE_STATUS _).trans (State.setG_keeps _ .SL_NODE _)).1]
  exact ⟨rfl, rfl, rfl, .inl rfl⟩

/-- Recording the image's MGMT record and test key is part of start-up. -/
theorem State.records_boots (s : State) (m : List (BitVec 8)) (k : Option (BitVec 256)) :
    Shifts Still.boots s { s with mgmtRecord := m, testKey := k } := ⟨id, rfl, rfl, rfl, .inl rfl⟩

theorem State.applyStart_boots (s : State) (rs : List Rec) : Shifts Still.boots s (s.applyStart rs) := by
  unfold State.applyStart
  extract_lets s1 s2
  have h : Keeps s s2 := s.zeroTiers_keeps.trans <| (foldl_keeps _ _ _ fun z c => z.setRg_keeps _ _ _ _ _).trans
    (s1.applyRecs_keeps rs)
  exact h.shifts_trans ((s2.records_boots _ _).trans_keeps (State.enableListed_keeps _))

theorem State.bootImage_boots (s : State) (b : Boot) (i slot0 slot1 : Nat) (h : s.svc = .startup) :
    Shifts Still.boots s (s.bootImage b i slot0 slot1) := by
  unfold State.bootImage
  extract_lets rs s1
  have hs1 : Keeps s s1 := foldl_keeps _ _ _ fun z c => z.markChannel_keeps _ _
  split
  · extract_lets s2
    have hs2 : Keeps s s2 := hs1.trans (s1.setBoth_keeps _ _)
    exact hs2.shifts_trans ((s2.records_boots _ s2.testKey).trans Still.boots_trans (State.bootFail_boots _ _ _ _ _))
  · next s2 stuck s3 _ _ =>
    have hs2 : Shifts Still.boots s s2 := hs1.shifts_trans (s1.applyStart_boots rs)
    split
    · exact hs2.trans_keeps (s2.bootFail_keeps _ _ _ _)
    split
    · exact hs2.trans_keeps (s2.bootFail_keeps _ _ _ _)
    · have hs3 : Shifts Still.boots s s3 := hs2.trans_keeps (s2.setBoth_keeps _ _)
      have hn : Shifts Still.boots s { s3 with svc := .normal } := by
        obtain ⟨ht, hp, hf, he, _⟩ := hs3
        exact ⟨ht, hp, hf, he, .inr ⟨h, rfl⟩⟩
      exact hn.trans_keeps (State.alert_keeps _ _)

theorem State.bootRun_boots (s : State) (b : Boot) (h : s.svc = .startup) : Shifts Still.boots s (s.bootRun b) := by
  have svc {z : State} (hz : Keeps s z) : z.svc = .startup := (congrArg Still.svc hz.1).trans h
  unfold State.bootRun
  split
  · exact s.bootFail_boots _ _ _ _
  split
  · exact s.bootFail_boots _ _ _ _
  split
  · exact s.bootFail_boots _ _ _ _
  extract_lets fuse s1 bad
  have hs1 : Keeps s s1 := s.mrExtend_keeps _ _
  split
  · exact hs1.shifts_trans (s1.bootFail_boots _ _ _ _)
  split
  extract_lets c
  split
  · exact hs1.shifts_trans (s1.bootFail_boots _ _ _ _)
  · next i _ =>
    have hm := hs1.trans (s1.measureSlot_keeps i)
    exact hm.shifts_trans (State.bootImage_boots _ _ _ _ _ (svc hm))

theorem Still.flashes_refl (a : Still) : a.flashes a := rfl

theorem Still.flashes_trans {a b c : Still} (h : a.flashes b) (k : b.flashes c) : a.flashes c := by
  unfold Still.flashes at *
  rw [k, h]

theorem State.flashPut_flashes (s : State) (slot off : Nat) (bs : List Nat) :
    Shifts Still.flashes s (s.flashPut slot off bs) := by
  refine ⟨s.flashPut_tidy slot off bs, ?_⟩
  unfold State.flashPut
  rfl

theorem State.flashErase_flashes (s : State) (slot : Nat) : Shifts Still.flashes s (s.flashErase slot) := by
  refine ⟨s.flashErase_tidy slot, ?_⟩
  unfold State.flashErase
  rfl

/-! ### The commands that shift them -/

theorem execResetRelease_boots (b : Boot) (s : State) : Answers (Shifts Still.boots s) (execResetRelease b s) := by
  unfold execResetRelease
  split
  · next h =>
    obtain ⟨hi, -⟩ := h
    have hsvc : s.svc = .startup := by
      simp only [State.bootIdle, Bool.and_eq_true, beq_iff_eq] at hi
      exact hi.1
    have hz := s.zeroSrams_keeps.shifts_trans (s.zeroSrams.strapped_boots b)
    exact hz.trans Still.boots_trans (State.bootRun_boots _ _ hsvc)
  · exact (Keeps.refl s).shifts Still.boots_refl

theorem execModuleStop_stops (s : State) : Answers (Shifts Still.stops s) (execModuleStop s) := by
  unfold execModuleStop
  split
  · exact (Keeps.refl s).shifts Still.stops_refl
  · next f rest _ =>
    extract_lets s1
    have h1 : Keeps s s1 := ⟨rfl, id⟩
    split
    · exact h1.shifts Still.stops_refl
    · exact (h1.trans ((s1.faultClass_keeps f).trans (State.modFault_keeps _ _ _))).shifts_trans (State.stopJob_stops _)

theorem execJobWatchdogExpiry_stops (s : State) : Answers (Shifts Still.stops s) (execJobWatchdogExpiry s) := by
  unfold execJobWatchdogExpiry
  split
  · exact (s.modFault_keeps _ _).shifts_trans (State.stopJob_stops _)
  · exact (Keeps.refl s).shifts Still.stops_refl

theorem execJobStop_stops (q : Req) (s : State) : Answers (Shifts Still.stops s) (execJobStop q s) := by
  refine s.asksNormal_shifts Still.stops_refl _ _ _ ?_
  split
  · exact s.stopFor_stops _ _
  · exact (s.reply_keeps _ _ _ _).shifts Still.stops_refl

theorem execReset_stops (q : Req) (force : Bool) (s : State) : Answers (Shifts Still.stops s) (execReset q force s) := by
  refine s.asks_shifts Still.stops_refl _ _ ?_
  split
  · exact (s.reply_keeps _ _ _ _).shifts_trans ((State.moduleReset_resets _).mono fun _ _ h => .inl (.inr h))
  split
  · exact s.stopFor_stops _ _
  · exact (s.reply_keeps _ _ _ _).shifts Still.stops_refl

theorem execRindWrite_stops (a : BitVec 6) (v : BitVec 16) (s : State) :
    Answers (Shifts Still.stops s) (execRindWrite a v s) :=
  s.rindCycle_shifts Still.stops_refl _ fun z => z.rindPut_stops _ _

theorem execStopJob_stops (key : BitVec 12) (s : State) : Answers (Shifts Still.stops s) (execStopJob key s) :=
  s.rindCycle_shifts Still.stops_refl _ fun z => z.fence_shifts Still.stops_refl _ _ _ z.actStopJob_stops

theorem execLocalTick_ends (d : Die) (st : List Stall) (s : State) : Answers (Shifts Still.ends s) (execLocalTick d st s) := by
  unfold execLocalTick
  extract_lets die now s1 s2 s3
  have h1 : Keeps s s1 := ⟨rfl, id⟩
  have h2 : Keeps s1 s2 := (foldl_keeps _ _ _ fun z x => z.countStall_keeps die x).trans <|
    (State.tickChannels_keeps _ d now).trans <| (State.tickWaits_keeps _ die).trans (State.tickDma_keeps _ die)
  have h3 : Keeps s2 s3 := by
    unfold s3
    split
    · exact foldl_keeps _ _ _ fun z u => z.tickCore_keeps _
    · exact s2.tickPress_keeps _
    · exact s2.tickX_keeps _
  exact (h1.trans (h2.trans h3)).shifts_trans s3.stopCheck_ends

theorem execSeqStopped_ends (c : CoreId) (s : State) : Answers (Shifts Still.ends s) (execSeqStopped c s) := by
  unfold execSeqStopped
  split
  · exact (s.setRg_keeps _ _ _ _ _).shifts_trans (State.stopCheck_ends _)
  · exact (Keeps.refl s).shifts fun _ => .inl rfl

theorem execStopTimeout_ends (s : State) : Answers (Shifts Still.ends s) (execStopTimeout s) := by
  unfold execStopTimeout
  split
  · exact (s.resetUnits_keeps.trans ((State.modFault_keeps _ _ _).trans (State.setG_keeps _ _ _))).shifts_trans
      (State.stopDone_ends _)
  · exact (Keeps.refl s).shifts fun _ => .inl rfl

theorem execResetNLow_resets (s : State) : Answers (Shifts Still.resets s) (execResetNLow s) :=
  Keeps.shifts_trans (t := { s with resetN := false, mainGood := false }) ⟨rfl, id⟩ (State.moduleReset_resets _)

theorem execPowerInputOutOfRange_resets (main : Bool) (s : State) :
    Answers (Shifts Still.resets s) (execPowerInputOutOfRange main s) := by
  cases main with
  | true => exact Keeps.shifts_trans (t := { s with main54 := false, mainGood := false }) ⟨rfl, id⟩ (State.moduleReset_resets _)
  | false =>
    exact Keeps.shifts_trans (t := { s with aux12 := false, auxGood := false, mainGood := false }) ⟨rfl, id⟩
      (State.moduleReset_resets _)

theorem execJobLoad_loads (q : Req) (image : List (BitVec 8)) (x : JobExtra) (s : State) :
    Answers (Shifts Still.loads s) (execJobLoad q image x s) := by
  have reply (z : State) (n : Nat) (b : List Nat) : Shifts Still.loads z (z.reply q 0x10 n b) :=
    (z.reply_keeps _ _ _ _).shifts fun _ => .inl rfl
  refine s.asksNormal_shifts (fun _ => .inl rfl) _ _ _ ?_
  split
  · exact reply _ _ _
  next hmode =>
  have hserved : s.svc = .normal ∨ s.svc = .recovery :=
    Decidable.byContradiction fun h => hmode ⟨fun hn => h (.inl hn), fun hr => h (.inr hr)⟩
  split
  · exact reply _ _ _
  extract_lets bs
  split
  · exact reply _ _ _
  · exact (s.jobAccept_loads bs x hserved).trans_keeps (State.reply_keeps _ _ _ _ _)

theorem execScanTestEntry_tests (ir : ScanIr) (s : State) : Answers (Shifts Still.tests s) (execScanTestEntry ir s) := by
  have same : Shifts Still.tests s s := (Keeps.refl s).shifts fun _ => .inl rfl
  have enter : Shifts Still.tests s (if s.svc = .test then s else s.enterTest 0x01 []) := by
    split
    · exact same
    · next h => exact s.enterTest_tests _ _ h
  cases ir with
  | bypass => exact same
  | idcode => exact ⟨id, .inl rfl⟩
  | sample => exact same
  | extest => exact enter
  | other => exact enter

theorem execTestEnter_tests (q : Req) (sig : List (BitVec 8)) (s : State) :
    Answers (Shifts Still.tests s) (execTestEnter q sig s) := by
  have reply (z : State) (n : Nat) : Keeps z (z.reply q 0x52 n []) := z.reply_keeps _ _ _ _
  refine s.asksNormal_shifts (fun _ => .inl rfl) _ _ _ ?_
  split
  · exact (reply _ _).shifts fun _ => .inl rfl
  next hsvc =>
  extract_lets used bv
  have hu : Keeps s used := s.onSession_keeps _ _
  have refused : Shifts Still.tests s (used.reply q 0x52 0x2 []) := (hu.trans (reply _ _)).shifts fun _ => .inl rfl
  split
  · extract_lets msg
    split
    · have hsvc' : used.svc ≠ .test := fun h => hsvc ((congrArg Still.svc hu.1).symm.trans h)
      exact hu.shifts_trans ((used.enterTest_tests _ _ hsvc').trans_keeps (reply _ _))
    · exact refused
  · exact refused

theorem execFwBegin_flashes (q : Req) (slot : BitVec 8) (len : BitVec 32) (s : State) :
    Answers (Shifts Still.flashes s) (execFwBegin q slot len s) := by
  refine s.asks_shifts Still.flashes_refl _ _ ?_
  have refused (n : Nat) : Shifts Still.flashes s (s.reply q 0x40 n []) := (s.reply_keeps _ _ _ _).shifts Still.flashes_refl
  split
  · exact refused _
  split
  · exact refused _
  split
  · exact refused _
  split
  · exact refused _
  · exact Shifts.trans_keeps (s.flashErase_flashes _) (Keeps.trans (b := { s.flashErase slot.toNat with staging := _ })
      ⟨rfl, id⟩ (State.reply_keeps _ _ _ _ _))

theorem execFwData_flashes (q : Req) (off : BitVec 32) (data : List (BitVec 8)) (s : State) :
    Answers (Shifts Still.flashes s) (execFwData q off data s) := by
  refine s.asks_shifts Still.flashes_refl _ _ ?_
  have refused (n : Nat) : Shifts Still.flashes s (s.reply q 0x41 n []) := (s.reply_keeps _ _ _ _).shifts Still.flashes_refl
  split
  · exact refused _
  extract_lets end_ s1
  split
  · exact refused _
  split
  · exact refused _
  · exact Shifts.trans_keeps (s.flashPut_flashes _ _ _) (Keeps.trans (b := { s1 with staging := _ })
      ⟨rfl, id⟩ (State.reply_keeps _ _ _ _ _))

theorem execFwCommit_flashes (q : Req) (s : State) : Answers (Shifts Still.flashes s) (execFwCommit q s) := by
  have reply (z : State) (n : Nat) (b : List Nat) : Keeps z (z.reply q 0x42 n b) := z.reply_keeps _ _ _ _
  refine s.asks_shifts Still.flashes_refl _ _ ?_
  split
  · exact (reply _ _ _).shifts Still.flashes_refl
  · extract_lets digest s1 c
    have h1 : Shifts Still.flashes s s1 := (s.flashPut_flashes _ _ _).trans_keeps ⟨rfl, id⟩
    clear_value s1
    split
    · exact h1.trans_keeps (reply _ _ _)
    · exact (h1.trans Still.flashes_trans (s1.flashPut_flashes _ _ _)).trans_keeps (reply _ _ _)

end Sys2Proof.Machine

/-!
SUPPORT. The commands that keep the queue, the straps, the service mode, the flash and the records of start-up.
-/

namespace Sys2Proof.Machine

/-! ### Branches -/

theorem KeepsP.of_eq {α : Type} {s t : State} {p : State × α} {x : α} (h : KeepsP s p) (hp : p = (t, x)) : Keeps s t := by
  subst hp; exact h

theorem KeepsQ.of_eq {α : Type} {s t : State} {p : α × State} {x : α} (h : KeepsQ s p) (hp : p = (x, t)) : Keeps s t := by
  subst hp; exact h

theorem Keeps.ite {s a b : State} {c : Prop} [Decidable c] (h : Keeps s a) (k : Keeps s b) :
    Keeps s (if c then a else b) := by
  split
  · exact h
  · exact k

theorem KeepsP.ite {α : Type} {s : State} {p q : State × α} {c : Prop} [Decidable c] (h : KeepsP s p) (k : KeepsP s q) :
    KeepsP s (if c then p else q) := by
  split
  · exact h
  · exact k

theorem Answers.ite {P : State → Prop} {a b : Host.Outcome State Fault Refusal} {c : Prop} [Decidable c] (h : Answers P a)
    (k : Answers P b) : Answers P (if c then a else b) := by
  split
  · exact h
  · exact k

/-- A command that changes nothing in one of its branches. -/
theorem answers_same (s : State) : Answers (Keeps s) (.next s) := Keeps.refl s

/-! ### Sequencers -/

/-- A sequencer command keeps them where what it runs does. -/
theorem seqCommand_keeps {s : State} {core opc : Nat} {p : Parity} {fields : List (Nat × Nat)} {ok : BitVec 128 → Bool}
    {use : BitVec 128 → ScUse} {run : State → BitVec 128 → State} (h : ∀ z x, Keeps z (run z x)) :
    Answers (Keeps s) (.next (s.seqStep core p opc fields ok use run)) :=
  s.seqStep_keeps core p opc fields ok use run h

/-- Writing a scalar register and retiring. -/
theorem State.setSc_retire_keeps (s : State) (core i v : Nat) : Keeps s ((s.setSc core i v).retire core) :=
  (s.setSc_keeps core i v).trans (State.retire_keeps _ _)

theorem execSclLd_keeps (c : CoreId) (p : Parity) (s : State) : Answers (Keeps s) (execSclLd c p s) := by
  refine seqCommand_keeps fun z x => ?_
  have h := z.spaceRead_keeps c.ix (cf x 100 1) (z.effAddr c.ix x) 8 8
  split
  · next heq => exact (h.of_eq heq).trans (State.setSc_retire_keeps _ _ _ _)
  · next heq => exact (h.of_eq heq).trans (State.seqFault_keeps _ _ _ _)

theorem execSclSt_keeps (c : CoreId) (p : Parity) (s : State) : Answers (Keeps s) (execSclSt c p s) :=
  seqCommand_keeps fun z _ => .ite (z.seqFault_keeps _ _ _) (Keeps.trans (z.writeRange_keeps _ _) (State.retire_keeps _ _))

theorem execSclHalt_keeps (c : CoreId) (p : Parity) (s : State) : Answers (Keeps s) (execSclHalt c p s) :=
  seqCommand_keeps fun z _ => .ite (z.holdSeq_keeps _ _)
    ((z.setRg_keeps _ _ _ _ _).trans ((State.bump_keeps _ _ _ _ _ _).trans (State.setSeqState_keeps _ _ _ _)))

theorem execSynWait_keeps (c : CoreId) (p : Parity) (s : State) : Answers (Keeps s) (execSynWait c p s) := by
  refine seqCommand_keeps fun z x => .ite (Keeps.refl z) ?_
  split
  · next t ht => exact (z.takeSem_keeps _ _ _ t ht).trans (t.retire_keeps _)
  · extract_lets s2
    have h2 : Keeps z s2 := ⟨rfl, id⟩
    exact h2.trans ((s2.setSeq_keeps _ _).trans (State.holdSeq_keeps _ _ _))

theorem execSynBar_keeps (c : CoreId) (p : Parity) (s : State) : Answers (Keeps s) (execSynBar c p s) := by
  refine seqCommand_keeps fun z x => .ite (Keeps.refl z) ?_
  extract_lets wait
  have h := z.arriveAt_keeps c.die.val (cf x 104 8)
  split
  · next heq => exact (h.of_eq heq).trans (State.arrived_keeps _ _ _ _ _)
  · next s2 heq =>
    extract_lets s3
    have h3 : Keeps s2 s3 := ⟨rfl, id⟩
    exact (h.of_eq heq).trans (h3.trans ((s3.setSeq_keeps _ _).trans (State.holdSeq_keeps _ _ _)))
  · next heq => exact (h.of_eq heq).trans (State.seqFault_keeps _ _ _ _)

theorem execHoopStage_keeps (c : CoreId) (p : Parity) (s : State) : Answers (Keeps s) (execHoopStage c p s) := by
  refine seqCommand_keeps fun z x => ?_
  extract_lets h s0
  have h0 : Keeps z s0 := .ite (z.noteHoop_keeps _ _) (Keeps.refl z)
  exact h0.trans (Keeps.trans (s0.hoopStage_keeps _ _ _ _) (State.setSc_retire_keeps _ _ _ _))

theorem execHoopReady_keeps (c : CoreId) (p : Parity) (s : State) : Answers (Keeps s) (execHoopReady c p s) := by
  refine seqCommand_keeps fun z x => ?_
  extract_lets h
  have h0 : Keeps z (if z.hoopUndecided h = true then z.noteHoop c.ix h else z) := .ite (z.noteHoop_keeps _ _) (Keeps.refl z)
  exact h0.trans (Keeps.trans (State.hoopReady_keeps _ _) (State.retire_keeps _ _))

theorem execHoopWait_keeps (c : CoreId) (p : Parity) (s : State) : Answers (Keeps s) (execHoopWait c p s) := by
  refine seqCommand_keeps fun z x => ?_
  extract_lets h
  split
  · exact (z.setSc_keeps _ _ _).trans (State.setSc_retire_keeps _ _ _ _)
  · exact (z.setSeq_keeps _ _).trans (State.holdSeq_keeps _ _ _)

theorem execDmaSub_keeps (c : CoreId) (p : Parity) (s : State) : Answers (Keeps s) (execDmaSub c p s) := by
  refine seqCommand_keeps fun z x => ?_
  extract_lets a space inside
  have h := z.dmaSubmit_keeps c.die.val (cf x 115 5) c.core.val (z.spaceAddr c.ix space a) inside (.core c)
  split
  · next heq => exact (h.of_eq heq).trans (State.retire_keeps _ _)
  · next heq => exact (h.of_eq heq).trans (State.holdSeq_keeps _ _ _)
  · next heq => exact (h.of_eq heq).trans (State.seqFault_keeps _ _ _ _)

theorem execDmaCload_keeps (c : CoreId) (p : Parity) (n : Nat) (s : State) : Answers (Keeps s) (execDmaCload c p n s) := by
  refine seqCommand_keeps fun z x => ?_
  extract_lets src dst cnt pc done k
  refine .ite (z.seqFault_keeps _ _ _) (.ite (z.seqFault_keeps _ _ _) ?_)
  have h := z.spRead_keeps c.ix (src + 16 * done) (16 * k)
  split
  · next heq => exact (h.of_eq heq).trans (State.seqFault_keeps _ _ _ _)
  · next s2 bs heq =>
    extract_lets s3
    have h3 : Keeps s2 s3 := s2.writeRange_keeps _ _
    exact ((h.of_eq heq).trans h3).trans (.ite ((s3.setSeq_keeps _ _).trans (State.retire_keeps _ _))
      ((s3.setSeq_keeps _ _).trans (State.holdSeq_keeps _ _ _)))

theorem execMatPass_keeps (c : CoreId) (p : Parity) (s : State) : Answers (Keeps s) (execMatPass c p s) :=
  seqCommand_keeps fun z _ => .ite (z.seqFault_keeps _ _ _) <| .ite (z.holdSeq_keeps _ _) <|
    Keeps.trans (z.snoopAssign_keeps _ _) ((State.setArr_keeps _ _ _ _).trans (State.retire_keeps _ _))

theorem execVecRun_keeps (c : CoreId) (p : Parity) (s : State) : Answers (Keeps s) (execVecRun c p s) :=
  seqCommand_keeps fun z _ => .ite (z.seqFault_keeps _ _ _) <| .ite (z.holdSeq_keeps _ _) <|
    (z.setVec_keeps _ _).trans (State.retire_keeps _ _)

/-- A load of descriptor words: the words are read and written to registers, or the read faults. -/
theorem State.loadWords_keeps (z : State) (c : CoreId) (space addr al n m : Nat) (r : Reg) (i : Nat → Nat)
    (v : Nat → Nat → Nat) :
    Keeps z (match z.spaceRead c.ix space addr al n with
      | (s2, none) => s2.seqFault c.ix 0x07 7
      | (s2, some bs) =>
        ((List.range m).foldl (fun y k => y.setRg r c.die.val c.core.val (i k) (v (ofLeBytes bs) k)) s2).retire c.ix) := by
  have h := z.spaceRead_keeps c.ix space addr al n
  split
  · next heq => exact (h.of_eq heq).trans (State.seqFault_keeps _ _ _ _)
  · next heq =>
    exact (h.of_eq heq).trans ((foldl_keeps _ _ _ fun y k => y.setRg_keeps _ _ _ _ _).trans (State.retire_keeps _ _))

theorem execVecLds_keeps (c : CoreId) (p : Parity) (s : State) : Answers (Keeps s) (execVecLds c p s) :=
  seqCommand_keeps fun z _ => .ite (z.seqFault_keeps _ _ _) <| .ite (z.holdSeq_keeps _ _) <|
    z.loadWords_keeps c _ _ 32 32 4 _ _ fun v k => bits v (64 * k) 64

theorem execVecLdc_keeps (c : CoreId) (p : Parity) (s : State) : Answers (Keeps s) (execVecLdc c p s) :=
  seqCommand_keeps fun z _ => .ite (z.seqFault_keeps _ _ _) <| .ite (z.holdSeq_keeps _ _) <|
    z.loadWords_keeps c _ _ 64 64 16 _ _ fun v k => bits v (32 * k) 32

theorem execVecFill_keeps (c : CoreId) (p : Parity) (s : State) : Answers (Keeps s) (execVecFill c p s) :=
  seqCommand_keeps fun z _ => .ite (z.seqFault_keeps _ _ _) <| .ite (z.holdSeq_keeps _ _) <|
    (z.setRg_keeps _ _ _ _ _).trans (State.retire_keeps _ _)

theorem execReservedOpcode_keeps (c : CoreId) (p : Parity) (s : State) : Answers (Keeps s) (execReservedOpcode c p s) := by
  refine .ite (answers_same s) (.ite (s.seqFault_keeps _ _ _) ?_)
  have h := s.fetch_keeps c.ix
  split
  · next heq => exact (h.of_eq heq).trans (State.seqFault_keeps _ _ _ _)
  · next heq => exact (h.of_eq heq).trans (.ite (Keeps.refl _) (State.seqFault_keeps _ _ _ _))

/-! ### DMA and the tiers -/

theorem execDmaDescriptorStart_keeps (d : Die) (ch : Fin 32) (s : State) :
    Answers (Keeps s) (execDmaDescriptorStart d ch s) := by
  unfold execDmaDescriptorStart
  extract_lets x
  split
  · exact .ite (answers_same s) (s.setDma_keeps _ _ _)
  · exact answers_same s

theorem execDmaDescriptorComplete_keeps (d : Die) (ch : Fin 32) (s : State) :
    Answers (Keeps s) (execDmaDescriptorComplete d ch s) := by
  refine .ite (s.setDma_keeps _ _ _) ?_
  split
  · exact .ite (answers_same s) (Keeps.ite ((s.setDma_keeps _ _ _).trans (State.signal_keeps _ _ _ _ _ _)) (s.setDma_keeps _ _ _))
  · exact answers_same s

/-- A read of a block that is answered with what it gave. -/
theorem State.tierBlock_answer_keeps (s : State) (r : Requester) (a : Nat) (bad : Fin 5) :
    Keeps s ((s.tierBlock r a bad).1.answer (readResp (s.tierBlock r a bad).2)) :=
  Keeps.trans (s.tierBlock_keeps r a bad) (State.answer_keeps _ _)

theorem execTierRead_keeps (r : Requester) (addr : BitVec 44) (bad : Fin 5) (s : State) :
    Answers (Keeps s) (execTierRead r addr bad s) := by
  refine .ite (s.answer_keeps _) (.ite (.ite (s.answer_keeps _) ?_) ?_)
  · split
    · next east =>
      refine .ite ?_ (s.tierBlock_answer_keeps _ _ _)
      have h1 := s.ccEvict_keeps east (linesOf (addr.toNat / 256 * 256) 256)
      refine .ite (h1.trans (State.answer_keeps _ _)) ?_
      have h := State.tierBlock_keeps (s.ccEvict east (linesOf (addr.toNat / 256 * 256) 256)) (.cc east)
        (addr.toNat / 256 * 256) bad
      split
      · next heq => exact h1.trans ((h.of_eq heq).trans (State.answer_keeps _ _))
      · next s2 bs heq =>
        exact h1.trans ((h.of_eq heq).trans (Keeps.trans (s2.ccFill_keeps _ _ _) (State.answer_keeps _ _)))
    · exact s.tierBlock_answer_keeps _ _ _
  · have h := s.sendReads_keeps (askerOf r) [(addr.toNat / 256 * 256, List.replicate 256 0)]
    split
    · next heq => exact h.of_eq heq
    · next heq => exact (h.of_eq heq).trans (State.answer_keeps _ _)

theorem execTierWrite_keeps (r : Requester) (addr : BitVec 44) (data : List (BitVec 8)) (s : State) :
    Answers (Keeps s) (execTierWrite r addr data s) := by
  refine .ite (s.answer_keeps _) (.ite (answers_same s) ?_)
  split
  · refine .ite ?_ (s.tierWriteThrough_keeps _ _ _)
    have h1 : Keeps s s.freshVal.2 := s.freshVal_keeps
    generalize s.freshVal = o at h1
    obtain ⟨o, s1⟩ := o
    dsimp only at h1 ⊢
    split
    · next s2 heq =>
      split at heq
      · exact h1.trans ((s1.ccHoldWrite_keeps _ _ _ _ s2 heq).trans (s2.answer_keeps _))
      · cases heq
    · refine h1.trans (Keeps.trans (s1.boardWrite_keeps _ _ _) (Keeps.trans (.ite (Keeps.refl _) (State.ccPatch_keeps _ _ _ _))
        (State.answer_keeps _ _)))
  · exact s.tierWriteThrough_keeps _ _ _

theorem execSramAccess_keeps (r : Requester) (addr : BitVec 44) (acc : SramAcc) (err : Fin 3) (s : State) :
    Answers (Keeps s) (execSramAccess r addr acc err s) := by
  refine .ite (s.answer_keeps _) (.ite ?_ (.ite (s.answer_keeps _) ?_))
  · cases acc with
    | read n => exact Keeps.ite (s.sendReads_keeps _ _) (Keeps.trans (s.sendReads_keeps _ _) (State.answer_keeps _ _))
    | write data => exact Keeps.ite (s.sendWrites_keeps _ _) (Keeps.trans (s.sendWrites_keeps _ _) (State.answer_keeps _ _))
  · have h0 : Keeps s (if err.val = 0 then s
        else { s with ecc := Sparse.set (fun _ => 0) s.ecc (addr.toNat / 8) err.val }) := .ite (Keeps.refl s) ⟨rfl, id⟩
    cases acc with
    | read n => exact h0.trans (Keeps.trans (State.memRead_keeps _ _ _ _) (State.answer_keeps _ _))
    | write data => exact h0.trans (Keeps.trans (State.memWrite_keeps _ _ _ _) (State.answer_keeps _ _))

theorem execMigrationLineCopy_keeps (m : Fin 12) (slow : Bool) (s : State) :
    Answers (Keeps s) (execMigrationLineCopy m slow s) := by
  unfold execMigrationLineCopy
  extract_lets tier d
  split
  · exact answers_same s
  refine .ite (answers_same s) ?_
  split
  · exact (s.uncorrectable_keeps _).trans (State.setMig_keeps _ _)
  · extract_lets s1 s2
    have h1 : Keeps s s1 := (s.mendLine_keeps _ _ _ _).trans (State.setRg_keeps _ _ _ _ _ _)
    have h2 : Keeps s1 s2 := ⟨rfl, id⟩
    exact .ite (h1.trans (s1.setMig_keeps _)) (h1.trans (h2.trans (s2.setFld_keeps _ _ _ _ _ _ _)))

/-! ### Ports and flits -/

theorem execPortTrained_keeps (p : Fin 36) (lanes node : BitVec 8) (port : BitVec 6) (s : State) :
    Answers (Keeps s) (execPortTrained p lanes node port s) := by
  refine .ite (answers_same s) ?_
  split
  · exact s.portFail_keeps _ _
  · exact .ite (s.portFail_keeps _ _) ((s.setPortReg_keeps _ _ _).trans <| (State.setPortReg_keeps _ _ _ _).trans <|
      (State.resendAll_keeps _ _).trans (State.leaveFallback_keeps _ _))

theorem execLaneLockLoss_keeps (p : Fin 36) (lanes : BitVec 8) (s : State) : Answers (Keeps s) (execLaneLockLoss p lanes s) :=
  .ite (answers_same s) <| .ite ((s.setPortBit_keeps _ _ _).trans (State.portRetrain_keeps _ _)) (s.portFail_keeps _ _)

theorem execReplayTimeout_keeps (p : Fin 36) (sync : Bool) (s : State) : Answers (Keeps s) (execReplayTimeout p sync s) := by
  refine .ite (answers_same s) (.ite ?_ ?_)
  · split
    · exact .ite (s.resendFrames_keeps _ _) (answers_same s)
    · exact answers_same s
  · split
    · exact .ite (s.resendFlits_keeps _ _) (answers_same s)
    · exact answers_same s

theorem execLinkctl_keeps (p : Fin 36) (ack nak : Option (BitVec 32)) (credits : List (BitVec 16)) (s : State) :
    Answers (Keeps s) (execLinkctl p ack nak credits s) := by
  refine .ite (answers_same s) ?_
  extract_lets s1 x s2
  have h2 : Keeps s s2 := (s.flitsAcked_keeps _ _).trans ((s1.setPort_keeps _ _).trans (State.pump_keeps _ _ _))
  split
  · exact h2.trans (s2.resendFlits_keeps _ _)
  · exact h2

theorem execDamagedFlitOrFrame_keeps (p : Fin 36) (frame reserved : Bool) (s : State) :
    Answers (Keeps s) (execDamagedFlitOrFrame p frame reserved s) :=
  .ite (answers_same s) <| .ite (.ite (s.acceptFrame_keeps _) (s.nakFrame_keeps _)) <|
    .ite ((s.acceptFlit_keeps _ _).trans (State.bumpPort_keeps _ _ _ _)) (s.nakFlit_keeps _)

theorem execVetch_keeps (r : Rx) (fseq : BitVec 8) (fack : Option (BitVec 8)) (f : Frame) (s : State) :
    Answers (Keeps s) (execVetch r fseq fack f s) :=
  s.rxFlit_keeps _ _ _ fun z => .ite (z.framesAcked_keeps _ _) <|
    (z.framesAcked_keeps _ _).trans ((State.acceptFrame_keeps _ _).trans (State.takeFrame_keeps _ _ _ _ _ _))

theorem execRdReq_keeps (r : Rx) (addr : BitVec 44) (lm1 : BitVec 8) (s : State) :
    Answers (Keeps s) (execRdReq r addr lm1 s) := by
  refine s.rxFlit_keeps _ _ _ fun z => .ite (z.respond_keeps _ _ _ _ _) ?_
  have h := z.memRead_keeps .twin addr.toNat (lm1.toNat + 1)
  split
  · next heq => exact (h.of_eq heq).trans (State.respond_keeps _ _ _ _ _ _)
  · next heq => exact (h.of_eq heq).trans (State.respond_keeps _ _ _ _ _ _)

theorem execRdResp_keeps (r : Rx) (err : Bool) (data : List (BitVec 8)) (s : State) :
    Answers (Keeps s) (execRdResp r err data s) := by
  refine s.rxFlit_keeps _ _ _ fun z => ?_
  split
  · next a s2 heq =>
    refine (z.takeAsked_keeps _ _ _ heq).trans ?_
    split
    · exact s2.dmaDelivered_keeps _ _ _
    · exact s2.dmaDeliver_keeps _ _ _ _
    · exact s2.answer_keeps _
    · exact Keeps.refl s2
  · exact Keeps.refl z

theorem execWrAck_keeps (r : Rx) (err : Bool) (s : State) : Answers (Keeps s) (execWrAck r err s) := by
  refine s.rxFlit_keeps _ _ _ fun z => ?_
  split
  · next a s2 heq =>
    refine (z.takeAsked_keeps _ _ _ heq).trans ?_
    split
    · exact .ite (s2.teaFault_keeps _ _ _) (Keeps.refl s2)
    · exact s2.dmaAcked_keeps _ _ _
    · exact s2.answer_keeps _
    · exact Keeps.refl s2
  · exact Keeps.refl z

theorem execRegWr_keeps (r : Rx) (off : BitVec 32) (width : Width) (v : BitVec 64) (s : State) :
    Answers (Keeps s) (execRegWr r off width v s) := by
  refine s.rxFlit_keeps _ _ _ fun z => ?_
  extract_lets w
  have h := z.widthWrite_keeps w off.toNat width v.toNat
  split
  · next heq => exact (h.of_eq heq).trans (State.respond_keeps _ _ _ _ _ _)
  · next heq => exact (h.of_eq heq).trans (State.respond_keeps _ _ _ _ _ _)

end Sys2Proof.Machine

namespace Sys2Proof.Machine

/-! ### Rennet and Press engines -/

theorem execRefresh_keeps (m : Fin 12) (e : Fin 4) (s : State) : Answers (Keeps s) (execRefresh m e s) :=
  .ite (answers_same s) <| Keeps.trans (s.useGrant_keeps _ _) <| (State.bump_keeps _ _ _ _ _ _).trans <|
    (State.setRen_keeps _ _ _ _).trans <| (State.setFld_keeps _ _ _ _ _ _ _ _).trans <|
      (State.setFld_keeps _ _ _ _ _ _ _ _).trans (State.setRenState_keeps _ _ _ _)

theorem execIntakeComplete_keeps (m : Fin 12) (e : Fin 4) (flt : Option RnParity) (s : State) :
    Answers (Keeps s) (execIntakeComplete m e flt s) := by
  refine .ite (answers_same s) ?_
  cases flt with
  | some p =>
    have hf : Keeps s s.freshVal.2 := s.freshVal_keeps
    generalize s.freshVal = o at hf
    obtain ⟨o, s1⟩ := o
    have h := s1.intakeRun_keeps m e (o.toNat % s.rnCount m e)
    dsimp only at hf ⊢
    split
    · next heq => exact hf.trans ((h.of_eq heq).trans (State.rennetFault_keeps _ _ _ _ _))
    · next heq => exact hf.trans ((h.of_eq heq).trans (State.rennetFault_keeps _ _ _ _ _))
  | none =>
    have h := s.intakeRun_keeps m e (s.rnCount m e)
    dsimp only
    split
    · next heq => exact (h.of_eq heq).trans (State.rennetFault_keeps _ _ _ _ _)
    · next s1 heq =>
      have ha : Keeps s1 ((s1.rnAbandon m e (s.rnCount m e) 0).rennetMissed m e) :=
        (s1.rnAbandon_keeps _ _ _ _).trans (State.rennetMissed_keeps _ _ _)
      refine .ite ((h.of_eq heq).trans (ha.trans (.ite (Keeps.refl _) (State.rennetArm_keeps _ _ _)))) ?_
      · exact (h.of_eq heq).trans ((s1.setRen_keeps _ _ _).trans (State.setRenState_keeps _ _ _ _))

theorem execRennetJobComplete_keeps (m : Fin 12) (e : Fin 4) (flt : Option RnParity) (s : State) :
    Answers (Keeps s) (execRennetJobComplete m e flt s) := by
  refine .ite (answers_same s) ?_
  cases flt with
  | some p => exact s.rennetFault_keeps _ _ _ _
  | none => exact s.rnJob_keeps _ _

theorem execRennetTriggerTimeout_keeps (m : Fin 12) (e : Fin 4) (s : State) :
    Answers (Keeps s) (execRennetTriggerTimeout m e s) := by
  unfold execRennetTriggerTimeout
  extract_lets d
  split
  · exact .ite (s.rennetFault_keeps _ _ _ _) (answers_same s)
  · exact answers_same s

theorem execUpdateStart_keeps (m : Fin 12) (e : Fin 8) (s : State) : Answers (Keeps s) (execUpdateStart m e s) :=
  .ite (answers_same s) <| .ite (s.pressBegin_keeps _ _ _) <| .ite (s.setPress_keeps _ _ _) <|
    .ite (s.pressBegin_keeps _ _ _) (answers_same s)

theorem execShardGatePass_keeps (m : Fin 12) (e : Fin 8) (s : State) : Answers (Keeps s) (execShardGatePass m e s) :=
  .ite (answers_same s) <| (s.useGrant_keeps _ _).trans <| (State.setPress_keeps _ _ _ _).trans <|
    (State.gateCheck_keeps _).trans (State.dirArm_keeps _ _ _)

theorem execDirChunk_keeps (m : Fin 12) (e : Fin 8) (s : State) : Answers (Keeps s) (execDirChunk m e s) := by
  unfold execDirChunk
  extract_lets d p ring chunk n s1
  refine .ite (answers_same s) (.ite (s.dirArm_keeps _ _) ?_)
  have h1 : Keeps s s1 := s.useGrant_keeps _ _
  have h := s1.prRead_keeps m e (s1.stAddr m (bits ring 0 26 + p.ringPos * chunk)) n
  split
  · next heq => exact h1.trans ((h.of_eq heq).trans (State.pressFault_keeps _ _ _ _ _))
  · next s2 bs heq =>
    extract_lets s3 sem fdie s4
    have h3 : Keeps s2 s3 := s2.setPress_keeps _ _ _
    have h4 : Keeps s3 s4 := .ite (s3.signal_keeps _ _ _ _ _) (Keeps.refl s3)
    exact h1.trans ((h.of_eq heq).trans (h3.trans (h4.trans (s4.dirArm_keeps _ _))))

theorem execDirRingWaitTimeout_keeps (m : Fin 12) (e : Fin 8) (s : State) :
    Answers (Keeps s) (execDirRingWaitTimeout m e s) := by
  unfold execDirRingWaitTimeout
  extract_lets d
  split
  · exact .ite (s.pressFault_keeps _ _ _ _) (answers_same s)
  · exact answers_same s

theorem execPressTile_keeps (m : Fin 12) (e : Fin 8) (parity : Bool) (s : State) :
    Answers (Keeps s) (execPressTile m e parity s) := by
  unfold execPressTile
  extract_lets p
  refine .ite (answers_same s) (.ite (s.pressFault_keeps _ _ _ _) ?_)
  have h := s.prEntryAt_keeps m e p.map p.entry
  split
  · next heq => exact (h.of_eq heq).trans (State.pressFault_keeps _ _ _ _ _)
  · next heq =>
    exact .ite (s.dirArm_keeps _ _) (.ite (answers_same s) ((h.of_eq heq).trans (State.tileRun_keeps _ _ _ _ _)))

theorem execUpdateFinished_keeps (m : Fin 12) (e : Fin 8) (s : State) : Answers (Keeps s) (execUpdateFinished m e s) := by
  unfold execUpdateFinished
  extract_lets d p k sor done s1
  have h : KeepsP s done := .ite (s.digestPass_keeps _ _ _ _) (Keeps.refl s)
  have h1 : Keeps s s1 := s.setPress_keeps _ _ _
  clear_value done s1
  refine .ite (Keeps.ite (s.pressStopped_keeps _ _) (Keeps.refl s)) (.ite (answers_same s) (.ite (.ite (answers_same s) ?_) ?_))
  · split
    · exact Keeps.trans h (State.pressFault_keeps _ _ _ _ _)
    · exact Keeps.trans h ((State.setPress_keeps _ _ _ _).trans (State.setPrState_keeps _ _ _ _))
  · exact .ite (answers_same s) (h1.trans <| (s1.setPrState_keeps _ _ _).trans <|
      (State.setFld_keeps _ _ _ _ _ _ _ _).trans (State.bump_keeps _ _ _ _ _ _))

theorem execPressArrival_keeps (m : Fin 12) (e : Fin 8) (s : State) : Answers (Keeps s) (execPressArrival m e s) := by
  unfold execPressArrival
  extract_lets d p h
  refine .ite (answers_same s) ?_
  split
  · exact s.pressArrive_keeps _ _
  refine .ite (answers_same s) (.ite (s.pressArrive_keeps _ _) ?_)
  have hs := s.hoopStage_keeps h 2 (BitVec.ofNat 64 (d * 256 + 8 + e.val)) (BitVec.ofNat 64 (1 - s.rg .PR_WC_SEL d 0 e))
  split
  · next s1 heq =>
    have hr := s1.hoopReady_keeps h
    split
    · next heq2 =>
      exact (hs.of_eq heq).trans ((hr.of_eq heq2).trans ((State.setPrState_keeps _ _ _ _).trans (State.pressArrive_keeps _ _ _)))
    · next heq2 => exact (hs.of_eq heq).trans (hr.of_eq heq2)
  · exact hs.of_eq ‹_›

theorem execRestartRederive_keeps (m : Fin 12) (e : Fin 8) (s : State) : Answers (Keeps s) (execRestartRederive m e s) := by
  unfold execRestartRederive
  extract_lets map p
  refine .ite (answers_same s) ?_
  have h := s.rederiveRun_keeps m e map (s.prCount m e map)
  split
  · next heq => exact (h.of_eq heq).trans (State.pressFault_keeps _ _ _ _ _)
  · next s1 heq =>
    have h2 := (h.of_eq heq).trans (s1.setPress_keeps m e { s1.press m e with rederived := true })
    exact h2.trans (.ite (State.setG_keeps _ _ _) (Keeps.refl _))

theorem execSorrelModuleDigest_keeps (s : State) : Answers (Keeps s) (execSorrelModuleDigest s) := by
  unfold execSorrelModuleDigest
  split
  · exact answers_same s
  · extract_lets ds md s1 self s2 s3
    have h1 : Keeps s s1 := s.clearDigests_keeps.trans ((State.setG_keeps _ _ _).trans (State.setG_keeps _ _ _))
    have h2 : Keeps s1 s2 := foldl_keeps _ _ _ fun z i => (z.sendReg_keeps _ _ _ _).trans (State.sendReg_keeps _ _ _ _ _)
    have h3 : Keeps s2 s3 := ⟨rfl, id⟩
    exact .ite (h1.trans (s1.setG_keeps _ _))
      (h1.trans (h2.trans (h3.trans ((s3.setG_keeps _ _).trans (State.sorrelCompare_keeps _)))))

/-! ### Collectives -/

theorem execCollectiveStart_keeps (x : Fin 4) (s : State) : Answers (Keeps s) (execCollectiveStart x s) := by
  unfold execCollectiveStart
  extract_lets dx v s1
  have h1 : Keeps s s1 := .ite (Keeps.refl s) ((s.useGrant_keeps _ _).trans (State.setVat_keeps _ _ _))
  clear_value s1
  split
  · exact answers_same s
  refine .ite (answers_same s) (.ite h1 ?_)
  split
  · exact h1
  · exact h1.trans (s1.vatBegin_keeps _ _ _ _ _)

theorem execCollCount_keeps (r : Rx) (cid : BitVec 12) (b : CollCount) (s : State) :
    Answers (Keeps s) (execCollCount r cid b s) :=
  s.collFlit_keeps _ _ _ _ _ _ fun _ _ _ z => .ite (z.vatFault_keeps _ _ _ _) <|
    (z.setColl_keeps _ _).trans (State.openColl_keeps _ _ _)

theorem execCollCredit_keeps (r : Rx) (cid : BitVec 12) (chunk : BitVec 16) (final : Bool) (s : State) :
    Answers (Keeps s) (execCollCredit r cid chunk final s) :=
  s.collFlit_keeps _ _ _ _ _ _ fun _ _ _ z => .ite (z.setColl_keeps _ _) <| .ite (Keeps.refl z) <|
    .ite ((z.setColl_keeps _ _).trans (State.sendChunk_keeps _ _ _ _ _)) (z.setColl_keeps _ _)

theorem execCollData_keeps (r : Rx) (cid : BitVec 12) (chunk : BitVec 16) (idx : BitVec 8) (data : List (BitVec 8))
    (s : State) : Answers (Keeps s) (execCollData r cid chunk idx data s) :=
  s.collFlit_keeps _ _ _ _ _ _ fun _ _ _ z => .ite (Keeps.refl z) (z.setColl_keeps _ _)

theorem execCollEnd_keeps (r : Rx) (cid : BitVec 12) (chunk : BitVec 16) (crc count : BitVec 32) (s : State) :
    Answers (Keeps s) (execCollEnd r cid chunk crc count s) :=
  s.collFlit_keeps _ _ _ _ _ _ fun _ _ _ z => .ite (Keeps.refl z) <|
    .ite (.ite (z.keepPart_keeps _ _ _ _ _) ((z.setColl_keeps _ _).trans (State.deliverChunk_keeps _ _ _ _ _))) <|
      .ite (z.vatFault_keeps _ _ _ _) ((z.setColl_keeps _ _).trans (State.sendColl_keeps _ _ _ _ _ _ _))

theorem execCollResend_keeps (r : Rx) (cid : BitVec 12) (chunk : BitVec 16) (s : State) :
    Answers (Keeps s) (execCollResend r cid chunk s) :=
  s.collFlit_keeps _ _ _ _ _ _ fun _ _ _ z => .ite ((z.sendChunk_keeps _ _ _ _).trans (State.bump_keeps _ _ _ _ _ _))
    (Keeps.refl z)

theorem execChunkReduce_keeps (x : Fin 4) (cid : BitVec 12) (chunk : BitVec 16) (s : State) :
    Answers (Keeps s) (execChunkReduce x cid chunk s) := by
  unfold execChunkReduce
  extract_lets k
  split
  · exact answers_same s
  · exact .ite (foldl_keeps _ _ _ fun z i => z.deliverChunk_keeps _ _ _ _) (.ite (answers_same s) (s.reduceNext_keeps _ _ _ _))

theorem execCollectiveComplete_keeps (x : Fin 4) (cid : BitVec 12) (s : State) :
    Answers (Keeps s) (execCollectiveComplete x cid s) := by
  unfold execCollectiveComplete
  extract_lets dx
  split
  · exact answers_same s
  next c _ =>
  refine .ite (answers_same s) ?_
  have h := s.ownCopy_keeps x c
  split
  · next heq => exact (h.of_eq heq).trans (State.vatFault_keeps _ _ _ _ _)
  · next s1 heq =>
    extract_lets v s2 s3 s4
    have h3 : Keeps s2 s3 := .ite (Keeps.refl s2) (s2.setFld_keeps _ _ _ _ _ _ _)
    have h4 : Keeps s s4 := (h.of_eq heq).trans ((s1.setVat_keeps _ _).trans (h3.trans (s3.bump_keeps _ _ _ _ _)))
    exact Keeps.ite (h4.trans (s4.signal_keeps _ _ _ _ _)) h4

theorem execVatProgressTimeout_keeps (x : Fin 4) (s : State) : Answers (Keeps s) (execVatProgressTimeout x s) := by
  unfold execVatProgressTimeout
  extract_lets v limit
  split
  · exact s.vatFault_keeps _ _ _ _
  split
  · exact .ite (s.vatFault_keeps _ _ _ _) (answers_same s)
  · exact answers_same s

theorem execVatTriggerTimeout_keeps (x : Fin 4) (s : State) : Answers (Keeps s) (execVatTriggerTimeout x s) := by
  unfold execVatTriggerTimeout
  extract_lets dx
  split
  · exact .ite (s.vatFault_keeps _ _ _ _) (answers_same s)
  · exact answers_same s

/-! ### Leases, captures and reports -/

theorem execHandshakeWatchdogExpiry_keeps (ch : Chan) (s : State) :
    Answers (Keeps s) (execHandshakeWatchdogExpiry ch s) :=
  Keeps.ite (Keeps.trans (s.hsFault_keeps ch) ⟨rfl, id⟩) (Keeps.refl s)

/-- Passing a fault to the half in charge. -/
theorem State.faultQ_keeps (s : State) (q : List FaultRec) : Keeps s { s with faultQ := q } := ⟨rfl, id⟩

theorem execHalfLeaseRenewal_keeps (fromEast : Bool) (epoch : BitVec 64) (s : State) :
    Answers (Keeps s) (execHalfLeaseRenewal fromEast epoch s) := by
  refine .ite (.ite ⟨rfl, id⟩ (answers_same s)) (.ite ?_ (.ite ?_ (answers_same s)))
  · exact s.loseGlobals_keeps.trans ((State.halfChange_keeps _ _ _ _ _).trans (State.faultQ_keeps _ _))
  · have h1 := s.setG_keeps .LEASE_STATUS (setBits (s.g .LEASE_STATUS) 4 1 1)
    have h2 (l : LeaseS) (z : State) : Keeps z { z with leases := l } := ⟨rfl, id⟩
    exact .ite (h1.trans ((h2 _ _).trans (State.alert_keeps _ _))) (h1.trans ((h2 _ _).trans
      ((State.loseGlobals_keeps _).trans ((State.halfChange_keeps _ _ _ _ _).trans (State.faultQ_keeps _ _)))))

theorem execLeaseRenew_keeps (s : State) : Answers (Keeps s) (execLeaseRenew s) := by
  have h1 (l : LeaseS) (o : List Out) : Keeps s { s with leases := l, outbox := o } := ⟨rfl, id⟩
  exact .ite (answers_same s) (Keeps.ite ((h1 _ _).trans (State.boardRenew_keeps _)) (h1 _ _))

theorem execCaveChunk_keeps (m : Fin 12) (accepted : Bool) (s : State) : Answers (Keeps s) (execCaveChunk m accepted s) := by
  unfold execCaveChunk
  extract_lets s0
  have h0 : Keeps s s0 := s.caveTake_keeps _
  clear_value s0
  split
  · exact h0
  next c _ =>
  split
  · exact h0
  next i nxt _ =>
  split
  · exact h0
  split
  next addr len _ =>
  extract_lets at_ n
  have hr := s0.caveRead_keeps m (addr + at_) n
  split
  · next heq => exact h0.trans ((hr.of_eq heq).trans (State.caveAbandon_keeps _))
  next s1 bs heq =>
  have h1 : Keeps s s1 := h0.trans (hr.of_eq heq)
  split
  next s2 ok0 heq2 =>
  have h2 : Keeps s1 s2 := KeepsP.of_eq (.ite (s1.slotWrite_keeps _ _ _) (show KeepsP s1 (s1, true) from Keeps.refl s1)) heq2
  split
  next s3 ok1 heq3 =>
  have h3 : Keeps s2 s3 := KeepsP.of_eq (.ite (s2.slotWrite_keeps _ _ _) (show KeepsP s2 (s2, false) from Keeps.refl s2)) heq3
  have h123 := h1.trans (h2.trans h3)
  split
  · exact h123.trans s3.caveAbandon_keeps
  · have h4 (x : Option Capture) (g : List (Nat × Nat)) : Keeps s3 { s3 with capture := x, guards := g } := ⟨rfl, id⟩
    exact h123.trans ((h4 _ _).trans ((State.caveGive_keeps _ _).trans ((State.caveTakeFrom_keeps _ _).trans
      (State.serveHeld_keeps _))))

theorem State.caveCommitted_keeps (s : State) (c : Capture) : Keeps s (s.caveCommitted c) := by
  unfold State.caveCommitted
  extract_lets s1 info slots
  have h1 : Keeps s s1 := (s.setG_keeps _ _).trans (State.setG_keeps _ _ _)
  have h2 : Keeps s1 { s1 with slots := slots, agree := some (c.step, c.slot) } := ⟨rfl, id⟩
  exact h1.trans (h2.trans (State.caveEnd_keeps _))

theorem execCaveCommit_keeps (accepted : Bool) (s : State) : Answers (Keeps s) (execCaveCommit accepted s) := by
  unfold execCaveCommit
  split
  · exact answers_same s
  next c _ =>
  split
  · exact answers_same s
  split
  next hd t _ =>
  extract_lets end_
  have w (z : State) (off : Nat) (bs : List Nat) := z.slotWrite_keeps c.slot off bs
  split
  next s1 ok1 h1 =>
  split
  next s2 ok2 h2 =>
  split
  next s3 ok3 h3 =>
  have h123 : Keeps s s3 := ((w _ _ _).of_eq h1).trans (((w _ _ _).of_eq h2).trans ((w _ _ _).of_eq h3))
  split
  next o s4 heq =>
  have h4 : Keeps s s4 := by
    refine h123.trans (KeepsQ.of_eq ?_ heq)
    split
    · exact Keeps.refl s3
    · exact s3.freshVal_keeps
  split
  · exact h4.trans s4.caveAbandon_keeps
  split
  next s5 ok4 h5 =>
  have h45 : Keeps s s5 := h4.trans ((w _ _ _).of_eq h5)
  exact .ite (h45.trans s5.caveAbandon_keeps) (h45.trans (s5.caveCommitted_keeps c))

theorem execCaveAgreed_keeps (accepted : Bool) (s : State) : Answers (Keeps s) (execCaveAgreed accepted s) := by
  unfold execCaveAgreed
  split
  · exact answers_same s
  · have h (slot off : Nat) (bs : List Nat) (l : SlotInfo × SlotInfo) (a : Option (Nat × Nat)) :
        Keeps s { (s.slotWrite slot off bs).1 with agree := a, slots := l } :=
      Keeps.trans (s.slotWrite_keeps slot off bs) ⟨rfl, id⟩
    exact .ite (.ite (h _ _ _ _ _) (h _ _ _ _ _)) (answers_same s)

theorem execCaveProgressTimeout_keeps (s : State) : Answers (Keeps s) (execCaveProgressTimeout s) := by
  unfold execCaveProgressTimeout
  split
  · exact answers_same s
  · exact Keeps.ite s.caveAbandon_keeps (Keeps.refl s)

theorem execAttestReportDone_keeps (accepted : Bool) (s : State) : Answers (Keeps s) (execAttestReportDone accepted s) := by
  unfold execAttestReportDone
  split
  · exact answers_same s
  next bs dst die sem _ =>
  split
  next s1 ok heq =>
  have h1 : Keeps s s1 := by
    refine KeepsP.of_eq (.ite ?_ ?_) heq
    · exact s.memWrite_keeps _ _ _
    · exact Keeps.trans (s.sendWrites_keeps _ _) ⟨rfl, id⟩
  exact Keeps.ite (h1.trans ((s1.attEnd_keeps _).trans (State.signal_keeps _ _ _ _ _ _))) (h1.trans (s1.attEnd_keeps _))

/-! ### The Vetch fabric -/

/-- Taking a message off those on their way. -/
theorem State.vmsgs_keeps (s : State) (l : List VMsg) : Keeps s { s with vmsgs := l } := ⟨rfl, id⟩

theorem execSignal_keeps (src : VSrc) (d : Die) (sem : Fin 4096) (n : BitVec 16) (s : State) :
    Answers (Keeps s) (execSignal src d sem n s) := by
  cases src with
  | here => exact s.addSem_keeps _ _ _
  | lane r => exact s.rxFrame_keeps _ _

theorem execArrive_keeps (src : VSrc) (d : Die) (ctx : Fin 256) (gen : BitVec 32) (ready : BitVec 16) (flags : BitVec 8)
    (s : State) : Answers (Keeps s) (execArrive src d ctx gen ready flags s) := by
  cases src with
  | here =>
    unfold execArrive
    dsimp only
    split
    · exact (s.vmsgs_keeps _).trans ((State.arriveDie_keeps _ _ _ _ _ _).trans (State.passSignals_keeps _))
    · exact answers_same s
  | lane r => exact s.rxFrame_keeps _ _

theorem execComplete_keeps (src : VSrc) (d : Die) (ctx : Fin 256) (gen : BitVec 32) (s : State) :
    Answers (Keeps s) (execComplete src d ctx gen s) := by
  cases src with
  | here =>
    unfold execComplete
    dsimp only
    split
    · exact (s.vmsgs_keeps _).trans ((State.completeAt_keeps _ _ _ _).trans (State.passSignals_keeps _))
    · exact answers_same s
  | lane r => exact s.rxFrame_keeps _ _

theorem execAdvance_keeps (src : VSrc) (d : Die) (epoch : BitVec 64) (commits aborts : BitVec 16) (flags : BitVec 8)
    (s : State) : Answers (Keeps s) (execAdvance src d epoch commits aborts flags s) := by
  cases src with
  | here =>
    unfold execAdvance
    dsimp only
    split
    · exact (s.vmsgs_keeps _).trans ((State.advanceDie_keeps _ _ _ _).trans
        ((State.passSignals_keeps _).trans (State.heldAdvance_keeps _)))
    · exact answers_same s
  | lane r => exact s.rxFrame_keeps _ _

theorem execAbort_keeps (src : VSrc) (h : Fin 16) (inst : BitVec 32) (s : State) :
    Answers (Keeps s) (execAbort src h inst s) := by
  cases src with
  | here => exact answers_same s
  | lane r => exact s.rxFrame_keeps _ _

theorem execAutoArrivalGateTimeout_keeps (d : Die) (s : State) : Answers (Keeps s) (execAutoArrivalGateTimeout d s) := by
  unfold execAutoArrivalGateTimeout
  split
  · exact .ite ((s.dropWait_keeps _ _).trans (State.vetchFault_keeps _ _ _ _)) (answers_same s)
  · exact answers_same s

/-! ### Management requests -/

theorem execGenRequest_keeps (q : Req) (seed : BitVec 64) (maxNew : BitVec 32) (prompt : List (BitVec 32)) (s : State) :
    Answers (Keeps s) (execGenRequest q seed maxNew prompt s) := by
  have reply (n : Nat) (b : List Nat) : Keeps s (s.reply q 0x21 n b) := s.reply_keeps _ _ _ _
  refine s.asksNormal_keeps _ _ _ ?_
  split
  · exact reply _ _
  · have gen (l : List GenReq) : Keeps s { s with gen := l } := ⟨rfl, id⟩
    exact .ite (reply _ _) <| .ite (reply _ _) <| .ite (reply _ _) <| (gen _).trans ((State.genAdmit_keeps _).trans (State.genIssue_keeps _))

theorem execDecodeWaitExpiry_keeps (s : State) : Answers (Keeps s) (execDecodeWaitExpiry s) := by
  unfold execDecodeWaitExpiry
  split
  · exact Keeps.ite s.issueBatch_keeps (Keeps.refl s)
  · exact answers_same s

theorem execDecodeBatchComplete_keeps (toks : List (BitVec 32 × Bool)) (s : State) :
    Answers (Keeps s) (execDecodeBatchComplete toks s) :=
  .ite (answers_same s) <| Keeps.trans (s.batchTokens_keeps _ _) <|
    Keeps.trans (b := { (s.batchTokens s.gen toks).1 with gen := _, batch := [] }) ⟨rfl, id⟩
      ((State.genAdmit_keeps _).trans (State.genIssue_keeps _))

theorem execGenCancel_keeps (q : Req) (target : BitVec 64) (s : State) : Answers (Keeps s) (execGenCancel q target s) := by
  refine s.asksNormal_keeps _ _ _ ?_
  extract_lets hit s1
  have h1 : Keeps s s1 := foldl_keeps _ _ _ State.genEnd_keeps
  exact h1.trans (Keeps.trans (b := { s1 with gen := dropGen hit s1.gen }) ⟨rfl, id⟩
    ((State.reply_keeps _ _ _ _ _).trans ((State.genAdmit_keeps _).trans ((State.genIssue_keeps _).trans
      (State.waitReset_keeps _)))))

theorem execTokens_keeps (q : Req) (step off : BitVec 64) (toks : List (BitVec 32)) (s : State) :
    Answers (Keeps s) (execTokens q step off toks s) := by
  have reply (z : State) (n : Nat) : Keeps z (z.reply q 0x20 n []) := z.reply_keeps _ _ _ _
  refine s.asksNormal_keeps _ _ _ ?_
  split
  · exact reply s _
  · exact .ite (reply s _) <| .ite (reply s _) <| .ite (reply s _) <|
      Keeps.trans (b := { s with tokens := _ }) ⟨rfl, id⟩ (reply _ _)

theorem execMgmtLinkUp_keeps (s : State) : Answers (Keeps s) (execMgmtLinkUp s) :=
  Keeps.ite ⟨rfl, id⟩ (Keeps.refl s)

theorem execMgmtLinkDown_keeps (s : State) : Answers (Keeps s) (execMgmtLinkDown s) :=
  Keeps.trans (b := { s with mgmtUp := false }) ⟨rfl, id⟩ (State.loseSessions_keeps _ _)

theorem execMgmtConnect_keeps (h : Hello) (s : State) : Answers (Keeps s) (execMgmtConnect h s) := by
  have refused : Keeps s { s with outbox := s.outbox ++ [.tlsRefused] } := ⟨rfl, id⟩
  refine .ite (answers_same s) (.ite refused ?_)
  split
  · exact refused
  · exact ⟨rfl, id⟩

theorem execRegRead_keeps (q : Req) (offs : List (BitVec 64)) (s : State) : Answers (Keeps s) (execRegRead q offs s) := by
  refine s.asksNormal_keeps _ _ _ (.ite (s.reply_keeps _ _ _ _) ?_)
  split
  · exact s.reply_keeps _ _ _ _
  · exact s.reply_keeps _ _ _ _

theorem execRegWrite_keeps (q : Req) (writes : List (BitVec 64 × BitVec 64)) (s : State) :
    Answers (Keeps s) (execRegWrite q writes s) := by
  refine s.asksNormal_keeps _ _ _ (.ite (s.reply_keeps _ _ _ _) ?_)
  have h := s.writeRegs_keeps 0 (writes.map fun w => (w.1.toNat, w.2.toNat))
  split
  · next heq => exact (h.of_eq heq).trans (State.reply_keeps _ _ _ _ _)
  · next heq => exact (h.of_eq heq).trans (State.reply_keeps _ _ _ _ _)

theorem execJobStart_keeps (q : Req) (s : State) : Answers (Keeps s) (execJobStart q s) :=
  s.asksNormal_keeps _ _ _ <| .ite (s.reply_keeps _ _ _ _) <| .ite (s.reply_keeps _ _ _ _) <|
    .ite (s.reply_keeps _ _ _ _) <| (foldl_keeps _ _ _ fun z c => z.seqGo_keeps c).trans (State.reply_keeps _ _ _ _ _)

theorem execJobUnload_keeps (q : Req) (s : State) : Answers (Keeps s) (execJobUnload q s) :=
  s.asksNormal_keeps _ _ _ <| .ite (s.reply_keeps _ _ _ _) <| .ite (s.reply_keeps _ _ _ _) <|
    s.unload_keeps.trans (State.reply_keeps _ _ _ _ _)

theorem execTeleSub_keeps (q : Req) (period : BitVec 64) (offs : List (BitVec 64)) (s : State) :
    Answers (Keeps s) (execTeleSub q period offs s) :=
  s.asksNormal_keeps _ _ _ <| .ite (s.reply_keeps _ _ _ _) <| .ite (s.reply_keeps _ _ _ _) <|
    (s.onSession_keeps _ _).trans (State.reply_keeps _ _ _ _ _)

theorem execTelemetry_keeps (session : Fin 8) (s : State) : Answers (Keeps s) (execTelemetry session s) := by
  unfold execTelemetry
  split
  · exact answers_same s
  split
  · exact answers_same s
  · exact .ite (answers_same s) (Keeps.trans (s.teleValues_keeps _) ((State.onSession_keeps _ _ _).trans
      (State.mgmtOut_keeps _ _ _ _ _ _)))

theorem execAttest_keeps (q : Req) (nonce : BitVec 256) (s : State) : Answers (Keeps s) (execAttest q nonce s) :=
  s.asks_keeps _ _ (Keeps.trans (s.report_keeps (leBytes 32 nonce.toNat)) (State.reply_keeps _ _ _ _ _))

theorem execTestNonce_keeps (q : Req) (s : State) : Answers (Keeps s) (execTestNonce q s) :=
  s.asksNormal_keeps _ _ _ <| Keeps.trans (b := { s with freshCtr := s.freshCtr + 4 }) ⟨rfl, id⟩ <|
    (State.onSession_keeps _ _ _).trans (State.reply_keeps _ _ _ _ _)

theorem execMemRead_keeps (q : Req) (addr : BitVec 64) (len : BitVec 32) (r : Remote) (s : State) :
    Answers (Keeps s) (execMemRead q addr len r s) := by
  have reply (z : State) (n : Nat) (b : List Nat) : Keeps z (z.reply q 0x60 n b) := z.reply_keeps _ _ _ _
  refine s.asksNormal_keeps _ _ _ <| .ite (reply _ _ _) <| .ite (reply _ _ _) <| .ite (reply _ _ _) <|
    .ite (reply _ _ _) (.ite ?_ ?_)
  · have h := s.memRead_keeps .mgmt addr.toNat len.toNat
    split
    · next heq => exact (h.of_eq heq).trans (reply _ _ _)
    · next heq => exact (h.of_eq heq).trans (reply _ _ _)
  · have h := s.sendReads_keeps .unit (blockPieces (len.toNat + 1) addr.toNat (List.replicate len.toNat 0))
    have asked (z : State) : Keeps z { z with asked := s.asked } := ⟨rfl, id⟩
    split
    · next heq => exact (h.of_eq heq).trans ((asked _).trans (reply _ _ _))
    · next heq _ => exact (h.of_eq heq).trans ((asked _).trans (reply _ _ _))

theorem execMemWrite_keeps (q : Req) (addr : BitVec 64) (data : List (BitVec 8)) (r : Remote) (s : State) :
    Answers (Keeps s) (execMemWrite q addr data r s) := by
  have reply (z : State) (n : Nat) (b : List Nat) : Keeps z (z.reply q 0x61 n b) := z.reply_keeps _ _ _ _
  refine s.asksNormal_keeps _ _ _ <| .ite (reply _ _ _) <| .ite (reply _ _ _) <| .ite (reply _ _ _) <|
    .ite (reply _ _ _) (.ite ?_ ?_)
  · have h := s.memWrite_keeps .mgmt addr.toNat (data.map BitVec.toNat)
    split
    · next heq => exact (h.of_eq heq).trans (reply _ _ _)
    · next heq => exact (h.of_eq heq).trans (reply _ _ _)
  · have h := s.sendWrites_keeps .unit (blockPieces ((data.map BitVec.toNat).length + 1) addr.toNat (data.map BitVec.toNat))
    have asked (z : State) : Keeps z { z with asked := s.asked } := ⟨rfl, id⟩
    split
    · next heq => exact (h.of_eq heq).trans ((asked _).trans (reply _ _ _))
    · next heq _ => exact (h.of_eq heq).trans ((asked _).trans (reply _ _ _))

/-! ### The Rind and the supplies -/

theorem execRindLeaseOutLatch_keeps (s : State) : Answers (Keeps s) (execRindLeaseOutLatch s) :=
  s.rindCycle_keeps _ fun z => Keeps.trans (b := { z with rind := _ }) ⟨rfl, id⟩ (State.answer_keeps _ _)

theorem execPowerSample_keeps (watts decivolts : BitVec 16) (s : State) :
    Answers (Keeps s) (execPowerSample watts decivolts s) := by
  have power (z : State) (p : PowerS) (d e : Nat) : Keeps z (({ z with power := p } : State).setDemands d e) :=
    Keeps.trans (b := { z with power := p }) ⟨rfl, id⟩ (State.setDemands_keeps _ _ _)
  exact .ite ((s.setG_keeps _ _).trans (power _ _ _ _)) <|
    (s.setG_keeps _ _).trans ((State.setG_keeps _ _ _).trans ((State.setG_keeps _ _ _).trans (power _ _ _ _)))

theorem execThermalSample_keeps (readings : List (Die × BitVec 16)) (failed : Option (Die × Fin 4)) (s : State) :
    Answers (Keeps s) (execThermalSample readings failed s) := by
  unfold execThermalSample
  extract_lets s1 s2
  have h1 : Keeps s s1 := foldl_keeps _ _ _ fun z r => z.readTemp_keeps _ _
  have h2 : Keeps s s2 := by
    unfold s2
    split
    · exact h1.trans (s1.dieFault_keeps _ _ _ _)
    · exact h1
  have power (p : PowerS) : Keeps s { s2 with power := p } := h2.trans ⟨rfl, id⟩
  exact .ite (power _) ((power _).trans ((State.setDemands_keeps _ _ _).trans (State.hotFaults_keeps _ _)))

end Sys2Proof.Machine

namespace Sys2Proof

/-- The commands that may change the queue's companions in `Still`: start-up, resets, stops, the load of a job, test mode and the flash. -/
def Instr.shiftsStill : Instr → Bool
  | .resetRelease .. | .resetNLow .. | .powerInputOutOfRange .. | .localTick .. | .moduleStop .. | .seqStopped ..
  | .stopTimeout .. | .jobWatchdogExpiry .. | .scanTestEntry .. | .jobLoad .. | .jobStop .. | .fwBegin .. | .fwData ..
  | .fwCommit .. | .testEnter .. | .reset .. | .rindWrite .. | .stopJob .. => true
  | _ => false

end Sys2Proof

namespace Sys2Proof.Machine

theorem exec_keeps (c : Instr) (s : State) (hc : c.shiftsStill = false) : Answers (Keeps s) (exec c s) := by
  cases c with
  | resetRelease => cases hc
  | resetNLow => cases hc
  | powerInputOutOfRange => cases hc
  | thermTrip _ => exact ⟨rfl, id⟩
  | localTick => cases hc
  | powerSample watts decivolts => exact execPowerSample_keeps watts decivolts s
  | thermalSample readings failed => exact execThermalSample_keeps readings failed s
  | registerWrite _ _ _ _ => exact State.wrote_keeps _ _ (.ite (s.farWrite_keeps ..) (s.widthWrite_keeps ..))
  | dieLeaseWrite _ _ _ => exact s.writeReg_keeps ..
  | seqCtrlGo _ _ => exact s.writeReg_keeps ..
  | sclNop _ _ => exact seqCommand_keeps fun z _ => z.retire_keeps ..
  | sclLi _ _ => exact seqCommand_keeps fun z _ => z.setSc_retire_keeps ..
  | sclAlu _ _ => exact seqCommand_keeps fun z _ => z.setSc_retire_keeps ..
  | sclAlui _ _ => exact seqCommand_keeps fun z _ => z.setSc_retire_keeps ..
  | sclLd c p => exact execSclLd_keeps c p s
  | sclSt c p => exact execSclSt_keeps c p s
  | sclGetid _ _ => exact seqCommand_keeps fun z _ => z.setSc_retire_keeps ..
  | sclHalt c p => exact execSclHalt_keeps c p s
  | brJ _ _ => exact seqCommand_keeps fun z _ => z.retireTo_keeps ..
  | brCmp _ _ => exact seqCommand_keeps fun z _ => z.branch_keeps ..
  | brSum _ _ => exact seqCommand_keeps fun z _ => z.branch_keeps ..
  | brDec _ _ => exact seqCommand_keeps fun z _ => (z.setSc_keeps ..).trans (State.branch_keeps ..)
  | brCall _ _ => exact seqCommand_keeps fun z _ => (z.setSc_keeps ..).trans (State.retireTo_keeps ..)
  | brRet _ _ => exact seqCommand_keeps fun z _ => .ite (z.seqFault_keeps ..) (z.retireTo_keeps ..)
  | synSig _ _ => exact seqCommand_keeps fun z _ => z.synSig_keeps ..
  | synWait c p => exact execSynWait_keeps c p s
  | synBar c p => exact execSynBar_keeps c p s
  | synFence _ _ => exact seqCommand_keeps fun z _ => .ite (z.retire_keeps ..) (z.holdSeq_keeps ..)
  | synEpoch _ _ => exact seqCommand_keeps fun z _ => z.setSc_retire_keeps ..
  | hoopStage c p => exact execHoopStage_keeps c p s
  | hoopReady c p => exact execHoopReady_keeps c p s
  | hoopWait c p => exact execHoopWait_keeps c p s
  | dmaSub c p => exact execDmaSub_keeps c p s
  | dmaCload c p n => exact execDmaCload_keeps c p n s
  | matPass c p => exact execMatPass_keeps c p s
  | passStart _ _ _ => exact s.passStart_keeps ..
  | loadBeatRelease _ _ _ => exact s.loadRelease_keeps ..
  | passComplete _ _ _ _ => exact s.passComplete_keeps ..
  | vecRun c p => exact execVecRun_keeps c p s
  | vecLds c p => exact execVecLds_keeps c p s
  | vecLdc c p => exact execVecLdc_keeps c p s
  | vecFill c p => exact execVecFill_keeps c p s
  | vecCommandStart _ => exact s.vecStart_keeps ..
  | vecCommandComplete _ _ => exact .ite (answers_same s) (s.vecFinish_keeps ..)
  | vecStopAtRow _ _ => exact .ite (s.vecFinish_keeps ..) (answers_same s)
  | teaSet _ _ => exact s.teaSetCmd_keeps ..
  | teaSetBlk _ _ => exact s.teaSetCmd_keeps ..
  | teaFlush _ _ => exact seqCommand_keeps fun z _ => .ite (z.seqFault_keeps ..) ((z.flushAccept_keeps ..).trans (State.retire_keeps ..))
  | teaselCapture _ _ _ _ => exact s.teaCapture_keeps ..
  | teaselUpdate _ _ => exact s.teaUpdate_keeps ..
  | teaselUpdateComplete _ _ => exact s.teaUpdateDone_keeps ..
  | flushComplete _ _ => exact s.flushDone_keeps ..
  | dmaChSubmit _ _ _ _ => exact s.writeReg_keeps ..
  | dmaDescriptorStart d ch => exact execDmaDescriptorStart_keeps d ch s
  | dmaBurstComplete _ _ _ => exact s.dmaBurst_keeps ..
  | dmaDescriptorComplete d ch => exact execDmaDescriptorComplete_keeps d ch s
  | dmaProgressTimeout _ _ => exact .ite (s.dmaFault_keeps ..) (answers_same s)
  | tierRead r addr bad => exact execTierRead_keeps r addr bad s
  | tierWrite r addr data => exact execTierWrite_keeps r addr data s
  | sramAccess r addr acc err => exact execSramAccess_keeps r addr acc err s
  | mcRetire _ _ _ => exact s.writeReg_keeps ..
  | migrationLineCopy m slow => exact execMigrationLineCopy_keeps m slow s
  | signal src d sem n => exact execSignal_keeps src d sem n s
  | vetchSignal _ _ _ => exact s.writeReg_keeps ..
  | vetchArrive _ _ _ => exact s.writeReg_keeps ..
  | arrive src d ctx gen ready flags => exact execArrive_keeps src d ctx gen ready flags s
  | complete src d ctx gen => exact execComplete_keeps src d ctx gen s
  | advance src d epoch commits aborts flags => exact execAdvance_keeps src d epoch commits aborts flags s
  | abort src h inst => exact execAbort_keeps src h inst s
  | autoArrival _ => exact s.autoArrive_keeps ..
  | autoArrivalGateTimeout d => exact execAutoArrivalGateTimeout_keeps d s
  | semaphoreWaitTimeout _ => exact .ite (s.seqFault_keeps ..) (answers_same s)
  | barrierWaitTimeout _ => exact .ite (s.seqFault_keeps ..) (answers_same s)
  | hoopOpen _ _ _ => exact s.writeReg_keeps ..
  | hoopAbort _ _ _ => exact s.writeReg_keeps ..
  | hoopStgStage _ _ _ => exact s.writeReg_keeps ..
  | hoopStgReady _ _ _ => exact s.writeReg_keeps ..
  | hoopTimeout _ => exact .ite (s.hoopAbort_keeps ..) (answers_same s)
  | refresh m e => exact execRefresh_keeps m e s
  | intakeComplete m e flt => exact execIntakeComplete_keeps m e flt s
  | rennetJobComplete m e flt => exact execRennetJobComplete_keeps m e flt s
  | rennetTriggerTimeout m e => exact execRennetTriggerTimeout_keeps m e s
  | updateStart m e => exact execUpdateStart_keeps m e s
  | dirChunk m e => exact execDirChunk_keeps m e s
  | dirRingWaitTimeout m e => exact execDirRingWaitTimeout_keeps m e s
  | pressTile m e parity => exact execPressTile_keeps m e parity s
  | updateFinished m e => exact execUpdateFinished_keeps m e s
  | pressArrival m e => exact execPressArrival_keeps m e s
  | shardGatePass m e => exact execShardGatePass_keeps m e s
  | restartRederive m e => exact execRestartRederive_keeps m e s
  | sorrelModuleDigest => exact execSorrelModuleDigest_keeps s
  | sorrelTimeout => exact .ite (s.sorrelFault_keeps ..) (answers_same s)
  | portEnable _ _ _ => exact s.writeReg_keeps ..
  | portTrained p lanes node port => exact execPortTrained_keeps p lanes node port s
  | trainingTimeout _ => exact .ite (s.portFail_keeps ..) (answers_same s)
  | laneLockLoss p lanes => exact execLaneLockLoss_keeps p lanes s
  | replayTimeout p sync => exact execReplayTimeout_keeps p sync s
  | linkctl p ack nak credits => exact execLinkctl_keeps p ack nak credits s
  | wr _ _ _ => exact s.rxFlit_keeps _ _ _ fun z => z.serveWr_keeps ..
  | rdReq r addr lm1 => exact execRdReq_keeps r addr lm1 s
  | rdResp r err data => exact execRdResp_keeps r err data s
  | wrAck r err => exact execWrAck_keeps r err s
  | regWr r off width v => exact execRegWr_keeps r off width v s
  | vetch r fseq fack f => exact execVetch_keeps r fseq fack f s
  | halfLeaseRenewal fromEast epoch => exact execHalfLeaseRenewal_keeps fromEast epoch s
  | leaseRenew => exact execLeaseRenew_keeps s
  | leaseTakeover _ => exact Keeps.ite s.boardTakeover_keeps s.halfTakeover_keeps
  | vatSubmit _ _ _ => exact s.writeReg_keeps ..
  | collectiveStart x => exact execCollectiveStart_keeps x s
  | collCount r cid b => exact execCollCount_keeps r cid b s
  | collCredit r cid chunk final => exact execCollCredit_keeps r cid chunk final s
  | collData r cid chunk idx data => exact execCollData_keeps r cid chunk idx data s
  | collEnd r cid chunk crc count => exact execCollEnd_keeps r cid chunk crc count s
  | collResend r cid chunk => exact execCollResend_keeps r cid chunk s
  | chunkReduce x cid chunk => exact execChunkReduce_keeps x cid chunk s
  | collectiveComplete x cid => exact execCollectiveComplete_keeps x cid s
  | vatProgressTimeout x => exact execVatProgressTimeout_keeps x s
  | vatTriggerTimeout x => exact execVatTriggerTimeout_keeps x s
  | handshakeWatchdogExpiry ch => exact execHandshakeWatchdogExpiry_keeps ch s
  | moduleStop => cases hc
  | seqStopped => cases hc
  | stopTimeout => cases hc
  | jobWatchdogExpiry => cases hc
  | caveChunk m accepted => exact execCaveChunk_keeps m accepted s
  | caveCommit accepted => exact execCaveCommit_keeps accepted s
  | caveAgreed accepted => exact execCaveAgreed_keeps accepted s
  | caveProgressTimeout => exact execCaveProgressTimeout_keeps s
  | twinFence _ _ => exact s.writeReg_keeps ..
  | yield _ => exact s.writeReg_keeps ..
  | reloadWatcher _ => exact s.writeReg_keeps ..
  | raiseFloor _ => exact s.writeReg_keeps ..
  | attGo _ _ => exact s.writeReg_keeps ..
  | attestReportDone accepted => exact execAttestReportDone_keeps accepted s
  | scanTestEntry => cases hc
  | ccCacheInvalidate _ _ _ => exact s.ccCacheRow_keeps ..
  | ccCacheClean _ _ _ => exact s.ccCacheRow_keeps ..
  | ccCacheCleanInvalidate _ _ _ => exact s.ccCacheRow_keeps ..
  | mgmtConnect h => exact execMgmtConnect_keeps h s
  | status _ => exact s.asks_keeps _ _ (s.reply_keeps ..)
  | regRead q offs => exact execRegRead_keeps q offs s
  | regWrite q writes => exact execRegWrite_keeps q writes s
  | jobLoad => cases hc
  | jobStart q => exact execJobStart_keeps q s
  | jobStop => cases hc
  | jobUnload q => exact execJobUnload_keeps q s
  | tokens q step off toks => exact execTokens_keeps q step off toks s
  | genRequest q seed maxNew prompt => exact execGenRequest_keeps q seed maxNew prompt s
  | decodeWaitExpiry => exact execDecodeWaitExpiry_keeps s
  | genCancel q target => exact execGenCancel_keeps q target s
  | teleSub q period offs => exact execTeleSub_keeps q period offs s
  | telemetry session => exact execTelemetry_keeps session s
  | fwBegin => cases hc
  | fwData => cases hc
  | fwCommit => cases hc
  | attest q nonce => exact execAttest_keeps q nonce s
  | testNonce q => exact execTestNonce_keeps q s
  | testEnter => cases hc
  | memRead q addr len r => exact execMemRead_keeps q addr len r s
  | memWrite q addr data r => exact execMemWrite_keeps q addr data r s
  | reset => cases hc
  | rindLeaseOutLatch => exact execRindLeaseOutLatch_keeps s
  | rindLeaseIn _ => exact s.rindCycle_keeps _ fun z => z.leaseIn_keeps ..
  | rindWrite => cases hc
  | fenceTwin _ => exact s.rindCycle_keeps _ fun z => z.fence_keeps _ _ _ State.actFenceTwin_keeps
  | unfenceTwin _ => exact s.rindCycle_keeps _ fun z => z.fence_keeps _ _ _ State.actUnfenceTwin_keeps
  | fenceFabric _ => exact s.rindCycle_keeps _ fun z => z.fence_keeps _ _ _ State.actFenceFabric_keeps
  | unfenceFabric _ => exact s.rindCycle_keeps _ fun z => z.fence_keeps _ _ _ State.actUnfenceFabric_keeps
  | stopJob => cases hc
  | powerInputInRange _ => exact Keeps.ite ⟨rfl, id⟩ ⟨rfl, id⟩
  | syncLaneLoss _ => exact .ite (answers_same s) ((s.setPortBit_keeps ..).trans (State.enterFallback_keeps ..))
  | syncLaneRetrained _ => exact .ite (answers_same s) ((s.setPortBit_keeps ..).trans (State.leaveFallback_keeps ..))
  | damagedFlitOrFrame p frame reserved => exact execDamagedFlitOrFrame_keeps p frame reserved s
  | idleFrame _ _ _ => exact .ite (answers_same s) (s.frameAcks_keeps ..)
  | reservedOpcode c p => exact execReservedOpcode_keeps c p s
  | malformed _ _ => exact s.asks_keeps _ _ (s.mgmtOut_keeps ..)
  | mgmtLinkUp => exact execMgmtLinkUp_keeps s
  | mgmtLinkDown => exact execMgmtLinkDown_keeps s
  | sessionClose _ => exact s.loseSessions_keeps ..
  | decodeBatchComplete toks => exact execDecodeBatchComplete_keeps toks s

end Sys2Proof.Machine

namespace Sys2Proof.Machine

/-- What a command may do to the fields of `Still`, and by which command. -/
inductive StillChange (c : Instr) (a b : Still) : Prop
  | none (h : b = a)
  | boots (hc : ∃ x, c = .resetRelease x) (h : a.boots b)
  | resets (hc : c = .resetNLow ∨ ∃ m, c = .powerInputOutOfRange m) (h : a.resets b)
  | ends (hc : c.endsAStop = true) (h : a.ends b)
  | stops (hc : c.stopsAJob = true) (h : a.stops b)
  | loads (hc : ∃ q l x, c = .jobLoad q l x) (h : a.loads b)
  | tests (hc : (∃ ir, c = .scanTestEntry ir) ∨ ∃ q g, c = .testEnter q g) (h : a.tests b)
  | flashes (hc : (∃ q n l, c = .fwBegin q n l) ∨ (∃ q o l, c = .fwData q o l) ∨ ∃ q, c = .fwCommit q) (h : a.flashes b)

/-- Every command keeps the stores' form and changes the fields of `Still` in one of these ways only. -/
theorem exec_stillChange (c : Instr) (s : State) : Answers (Shifts (StillChange c) s) (exec c s) := by
  by_cases hc : c.shiftsStill = false
  · exact (exec_keeps c s hc).mono fun t h => h.shifts fun _ => .none rfl
  cases c with
  | resetRelease b => exact (execResetRelease_boots b s).mono fun t h => h.mono fun _ _ => .boots ⟨b, rfl⟩
  | resetNLow => exact (execResetNLow_resets s).mono fun t h => h.mono fun _ _ => .resets (.inl rfl)
  | powerInputOutOfRange m =>
    exact (execPowerInputOutOfRange_resets m s).mono fun t h => h.mono fun _ _ => .resets (.inr ⟨m, rfl⟩)
  | localTick d st => exact (execLocalTick_ends d st s).mono fun t h => h.mono fun _ _ => .ends rfl
  | seqStopped k => exact (execSeqStopped_ends k s).mono fun t h => h.mono fun _ _ => .ends rfl
  | stopTimeout => exact (execStopTimeout_ends s).mono fun t h => h.mono fun _ _ => .ends rfl
  | moduleStop => exact (execModuleStop_stops s).mono fun t h => h.mono fun _ _ => .stops rfl
  | jobWatchdogExpiry => exact (execJobWatchdogExpiry_stops s).mono fun t h => h.mono fun _ _ => .stops rfl
  | jobStop q => exact (execJobStop_stops q s).mono fun t h => h.mono fun _ _ => .stops rfl
  | reset q f => exact (execReset_stops q f s).mono fun t h => h.mono fun _ _ => .stops rfl
  | rindWrite a v => exact (execRindWrite_stops a v s).mono fun t h => h.mono fun _ _ => .stops rfl
  | stopJob k => exact (execStopJob_stops k s).mono fun t h => h.mono fun _ _ => .stops rfl
  | jobLoad q l x => exact (execJobLoad_loads q l x s).mono fun t h => h.mono fun _ _ => .loads ⟨q, l, x, rfl⟩
  | scanTestEntry ir => exact (execScanTestEntry_tests ir s).mono fun t h => h.mono fun _ _ => .tests (.inl ⟨ir, rfl⟩)
  | testEnter q g => exact (execTestEnter_tests q g s).mono fun t h => h.mono fun _ _ => .tests (.inr ⟨q, g, rfl⟩)
  | fwBegin q n l => exact (execFwBegin_flashes q n l s).mono fun t h => h.mono fun _ _ => .flashes (.inl ⟨q, n, l, rfl⟩)
  | fwData q o l => exact (execFwData_flashes q o l s).mono fun t h => h.mono fun _ _ => .flashes (.inr (.inl ⟨q, o, l, rfl⟩))
  | fwCommit q => exact (execFwCommit_flashes q s).mono fun t h => h.mono fun _ _ => .flashes (.inr (.inr ⟨q, rfl⟩))
  | _ => exact absurd rfl hc

theorem StillChange.pending {c : Instr} {a b : Still} (h : StillChange c a b) : b.pending = a.pending := by
  cases h with
  | none h => rw [h]
  | boots hc h => exact h.1
  | resets hc h => exact h.1
  | ends hc h =>
    obtain rfl | h := h
    · rfl
    · exact h.1
  | stops hc h =>
    obtain (rfl | h) | ⟨-, h⟩ := h
    · rfl
    · exact h.1
    · rw [h]
  | loads hc h =>
    obtain rfl | ⟨-, h⟩ := h
    · rfl
    · rw [h]
  | tests hc h =>
    obtain rfl | ⟨-, h⟩ := h
    · rfl
    · rw [h]
  | flashes hc h => rw [h]

/-- A step with a command before the rest of the queue. -/
theorem step_cons {s : State} {c : Instr} {rest : List Instr} (h : s.pending = c :: rest) :
    step s = exec c { s with pending := rest } := by
  simp [step, h]

/-- What a step with a command at the front does to the fields of `Still`: its change is one from the state with the queue's
rest. -/
theorem step_stillChange {s t : State} {c : Instr} {rest : List Instr} (h : s.pending = c :: rest) (hstep : step s = .next t) :
    Tidy s t ∧ StillChange c { s.still with pending := rest } t.still := by
  rw [step_cons h] at hstep
  exact (exec_stillChange c { s with pending := rest }).of_eq hstep

end Sys2Proof.Machine

namespace Sys2Proof.Proofs

open Sys2Proof.Machine

/-- Settles O57: every command keeps the stores' form and the queue (`exec_stillChange`). -/
theorem everyStepKeepsTheStoresCanonical : Obligations.EveryStepKeepsTheStoresCanonical := by
  refine ⟨fun s t hs hstep => ?_, by decide⟩
  cases hp : s.pending with
  | nil =>
    simp only [step, hp] at hstep
    obtain rfl := Host.Outcome.next.inj hstep
    exact ⟨hs, hp⟩
  | cons c rest =>
    obtain ⟨htidy, hchange⟩ := step_stillChange hp hstep
    exact ⟨htidy hs, hchange.pending⟩

/-- Settles O58, by the ways in which a command changes the fields of `Still`. -/
theorem serviceModeTransitions : Obligations.ServiceModeTransitions := by
  intro s t c rest hp hstep hne
  obtain ⟨-, hchange⟩ := step_stillChange hp hstep
  have hsvc {b : Still} (hb : b = { s.still with pending := rest }) (ht : t.still = b) : s.svc = t.svc := by
    rw [hb] at ht; exact (congrArg Still.svc ht).symm
  have hs : t.still.svc = t.svc := rfl
  cases hchange with
  | none h => exact absurd (hsvc rfl h) hne
  | boots hc h =>
    obtain ⟨-, -, -, h | ⟨h1, h2⟩⟩ := h
    · exact absurd h.symm hne
    · exact .inl ⟨h1, h2, hc⟩
  | resets hc h =>
    obtain ⟨-, -, h, -⟩ := h
    exact .inr (.inr (.inr (.inr ⟨h, .inr (.inr hc)⟩)))
  | ends hc h =>
    obtain h | ⟨-, -, h, -⟩ := h
    · exact absurd (hsvc rfl h) hne
    · exact .inr (.inr (.inr (.inr ⟨h, .inr (.inl hc)⟩)))
  | stops hc h =>
    obtain (h | ⟨-, -, h, -⟩) | ⟨h1, h2⟩ := h
    · exact absurd (hsvc rfl h) hne
    · exact .inr (.inr (.inr (.inr ⟨h, .inl hc⟩)))
    · exact .inr (.inl ⟨h1, congrArg Still.svc h2, hc⟩)
  | loads hc h =>
    obtain h | ⟨h1 | h1, h2⟩ := h
    · exact absurd (hsvc rfl h) hne
    · exact absurd (h1.trans (congrArg Still.svc h2).symm) hne
    · exact .inr (.inr (.inl ⟨h1, congrArg Still.svc h2, hc⟩))
  | tests hc h =>
    obtain h | ⟨h1, h2⟩ := h
    · exact absurd (hsvc rfl h) hne
    · exact .inr (.inr (.inr (.inl ⟨h1, congrArg Still.svc h2, hc⟩)))
  | flashes hc h => exact absurd (congrArg Still.svc h).symm hne

end Sys2Proof.Proofs

namespace Sys2Proof.Machine

/-- Only the firmware messages change the flash. -/
theorem StillChange.flash {c : Instr} {a b : Still} (h : StillChange c a b)
    (hc : ¬ ((∃ q n l, c = .fwBegin q n l) ∨ (∃ q o l, c = .fwData q o l) ∨ ∃ q, c = .fwCommit q)) : b.flash = a.flash := by
  cases h with
  | flashes h' _ => exact absurd h' hc
  | none h => rw [h]
  | boots _ h => exact h.2.1
  | resets _ h => exact h.2.1
  | ends _ h =>
    obtain rfl | h := h
    · rfl
    · exact h.2.1
  | stops _ h =>
    obtain (rfl | h) | ⟨-, h⟩ := h
    · rfl
    · exact h.2.1
    · rw [h]
  | loads _ h =>
    obtain rfl | ⟨-, h⟩ := h
    · rfl
    · rw [h]
  | tests _ h =>
    obtain rfl | ⟨-, h⟩ := h
    · rfl
    · rw [h]

/-- A command that neither starts up nor may reset the module leaves the straps and the records of start-up. -/
theorem StillChange.records {c : Instr} {a b : Still} (h : StillChange c a b) (hb : ∀ x, c ≠ .resetRelease x)
    (hs : c.stopsAJob = false) (he : c.endsAStop = false) (hr : ¬ (c = .resetNLow ∨ ∃ m, c = .powerInputOutOfRange m)) :
    b.twinB = a.twinB ∧ b.strapEast = a.strapEast ∧ b.mgmtRecord = a.mgmtRecord ∧ b.testKey = a.testKey := by
  cases h with
  | none h => simp [h]
  | boots hc _ => exact absurd hc fun ⟨x, hx⟩ => hb x hx
  | resets hc _ => exact absurd hc hr
  | ends hc _ => simp [he] at hc
  | stops hc _ => simp [hs] at hc
  | loads _ h => obtain rfl | ⟨-, h⟩ := h <;> simp [*]
  | tests _ h => obtain rfl | ⟨-, h⟩ := h <;> simp [*]
  | flashes _ h => rw [h]; simp

/-- A command that may not reset the module leaves or sets the record of test mode. -/
theorem StillChange.testEntered_of_true {c : Instr} {a b : Still} (h : StillChange c a b)
    (hs : c.stopsAJob = false) (he : c.endsAStop = false) (hr : ¬ (c = .resetNLow ∨ ∃ m, c = .powerInputOutOfRange m))
    (ha : a.testEntered = true) : b.testEntered = true := by
  cases h with
  | none h => rw [h]; exact ha
  | boots _ h => exact h.2.2.1.trans ha
  | resets hc _ => exact absurd hc hr
  | ends hc _ => simp [he] at hc
  | stops hc _ => simp [hs] at hc
  | loads _ h => obtain rfl | ⟨-, h⟩ := h <;> simp [*]
  | tests _ h => obtain rfl | ⟨-, h⟩ := h <;> simp [*]
  | flashes _ h => rw [h]; exact ha

/-- Only SCAN_TEST_ENTRY and TEST_ENTER record that test mode was entered. -/
theorem StillChange.testEntered_of_false {c : Instr} {a b : Still} (h : StillChange c a b) (ha : a.testEntered = false)
    (hb : b.testEntered = true) : (∃ ir, c = .scanTestEntry ir) ∨ ∃ q g, c = .testEnter q g := by
  cases h with
  | tests hc _ => exact hc
  | none h => simp [h, ha] at hb
  | boots _ h => simp [h.2.2.1, ha] at hb
  | resets _ h => simp [h.2.2.2] at hb
  | ends _ h =>
    obtain h | h := h
    · simp [h, ha] at hb
    · simp [h.2.2.2] at hb
  | stops _ h =>
    obtain (h | h) | ⟨-, h⟩ := h
    · simp [h, ha] at hb
    · simp [h.2.2.2] at hb
    · simp [h, ha] at hb
  | loads _ h => obtain h | ⟨-, h⟩ := h <;> simp [h, ha] at hb
  | flashes _ h => rw [h] at hb; simp [ha] at hb

end Sys2Proof.Machine

namespace Sys2Proof.Proofs

open Sys2Proof.Machine

/-- Settles O59, by the ways in which a command changes the fields of `Still`. -/
theorem flashStrapsAndRecordsStay : Obligations.FlashStrapsAndRecordsStay := by
  intro s t c rest hp hstep resets
  obtain ⟨-, hchange⟩ := step_stillChange hp hstep
  have hno (h : resets = false) : c.stopsAJob = false ∧ c.endsAStop = false ∧
      ¬ (c = .resetNLow ∨ ∃ m, c = .powerInputOutOfRange m) := by
    simp only [resets, Bool.or_eq_false_iff] at h
    obtain ⟨⟨⟨h1, h2⟩, h3⟩, h4⟩ := h
    refine ⟨h1, h2, ?_⟩
    rintro (rfl | ⟨m, rfl⟩)
    · exact absurd h3 (by decide)
    · exact absurd h4 (by simp)
  refine ⟨fun h1 h2 h3 => hchange.flash ?_, fun hr hb => ?_, fun ht hs => hchange.testEntered_of_false hs ht, fun hr hs => ?_⟩
  · rintro (⟨q, a, n, rfl⟩ | ⟨q, a, l, rfl⟩ | ⟨q, rfl⟩)
    · exact h1 _ _ _ rfl
    · exact h2 _ _ _ rfl
    · exact h3 _ rfl
  · obtain ⟨h1, h2, h3⟩ := hno hr
    exact hchange.records hb h1 h2 h3
  · obtain ⟨h1, h2, h3⟩ := hno hr
    exact hchange.testEntered_of_true h1 h2 h3 hs

end Sys2Proof.Proofs

/-!
SUPPORT. The commands that store nothing in memory, beside the operations of Laws/Memory.lean.
-/

namespace Sys2Proof.Machine

/-! ### Operations -/

/-- `t` holds the bytes that `s` holds. -/
def SameMem (s t : State) : Prop := t.mem = s.mem

theorem SameMem.trans {a b c : State} (h : SameMem a b) (k : SameMem b c) : SameMem a c := Eq.trans k h

theorem SameMem.sameBytes {s t : State} (h : SameMem s t) : SameBytes s t := by
  intro a
  rw [State.byte, State.byte, h]

theorem State.asks_mem (s : State) (q : Req) (serve : State) (h : serve.mem = s.mem) : (s.asks q serve).mem = s.mem := by
  unfold State.asks
  split
  · exact h
  · rfl

theorem State.asksNormal_mem (s : State) (q : Req) (typ : Nat) (serve : State) (h : serve.mem = s.mem) :
    (s.asksNormal q typ serve).mem = s.mem := by
  refine s.asks_mem q _ ?_
  split
  · exact s.reply_mem _ _ _ _
  · exact h

theorem foldl_sameMem {α : Type} (g : State → α → State) (l : List α) (s : State) (h : ∀ z x, SameMem z (g z x)) :
    SameMem s (l.foldl g s) := foldl_mem g l s h

theorem State.sendColl_sameMem (s : State) (c : Coll) (typ i k idx : Nat) (bs : List Nat) :
    SameMem s (s.sendColl c typ i k idx bs) := s.sendColl_mem c typ i k idx bs

theorem State.sendReg_sameMem (s : State) (node off : Nat) (wide : Bool) (v : Nat) : SameMem s (s.sendReg node off wide v) :=
  s.sendReg_mem node off wide v

theorem State.firstCredits_sameMem (s : State) (c : Coll) : SameMem s (s.firstCredits c) := by
  unfold State.firstCredits
  exact foldl_sameMem _ _ _ fun _ i => foldl_sameMem _ _ _ fun y k => y.sendColl_sameMem c 0x11 i k 0 [0]

theorem State.sendChunk_mem (s : State) (x : Fin 4) (cid j k : Nat) : (s.sendChunk x cid j k).mem = s.mem := by
  unfold State.sendChunk
  split
  · rfl
  next c _ =>
  have h := s.vatReads_mem x (c.pieces j k)
  split
  · next s1 heq => rw [heq] at h; exact (s1.vatFault_mem _ _ _ _).trans h
  · next s1 bs heq =>
    rw [heq] at h
    extract_lets fl s2 s3
    have h2 : SameMem s1 s2 := foldl_sameMem _ _ _ fun y _ => y.sendColl_sameMem _ _ _ _ _ _
    have h3 : SameMem s2 s3 := s2.sendColl_sameMem _ _ _ _ _ _
    clear_value s3 s2
    exact (s3.setColl_mem _ _).trans (Eq.trans (h2.trans h3) h)

theorem State.openColl_mem (s : State) (x : Fin 4) (cid : Nat) : (s.openColl x cid).mem = s.mem := by
  unfold State.openColl
  split
  · rfl
  split
  · rfl
  · next c _ _ =>
    have hc := State.firstCredits_sameMem (s.setColl x { c with opened := true }) c
    rw [foldl_mem _ _ _ fun z _ => z.sendChunk_mem _ _ _ _]
    exact Eq.trans hc (s.setColl_mem _ _)

theorem State.vatBegin_mem (s : State) (x : Fin 4) (d : VatDesc) (rest : List VatDesc) (spill : Bool) (need : Nat) :
    (s.vatBegin x d rest spill need).mem = s.mem := by
  unfold State.vatBegin
  extract_lets dx lst
  have hl : lst.1.mem = s.mem := by
    unfold lst
    split
    · exact s.vatReads_mem _ _
    · rfl
  clear_value lst
  split
  · next s1 => exact (s1.vatFault_mem _ _ _ _).trans hl
  · next s0 ls =>
    have hp := s0.vatPlaces_mem x spill need
    split
    next s1 places heqp =>
    rw [heqp] at hp
    extract_lets v inst c s2 s3 s4
    have h3 : s3.mem = s1.mem := by
      unfold s3 s2
      split
      · rw [State.bump_mem, State.setVat_mem]
      · rw [State.setFld_mem, State.setVat_mem]
    have h4 : SameMem s3 s4 := foldl_sameMem _ _ _ fun y _ => y.sendColl_sameMem _ _ _ _ _ _
    rw [State.vatArm_mem, State.openColl_mem, h4, h3]
    exact hp.trans hl

theorem State.loseGlobals_mem (s : State) : s.loseGlobals.mem = s.mem := by
  unfold State.loseGlobals
  extract_lets s1
  have h1 : s1.mem = s.mem := foldl_mem _ _ _ fun z _ => by simp
  simp [h1]

/-! ### Branches and sequencer commands -/

theorem SameMem.ite {s a b : State} {c : Prop} [Decidable c] (h : SameMem s a) (k : SameMem s b) :
    SameMem s (if c then a else b) := by
  split
  · exact h
  · exact k

theorem sameMem_same (s : State) : Answers (SameMem s) (.next s) := Eq.refl s.mem

/-- A sequencer command stores nothing where what it runs stores nothing. -/
theorem seqCommand_sameMem {s : State} {core opc : Nat} {p : Parity} {fields : List (Nat × Nat)} {ok : BitVec 128 → Bool}
    {use : BitVec 128 → ScUse} {run : State → BitVec 128 → State} (h : ∀ z x, SameMem z (run z x)) :
    Answers (SameMem s) (.next (s.seqStep core p opc fields ok use run)) :=
  s.seqStep_mem core p opc fields ok use run h

theorem State.setSc_retire_mem (s : State) (core i v : Nat) : ((s.setSc core i v).retire core).mem = s.mem :=
  (State.retire_mem _ _).trans (s.setSc_mem core i v)

end Sys2Proof.Machine

namespace Sys2Proof.Machine

theorem execPowerSample_sameMem (watts decivolts : BitVec 16) (s : State) : Answers (SameMem s) (execPowerSample watts decivolts s) := by
  unfold execPowerSample
  grind [answers_next, SameMem, State.setDemands_mem, State.setG_mem]

theorem execThermalSample_sameMem (readings : List (Die × BitVec 16)) (failed : Option (Die × Fin 4)) (s : State) : Answers (SameMem s) (execThermalSample readings failed s) := by
  unfold execThermalSample
  grind [answers_next, SameMem, State.dieFault_mem, State.hotFaults_mem, State.readTemp_mem, State.setDemands_mem, foldl_mem]

theorem execSclLd_sameMem (c : CoreId) (p : Parity) (s : State) : Answers (SameMem s) (execSclLd c p s) := by
  unfold execSclLd
  grind [answers_next, SameMem, State.retire_mem, State.seqFault_mem, State.seqStep_mem, State.setSc_mem, State.spaceRead_mem]

theorem execSclHalt_sameMem (c : CoreId) (p : Parity) (s : State) : Answers (SameMem s) (execSclHalt c p s) := by
  unfold execSclHalt
  grind [answers_next, SameMem, State.bump_mem, State.holdSeq_mem, State.seqStep_mem, State.setRg_mem, State.setSeqState_mem]

theorem execSynWait_sameMem (c : CoreId) (p : Parity) (s : State) : Answers (SameMem s) (execSynWait c p s) := by
  unfold execSynWait
  grind [answers_next, SameMem, State.holdSeq_mem, State.retire_mem, State.seqStep_mem, State.setSeq_mem, State.takeSem_mem]

theorem execSynBar_sameMem (c : CoreId) (p : Parity) (s : State) : Answers (SameMem s) (execSynBar c p s) := by
  unfold execSynBar
  grind [answers_next, SameMem, State.arriveAt_mem, State.arrived_mem, State.holdSeq_mem, State.seqFault_mem, State.seqStep_mem, State.setSeq_mem]

theorem execHoopReady_sameMem (c : CoreId) (p : Parity) (s : State) : Answers (SameMem s) (execHoopReady c p s) := by
  unfold execHoopReady
  grind [answers_next, SameMem, State.hoopReady_mem, State.noteHoop_mem, State.retire_mem, State.seqStep_mem]

theorem execHoopWait_sameMem (c : CoreId) (p : Parity) (s : State) : Answers (SameMem s) (execHoopWait c p s) := by
  unfold execHoopWait
  grind [answers_next, SameMem, State.holdSeq_mem, State.retire_mem, State.seqStep_mem, State.setSc_mem, State.setSeq_mem]

theorem execDmaSub_sameMem (c : CoreId) (p : Parity) (s : State) : Answers (SameMem s) (execDmaSub c p s) := by
  unfold execDmaSub
  grind [answers_next, SameMem, State.dmaSubmit_mem, State.holdSeq_mem, State.retire_mem, State.seqFault_mem, State.seqStep_mem]

theorem execMatPass_sameMem (c : CoreId) (p : Parity) (s : State) : Answers (SameMem s) (execMatPass c p s) := by
  unfold execMatPass
  grind [answers_next, SameMem, State.holdSeq_mem, State.retire_mem, State.seqFault_mem, State.seqStep_mem, State.setArr_mem, State.snoopAssign_mem]

theorem execVecRun_sameMem (c : CoreId) (p : Parity) (s : State) : Answers (SameMem s) (execVecRun c p s) := by
  unfold execVecRun
  grind [answers_next, SameMem, State.holdSeq_mem, State.retire_mem, State.seqFault_mem, State.seqStep_mem, State.setVec_mem]

theorem execVecLds_sameMem (c : CoreId) (p : Parity) (s : State) : Answers (SameMem s) (execVecLds c p s) := by
  unfold execVecLds
  grind [answers_next, SameMem, State.holdSeq_mem, State.retire_mem, State.seqFault_mem, State.seqStep_mem, State.setRg_mem, State.spaceRead_mem, foldl_mem]

theorem execVecLdc_sameMem (c : CoreId) (p : Parity) (s : State) : Answers (SameMem s) (execVecLdc c p s) := by
  unfold execVecLdc
  grind [answers_next, SameMem, State.holdSeq_mem, State.retire_mem, State.seqFault_mem, State.seqStep_mem, State.setRg_mem, State.spaceRead_mem, foldl_mem]

theorem execVecFill_sameMem (c : CoreId) (p : Parity) (s : State) : Answers (SameMem s) (execVecFill c p s) := by
  unfold execVecFill
  grind [answers_next, SameMem, State.holdSeq_mem, State.retire_mem, State.seqFault_mem, State.seqStep_mem, State.setRg_mem]

theorem execDmaDescriptorStart_sameMem (d : Die) (ch : Fin 32) (s : State) : Answers (SameMem s) (execDmaDescriptorStart d ch s) := by
  unfold execDmaDescriptorStart
  grind [answers_next, SameMem, State.setDma_mem]

theorem execDmaDescriptorComplete_sameMem (d : Die) (ch : Fin 32) (s : State) : Answers (SameMem s) (execDmaDescriptorComplete d ch s) := by
  unfold execDmaDescriptorComplete
  grind [answers_next, SameMem, State.setDma_mem, State.signal_mem]

theorem execMigrationLineCopy_sameMem (m : Fin 12) (slow : Bool) (s : State) : Answers (SameMem s) (execMigrationLineCopy m slow s) := by
  unfold execMigrationLineCopy
  grind [answers_next, SameMem, State.mendLine_mem, State.setFld_mem, State.setMig_mem, State.setRg_mem, State.uncorrectable_mem]

theorem execAutoArrivalGateTimeout_sameMem (d : Die) (s : State) : Answers (SameMem s) (execAutoArrivalGateTimeout d s) := by
  unfold execAutoArrivalGateTimeout
  grind [answers_next, SameMem, State.dropWait_mem, State.vetchFault_mem]

theorem execRefresh_sameMem (m : Fin 12) (e : Fin 4) (s : State) : Answers (SameMem s) (execRefresh m e s) := by
  unfold execRefresh
  grind [answers_next, SameMem, State.bump_mem, State.setFld_mem, State.setRen_mem, State.setRenState_mem, State.useGrant_mem]

/-- A Rennet engine that neither gathers nor solves has no entries to mark: its fault stores nothing. -/
theorem State.rennetFault_mem_of_state (s : State) (m e cause entry : Nat) (h2 : s.renState m e ≠ 2)
    (h3 : s.renState m e ≠ 3) : (s.rennetFault m e cause entry).mem = s.mem := by
  have hd : s.rnDrop m e = s := by
    unfold State.rnDrop
    simp [h2, h3]
  unfold State.rennetFault
  rw [hd]
  grind [State.dieFault_mem, State.dropWait_mem, State.setFld_mem, State.setRenState_mem, State.setRg_mem]

theorem execRennetTriggerTimeout_sameMem (m : Fin 12) (e : Fin 4) (s : State) :
    Answers (SameMem s) (execRennetTriggerTimeout m e s) := by
  unfold execRennetTriggerTimeout
  extract_lets d
  split
  · split
    · next h => exact s.rennetFault_mem_of_state _ _ _ _ (by omega) (by omega)
    · exact sameMem_same s
  · exact sameMem_same s

theorem execUpdateStart_sameMem (m : Fin 12) (e : Fin 8) (s : State) : Answers (SameMem s) (execUpdateStart m e s) := by
  unfold execUpdateStart
  grind [answers_next, SameMem, State.pressBegin_mem, State.setPress_mem]

theorem execDirChunk_sameMem (m : Fin 12) (e : Fin 8) (s : State) : Answers (SameMem s) (execDirChunk m e s) := by
  unfold execDirChunk
  grind [answers_next, SameMem, State.dirArm_mem, State.prRead_mem, State.pressFault_mem, State.setPress_mem, State.signal_mem, State.useGrant_mem]

theorem execDirRingWaitTimeout_sameMem (m : Fin 12) (e : Fin 8) (s : State) : Answers (SameMem s) (execDirRingWaitTimeout m e s) := by
  unfold execDirRingWaitTimeout
  grind [answers_next, SameMem, State.pressFault_mem]

theorem execShardGatePass_sameMem (m : Fin 12) (e : Fin 8) (s : State) : Answers (SameMem s) (execShardGatePass m e s) := by
  unfold execShardGatePass
  grind [answers_next, SameMem, State.dirArm_mem, State.gateCheck_mem, State.setPress_mem, State.useGrant_mem]

theorem execSorrelModuleDigest_sameMem (s : State) : Answers (SameMem s) (execSorrelModuleDigest s) := by
  unfold execSorrelModuleDigest
  split
  · exact sameMem_same s
  · extract_lets ds md s1 self s2 s3
    have h1 : SameMem s s1 := by simp only [SameMem, s1, State.setG_mem, State.clearDigests_mem]
    have h2 : SameMem s1 s2 := foldl_sameMem _ _ _ fun z _ => (z.sendReg_sameMem _ _ _ _).trans (State.sendReg_sameMem _ _ _ _ _)
    have h3 : SameMem s2 s3 := rfl
    clear_value s1 s2 s3
    have hs : SameMem s s3 := h1.trans (h2.trans h3)
    exact .ite (h1.trans (s1.setG_mem _ _)) (hs.trans (Eq.trans (State.sorrelCompare_mem _) (s3.setG_mem _ _)))

theorem execPortTrained_sameMem (p : Fin 36) (lanes node : BitVec 8) (port : BitVec 6) (s : State) : Answers (SameMem s) (execPortTrained p lanes node port s) := by
  unfold execPortTrained
  grind [answers_next, SameMem, State.leaveFallback_mem, State.portFail_mem, State.resendAll_mem, State.setPortReg_mem]

theorem execReplayTimeout_sameMem (p : Fin 36) (sync : Bool) (s : State) : Answers (SameMem s) (execReplayTimeout p sync s) := by
  unfold execReplayTimeout
  grind [answers_next, SameMem, State.resendFlits_mem, State.resendFrames_mem]

theorem execLinkctl_sameMem (p : Fin 36) (ack nak : Option (BitVec 32)) (credits : List (BitVec 16)) (s : State) : Answers (SameMem s) (execLinkctl p ack nak credits s) := by
  unfold execLinkctl
  grind [answers_next, SameMem, State.flitsAcked_mem, State.pump_mem, State.resendFlits_mem, State.setPort_mem]

theorem execRdReq_sameMem (r : Rx) (addr : BitVec 44) (lm1 : BitVec 8) (s : State) : Answers (SameMem s) (execRdReq r addr lm1 s) := by
  unfold execRdReq
  grind [answers_next, SameMem, State.memRead_mem, State.respond_mem, State.rxFlit_mem]

theorem execWrAck_sameMem (r : Rx) (err : Bool) (s : State) : Answers (SameMem s) (execWrAck r err s) := by
  refine s.rxFlit_mem _ _ _ fun z => ?_
  split
  · next a s2 heq =>
    refine Eq.trans ?_ (z.takeAsked_mem _ _ _ heq)
    split
    · split
      · exact s2.teaFault_mem ..
      · rfl
    · exact s2.dmaAcked_mem ..
    · exact s2.answer_mem _
    · rfl
  · rfl

theorem execLeaseRenew_sameMem (s : State) : Answers (SameMem s) (execLeaseRenew  s) := by
  unfold execLeaseRenew
  grind [answers_next, SameMem, State.boardRenew_mem]

theorem execCollData_sameMem (r : Rx) (cid : BitVec 12) (chunk : BitVec 16) (idx : BitVec 8) (data : List (BitVec 8)) (s : State) : Answers (SameMem s) (execCollData r cid chunk idx data s) := by
  unfold execCollData
  grind [answers_next, SameMem, State.collFlit_mem, State.setColl_mem]

theorem execVatProgressTimeout_sameMem (x : Fin 4) (s : State) : Answers (SameMem s) (execVatProgressTimeout x s) := by
  unfold execVatProgressTimeout
  grind [answers_next, SameMem, State.vatFault_mem]

theorem execVatTriggerTimeout_sameMem (x : Fin 4) (s : State) : Answers (SameMem s) (execVatTriggerTimeout x s) := by
  unfold execVatTriggerTimeout
  grind [answers_next, SameMem, State.vatFault_mem]

theorem execCaveAgreed_sameMem (accepted : Bool) (s : State) : Answers (SameMem s) (execCaveAgreed accepted s) := by
  unfold execCaveAgreed
  grind [answers_next, SameMem, State.slotWrite_mem]

theorem execScanTestEntry_sameMem (ir : ScanIr) (s : State) : Answers (SameMem s) (execScanTestEntry ir s) := by
  unfold execScanTestEntry
  grind [answers_next, SameMem, State.enterTest_mem]

theorem execMgmtConnect_sameMem (h : Hello) (s : State) : Answers (SameMem s) (execMgmtConnect h s) := by
  unfold execMgmtConnect
  grind [answers_next, SameMem]

theorem execRegRead_sameMem (q : Req) (offs : List (BitVec 64)) (s : State) : Answers (SameMem s) (execRegRead q offs s) := by
  unfold execRegRead
  grind [answers_next, SameMem, State.asksNormal_mem, State.reply_mem]

theorem execJobStart_sameMem (q : Req) (s : State) : Answers (SameMem s) (execJobStart q s) := by
  unfold execJobStart
  grind [answers_next, SameMem, State.asksNormal_mem, State.reply_mem, State.seqGo_mem, foldl_mem]

theorem execTokens_sameMem (q : Req) (step off : BitVec 64) (toks : List (BitVec 32)) (s : State) : Answers (SameMem s) (execTokens q step off toks s) := by
  unfold execTokens
  grind [answers_next, SameMem, State.asksNormal_mem, State.reply_mem]

theorem execGenRequest_sameMem (q : Req) (seed : BitVec 64) (maxNew : BitVec 32) (prompt : List (BitVec 32)) (s : State) : Answers (SameMem s) (execGenRequest q seed maxNew prompt s) := by
  unfold execGenRequest
  grind [answers_next, SameMem, State.asksNormal_mem, State.genAdmit_mem, State.genIssue_mem, State.reply_mem]

theorem execDecodeWaitExpiry_sameMem (s : State) : Answers (SameMem s) (execDecodeWaitExpiry  s) := by
  unfold execDecodeWaitExpiry
  grind [answers_next, SameMem, State.issueBatch_mem]

theorem execGenCancel_sameMem (q : Req) (target : BitVec 64) (s : State) : Answers (SameMem s) (execGenCancel q target s) := by
  unfold execGenCancel
  grind [answers_next, SameMem, State.asksNormal_mem, State.genAdmit_mem, State.genEnd_mem, State.genIssue_mem, State.reply_mem, State.waitReset_mem, foldl_mem]

theorem execTeleSub_sameMem (q : Req) (period : BitVec 64) (offs : List (BitVec 64)) (s : State) : Answers (SameMem s) (execTeleSub q period offs s) := by
  unfold execTeleSub
  grind [answers_next, SameMem, State.asksNormal_mem, State.onSession_mem, State.reply_mem]

theorem execTelemetry_sameMem (session : Fin 8) (s : State) : Answers (SameMem s) (execTelemetry session s) := by
  unfold execTelemetry
  grind [answers_next, SameMem, State.mgmtOut_mem, State.onSession_mem, State.teleValues_mem]

theorem execFwBegin_sameMem (q : Req) (slot : BitVec 8) (len : BitVec 32) (s : State) : Answers (SameMem s) (execFwBegin q slot len s) := by
  unfold execFwBegin
  grind [answers_next, SameMem, State.asks_mem, State.flashErase_mem, State.reply_mem]

theorem execFwData_sameMem (q : Req) (off : BitVec 32) (data : List (BitVec 8)) (s : State) : Answers (SameMem s) (execFwData q off data s) := by
  unfold execFwData
  grind [answers_next, SameMem, State.asks_mem, State.flashPut_mem, State.reply_mem]

theorem execFwCommit_sameMem (q : Req) (s : State) : Answers (SameMem s) (execFwCommit q s) := by
  unfold execFwCommit
  grind [answers_next, SameMem, State.asks_mem, State.flashPut_mem, State.reply_mem]

theorem execAttest_sameMem (q : Req) (nonce : BitVec 256) (s : State) : Answers (SameMem s) (execAttest q nonce s) := by
  unfold execAttest
  grind [answers_next, SameMem, State.asks_mem, State.reply_mem, State.report_mem]

theorem execTestNonce_sameMem (q : Req) (s : State) : Answers (SameMem s) (execTestNonce q s) := by
  unfold execTestNonce
  grind [answers_next, SameMem, State.asksNormal_mem, State.onSession_mem, State.reply_mem, foldl_mem]

theorem execTestEnter_sameMem (q : Req) (sig : List (BitVec 8)) (s : State) : Answers (SameMem s) (execTestEnter q sig s) := by
  unfold execTestEnter
  grind [answers_next, SameMem, State.asksNormal_mem, State.enterTest_mem, State.onSession_mem, State.reply_mem]

theorem execMemRead_sameMem (q : Req) (addr : BitVec 64) (len : BitVec 32) (r : Remote) (s : State) : Answers (SameMem s) (execMemRead q addr len r s) := by
  unfold execMemRead
  grind [answers_next, SameMem, State.asksNormal_mem, State.memRead_mem, State.reply_mem, State.sendReads_mem]

theorem State.rindCycle_sameMem (s : State) (serve : State → State) (h : ∀ z, SameMem z (serve z)) :
    SameMem s (s.rindCycle serve) := s.rindCycle_mem serve h

theorem State.leaseIn_sameMem (s : State) (v : Nat) : SameMem s (s.leaseIn v) := s.leaseIn_mem v

theorem execRindLeaseIn_sameMem (v : BitVec 16) (s : State) : Answers (SameMem s) (execRindLeaseIn v s) :=
  s.rindCycle_sameMem _ fun z => z.leaseIn_sameMem _

theorem execRindLeaseOutLatch_sameMem (s : State) : Answers (SameMem s) (execRindLeaseOutLatch  s) := by
  unfold execRindLeaseOutLatch
  grind [answers_next, SameMem, State.answer_mem, State.rindCycle_mem]

theorem execReservedOpcode_sameMem (c : CoreId) (p : Parity) (s : State) : Answers (SameMem s) (execReservedOpcode c p s) := by
  unfold execReservedOpcode
  grind [answers_next, SameMem, State.fetch_mem, State.seqFault_mem]

theorem execDecodeBatchComplete_sameMem (toks : List (BitVec 32 × Bool)) (s : State) : Answers (SameMem s) (execDecodeBatchComplete toks s) := by
  unfold execDecodeBatchComplete
  grind [answers_next, SameMem, State.batchTokens_mem, State.genAdmit_mem, State.genIssue_mem]

theorem execCollCount_sameMem (r : Rx) (cid : BitVec 12) (b : CollCount) (s : State) : Answers (SameMem s) (execCollCount r cid b s) := by
  unfold execCollCount
  grind [answers_next, SameMem, State.collFlit_mem, State.openColl_mem, State.setColl_mem, State.vatFault_mem]

theorem execCollCredit_sameMem (r : Rx) (cid : BitVec 12) (chunk : BitVec 16) (final : Bool) (s : State) : Answers (SameMem s) (execCollCredit r cid chunk final s) := by
  unfold execCollCredit
  grind [answers_next, SameMem, State.collFlit_mem, State.sendChunk_mem, State.setColl_mem]

theorem execCollResend_sameMem (r : Rx) (cid : BitVec 12) (chunk : BitVec 16) (s : State) : Answers (SameMem s) (execCollResend r cid chunk s) := by
  unfold execCollResend
  grind [answers_next, SameMem, State.bump_mem, State.collFlit_mem, State.sendChunk_mem]

theorem execCollectiveStart_sameMem (x : Fin 4) (s : State) : Answers (SameMem s) (execCollectiveStart x s) := by
  unfold execCollectiveStart
  grind [answers_next, SameMem, State.setVat_mem, State.useGrant_mem, State.vatBegin_mem]

theorem execHalfLeaseRenewal_sameMem (fromEast : Bool) (epoch : BitVec 64) (s : State) : Answers (SameMem s) (execHalfLeaseRenewal fromEast epoch s) := by
  unfold execHalfLeaseRenewal
  grind [answers_next, SameMem, State.alert_mem, State.halfChange_mem, State.loseGlobals_mem, State.setG_mem]

end Sys2Proof.Machine

namespace Sys2Proof.Machine

theorem exec_sameMem (c : Instr) (s : State) (hc : c.storesNothing = true) : Answers (SameMem s) (exec c s) := by
  cases c with
  | thermTrip => exact rfl
  | powerSample watts decivolts => exact execPowerSample_sameMem watts decivolts s
  | thermalSample readings failed => exact execThermalSample_sameMem readings failed s
  | sclNop => exact seqCommand_sameMem fun z _ => z.retire_mem ..
  | sclLi => exact seqCommand_sameMem fun z _ => z.setSc_retire_mem ..
  | sclAlu => exact seqCommand_sameMem fun z _ => z.setSc_retire_mem ..
  | sclAlui => exact seqCommand_sameMem fun z _ => z.setSc_retire_mem ..
  | sclLd c p => exact execSclLd_sameMem c p s
  | sclGetid => exact seqCommand_sameMem fun z _ => z.setSc_retire_mem ..
  | sclHalt c p => exact execSclHalt_sameMem c p s
  | brJ => exact seqCommand_sameMem fun z _ => z.retireTo_mem ..
  | brCmp => exact seqCommand_sameMem fun z _ => z.branch_mem ..
  | brSum => exact seqCommand_sameMem fun z _ => z.branch_mem ..
  | brDec => exact seqCommand_sameMem fun z _ => (State.branch_mem ..).trans (z.setSc_mem ..)
  | brCall => exact seqCommand_sameMem fun z _ => (State.retireTo_mem ..).trans (z.setSc_mem ..)
  | brRet => exact seqCommand_sameMem fun z _ => .ite (z.seqFault_mem ..) (z.retireTo_mem ..)
  | synSig => exact seqCommand_sameMem fun z _ => z.synSig_mem ..
  | synWait c p => exact execSynWait_sameMem c p s
  | synBar c p => exact execSynBar_sameMem c p s
  | synFence => exact seqCommand_sameMem fun z _ => .ite (z.retire_mem ..) (z.holdSeq_mem ..)
  | synEpoch => exact seqCommand_sameMem fun z _ => z.setSc_retire_mem ..
  | hoopReady c p => exact execHoopReady_sameMem c p s
  | hoopWait c p => exact execHoopWait_sameMem c p s
  | dmaSub c p => exact execDmaSub_sameMem c p s
  | matPass c p => exact execMatPass_sameMem c p s
  | passStart => exact s.passStart_mem ..
  | loadBeatRelease => exact s.loadRelease_mem ..
  | vecRun c p => exact execVecRun_sameMem c p s
  | vecLds c p => exact execVecLds_sameMem c p s
  | vecLdc c p => exact execVecLdc_sameMem c p s
  | vecFill c p => exact execVecFill_sameMem c p s
  | vecCommandStart => exact s.vecStart_mem ..
  | teaSet => exact s.teaSetCmd_mem ..
  | teaSetBlk => exact s.teaSetCmd_mem ..
  | teaFlush => exact seqCommand_sameMem fun z _ => .ite (z.seqFault_mem ..) ((State.retire_mem ..).trans (z.flushAccept_mem ..))
  | dmaDescriptorStart d ch => exact execDmaDescriptorStart_sameMem d ch s
  | dmaDescriptorComplete d ch => exact execDmaDescriptorComplete_sameMem d ch s
  | dmaProgressTimeout => exact .ite (s.dmaFault_mem ..) (sameMem_same s)
  | migrationLineCopy m slow => exact execMigrationLineCopy_sameMem m slow s
  | autoArrival => exact s.autoArrive_mem ..
  | autoArrivalGateTimeout d => exact execAutoArrivalGateTimeout_sameMem d s
  | semaphoreWaitTimeout => exact .ite (s.seqFault_mem ..) (sameMem_same s)
  | barrierWaitTimeout => exact .ite (s.seqFault_mem ..) (sameMem_same s)
  | refresh m e => exact execRefresh_sameMem m e s
  | rennetTriggerTimeout m e => exact execRennetTriggerTimeout_sameMem m e s
  | updateStart m e => exact execUpdateStart_sameMem m e s
  | dirChunk m e => exact execDirChunk_sameMem m e s
  | dirRingWaitTimeout m e => exact execDirRingWaitTimeout_sameMem m e s
  | shardGatePass m e => exact execShardGatePass_sameMem m e s
  | sorrelModuleDigest => exact execSorrelModuleDigest_sameMem s
  | sorrelTimeout => exact .ite (s.sorrelFault_mem ..) (sameMem_same s)
  | portTrained p lanes node port => exact execPortTrained_sameMem p lanes node port s
  | trainingTimeout => exact .ite (s.portFail_mem ..) (sameMem_same s)
  | laneLockLoss => exact .ite (sameMem_same s) (.ite ((State.portRetrain_mem ..).trans (s.setPortBit_mem ..)) (s.portFail_mem ..))
  | replayTimeout p sync => exact execReplayTimeout_sameMem p sync s
  | linkctl p ack nak credits => exact execLinkctl_sameMem p ack nak credits s
  | rdReq r addr lm1 => exact execRdReq_sameMem r addr lm1 s
  | wrAck r err => exact execWrAck_sameMem r err s
  | leaseRenew => exact execLeaseRenew_sameMem s
  | collData r cid chunk idx data => exact execCollData_sameMem r cid chunk idx data s
  | vatProgressTimeout x => exact execVatProgressTimeout_sameMem x s
  | vatTriggerTimeout x => exact execVatTriggerTimeout_sameMem x s
  | caveAgreed accepted => exact execCaveAgreed_sameMem accepted s
  | scanTestEntry ir => exact execScanTestEntry_sameMem ir s
  | mgmtConnect h => exact execMgmtConnect_sameMem h s
  | status => exact s.asks_mem _ _ (s.reply_mem ..)
  | regRead q offs => exact execRegRead_sameMem q offs s
  | jobStart q => exact execJobStart_sameMem q s
  | tokens q step off toks => exact execTokens_sameMem q step off toks s
  | genRequest q seed maxNew prompt => exact execGenRequest_sameMem q seed maxNew prompt s
  | decodeWaitExpiry => exact execDecodeWaitExpiry_sameMem s
  | genCancel q target => exact execGenCancel_sameMem q target s
  | teleSub q period offs => exact execTeleSub_sameMem q period offs s
  | telemetry session => exact execTelemetry_sameMem session s
  | fwBegin q slot len => exact execFwBegin_sameMem q slot len s
  | fwData q off data => exact execFwData_sameMem q off data s
  | fwCommit q => exact execFwCommit_sameMem q s
  | attest q nonce => exact execAttest_sameMem q nonce s
  | testNonce q => exact execTestNonce_sameMem q s
  | testEnter q sig => exact execTestEnter_sameMem q sig s
  | memRead q addr len r => exact execMemRead_sameMem q addr len r s
  | rindLeaseOutLatch => exact execRindLeaseOutLatch_sameMem s
  | rindLeaseIn v => exact execRindLeaseIn_sameMem v s
  | fenceFabric => exact s.rindCycle_mem _ fun z => z.fence_mem _ _ _ State.actFenceFabric_mem
  | unfenceFabric => exact s.rindCycle_mem _ fun z => z.fence_mem _ _ _ State.actUnfenceFabric_mem
  | powerInputInRange => exact SameMem.ite rfl rfl
  | syncLaneLoss => exact .ite (sameMem_same s) ((State.enterFallback_mem ..).trans (s.setPortBit_mem ..))
  | syncLaneRetrained => exact .ite (sameMem_same s) ((State.leaveFallback_mem ..).trans (s.setPortBit_mem ..))
  | damagedFlitOrFrame => exact .ite (sameMem_same s) (.ite (.ite (s.acceptFrame_mem ..) (s.nakFrame_mem ..)) (.ite ((State.bumpPort_mem ..).trans (s.acceptFlit_mem ..)) (s.nakFlit_mem ..)))
  | idleFrame => exact .ite (sameMem_same s) (s.frameAcks_mem ..)
  | reservedOpcode c p => exact execReservedOpcode_sameMem c p s
  | malformed => exact s.asks_mem _ _ (s.mgmtOut_mem ..)
  | mgmtLinkUp => exact SameMem.ite rfl rfl
  | mgmtLinkDown => exact State.loseSessions_mem { s with mgmtUp := false } _
  | sessionClose => exact s.loseSessions_mem ..
  | decodeBatchComplete toks => exact execDecodeBatchComplete_sameMem toks s
  | collCount r cid b => exact execCollCount_sameMem r cid b s
  | collCredit r cid chunk final => exact execCollCredit_sameMem r cid chunk final s
  | collResend r cid chunk => exact execCollResend_sameMem r cid chunk s
  | collectiveStart x => exact execCollectiveStart_sameMem x s
  | halfLeaseRenewal fromEast epoch => exact execHalfLeaseRenewal_sameMem fromEast epoch s
  | _ => cases hc

end Sys2Proof.Machine

namespace Sys2Proof.Proofs

open Sys2Proof.Machine

/-- Settles O60: no command of `Instr.storesNothing` touches the memory itself (`exec_sameMem`). -/
theorem commandsThatStoreNothing : Obligations.CommandsThatStoreNothing :=
  fun c s _ hc h => ((exec_sameMem c s hc).of_eq h).sameBytes

end Sys2Proof.Proofs

/-!
SUPPORT. What the requests about jobs, memory and reset come to for an open session (R425, R431, R447, R449, R450).
-/

namespace Sys2Proof.Machine

/-! ### RESET and stops asked for -/

section
variable {s : State} {q : Req}

/-- A stop asked for while none is in progress and the job can be stopped begins with the asker waiting for its end. -/
theorem State.stopFor_begins (reset : Bool) (hstop : s.stopping = false) (hcan : s.canStop = true) :
    s.stopFor q reset =
      ({ s with stopReply := s.stopReply ++ [(q.session.val, q.id.toNat, reset)] } : State).stopJob := by
  simp [State.stopFor, hstop, hcan]

/-- A stop asked for of a job already stopped is complete at once. -/
theorem State.stopFor_completes (reset : Bool) (hstop : s.stopping = false) (hcan : s.canStop = false) :
    s.stopFor q reset =
      ({ s with stopReply := s.stopReply ++ [(q.session.val, q.id.toNat, reset)] } : State).stopDone := by
  simp [State.stopFor, hstop, hcan]

variable (hopen : s.sessionOpen q.session.val = true)
include hopen

theorem execReset_unloaded (force : Bool) (hjob : s.loaded = false) :
    execReset q force s = .next (s.reply q 0x70 0 []).moduleReset := by
  simp only [execReset, s.asks_open q _ hopen, hjob, Bool.not_false, if_true]

theorem execReset_loaded (force : Bool) (hjob : s.loaded = true) :
    execReset q force s = .next (if force then s.stopFor q true else s.reply q 0x70 0x4 []) := by
  simp only [execReset, s.asks_open q _ hopen, hjob, Bool.not_true, Bool.false_eq_true, if_false]

end

/-! ### Requests of normal, recovery and test mode -/

theorem State.unload_job (s : State) : s.unload.job = none := rfl

section
variable {s : State} {q : Req} (hopen : s.sessionOpen q.session.val = true) (hf : s.fallback = false)
include hopen hf

/-- In normal or recovery mode with no job loaded JOB_LOAD is decided by the rules of the image alone. -/
theorem execJobLoad_unloaded (image : List (BitVec 8)) (x : JobExtra) (hm : s.svc = .normal ∨ s.svc = .recovery)
    (hjob : s.loaded = false) :
    (s.jobRefusal (image.map BitVec.toNat) x = none →
      execJobLoad q image x s = .next ((s.jobAccept (image.map BitVec.toNat) x).reply q 0x10 0 [])) ∧
    (∀ i why, s.jobRefusal (image.map BitVec.toNat) x = some (i, why) →
      execJobLoad q image x s = .next (s.reply q 0x10 0x6 (leBytes 4 i ++ [why]))) := by
  have hs : s.svc ≠ .startup := by
    obtain h | h := hm <;> simp [h]
  have hserved : ¬ (s.svc ≠ .normal ∧ s.svc ≠ .recovery) := by
    obtain h | h := hm <;> simp [h]
  refine ⟨fun hnone => ?_, fun i why hsome => ?_⟩
  · simp only [execJobLoad, s.asksNormal_open q _ _ hopen hs hf, if_neg hserved, hjob, Bool.false_eq_true, if_false, hnone]
  · simp only [execJobLoad, s.asksNormal_open q _ _ hopen hs hf, if_neg hserved, hjob, Bool.false_eq_true, if_false, hsome]

theorem execJobStart_atRest (hjob : s.loaded = true) (hm : s.svc = .normal) (hrest : s.jobCores.all s.seqAtRest = true) :
    execJobStart q s = .next ((s.jobCores.foldl (fun z c => (z.seqGo c).1) s).reply q 0x11 0 []) := by
  have hs : s.svc ≠ .startup := by simp [hm]
  simp only [execJobStart, s.asksNormal_open q _ _ hopen hs hf, hjob, hrest, Bool.not_true, Bool.false_eq_true, if_false,
    if_neg (not_not_intro hm)]

theorem execJobStop_loaded (hs : s.svc ≠ .startup) (hjob : s.loaded = true) :
    execJobStop q s = .next (s.stopFor q false) := by
  simp only [execJobStop, s.asksNormal_open q _ _ hopen hs hf, hjob, if_true]

theorem execJobUnload_loaded (hs : s.svc ≠ .startup) (hjob : s.loaded = true) (hstop : s.stopping = false) :
    execJobUnload q s =
      .next (if s.unitsAtRest then s.unload.reply q 0x13 0 [] else s.reply q 0x13 0x4 []) := by
  simp only [execJobUnload, s.asksNormal_open q _ _ hopen hs hf, hjob, hstop, Bool.not_true, Bool.false_eq_true, if_false,
    Bool.false_or]
  cases s.unitsAtRest <;> rfl

theorem execTokens_kept (step off : BitVec 64) (toks : List (BitVec 32)) {j : Job} (hs : s.svc ≠ .startup)
    (hjob : s.job = some j) (hgen : j.generation = false) (hbegun : s.stepBegun j step.toNat = false)
    (hlen : 4 * (off.toNat + toks.length) ≤ j.tokenLen) :
    execTokens q step off toks s = .next
      (({ s with tokens := s.tokens ++ [⟨step.toNat, off.toNat, toks.map BitVec.toNat⟩] } : State).reply q 0x20 0 []) := by
  simp only [execTokens, s.asksNormal_open q _ _ hopen hs hf, hjob, hgen, hbegun, Bool.false_eq_true, if_false,
    if_neg (Nat.not_lt.2 hlen)]

theorem execMemRead_own (a : BitVec 64) (n : BitVec 32) (r : Remote) {t : State} {bs : List Nat} (hm : s.svc = .recovery)
    (hown : s.isOwn a.toNat = true) (hpos : 0 < n.toNat) (hlen : n.toNat ≤ memLimit) (htier : inTier a.toNat n.toNat = true)
    (hread : s.memRead .mgmt a.toNat n.toNat = (t, .ok bs)) :
    execMemRead q a n r s = .next (t.reply q 0x60 0 bs) := by
  have hs : s.svc ≠ .startup := by simp [hm]
  simp only [execMemRead, s.asksNormal_open q _ _ hopen hs hf, if_neg (not_not_intro hm), if_neg (Nat.not_lt.2 hlen),
    if_neg (Nat.ne_of_gt hpos), htier, hown, hread, Bool.not_true, Bool.false_eq_true, if_false, if_true]

theorem execMemWrite_own (a : BitVec 64) (data : List (BitVec 8)) (r : Remote) {t : State} (hm : s.svc = .recovery)
    (hown : s.isOwn a.toNat = true) (hpos : 0 < data.length) (hlen : data.length ≤ memLimit)
    (htier : inTier a.toNat data.length = true)
    (hwrite : s.memWrite .mgmt a.toNat (data.map BitVec.toNat) = (t, none)) :
    execMemWrite q a data r s = .next (t.reply q 0x61 0 []) := by
  have hs : s.svc ≠ .startup := by simp [hm]
  have hne : data.map BitVec.toNat ≠ [] := by simpa using List.ne_nil_of_length_pos hpos
  simp only [execMemWrite, s.asksNormal_open q _ _ hopen hs hf, if_neg (not_not_intro hm), List.length_map,
    if_neg (Nat.not_lt.2 hlen), if_neg hne, htier, hown, hwrite, Bool.not_true, Bool.false_eq_true, if_false, if_true]

end

end Sys2Proof.Machine

namespace Sys2Proof.Proofs

open Sys2Proof.Machine

/-- Settles O50: each clause is the rule of its request for an open session (`execJobLoad_unloaded` to `execReset_loaded`). -/
theorem managementJobs : Obligations.ManagementJobs := by
  intro s q hopen
  refine ⟨fun hf => ⟨?load, ?start, ?stop, ?unload, ?tokens, ?memory⟩, ?unloaded, ?loaded⟩
  case load => exact fun image x hm hjob => execJobLoad_unloaded hopen hf image x hm hjob
  case start => exact fun hjob hm hrest => execJobStart_atRest hopen hf hjob hm hrest
  case stop =>
    intro hs hjob hstop z
    have hserved : exec (.jobStop q) s = .next (s.stopFor q false) := execJobStop_loaded hopen hf hs hjob
    exact ⟨fun hcan => by rw [hserved, s.stopFor_begins false hstop hcan],
      fun hcan => by rw [hserved, s.stopFor_completes false hstop hcan]⟩
  case unload =>
    intro hs hjob hstop
    have hserved : exec (.jobUnload q) s = _ := execJobUnload_loaded hopen hf hs hjob hstop
    exact ⟨fun hrest => ⟨by rw [hserved, if_pos hrest], s.unload_job⟩,
      fun hrest => by rw [hserved, if_neg (by simp [hrest])]⟩
  case tokens =>
    exact fun step off toks j hs hjob hgen hbegun hlen => execTokens_kept hopen hf step off toks hs hjob hgen hbegun hlen
  case memory =>
    exact fun hm a hown =>
      ⟨fun n r t bs hpos hlen htier hread => execMemRead_own hopen hf a n r hm hown hpos hlen htier hread,
        fun data r t hpos hlen htier hwrite => execMemWrite_own hopen hf a data r hm hown hpos hlen htier hwrite⟩
  case unloaded => exact fun hjob force => execReset_unloaded hopen force hjob
  case loaded => exact fun hjob => ⟨execReset_loaded hopen false hjob, execReset_loaded hopen true hjob⟩

end Sys2Proof.Proofs

/-!
SUPPORT. What the generation requests and the rows of the batch scheduler come to (R29, R382 to R384, R446).
-/

namespace Sys2Proof.Machine

/-! ### GEN_REQUEST and GEN_CANCEL -/

theorem State.genEnd_gen (s : State) (g : GenReq) : (s.genEnd g).gen = s.gen := s.mgmtOut_gen ..

/-- The ends of streams are messages: the requests stay. -/
theorem State.foldl_genEnd_gen (s : State) (gs : List GenReq) : (gs.foldl State.genEnd s).gen = s.gen := by
  induction gs generalizing s with
  | nil => rfl
  | cons g gs ih => exact (ih (s.genEnd g)).trans (s.genEnd_gen g)

section
variable {s : State} {q : Req} (hopen : s.sessionOpen q.session.val = true) (hs : s.svc ≠ .startup)
  (hf : s.fallback = false)
include hopen hs hf

theorem execGenRequest_noGenerationJob (seed : BitVec 64) (n : BitVec 32) (prompt : List (BitVec 32))
    (hno : ∀ j, s.job = some j → j.generation = false) :
    execGenRequest q seed n prompt s = .next (s.reply q 0x21 0x5 []) := by
  simp only [execGenRequest, s.asksNormal_open q _ _ hopen hs hf]
  cases hjob : s.job with
  | none => rfl
  | some j => simp only [hno j hjob, Bool.not_false, if_true]

section
variable (seed : BitVec 64) {n : BitVec 32} {prompt : List (BitVec 32)} {j : Job} (hjob : s.job = some j)
  (hgen : j.generation = true)
include hjob hgen

theorem execGenRequest_tooLarge (hlarge : j.cachePool < regionBytes j prompt.length n.toNat) :
    execGenRequest q seed n prompt s = .next (s.reply q 0x21 0x8 []) := by
  simp only [execGenRequest, s.asksNormal_open q _ _ hopen hs hf, hjob, hgen, Bool.not_true, Bool.false_eq_true, if_false,
    if_pos hlarge]

variable (hfits : regionBytes j prompt.length n.toNat ≤ j.cachePool)
include hfits

theorem execGenRequest_noToken (hn : n = 0) : execGenRequest q seed n prompt s = .next (s.reply q 0x21 0 []) := by
  simp only [execGenRequest, s.asksNormal_open q _ _ hopen hs hf, hjob, hgen, Bool.not_true, Bool.false_eq_true, if_false,
    if_neg (Nat.not_lt.2 hfits), if_pos hn]

theorem execGenRequest_joins (hn : n ≠ 0) :
    execGenRequest q seed n prompt s = .next ({ s with gen := s.gen ++
      [⟨q.session.val, q.id.toNat, seed.toNat, n.toNat, 0, prompt.map BitVec.toNat, none, false⟩] } : State).genAdmit.genIssue := by
  simp only [execGenRequest, s.asksNormal_open q _ _ hopen hs hf, hjob, hgen, Bool.not_true, Bool.false_eq_true, if_false,
    if_neg (Nat.not_lt.2 hfits), if_neg hn]

end

/-- Whether GEN_CANCEL of a session and identity meets a request: one dropped from the batch in progress is met no more. -/
def GenReq.cancelled (q : Req) (target : BitVec 64) (g : GenReq) : Bool :=
  g.session == q.session.val && g.id == target.toNat && (g.region.isSome || !g.inBatch)

theorem execGenCancel_served (target : BitVec 64) :
    execGenCancel q target s = .next (({ (s.gen.filter (GenReq.cancelled q target)).foldl State.genEnd s with
      gen := dropGen (GenReq.cancelled q target) s.gen } : State).reply q 0x23 0 []).genAdmit.genIssue.waitReset := by
  have hgen := s.foldl_genEnd_gen (s.gen.filter (GenReq.cancelled q target))
  rw [← congrArg (dropGen (GenReq.cancelled q target)) hgen]
  exact congrArg Host.Outcome.next (s.asksNormal_open q _ _ hopen hs hf)

end

/-! ### Batches -/

theorem State.issueBatch_ofJob {s : State} {j : Job} (hjob : s.job = some j) :
    s.issueBatch = { s with gen := markBatch j.maxRows s.gen, batch := batchRows (markBatch j.maxRows s.gen), decLt := 0 } := by
  simp only [State.issueBatch, hjob]

theorem execDecodeWaitExpiry_issues {s : State} {j : Job} (hjob : s.job = some j) (hwait : j.decWait ≤ s.decLt)
    (hheld : s.genHeld ≠ 0) (hidle : s.batchRuns = false) : execDecodeWaitExpiry s = .next s.issueBatch := by
  have hdue : j.decWait ≤ s.decLt ∧ s.genHeld ≠ 0 ∧ s.batchRuns = false := ⟨hwait, hheld, hidle⟩
  simp only [execDecodeWaitExpiry, hjob, if_pos hdue]

theorem execDecodeWaitExpiry_same {s : State} {j : Job} (hjob : s.job = some j)
    (hnot : s.decLt < j.decWait ∨ s.genHeld = 0 ∨ s.batchRuns = true) : execDecodeWaitExpiry s = .next s := by
  have hno : ¬ (j.decWait ≤ s.decLt ∧ s.genHeld ≠ 0 ∧ s.batchRuns = false) := by
    rintro ⟨hwait, hheld, hidle⟩
    obtain h | h | h := hnot
    · exact absurd h (Nat.not_lt.2 hwait)
    · exact hheld h
    · simp [hidle] at h
  simp only [execDecodeWaitExpiry, hjob, if_neg hno]

theorem execDecodeWaitExpiry_noJob {s : State} (hjob : s.job = none) : execDecodeWaitExpiry s = .next s := by
  simp only [execDecodeWaitExpiry, hjob]

theorem execDecodeBatchComplete_running {s : State} (toks : List (BitVec 32 × Bool)) (hrun : s.batchRuns = true) :
    execDecodeBatchComplete toks s = .next
      ({ (s.batchTokens s.gen toks).1 with gen := (s.batchTokens s.gen toks).2, batch := [] } : State).genAdmit.genIssue := by
  simp only [execDecodeBatchComplete, hrun, Bool.not_true, Bool.false_eq_true, if_false]

theorem execDecodeBatchComplete_idle {s : State} (toks : List (BitVec 32 × Bool)) (hidle : s.batchRuns = false) :
    execDecodeBatchComplete toks s = .next s := by
  simp only [execDecodeBatchComplete, hidle, Bool.not_false, if_true]

/-! ### Tokens of a batch -/

/-- The message that carries a token of a request, sent with the token's position. -/
def State.tokenSent (s : State) (g : GenReq) (tok : BitVec 32) : State :=
  s.freshVal.2.mgmtOut g.session 0x8021 0 g.id (leBytes 4 g.pos ++ leBytes 4 tok.toNat)

section
variable (s : State) (g : GenReq) (gs : List GenReq) (tok : BitVec 32) (fin : Bool) (toks : List (BitVec 32 × Bool))

/-- A request outside the batch takes no token. -/
theorem State.batchTokens_outside (hout : g.inBatch = false) :
    s.batchTokens (g :: gs) toks = ((s.batchTokens gs toks).1, g :: (s.batchTokens gs toks).2) := by
  simp only [State.batchTokens, hout, Bool.not_false, if_true]

section
variable {g} (hin : g.inBatch = true)
include hin

/-- The token of a request cancelled in the batch is discarded with the request. -/
theorem State.batchTokens_cancelled (hreg : g.region = none) :
    s.batchTokens (g :: gs) ((tok, fin) :: toks) = s.batchTokens gs toks := by
  simp only [State.batchTokens, hin, hreg, Bool.not_true, Bool.false_eq_true, if_false, Option.isNone_none, if_true,
    List.tail_cons]

/-- A request of the batch is sent its token, and then ends or goes back to the queue. -/
theorem State.batchTokens_takes (hreg : g.region ≠ none) :
    s.batchTokens (g :: gs) ((tok, fin) :: toks) =
      if fin || decide (g.maxNew ≤ g.pos + 1) then ((s.tokenSent g tok).genEnd g).batchTokens gs toks
      else (((s.tokenSent g tok).batchTokens gs toks).1,
        { g with pos := g.pos + 1, inBatch := false } :: ((s.tokenSent g tok).batchTokens gs toks).2) := by
  rw [State.batchTokens, if_neg (by simp [hin]), if_neg (by simp [hreg])]
  rfl

theorem State.batchTokens_ends (hreg : g.region ≠ none) (hend : fin = true ∨ g.maxNew ≤ g.pos + 1) :
    s.batchTokens (g :: gs) ((tok, fin) :: toks) = ((s.tokenSent g tok).genEnd g).batchTokens gs toks := by
  rw [s.batchTokens_takes gs tok fin toks hin hreg, if_pos (by simpa using hend)]

theorem State.batchTokens_goesOn (hreg : g.region ≠ none) (hfin : fin = false) (hmore : g.pos + 1 < g.maxNew) :
    s.batchTokens (g :: gs) ((tok, fin) :: toks) = (((s.tokenSent g tok).batchTokens gs toks).1,
      { g with pos := g.pos + 1, inBatch := false } :: ((s.tokenSent g tok).batchTokens gs toks).2) := by
  rw [s.batchTokens_takes gs tok fin toks hin hreg, if_neg (by simpa [hfin] using hmore)]

end

end

end Sys2Proof.Machine

namespace Sys2Proof.Proofs

open Sys2Proof.Machine

/-- Settles O52: each clause is the rule of its row, and the last ones the rules of `State.batchTokens` by the request at the
front. -/
theorem generationRows : Obligations.GenerationRows := by
  refine ⟨fun s q hopen hs hf => ⟨fun seed n prompt => ⟨?noJob, ?generation⟩, ?cancel⟩, ?wait, ?waitNoJob, ?complete, ?tokens⟩
  case noJob => exact execGenRequest_noGenerationJob hopen hs hf seed n prompt
  case generation =>
    exact fun j hjob hgen => ⟨execGenRequest_tooLarge hopen hs hf seed hjob hgen, fun hfits =>
      ⟨execGenRequest_noToken hopen hs hf seed hjob hgen hfits, execGenRequest_joins hopen hs hf seed hjob hgen hfits⟩⟩
  case cancel => exact fun target => execGenCancel_served hopen hs hf target
  case wait =>
    intro s j hjob
    refine ⟨fun hwait hheld hidle => ?_, execDecodeWaitExpiry_same hjob⟩
    have hissues := execDecodeWaitExpiry_issues hjob hwait hheld hidle
    rw [State.issueBatch_ofJob hjob] at hissues
    exact hissues
  case waitNoJob => exact fun s => execDecodeWaitExpiry_noJob
  case complete => exact fun s toks => ⟨execDecodeBatchComplete_running toks, execDecodeBatchComplete_idle toks⟩
  case tokens =>
    exact fun s g gs tok fin toks => ⟨s.batchTokens_outside g gs toks, s.batchTokens_cancelled gs tok fin toks,
      fun hin hreg => ⟨s.batchTokens_ends gs tok fin toks hin hreg, s.batchTokens_goesOn gs tok fin toks hin hreg⟩⟩

end Sys2Proof.Proofs

/-!
SUPPORT. The rows of the matrix arrays (R73 to R79, R90, R98): a pass's start, its held load and its end, and what the rows of the
arrays, the vector engine and Teasel do where nothing waits for them.
-/

namespace Sys2Proof

theorem CoreId.ix_div (c : CoreId) : c.ix / 16 = c.die.val := by
  unfold CoreId.ix
  omega

theorem CoreId.ix_mod (c : CoreId) : c.ix % 16 = c.core.val := by
  unfold CoreId.ix
  omega

end Sys2Proof

namespace Sys2Proof.Machine

/-! ### Passes -/

section

variable {s : State} {core a part : Nat} {p : Pass} {rest : List Pass}

/-- The array as pass `p` at its queue head finds it at its start (R79). -/
def State.arrPrepared (s : State) (core a : Nat) (p : Pass) : ArrayS :=
  (s.arr core a).prepare (matFields p.word) (s.arith (core / 16)).strict

/-- What PASS_START leaves of state `z` when pass `p`, at the queue head in `s`, starts in a part that holds `q` (R73). -/
def State.passStarted (s z : State) (core a part : Nat) (p : Pass) (rest : List Pass) (q : PartS) : State :=
  let x := s.arrPrepared core a p
  (z.setArr core a ({ x with queue := rest }.setPart part { q with inflight := q.inflight ++
    [{ p with bank := q.lastBank.getD 0, arith := some (s.arith (core / 16)), delivered := false,
              order := (x.flying.map Pass.order).foldl Nat.max 0 + 1 }] })).setFld
      .ARR_STATUS (core / 16) (core % 16) a 5 2 (matFields p.word).shape.code

section

variable (hq : (s.arr core a).queue = p :: rest) (hok : s.arrFaulted core a = false)
  (hpart : (matFields p.word).part = part) (hroom : ((s.arrPrepared core a p).part part).inflight.length < 2)
include hq hok hpart hroom

/-- A pass that reuses the newest tile starts without a load (R75). -/
theorem State.passStart_reuses (hstat : (matFields p.word).stat = 2) :
    s.passStart core a part = s.passStarted s core a part p rest ((s.arrPrepared core a p).part part) := by
  unfold State.arrPrepared at hroom
  simp [State.passStart, State.passStarted, State.arrPrepared, hok, hq, hpart, hstat, Nat.not_le.2 hroom]

/-- A loading pass whose load is not held starts once its runs are read (R73, R77). -/
theorem State.passStart_loads {z : State} {runs : List (List Nat)} (hstat : (matFields p.word).stat ≠ 2)
    (hheld : ((s.arrPrepared core a p).part part).loadHeld = false)
    (hruns : s.readRuns core (pairBase p.sa) (pairStride p.sa) (matFields p.word).statRuns.2 (matFields p.word).statRuns.1 =
      (z, some runs)) :
    s.passStart core a part = s.passStarted z core a part p rest
      (((s.arrPrepared core a p).part part).load (tileCols (matFields p.word) runs)) := by
  unfold State.arrPrepared at hroom hheld
  simp [State.passStart, State.passStarted, State.arrPrepared, hok, hq, hpart, hstat, Nat.not_le.2 hroom, hheld, hruns]

end

/-- A held load goes on: every pass in flight that selects its bank has been delivered (R77). -/
theorem State.loadRelease_held (hq : (s.arr core a).queue = p :: rest) (hpart : (matFields p.word).part = part)
    (hstat : (matFields p.word).stat ≠ 2) (hheld : ((s.arr core a).part part).loadHeld = true) :
    s.loadRelease core a part = s.setArr core a ((s.arr core a).setPart part { (s.arr core a).part part with
      inflight := ((s.arr core a).part part).inflight.map fun r =>
        if r.bank = ((s.arr core a).part part).nextBank then { r with delivered := true } else r }) := by
  simp [State.loadRelease, hq, hpart, hstat, hheld]

section

variable (hin : ((s.arr core a).part part).inflight = p :: rest) (hfirst : (s.arr core a).olderFirst p = false)
include hin hfirst

/-- What PASS_COMPLETE leaves when the rows of pass `p` have run to state `t` with flags `fl` (R90, R91). -/
def State.passEnded (t : State) (core a part : Nat) (p : Pass) (rest : List Pass) (fl : Nat) : State :=
  let f := matFields p.word
  let z := t.raise (core / 16) (core % 16) fl
  let y := z.arr core a
  let u := ((z.setArr core a (y.setPart part { y.part part with inflight := rest })).bump
    .ARR_PASSES (core / 16) (core % 16) a 1).bump .ARR_ROWS (core / 16) (core % 16) a f.m
  if f.sig then u.addSem (core / 16) f.sem 1 else u

theorem State.passComplete_ends {t : State} {fl : Nat} (hcap : p.captured = true)
    (hrows : s.runRows core a p (p.arith.getD (s.arith (core / 16)))
      (((s.arr core a).part part).tileOf (matFields p.word) p.bank) (matFields p.word).m 0 = (t, none, fl)) :
    s.passComplete core a part none = t.passEnded core a part p rest fl := by
  simp [State.passComplete, State.passEnded, hin, hfirst, hcap, hrows]

/-- A parity error at row 0 of a pass stops it before any row has run (R98). -/
theorem State.passComplete_parity (cause : Nat) :
    s.passComplete core a part (some (cause, 0)) = s.freshVal.2.arrFault core a part cause 0 0 := by
  simp [State.passComplete, hin, hfirst, State.runRows, abandonedFlags, State.raise]

end

end

/-! ### Nothing to do -/

/-- No part of an array without passes in flight has one. -/
theorem ArrayS.part_inflight_of_flying {x : ArrayS} (h : x.flying = []) (k : Nat) : (x.part k).inflight = [] := by
  simp only [ArrayS.flying, List.append_eq_nil_iff] at h
  obtain ⟨⟨⟨h0, h1⟩, h2⟩, h3⟩ := h
  unfold ArrayS.part
  split <;> assumption

section

variable {s : State} {core : Nat}

theorem State.passStart_idle {a : Nat} (hq : (s.arr core a).queue = []) (part : Nat) : s.passStart core a part = s := by
  simp [State.passStart, hq]

theorem State.loadRelease_idle {a : Nat} (hq : (s.arr core a).queue = []) (part : Nat) : s.loadRelease core a part = s := by
  simp [State.loadRelease, hq]

theorem State.passComplete_idle {a part : Nat} (hin : ((s.arr core a).part part).inflight = []) (flt : Option (Nat × Nat)) :
    s.passComplete core a part flt = s := by
  simp [State.passComplete, hin]

theorem State.vecStart_idle (hq : (s.vec core).queue = []) : s.vecStart core = s := by
  simp [State.vecStart, hq, splitStarted]

theorem State.vecFinish_idle (hq : (s.vec core).queue = []) (stop : Option Nat) (flt : Option (Nat × Nat × Nat)) :
    s.vecFinish core stop flt = s := by
  simp [State.vecFinish, hq]

theorem State.teaCapture_idle {a part : Nat} (hin : ((s.arr core a).part part).inflight = []) (parity : Bool) :
    s.teaCapture core a part parity = s := by
  simp [State.teaCapture, hin, firstUncaptured]

theorem State.teaUpdate_idle (hcl : (s.tea core).closed = []) (parity : Bool) : s.teaUpdate core parity = s := by
  simp [State.teaUpdate, hcl]

theorem State.teaUpdateDone_idle (hcl : (s.tea core).closed = []) (parity : Bool) : s.teaUpdateDone core parity = s := by
  simp [State.teaUpdateDone, hcl]

theorem State.flushDone_idle (hfl : (s.tea core).flushes = []) (parity : Bool) : s.flushDone core parity = s := by
  simp [State.flushDone, hfl]

end

end Sys2Proof.Machine

namespace Sys2Proof.Proofs

open Sys2Proof.Machine

/-- Settles O15: each clause is the rule of its row (`State.passStart_reuses` to `State.passComplete_ends`). -/
theorem matrixPasses : Obligations.MatrixPasses := by
  intro s c a part p rest f ar x q started
  have hprep : s.arrPrepared c.ix a.val p = x := by rw [State.arrPrepared, c.ix_div]
  have hstarted (z : State) (r : PartS) : s.passStarted z c.ix a.val part.val p rest r = started z r := by
    rw [State.passStarted, hprep, c.ix_div, c.ix_mod]
  refine ⟨fun hq hok hpart hroom => ?start, fun hq hpart hstat => ?release, fun t fl hin hfirst hcap hrows => ?complete⟩
  case start =>
    subst q
    rw [← hprep] at hroom ⊢
    exact ⟨fun hstat => congrArg Host.Outcome.next ((State.passStart_reuses hq hok hpart hroom hstat).trans (hstarted _ _)),
      fun runs hstat hheld hruns => congrArg Host.Outcome.next
        ((State.passStart_loads hq hok hpart hroom hstat hheld hruns).trans (hstarted _ _))⟩
  case release => exact fun hheld => congrArg Host.Outcome.next (State.loadRelease_held hq hpart hstat hheld)
  case complete =>
    rw [← c.ix_div, ← c.ix_mod]
    exact congrArg Host.Outcome.next (State.passComplete_ends hin hfirst hcap (by rw [c.ix_div]; exact hrows))

/-- Settles O19: each unit's operation stops where its queue is empty (`State.passStart_idle` to `State.flushDone_idle`). -/
theorem unitEventsWithNothingToDo : Obligations.UnitEventsWithNothingToDo := by
  intro s c a part b n hq hfl hvec hclosed hflushes i hi
  have hin := ArrayS.part_inflight_of_flying hfl part.val
  simp only [List.mem_cons, List.not_mem_nil, or_false] at hi
  obtain rfl | rfl | rfl | rfl | rfl | rfl | rfl | rfl | rfl | rfl := hi
  · exact congrArg Host.Outcome.next (State.passStart_idle hq _)
  · exact congrArg Host.Outcome.next (State.loadRelease_idle hq _)
  · exact congrArg Host.Outcome.next (State.passComplete_idle hin _)
  · exact congrArg Host.Outcome.next (State.vecStart_idle hvec)
  · change execVecCommandComplete c none s = _
    simp [execVecCommandComplete, State.vecFinish_idle hvec]
  · change execVecStopAtRow c n s = _
    simp [execVecStopAtRow, State.vecFinish_idle hvec]
  · exact congrArg Host.Outcome.next (State.teaCapture_idle hin b)
  · exact congrArg Host.Outcome.next (State.teaUpdate_idle hclosed b)
  · exact congrArg Host.Outcome.next (State.teaUpdateDone_idle hclosed b)
  · exact congrArg Host.Outcome.next (State.flushDone_idle hflushes b)

end Sys2Proof.Proofs

/-!
SUPPORT. A fault of an array (R98, R102) in its parts, and a state in which its report serves a wait on a semaphore that no die has.
-/

namespace Sys2Proof.Machine

/-! ### The record of a core's fault -/

theorem SameRegsBut.ite {ls : List Nat} {s t : State} {c : Prop} [Decidable c] (h : SameRegsBut ls s t) :
    SameRegsBut ls s (if c then s else t) := by
  split
  · exact fun _ _ => rfl
  · exact h

theorem SameRegsBut.trans {ls : List Nat} {s t u : State} (h : SameRegsBut ls s t) (k : SameRegsBut ls t u) : SameRegsBut ls s u :=
  fun l hl => (k l hl).trans (h l hl)

theorem State.setRg_sameRegsBut_of_mem (s : State) {ls : List Nat} {r : Reg} {die i j : Nat} (v : Nat) (h : loc r die i j ∈ ls) :
    SameRegsBut ls s (s.setRg r die i j v) :=
  fun l hl => s.setRg_sameRegsBut r die i j v l (by rintro hmem; exact hl (List.mem_singleton.1 hmem ▸ h))

theorem State.dieFault_sameRegsBut (s : State) (die block unit cause : Nat) :
    SameRegsBut [loc .DIE_FAULT die 0 0] s (s.dieFault die block unit cause) := by
  intro l hl
  exact SameRegsBut.ite (c := bit (s.rg .DIE_FAULT die 0 0) 63 = true)
    (s.setRg_sameRegsBut .DIE_FAULT die 0 0 (2 ^ 63 + block * 2 ^ 40 + unit * 2 ^ 32 + cause)) l hl

theorem State.seqFaultCore_sameRegsBut (s : State) (core cause unit : Nat) :
    SameRegsBut
      [loc .SEQ_FAULT (core / 16) (core % 16) 0, loc .SEQ_STATUS (core / 16) (core % 16) 0, loc .DIE_FAULT (core / 16) 0 0]
      s (s.seqFaultCore core cause unit) := by
  unfold State.seqFaultCore
  extract_lets d u s1 v s2 s3 q s4
  have h1 : SameRegsBut [loc .SEQ_FAULT d u 0, loc .SEQ_STATUS d u 0, loc .DIE_FAULT d 0 0] s s1 :=
    SameRegsBut.ite (s.setRg_sameRegsBut_of_mem _ (by simp))
  have h2 : SameRegsBut [loc .SEQ_FAULT d u 0, loc .SEQ_STATUS d u 0, loc .DIE_FAULT d 0 0] s s2 :=
    h1.trans (s1.setRg_sameRegsBut_of_mem (r := .SEQ_STATUS) (die := d) (i := u) (j := 0) v (by simp))
  clear_value s2
  have h4 : s4.regs = s2.regs := by simp [s4, s3]
  refine h2.trans fun l hl => ?_
  rw [← h4]
  refine State.dieFault_sameRegsBut s4 d _ _ _ l ?_
  simp only [List.mem_cons, not_or] at hl ⊢
  exact hl.2.2
/-! ### The parts of an array fault -/

theorem State.rg_setRg_ne (s : State) {r q : Reg} {die i j d k l : Nat} (v : Nat) (h : loc q d k l ≠ loc r die i j) :
    (s.setRg r die i j v).rg q d k l = s.rg q d k l := by
  rw [State.rg_setRg, if_neg h]

/-- The first fault of an array is recorded (R102). -/
def State.arrRecord (s : State) (core a : Nat) (place : Nat × Nat) (cause : Nat) : State :=
  if bit (s.rg .ARR_FAULT (core / 16) (core % 16) a) 31 then s
  else s.setRg .ARR_FAULT (core / 16) (core % 16) a (2 ^ 31 + place.2 % 4096 * 2 ^ 16 + place.1 * 2 ^ 8 + cause)

/-- FAULT and ACC_INV are set, the passes in flight are abandoned and their rows counted (R98). -/
def State.arrAbandon (s : State) (core a rows : Nat) : State :=
  let z := s.setRg .ARR_STATUS (core / 16) (core % 16) a (s.rg .ARR_STATUS (core / 16) (core % 16) a ||| (2 ^ 12 + 2 ^ 11))
  (z.setArr core a ((z.arr core a).mapParts fun q => { q with inflight := [] })).bump .ARR_ROWS (core / 16) (core % 16) a rows

/-- An array fault records, abandons and reports. -/
theorem State.arrFault_eq (s : State) (core a part cause row entered : Nat) :
    let o := s.freshVal.1
    let x := s.arr core a
    s.arrFault core a part cause row entered =
      ((s.freshVal.2.arrRecord core a (x.faultAt part row o) cause).arrAbandon core a
        (Nat.min entered x.rowsFlying + o.toNat % 2 ^ 32 % (x.rowsFlying - entered + 1))).seqFault core 0x0D a := rfl

section

variable (s : State) (core a : Nat)

theorem State.arrRecord_semWaits (place : Nat × Nat) (cause : Nat) : (s.arrRecord core a place cause).semWaits = s.semWaits := by
  unfold State.arrRecord
  split <;> rfl

theorem State.arrRecord_arrStatus (place : Nat × Nat) (cause : Nat) :
    (s.arrRecord core a place cause).rg .ARR_STATUS (core / 16) (core % 16) a = s.rg .ARR_STATUS (core / 16) (core % 16) a := by
  unfold State.arrRecord
  split
  · rfl
  · exact s.rg_setRg_ne _ (by simp [loc, Reg.row])

theorem State.arrAbandon_semWaits (rows : Nat) : (s.arrAbandon core a rows).semWaits = s.semWaits := rfl

theorem State.arrAbandon_arrStatus (rows : Nat) :
    (s.arrAbandon core a rows).rg .ARR_STATUS (core / 16) (core % 16) a =
      (s.rg .ARR_STATUS (core / 16) (core % 16) a ||| (2 ^ 12 + 2 ^ 11)) % 2 ^ 32 := by
  refine (State.rg_setRg_ne _ _ (by simp [loc, Reg.row])).trans ?_
  exact (s.rg_setRg ..).trans (if_pos rfl)

end

/-- The record of a report touches no register of an array. -/
theorem State.seqFaultCore_arrStatus (s : State) (core cause unit : Nat) {a : Nat} (_ : a < 4) :
    (s.seqFaultCore core cause unit).rg .ARR_STATUS (core / 16) (core % 16) a = s.rg .ARR_STATUS (core / 16) (core % 16) a := by
  refine congrArg BitVec.toNat (s.seqFaultCore_sameRegsBut core cause unit _ ?_)
  simp only [loc, Reg.row, List.mem_cons, List.not_mem_nil, or_false]
  omega

/-! ### A wait behind one that is withdrawn -/

/-- The wait of a die's automatic arrival that stands behind one that leaves is served: it takes its amount from the semaphore,
and touches no other register (R198, R203). -/
theorem State.dropWaits_serves_auto (z : State) {p : SemWait → Bool} {g w : SemWait} (hz : z.semWaits = [g, w]) (hg : p g = true)
    (hw : p w = false) (hdie : g.die = w.die) (hsem : g.sem = w.sem) (hwho : w.who = .auto) (hn : w.n ≤ z.sem w.die w.sem) :
    (z.dropWaits p).regs = (z.setRg .VETCH_SEM w.die 0 w.sem (z.sem w.die w.sem - w.n)).regs := by
  have hserve (y : State) (hy : y.semWaits = [w]) (hr : y.regs = z.regs) :
      (y.serve w.die w.sem 1).regs = (z.setRg .VETCH_SEM w.die 0 w.sem (z.sem w.die w.sem - w.n)).regs := by
    have hs : y.sem w.die w.sem = z.sem w.die w.sem := by rw [State.sem, State.sem, State.rg, State.rg, hr]
    simp [State.serve, hy, hs, hn, State.wake, hwho, State.setRg, hr]
  simpa [State.dropWaits, hz, hg, hw, hdie, hsem] using hserve { z with semWaits := [w] } rfl rfl

theorem State.rg_of_regs {s t : State} (h : t.regs = s.regs) (r : Reg) (die i j : Nat) : t.rg r die i j = s.rg r die i j := by
  rw [State.rg, State.rg, h]

/-! ### A fault whose report changes the array's status -/

/-- The wait of core 0's own sequencer, and one of its die, on a semaphore that no die has: the register space has ARR_STATUS of
array 0 where semaphore 0x3B100 of die 0 would stand. -/
def strayWaits : List SemWait := [⟨0, 0x3B100, 0, .seq 0, 0⟩, ⟨0, 0x3B100, 0x1800, .auto, 0⟩]

/-- The withdrawn wait of the sequencer lets the other one take FAULT and ACC_INV for its amount. -/
theorem State.dropWaits_stray {z : State} (hz : z.semWaits = strayWaits) (hst : z.rg .ARR_STATUS 0 0 0 = 0x1800) :
    (z.dropWaits fun w => w.who == Waiter.seq 0).rg .ARR_STATUS 0 0 0 = 0 := by
  have hsem : z.sem 0 0x3B100 = 0x1800 := hst
  rw [State.rg_of_regs (z.dropWaits_serves_auto hz rfl rfl rfl rfl rfl (Nat.le_of_eq hsem.symm)), hsem, State.rg_setRg]
  exact if_pos (by decide)

def strayPass : Pass := ⟨0, 0, 0, 0, 0, 0, none, true, none, 0⟩

def strayState : State :=
  { State.reset with
    arrays := [(0, { ArrayS.init with p0 := { PartS.init with inflight := [strayPass] } })]
    semWaits := strayWaits }

theorem strayState_arrStatus : strayState.rg .ARR_STATUS 0 0 0 = 0 :=
  State.reset_rg .ARR_STATUS 0 0 0 (by decide +kernel)

/-- A fault of array 0 in such a state leaves neither FAULT nor ACC_INV. -/
theorem State.arrFault_stray {z : State} (hz : z.semWaits = strayWaits) (hst : z.rg .ARR_STATUS 0 0 0 = 0)
    (part cause row entered : Nat) : (z.arrFault 0 0 part cause row entered).rg .ARR_STATUS 0 0 0 = 0 := by
  have heq := z.arrFault_eq 0 0 part cause row entered
  extract_lets o x at heq
  rw [heq]
  have hset (place : Nat × Nat) (rows : Nat) :
      ((z.freshVal.2.arrRecord 0 0 place cause).arrAbandon 0 0 rows).rg .ARR_STATUS 0 0 0 = 0x1800 := by
    refine (State.arrAbandon_arrStatus _ 0 0 rows).trans ?_
    rw [State.arrRecord_arrStatus]
    change (z.rg .ARR_STATUS 0 0 0 ||| _) % _ = _
    rw [hst]
    rfl
  exact (State.seqFaultCore_arrStatus _ 0 _ _ (by decide)).trans
    (State.dropWaits_stray ((State.arrRecord_semWaits ..).trans hz) (hset _ _))

end Sys2Proof.Machine

namespace Sys2Proof.Proofs

open Sys2Proof.Machine

/-- Refutes O16: the statement takes every state, also one that lists waits on a semaphore index past 4,095. Where such an index
comes to the place of ARR_STATUS in the register space, the fault's report, which withdraws the sequencer's wait, serves the wait
behind it, and that takes its amount from ARR_STATUS: FAULT and ACC_INV read 0. -/
theorem not_arrayFault : ¬ Obligations.ArrayFault := by
  intro h
  obtain ⟨t, ht, -, hfault, -⟩ := h strayState ⟨0, 0⟩ 0 0 .bank strayPass [] rfl rfl rfl
  have hend : strayState.passComplete 0 0 0 (some (1, 0)) = t := Host.Outcome.next.inj ht
  have hin : ((strayState.arr 0 0).part 0).inflight = strayPass :: [] := rfl
  have hst := State.arrFault_stray (z := strayState.freshVal.2) rfl strayState_arrStatus 0 1 0 0
  rw [← State.passComplete_parity hin rfl, hend] at hst
  have hbit : bit (t.rg .ARR_STATUS 0 0 0) 11 = true := hfault
  rw [hst] at hbit
  exact absurd hbit (by decide)

end Sys2Proof.Proofs

/-!
SUPPORT. What the operations of a stop leave of the DMA channels and of the requests that await its end (R190, R395), and the rows
of a stop: the stop of a job, the start of a sequencer, the watchdogs.
-/

namespace Sys2Proof.Machine

/-! ### What a stop leaves beside the units it stops -/

/-- The DMA channels, and the requests that are answered when a stop is complete, are in `t` as in `s`. -/
def Beside (s t : State) : Prop := t.dmas = s.dmas ∧ t.stopReply = s.stopReply

theorem Beside.refl (s : State) : Beside s s := ⟨rfl, rfl⟩

theorem Beside.trans {a b c : State} (h : Beside a b) (k : Beside b c) : Beside a c := ⟨k.1.trans h.1, k.2.trans h.2⟩

theorem foldl_beside {α : Type} (g : State → α → State) (l : List α) (s : State) (h : ∀ z x, Beside z (g z x)) :
    Beside s (l.foldl g s) := by
  induction l generalizing s with
  | nil => exact Beside.refl s
  | cons a l ih => exact (h s a).trans (ih (g s a))

theorem State.setRg_beside (s : State) (r : Reg) (die i j v : Nat) : Beside s (s.setRg r die i j v) := ⟨rfl, rfl⟩

theorem State.putBytes_beside (s : State) (addr : Nat) (bs : List Nat) : Beside s (s.putBytes addr bs) := ⟨rfl, rfl⟩

theorem State.setFld_beside (s : State) (r : Reg) (die i j lo w x : Nat) :
    Beside s (s.setFld r die i j lo w x) := s.setRg_beside ..

theorem State.setG_beside (s : State) (r : Reg) (v : Nat) :
    Beside s (s.setG r v) := s.setRg_beside ..

theorem State.bump_beside (s : State) (r : Reg) (die i j n : Nat) :
    Beside s (s.bump r die i j n) := s.setRg_beside ..

theorem State.untilFail_beside {α β : Type} (s : State) (f : State → α → State × Option β) (x0 : List α)
    (hf : ∀ y0 y1, Beside y0 (f y0 y1).1) :
    Beside s (s.untilFail f x0).1 := by
  induction x0 generalizing s with
  | nil => exact Beside.refl s
  | cons i is ih =>
    have h := hf s i
    rw [State.untilFail]
    generalize f s i = q at h
    obtain ⟨z, _ | c⟩ := q
    · exact Beside.trans h (ih z)
    · exact h

theorem State.dieFault_beside (s : State) (die block unit cause : Nat) :
    Beside s (s.dieFault die block unit cause) := by
  unfold State.dieFault
  grind [Beside, State.setRg_beside]

theorem State.bumpPort_beside (s : State) (r : Reg) (p n : Nat) :
    Beside s (s.bumpPort r p n) := s.setRg_beside ..

theorem State.setPort_beside (s : State) (p : Nat) (x : PortS) :
    Beside s (s.setPort p x) := ⟨rfl, rfl⟩

theorem State.pumpOne_beside (s : State) (p : Nat) :
    Beside s (s.pumpOne p) := by
  unfold State.pumpOne
  grind [Beside, State.bumpPort_beside, State.setPort_beside]

theorem State.pump_beside (s : State) (p : Nat) (x0 : Nat) :
    Beside s (s.pump p x0) := by
  fun_induction State.pump <;> grind [Beside, State.pumpOne_beside]

theorem State.enqueue_beside (s : State) (p : Nat) (f : Flit) :
    Beside s (s.enqueue p f) := by
  unfold State.enqueue
  grind [Beside, State.setPort_beside, State.pump_beside]

theorem State.sendFlit_beside (s : State) (f : Flit) :
    Beside s (s.sendFlit f).1 := by
  unfold State.sendFlit
  grind [Beside, State.enqueue_beside]

theorem State.enqueueFrame_beside (s : State) (p : Nat) (m : FrameMsg) :
    Beside s (s.enqueueFrame p m) := by
  unfold State.enqueueFrame
  grind [Beside, State.setPort_beside, State.enqueue_beside]

theorem State.sendFrame_beside (s : State) (dst : Nat) (b : Frame) :
    Beside s (s.sendFrame dst b) := by
  unfold State.sendFrame
  grind [Beside, State.enqueueFrame_beside]

theorem State.nextTag_beside (s : State) :
    Beside s (s.nextTag).2 := ⟨rfl, rfl⟩

theorem State.sendRegFor_beside (s : State) (who : Asker) (node off : Nat) (wide : Bool) (v : Nat) :
    Beside s (s.sendRegFor who node off wide v).1 := by
  unfold State.sendRegFor
  grind [Beside, State.sendFlit_beside, State.nextTag_beside]

theorem State.sendReg_beside (s : State) (node off : Nat) (wide : Bool) (v : Nat) :
    Beside s (s.sendReg node off wide v) := by
  unfold State.sendReg
  grind [Beside, State.sendRegFor_beside]

theorem State.scramble_beside (s : State) (addr n : Nat) :
    Beside s (s.scramble addr n) := ⟨rfl, rfl⟩

theorem State.uncorrectable_beside (s : State) (blk : Nat) :
    Beside s (s.uncorrectable blk) := by
  unfold State.uncorrectable
  grind [Beside, State.setRg_beside, State.dieFault_beside]

theorem State.mend_beside (s : State) (blk : Nat) :
    Beside s (s.mend blk) := by
  unfold State.mend
  grind [Beside, State.bump_beside]

theorem State.mendBlocks_beside (s : State) (addrs : List Nat) :
    Beside s (s.mendBlocks addrs) := by
  unfold State.mendBlocks
  grind [Beside, foldl_beside, State.mend_beside]

theorem State.correctWord_beside (s : State) (w : Nat) :
    Beside s (s.correctWord w) := by
  unfold State.correctWord
  grind [Beside, State.bump_beside]

theorem State.checkWords_beside (s : State) (x0 : List Nat) :
    Beside s (s.checkWords x0).1 := by
  fun_induction State.checkWords <;> grind [Beside, State.correctWord_beside]

theorem State.freshSidecars_beside (s : State) (addr n : Nat) :
    Beside s (s.freshSidecars addr n) := by
  unfold State.freshSidecars
  grind [Beside]

theorem State.writeRange_beside (s : State) (addr : Nat) (bs : List Nat) :
    Beside s (s.writeRange addr bs).1 := by
  unfold State.writeRange
  grind [Beside, State.putBytes_beside, State.uncorrectable_beside, State.mendBlocks_beside, State.checkWords_beside,
    State.freshSidecars_beside]

theorem State.memWrite_beside (s : State) (r : Requester) (addr : Nat) (bs : List Nat) :
    Beside s (s.memWrite r addr bs).1 := by
  unfold State.memWrite
  grind [Beside, State.writeRange_beside]

theorem State.setSeq_beside (s : State) (core : Nat) (q : SeqS) :
    Beside s (s.setSeq core q) := ⟨rfl, rfl⟩

theorem State.setSeqState_beside (s : State) (core st hold : Nat) :
    Beside s (s.setSeqState core st hold) := s.setRg_beside ..

theorem State.setSc_beside (s : State) (core i v : Nat) :
    Beside s (s.setSc core i v) := by
  unfold State.setSc
  grind [Beside, State.setRg_beside]

theorem State.seqFaultCore_beside (s : State) (core cause unit : Nat) :
    Beside s (s.seqFaultCore core cause unit) := by
  unfold State.seqFaultCore
  grind [Beside, State.setRg_beside, State.dieFault_beside, State.setSeq_beside]

theorem State.retireTo_beside (s : State) (core pc' : Nat) :
    Beside s (s.retireTo core pc') := by
  unfold State.retireTo
  grind [Beside, State.setRg_beside, State.bump_beside, State.setSeq_beside, State.setSeqState_beside, State.seqFaultCore_beside]

theorem State.retire_beside (s : State) (core : Nat) :
    Beside s (s.retire core) := by
  unfold State.retire
  grind [Beside, State.retireTo_beside]

theorem State.wake_beside (s : State) (w : SemWait) :
    Beside s (s.wake w) := by
  unfold State.wake
  grind [Beside, State.retire_beside]

theorem State.serve_beside (s : State) (die i : Nat) (x0 : Nat) :
    Beside s (s.serve die i x0) := by
  fun_induction State.serve <;> grind [Beside, State.setRg_beside, State.wake_beside]

theorem State.dropWaits_beside (s : State) (p : SemWait → Bool) :
    Beside s (s.dropWaits p) := by
  unfold State.dropWaits
  grind [Beside, foldl_beside, State.serve_beside]

theorem State.dropWait_beside (s : State) (die : Nat) (who : Waiter) :
    Beside s (s.dropWait die who) := by
  unfold State.dropWait
  grind [Beside, State.dropWaits_beside]

theorem State.takeSem_beside (s : State) (die i n : Nat) :
    ∀ t, s.takeSem die i n = some t → Beside s t := by
  intro t h
  unfold State.takeSem at h
  grind [Beside, State.setRg_beside]

theorem State.unitWait_beside (s : State) (die i n : Nat) (who : Waiter) :
    Beside s (s.unitWait die i n who) := by
  unfold State.unitWait
  split
  · next h =>
    have k := State.takeSem_beside s die i n _ h
    exact ⟨k.1, k.2⟩
  · exact ⟨rfl, rfl⟩

theorem State.setArr_beside (s : State) (core a : Nat) (x : ArrayS) :
    Beside s (s.setArr core a x) := ⟨rfl, rfl⟩

theorem State.setVec_beside (s : State) (core : Nat) (x : VecS) :
    Beside s (s.setVec core x) := ⟨rfl, rfl⟩

theorem State.setTea_beside (s : State) (core : Nat) (x : TeaS) :
    Beside s (s.setTea core x) := ⟨rfl, rfl⟩

theorem State.setRen_beside (s : State) (m e : Nat) (x : RenS) :
    Beside s (s.setRen m e x) := ⟨rfl, rfl⟩

theorem State.setPress_beside (s : State) (m e : Nat) (x : PressS) :
    Beside s (s.setPress m e x) := ⟨rfl, rfl⟩

theorem State.setVat_beside (s : State) (x : Nat) (v : VatS) :
    Beside s (s.setVat x v) := ⟨rfl, rfl⟩

theorem State.setRenState_beside (s : State) (m e st : Nat) :
    Beside s (s.setRenState m e st) := s.setRg_beside ..

theorem State.setPrState_beside (s : State) (m e st : Nat) :
    Beside s (s.setPrState m e st) := s.setRg_beside ..

theorem State.rnWriteStatus_beside (s : State) (m e i status cause flags mid : Nat) (scale : Int) :
    Beside s (s.rnWriteStatus m e i status cause flags mid scale).1 := by
  unfold State.rnWriteStatus
  grind [Beside, State.writeRange_beside]

theorem State.rnDrop_beside (s : State) (m e : Nat) :
    Beside s (s.rnDrop m e) := by
  unfold State.rnDrop
  grind [Beside, foldl_beside, State.rnWriteStatus_beside]

theorem State.rennetFault_beside (s : State) (m e cause entry : Nat) :
    Beside s (s.rennetFault m e cause entry) := by
  unfold State.rennetFault
  grind [Beside, State.setRg_beside, State.setFld_beside, State.dieFault_beside, State.dropWait_beside,
    State.setRenState_beside, State.rnDrop_beside]

theorem State.pressFault_beside (s : State) (m e cause entry : Nat) :
    Beside s (s.pressFault m e cause entry) := by
  unfold State.pressFault
  grind [Beside, State.setRg_beside, State.setFld_beside, State.dieFault_beside, State.dropWait_beside, State.setPrState_beside]

theorem State.rennetArm_beside (s : State) (m e : Nat) :
    Beside s (s.rennetArm m e) := by
  unfold State.rennetArm
  grind [Beside, State.unitWait_beside, State.setRenState_beside]

theorem rnMarked_beside (s : State) (m e i : Nat) (p : State × Option MemErr) (h : Beside s p.1) :
    Beside s (rnMarked m e i p).1 := by
  unfold rnMarked
  split
  · exact h
  · exact Beside.trans h (State.rennetFault_beside _ _ _ _ _)

theorem rnAbandonOne_beside (m e : Nat) (s : State) (i : Nat) :
    Beside s (rnAbandonOne m e s i).1 := by
  exact rnMarked_beside _ _ _ _ _ (s.rnWriteStatus_beside m e i 3 0 0 0 0)

theorem State.rnAbandon_beside (s : State) (m e n i : Nat) :
    Beside s (s.rnAbandon m e n i) := by
  unfold State.rnAbandon
  exact State.untilFail_beside _ _ _ (rnAbandonOne_beside m e)

theorem State.rennetMissed_beside (s : State) (m e : Nat) :
    Beside s (s.rennetMissed m e) := (s.bump_beside ..).trans (State.setFld_beside ..)

theorem State.rennetDecided_beside (s : State) (m e : Nat) (committed : Bool) :
    Beside s (s.rennetDecided m e committed) := by
  unfold State.rennetDecided
  have h1 (x) := s.setRen_beside m e x
  have h2 (z : State) (a b : Nat) := State.rnAbandon_beside z m e a b
  have h3 (z : State) := z.rennetMissed_beside m e
  have h4 (z : State) := z.rennetArm_beside m e
  dsimp only
  repeat' split
  · exact h1 _
  · exact h1 _
  · exact (h1 _).trans ((h2 _ _ _).trans (h3 _))
  · exact (h1 _).trans ((h2 _ _ _).trans ((h3 _).trans (h4 _)))
  · exact (h1 _).trans (h4 _)
  · exact Beside.refl s

theorem State.pressDecided_beside (s : State) (m e k : Nat) (cause : Option Nat) :
    Beside s (s.pressDecided m e k cause) := by
  unfold State.pressDecided
  grind [Beside, State.setPress_beside, State.setPrState_beside, State.pressFault_beside]

theorem State.enginesDecided_beside (s : State) (h inst k : Nat) (cause : Option Nat) :
    Beside s (s.enginesDecided h inst k cause) := by
  unfold State.enginesDecided
  grind [Beside, foldl_beside, State.setG_beside, State.bump_beside, State.rennetDecided_beside, State.pressDecided_beside]

theorem State.setHoop_beside (s : State) (h : Nat) (x : HoopS) :
    Beside s (s.setHoop h x) := ⟨rfl, rfl⟩

theorem State.setHoopSt_beside (s : State) (h lo w v : Nat) :
    Beside s (s.setHoopSt h lo w v) := s.setRg_beside ..

theorem State.hoopOpen_beside (s : State) (h : Nat) :
    Beside s (s.hoopOpen h) := (s.setRg_beside ..).trans (State.setHoop_beside ..)

theorem State.releaseHoop_beside (s : State) (h inst res epoch : Nat) (x0 : List Nat) :
    Beside s (s.releaseHoop h inst res epoch x0) := by
  fun_induction State.releaseHoop <;> grind [Beside, State.setSc_beside, State.retire_beside]

theorem State.hoopDecide_beside (s : State) (h : Nat) (cause : Option Nat) (field epoch : Nat) :
    Beside s (s.hoopDecide h cause field epoch) := by
  unfold State.hoopDecide
  grind [Beside, State.setRg_beside, State.enginesDecided_beside, State.setHoop_beside, State.setHoopSt_beside,
    State.hoopOpen_beside, State.releaseHoop_beside]

theorem State.sendAborts_beside (s : State) (h inst : Nat) (x0 : List Nat) :
    Beside s (s.sendAborts h inst x0) := by
  fun_induction State.sendAborts <;> grind [Beside, State.sendFrame_beside]

theorem State.hoopAbort_beside (s : State) (h cause : Nat) :
    Beside s (s.hoopAbort h cause) := by
  unfold State.hoopAbort
  grind [Beside, State.setHoop_beside, State.hoopDecide_beside, State.sendAborts_beside]

theorem State.hoopStop_beside (s : State) :
    Beside s (s.hoopStop) := by
  unfold State.hoopStop
  grind [Beside, foldl_beside, State.hoopAbort_beside]

theorem State.caveGive_beside (s : State) (m : Nat) :
    Beside s (s.caveGive m) := by
  unfold State.caveGive
  grind [Beside, State.setFld_beside]

theorem State.respond_beside (s : State) (typ node tag : Nat) (err : Bool) (bs : List Nat) :
    Beside s (s.respond typ node tag err bs) := by
  unfold State.respond
  grind [Beside, State.sendFlit_beside]

theorem State.serveWr_beside (s : State) (w : HeldWr) :
    Beside s (s.serveWr w) := by
  unfold State.serveWr
  grind [Beside, State.memWrite_beside, State.respond_beside]

theorem State.serveHeld_beside (s : State) :
    Beside s (s.serveHeld) := by
  unfold State.serveHeld
  grind [Beside, foldl_beside, State.serveWr_beside]

theorem scrambleEntry_beside (m e map : Nat) (s : State) (i : Nat) :
    Beside s (scrambleEntry m e map s i) := by
  unfold scrambleEntry
  grind [Beside, State.scramble_beside]

theorem State.pressUndefined_beside (s : State) (m e : Nat) :
    Beside s (s.pressUndefined m e) := by
  unfold State.pressUndefined
  dsimp only
  split
  · exact Beside.refl s
  · exact (foldl_beside _ _ _ fun z _ => foldl_beside _ _ z fun z _ => scrambleEntry_beside _ _ _ z _).trans
      (State.scramble_beside _ _ _)

theorem State.pressStopped_beside (s : State) (m e : Nat) :
    Beside s (s.pressStopped m e) := by
  unfold State.pressStopped
  grind [Beside, State.setFld_beside, State.setPrState_beside, State.pressUndefined_beside]

theorem State.vatClear_beside (s : State) (x : Nat) :
    Beside s (s.vatClear x) := by
  unfold State.vatClear
  grind [Beside, State.setFld_beside, State.dropWait_beside, State.setVat_beside]

theorem State.vatStopped_beside (s : State) (x : Nat) :
    Beside s (s.vatStopped x) := by
  unfold State.vatStopped
  grind [Beside, foldl_beside, State.scramble_beside, State.vatClear_beside]

theorem State.stopVat_beside (s : State) (x : Nat) :
    Beside s (s.stopVat x) := by
  unfold State.stopVat
  grind [Beside, State.dropWait_beside, State.setVat_beside, State.vatStopped_beside]

theorem State.seqWithdraw_beside (s : State) (core : Nat) :
    Beside s (s.seqWithdraw core) := by
  unfold State.seqWithdraw
  grind [Beside, State.setSeq_beside, State.dropWaits_beside]

theorem State.teaStop_beside (s : State) (core : Nat) :
    Beside s (s.teaStop core) := by
  unfold State.teaStop
  grind [Beside, State.setTea_beside]

theorem State.stopCore_beside (s : State) (core : Nat) :
    Beside s (s.stopCore core) := by
  unfold State.stopCore
  grind [Beside, foldl_beside, State.setRg_beside, State.setSeqState_beside, State.setArr_beside, State.setVec_beside,
    State.seqWithdraw_beside, State.teaStop_beside]

theorem State.rennetStop_beside (s : State) (m e : Nat) :
    Beside s (s.rennetStop m e) := by
  unfold State.rennetStop
  grind [Beside, State.scramble_beside, State.dropWait_beside, State.setRenState_beside]

theorem State.pressStop_beside (s : State) (m e : Nat) :
    Beside s (s.pressStop m e) := by
  unfold State.pressStop
  grind [Beside, State.dropWait_beside, State.pressUndefined_beside, State.pressStopped_beside]

theorem State.stopEngines_beside (s : State) :
    Beside s (s.stopEngines) := by
  unfold State.stopEngines
  grind [Beside, foldl_beside, State.rennetStop_beside, State.pressStop_beside]

theorem State.stopVats_beside (s : State) :
    Beside s (s.stopVats) := by
  unfold State.stopVats
  grind [Beside, foldl_beside, State.stopVat_beside]

theorem State.caveEnd_beside (s : State) :
    Beside s (s.caveEnd) := by
  unfold State.caveEnd
  grind [Beside, foldl_beside, State.caveGive_beside, State.serveHeld_beside]

theorem State.caveAbandon_beside (s : State) :
    Beside s (s.caveAbandon) := by
  unfold State.caveAbandon
  grind [Beside, State.setG_beside, State.bump_beside, State.caveEnd_beside]

theorem State.slotsUndefined_beside (s : State) (core : Nat) :
    Beside s (s.slotsUndefined core) := by
  unfold State.slotsUndefined
  grind [Beside, State.scramble_beside]

theorem State.stopPeers_beside (s : State) :
    Beside s (s.stopPeers) := by
  unfold State.stopPeers
  grind [Beside, foldl_beside, State.sendReg_beside]

/-! ### The stop of a job -/

/-- A DMA channel under a stop (R190): it has faulted, or is STOPPED with nothing held, or finishes the burst of the one descriptor
that it holds. -/
def DmaS.Stops (x : DmaS) : Prop :=
  x.mode = 2 ∨ (x.mode = 3 ∧ x.queue = []) ∨ (x.mode = 4 ∧ ∃ q, x.queue = [q] ∧ q.done < (dmaFields q.word).total)

theorem DmaS.stop_stops (x : DmaS) : x.stop.Stops := by
  unfold DmaS.stop
  split
  · next hfault => exact .inl hfault
  · split
    · next q _ =>
      split
      · next hburst => exact .inr (.inr ⟨rfl, q, rfl, hburst⟩)
      · exact .inr (.inl ⟨rfl, rfl⟩)
    · exact .inr (.inl ⟨rfl, rfl⟩)

theorem State.stopDmas_stops (s : State) : ∀ e ∈ s.stopDmas.dmas, e.2.Stops := by
  intro e he
  simp only [State.stopDmas, List.mem_flatMap, List.mem_map] at he
  obtain ⟨d, -, ch, -, rfl⟩ := he
  exact DmaS.stop_stops _

/-- A stop that nobody waits for ends without a module reset. -/
theorem State.stopDone_unasked {s : State} (h : s.stopReply = []) : Keeps s s.stopDone ∧ Beside s s.stopDone := by
  have hk := foldl_keeps State.slotsUndefined s.coresInUse s State.slotsUndefined_keeps
  have hb := foldl_beside State.slotsUndefined s.coresInUse s State.slotsUndefined_beside
  unfold State.stopDone
  rw [h]
  exact ⟨⟨hk.1, hk.2⟩, hb.1, h.symm⟩

theorem State.stopCheck_unasked {s : State} (h : s.stopReply = []) : Keeps s s.stopCheck ∧ Beside s s.stopCheck := by
  unfold State.stopCheck
  split
  · exact State.stopDone_unasked h
  · exact ⟨Keeps.refl s, Beside.refl s⟩

/-- A stop that nobody waits for: normal service gives way to recovery mode, and every DMA channel stops (R190, R431). -/
theorem State.stopJob_unasked {s : State} (h : s.stopReply = []) :
    s.stopJob.svc = (if s.svc = .normal then .recovery else s.svc) ∧ ∀ e ∈ s.stopJob.dmas, e.2.Stops := by
  unfold State.stopJob
  extract_lets svc job s1 s2 s3
  have hk : Keeps s1 s3 := s1.caveAbandon_keeps.trans (foldl_keeps _ _ _ State.stopCore_keeps)
  have hb : Beside s1 s3 := s1.caveAbandon_beside.trans (foldl_beside _ _ _ State.stopCore_beside)
  have hrest (z : State) :
      Keeps z z.stopEngines.stopVats.hoopStop.stopPeers ∧ Beside z z.stopEngines.stopVats.hoopStop.stopPeers :=
    ⟨z.stopEngines_keeps.trans <| (State.stopVats_keeps _).trans <| (State.hoopStop_keeps _).trans (State.stopPeers_keeps _),
      z.stopEngines_beside.trans <| (State.stopVats_beside _).trans <| (State.hoopStop_beside _).trans (State.stopPeers_beside _)⟩
  obtain ⟨hk2, hb2⟩ := hrest s3.stopDmas
  obtain ⟨hk3, hb3⟩ := State.stopCheck_unasked (hb2.2.trans (hb.2.trans h))
  have hsvc := congrArg Still.svc ((hk.trans (s3.stopDmas_keeps.trans (hk2.trans hk3))).1)
  exact ⟨hsvc, by rw [(hb2.trans hb3).1]; exact s3.stopDmas_stops⟩

/-! ### The start of a sequencer -/

theorem State.seqGo_refused {s : State} {core : Nat} (hjob : s.loaded = true) (hsvc : s.svc ≠ .normal) :
    s.seqGo core = (s, false) := by
  simp [State.seqGo, hjob, hsvc]

/-- SEQ_STATUS of a sequencer that starts: STATE is RUN, HOLD and bit 10 are clear. -/
def runStatus (v : Nat) : Nat := setBits (setBits (setBits v 0 3 1) 12 4 0) 10 1 0

theorem bits_runStatus (v : Nat) : bits (runStatus v % 2 ^ 32) 0 3 = 1 := by
  simp only [runStatus, bits, setBits]
  omega

section

variable (s : State) (core : Nat)

/-- The registers of a sequencer that starts (R137). -/
def State.seqAtStart : State :=
  (s.setRg .SEQ_PC (core / 16) (core % 16) 0 (s.rg .SEQ_START (core / 16) (core % 16) 0)).setRg .SEQ_STATUS
    (core / 16) (core % 16) 0 (runStatus (s.rg .SEQ_STATUS (core / 16) (core % 16) 0))

/-- A sequencer that has started: of what it held it keeps the instances it has used (R220). -/
def State.seqStarted : State :=
  (s.seqAtStart core).setSeq core { SeqS.init with hoopUse := (s.seq core).hoopUse }

theorem State.seqStarted_rg (r : Reg) (die i j : Nat) : (s.seqStarted core).rg r die i j = (s.seqAtStart core).rg r die i j :=
  State.rg_of_regs (State.setSeq_regs ..) r die i j

theorem State.seqStarted_seqState : (s.seqStarted core).seqState core = 1 := by
  rw [State.seqState, State.fld, s.seqStarted_rg, State.seqAtStart, State.rg_setRg, if_pos rfl]
  exact bits_runStatus _

theorem State.seqStarted_pc (hstart : s.rg .SEQ_START (core / 16) (core % 16) 0 ≤ 16383) :
    (s.seqStarted core).rg .SEQ_PC (core / 16) (core % 16) 0 = s.rg .SEQ_START (core / 16) (core % 16) 0 := by
  rw [s.seqStarted_rg, State.seqAtStart, State.rg_setRg_ne _ _ (by simp [loc, Reg.row]), State.rg_setRg, if_pos rfl]
  exact Nat.mod_eq_of_lt (Nat.lt_of_le_of_lt hstart (by decide))

theorem State.seqStarted_hoopUse : ((s.seqStarted core).seq core).hoopUse = (s.seq core).hoopUse := by
  rw [State.seqStarted, State.seq_setSeq, if_pos rfl]

end

/-- A sequencer at rest starts, outside a job or in normal service (R137, R431). -/
theorem State.seqGo_starts {s : State} {core : Nat} (hrest : s.seqAtRest core = true) (hsvc : s.loaded = true → s.svc = .normal) :
    ∃ job lt, s.seqGo core = ({ s.seqStarted core with job := job, jobWdLt := lt }, true) := by
  have hgo : (!s.seqAtRest core || (s.loaded && s.svc != .normal)) = false := by
    simpa [hrest] using hsvc
  unfold State.seqGo
  extract_lets d u v s1 s2
  rw [if_neg (by simp [hgo])]
  split
  · exact ⟨_, _, rfl⟩
  · exact ⟨_, _, rfl⟩

/-- SEQ_CTRL.GO that reaches its rules is answered by whether the sequencer starts. -/
theorem execSeqCtrlGo_reaches {s t : State} {w : Writer} {c : CoreId} {ok : Bool}
    (h : s.reaches w .SEQ_CTRL c.die.val c.core.val 0 1 = true) (hgo : s.seqGo c.ix = (t, ok)) :
    execSeqCtrlGo w c s = .next (t.answer (if ok then .ok else .accessError)) := by
  have hact : s.regAct w .SEQ_CTRL c.die.val c.core.val 0 1 = wans (s.seqGo c.ix) := rfl
  rw [execSeqCtrlGo, State.writeReg, s.busWrite_reaches _ _ _ _ _ _ h, hact, hgo, State.wrote_wans]

/-! ### Watchdogs and the rows of a stop -/

theorem State.hsExpired_iff (s : State) (ch : Chan) : s.hsExpired ch = true ↔
    s.chanAtWork ch = true ∧ 1 ≤ s.waited ch ∧ s.rg .DIE_HS_WD ch.die.code 0 0 ≤ s.waited ch := by
  simp [State.hsExpired, and_assoc]

/-- The watchdog of an array concerns the part at work. -/
theorem State.arrWatchdog_part (s : State) (c : CoreId) (a : Fin 4) {part : Option Nat} {p : Nat} (h : part = some p)
    (cause row entered : Nat) : s.arrWatchdog c a part cause row entered = s.arrFault c.ix a.val p cause row entered := by
  rw [h]
  rfl

section

variable {s : State} {f : FaultRec} {rest : List FaultRec} (hq : s.faultQ = f :: rest)
include hq

theorem execModuleStop_dropped (hstop : s.canStop = false) : execModuleStop s = .next { s with faultQ := rest } := by
  have hcan : ({ s with faultQ := rest } : State).canStop = false := hstop
  simp [execModuleStop, hq, hcan]

theorem execModuleStop_stops_job (hstop : s.canStop = true) :
    execModuleStop s = .next (((({ s with faultQ := rest } : State).faultClass f).1.modFault f.die
      (({ s with faultQ := rest } : State).faultClass f).2).stopJob) := by
  have hcan : ({ s with faultQ := rest } : State).canStop = true := hstop
  simp [execModuleStop, hq, hcan]

end

end Sys2Proof.Machine

namespace Sys2Proof.Proofs

open Sys2Proof.Machine

/-- Settles O45: each clause is the rule of its row; what a stop leaves is `State.stopJob_unasked`, and what SEQ_CTRL.GO starts is
`State.seqGo_starts`. -/
theorem stopRows : Obligations.StopRows := by
  intro s
  refine ⟨fun ch => ?watchdog, fun d ch => rfl,
    fun c => ⟨rfl, ?feed, ?load, ?drain, fun row op => ⟨rfl, rfl⟩, rfl, ?stopped, ?go, ?refused⟩,
    fun m e => rfl, fun m e => rfl, ?vat, ?moduleStop, State.stopJob_unasked, ?timeout, ?jobWatchdog⟩
  case watchdog =>
    simp only [← State.hsExpired_iff]
    rfl
  case feed => exact fun a row p hp => s.arrWatchdog_part c a hp 0x04 row.val row.val
  case load => exact fun a row p hp => s.arrWatchdog_part c a hp 0x05 row.val 0
  case drain => exact fun a row p hp => s.arrWatchdog_part c a hp 0x06 row.val (row.val + 1)
  case stopped => exact fun hst hunits htea => if_pos ⟨hst, hunits, htea⟩
  case go =>
    intro w h hrest hsvc hstart
    obtain ⟨job, lt, hgo⟩ := State.seqGo_starts hrest hsvc
    have hpc := s.seqStarted_pc c.ix (by rwa [c.ix_div, c.ix_mod])
    rw [c.ix_div, c.ix_mod] at hpc
    exact ⟨_, execSeqCtrlGo_reaches h hgo, s.seqStarted_seqState c.ix, hpc, rfl, rfl, s.seqStarted_hoopUse c.ix⟩
  case refused => exact fun w h hjob hsvc => execSeqCtrlGo_reaches h (State.seqGo_refused hjob hsvc)
  case vat =>
    intro x v vs hactive
    change s.vatFault x.val 0x0B (((s.vat x.val).active.head?.map fun c => c.desc.cid).getD 0) 0 = _
    rw [hactive]
    rfl
  case moduleStop => exact fun f rest hq => ⟨execModuleStop_dropped hq, execModuleStop_stops_job hq⟩
  case timeout => exact fun hstop hlt => if_pos ⟨hstop, hlt⟩
  case jobWatchdog => exact fun hrun hlt => if_pos ⟨hrun, hlt⟩

end Sys2Proof.Proofs

/-!
SUPPORT. The start and the end of a vector command: what is latched (R105), and how a command whose rows run without an error
leaves the queue, whole or stopped at a row (R128, R129).
-/

namespace Sys2Proof.Machine

/-- The first command not yet started latches, where the engine has no fault, no stop request and no hazard (R105, R116). -/
theorem State.vecStart_latches {s : State} {core : Nat} {d : VecCmd} {before rest : List VecCmd}
    (hfault : s.vecFaulted core = false) (hstop : (s.vec core).stopAt = false) (hheld : s.vecHeld core = false)
    (hsplit : splitStarted (s.vec core).queue = (before, some (d, rest))) :
    s.vecStart core = s.setVec core { s.vec core with queue := before ++ [s.vecLatch core d] ++ rest } := by
  simp [State.vecStart, hfault, hstop, hheld, hsplit]

/-- The rows of a command that run: all, or those up to the row in which a stop request takes effect (R129). -/
def VecRun.rowsUntil (v : VecRun) : Option Nat → Nat
  | none => v.rows
  | some r => Nat.min (r + 1) v.rows

theorem VecRun.rowsUntil_lt_iff (v : VecRun) (r : Nat) : v.rowsUntil (some r) < v.rows ↔ r + 1 < v.rows := by
  change min (r + 1) v.rows < v.rows ↔ _
  omega

section

variable (s : State) (core : Nat)

/-- The engine after a command's rows: flags raised, active elements counted, and `queue` left of its commands. -/
def State.vecLeaves (queue : List VecCmd) (asked : Bool) (act fl : Nat) : State :=
  let t := (s.raise (core / 16) (core % 16) fl).bump .VE_ELEMS (core / 16) (core % 16) 0 act
  t.setVec core { t.vec core with queue := queue, stopAt := asked }

/-- A command that completed counts, and signals its semaphore where SIG is set (R128). -/
def State.vecCounts (f : VecF) : State :=
  let t := s.bump .VE_CMDS (core / 16) (core % 16) 0 1
  if f.sig then t.addSem (core / 16) f.sem 1 else t

end

section

variable {s t : State} {core : Nat} {d : VecCmd} {rest : List VecCmd} {mc act fl val : Nat}
  (hq : (s.vec core).queue = d :: rest) (hstarted : d.started = true)

include hq hstarted

/-- The oldest command, started, ends once its rows have run: where the stop left rows over it delivers a summary word that says
so, else it counts as well (R128, R129). -/
theorem State.vecFinish_ends (stop : Option Nat)
    (hrows : s.freshVal.2.vecRows core (VecRun.of d s.freshCtr) ((VecRun.of d s.freshCtr).rowsUntil stop) 0 (0, 0, 0, 0) =
      (t, (mc, act, fl, val), none)) :
    let v := VecRun.of d s.freshCtr
    let early := decide (v.rowsUntil stop < v.rows)
    let u := (t.vecLeaves core rest (stop.isSome && !rest.isEmpty) act fl).deliverSummary core d
      (summaryWord val mc act fl v.f.smen early)
    s.vecFinish core stop none = if early then u else u.vecCounts core v.f := by
  cases stop
  all_goals
    rw [VecRun.rowsUntil] at hrows
    simp only [State.vecFinish, hq, hstarted, hrows]
    rfl

/-- Without a stop request every row runs and the command completes. -/
theorem State.vecFinish_completes
    (hrows : s.freshVal.2.vecRows core (VecRun.of d s.freshCtr) (VecRun.of d s.freshCtr).rows 0 (0, 0, 0, 0) =
      (t, (mc, act, fl, val), none)) :
    s.vecFinish core none none = ((t.vecLeaves core rest false act fl).deliverSummary core d
      (summaryWord val mc act fl (VecRun.of d s.freshCtr).f.smen false)).vecCounts core (VecRun.of d s.freshCtr).f := by
  have hend := State.vecFinish_ends hq hstarted none hrows
  simpa [VecRun.rowsUntil] using hend

variable {r : Nat}
  (hrows : s.freshVal.2.vecRows core (VecRun.of d s.freshCtr) (Nat.min (r + 1) (VecRun.of d s.freshCtr).rows) 0 (0, 0, 0, 0) =
    (t, (mc, act, fl, val), none))

include hrows

/-- A command stopped in a row before its last delivers a summary word with bit 13 set, and neither counts nor signals. -/
theorem State.vecFinish_stopped (hleft : r + 1 < (VecRun.of d s.freshCtr).rows) :
    s.vecFinish core (some r) none = (t.vecLeaves core rest (!rest.isEmpty) act fl).deliverSummary core d
      (summaryWord val mc act fl (VecRun.of d s.freshCtr).f.smen true) := by
  have hend := State.vecFinish_ends hq hstarted (some r) hrows
  simpa [VecRun.rowsUntil_lt_iff, hleft] using hend

/-- A stop request in a command's last row lets it complete. -/
theorem State.vecFinish_completes_asked (hlast : (VecRun.of d s.freshCtr).rows ≤ r + 1) :
    s.vecFinish core (some r) none = ((t.vecLeaves core rest (!rest.isEmpty) act fl).deliverSummary core d
      (summaryWord val mc act fl (VecRun.of d s.freshCtr).f.smen false)).vecCounts core (VecRun.of d s.freshCtr).f := by
  have hend := State.vecFinish_ends hq hstarted (some r) hrows
  simpa [VecRun.rowsUntil_lt_iff, Nat.not_lt.2 hlast] using hend

end

theorem execVecCommandComplete_unasked {s : State} {c : CoreId} (hstop : (s.vec c.ix).stopAt = false) :
    execVecCommandComplete c none s = .next (s.vecFinish c.ix none none) := by
  simp [execVecCommandComplete, hstop]

theorem execVecStopAtRow_asked {s : State} {c : CoreId} (hstop : (s.vec c.ix).stopAt = true) (n : Fin 4096) :
    execVecStopAtRow c n s = .next (s.vecFinish c.ix (some n.val) none) := if_pos hstop

end Sys2Proof.Machine

namespace Sys2Proof.Proofs

open Sys2Proof.Machine

/-- Settles O17: the start is `State.vecStart_latches`; a command whose rows have run completes, or stops at a row, as
`State.vecFinish_ends` says. -/
theorem vectorCommandsRun : Obligations.VectorCommandsRun := by
  intro s c d rest
  refine ⟨fun before hfault hstop hheld hsplit =>
    congrArg Host.Outcome.next (State.vecStart_latches hfault hstop hheld hsplit), fun hq hstarted => ⟨?complete, ?stop⟩⟩
  case complete =>
    intro t mc act fl val hstop hrows
    rw [← c.ix_div, ← c.ix_mod]
    exact (execVecCommandComplete_unasked hstop).trans (congrArg _ (State.vecFinish_completes hq hstarted hrows))
  case stop =>
    intro n t mc act fl val hstop hrows
    rw [← c.ix_div, ← c.ix_mod]
    exact ⟨fun hleft => (execVecStopAtRow_asked hstop n).trans (congrArg _ (State.vecFinish_stopped hq hstarted hrows hleft)),
      fun hlast => (execVecStopAtRow_asked hstop n).trans (congrArg _ (State.vecFinish_completes_asked hq hstarted hrows hlast))⟩

end Sys2Proof.Proofs

/-!
SUPPORT. The functions of SCL.ALU on the values of 64-bit words (R144).
-/

namespace Sys2Proof.Machine

theorem toSigned_toNat (x : BitVec 64) : toSigned 64 x.toNat = x.toInt := by
  rw [BitVec.toInt_eq_toNat_cond]
  simp only [toSigned, Nat.mod_eq_of_lt x.isLt]
  split <;> split <;> omega

theorem ofNat_ofSigned (w : Nat) (i : Int) : BitVec.ofNat w (ofSigned w i) = BitVec.ofInt w i := by
  apply BitVec.eq_of_toNat_eq
  rw [BitVec.toNat_ofNat, BitVec.toNat_ofInt, ofSigned]
  have hlt := Int.emod_lt_of_pos i (Int.natCast_pos.2 (Nat.two_pow_pos w))
  exact Nat.mod_eq_of_lt (by omega)

theorem ofNat_b2n (w : Nat) (p : Prop) [Decidable p] : BitVec.ofNat w (b2n (decide p)) = if p then 1 else 0 := by
  by_cases h : p <;> simp [b2n, h]

theorem ofNat_ite_toNat {w : Nat} (p : Prop) [Decidable p] (x y : BitVec w) :
    BitVec.ofNat w (if p then x.toNat else y.toNat) = if p then x else y := by
  split <;> simp

theorem ofNat_mod_width (w n : Nat) : BitVec.ofNat w (n % 2 ^ w) = BitVec.ofNat w n :=
  BitVec.eq_of_toNat_eq (by simp)

end Sys2Proof.Machine

namespace Sys2Proof.Proofs

open Sys2Proof.Machine

/-- Settles O3: `aluFn` on the values of two words is, function by function, the operation on the words themselves
(`toSigned_toNat` for the signed ones). -/
theorem arithmeticFunctions : Obligations.ArithmeticFunctions := by
  intro x y f
  have hx := toSigned_toNat x
  have hy := toSigned_toNat y
  have hf (fn : Nat) : f fn = BitVec.ofNat 64 (aluFn fn x.toNat y.toNat) := rfl
  simp only [hf, aluFn, ofNat_mod_width]
  refine ⟨?add, ?sub, ?mul, ?and, ?or, ?xor, ?shl, ?shr, ?sar, ?mins, ?maxs, ?minu, ?maxu, ?lts, ?ltu⟩
  case add => exact (BitVec.add_def x y).symm
  case sub => rw [BitVec.sub_def, Nat.mod_eq_of_lt y.isLt, Nat.add_comm]
  case mul => simp [BitVec.ofNat_mul]
  case and => simp [BitVec.ofNat_and]
  case or => simp [BitVec.ofNat_or]
  case xor => simp [BitVec.ofNat_xor]
  case shl => rfl
  case shr => rw [← BitVec.toNat_ushiftRight, BitVec.ofNat_toNat, BitVec.setWidth_eq]
  case sar => rw [hx, ofNat_ofSigned, BitVec.sshiftRight_eq]
  case mins | maxs => rw [hx, hy, ofNat_ite_toNat]
  case minu => exact ofNat_ite_toNat _ x y
  case maxu => exact ofNat_ite_toNat _ y x
  case lts => rw [hx, hy, ofNat_b2n]
  case ltu => exact ofNat_b2n 64 _

end Sys2Proof.Proofs

/-!
SUPPORT. What a sequencer reads after its own operations: a scalar register written (R135), STATE and HOLD set, a command retired
(R138) or ended by a fault (R159).
-/

namespace Sys2Proof.Machine

/-! ### The status word of a sequencer -/

/-- STATE after STATE and HOLD are set (Table 5.10). -/
theorem bits_state_of_set (v st hold : Nat) : bits (setBits (setBits v 0 3 st) 12 4 hold % 2 ^ 32) 0 3 = st % 8 := by
  simp only [bits, setBits]
  omega

/-- HOLD after the same. -/
theorem bits_hold_of_set (v st hold : Nat) : bits (setBits (setBits v 0 3 st) 12 4 hold % 2 ^ 32) 12 4 = hold % 16 := by
  simp only [bits, setBits]
  omega

section

variable (s : State)

/-- A register reads what was stored, if that fits its width. -/
theorem State.rg_setRg_same {r : Reg} {die i j v : Nat} (hv : v ≤ r.max) : (s.setRg r die i j v).rg r die i j = v := by
  rw [State.rg_setRg, if_pos rfl]
  unfold Reg.max at hv
  split at hv
  · next h => rw [if_pos h, Nat.mod_eq_of_lt (by omega)]
  · next h => rw [if_neg h, Nat.mod_eq_of_lt (by omega)]

/-- A counter that is advanced reads its sum, or its largest value. -/
theorem State.rg_bump_same (r : Reg) (die i j n : Nat) :
    (s.bump r die i j n).rg r die i j = Nat.min (s.rg r die i j + n) r.max :=
  s.rg_setRg_same (Nat.min_le_right _ _)

/-- A register outside the listed locations reads as before. -/
theorem SameRegsBut.rg {ls : List Nat} {s t : State} (h : SameRegsBut ls s t) {r : Reg} {die i j : Nat}
    (hr : loc r die i j ∉ ls) : t.rg r die i j = s.rg r die i j := congrArg BitVec.toNat (h _ hr)

theorem SameRegsBut.mono {ls ms : List Nat} {s t : State} (h : SameRegsBut ls s t) (hsub : ls ⊆ ms) : SameRegsBut ms s t :=
  fun l hl => h l fun hmem => hl (hsub hmem)

theorem State.setRg_regsOnly (r : Reg) (die i j v : Nat) : RegsOnly s (s.setRg r die i j v) := rfl

theorem RegsOnly.trans {s t u : State} (h : RegsOnly s t) (k : RegsOnly t u) : RegsOnly s u := by
  have hts : { t with regs := u.regs } = { s with regs := u.regs } := by rw [h]
  exact Eq.trans k hts

variable (core : Nat)

theorem State.rg_setSeq (q : SeqS) (r : Reg) (die i j : Nat) : (s.setSeq core q).rg r die i j = s.rg r die i j :=
  State.rg_of_regs (State.setSeq_regs ..) r die i j

theorem State.seqState_setSeqState (st hold : Nat) : (s.setSeqState core st hold).seqState core = st % 8 := by
  rw [State.seqState, State.fld, State.setSeqState, State.rg_setRg, if_pos rfl]
  exact bits_state_of_set _ st hold

theorem State.hold_setSeqState (st hold : Nat) :
    (s.setSeqState core st hold).fld .SEQ_STATUS (core / 16) (core % 16) 0 12 4 = hold % 16 := by
  rw [State.fld, State.setSeqState, State.rg_setRg, if_pos rfl]
  exact bits_hold_of_set _ st hold

/-! ### Scalar registers -/

theorem State.sc_zero : s.sc core 0 = 0 := if_pos rfl

theorem State.setSc_zero (v : Nat) : s.setSc core 0 v = s := if_pos rfl

theorem State.setSc_pos {i : Nat} (hi : i ≠ 0) (v : Nat) :
    s.setSc core i v = s.setRg .SEQ_SC (core / 16) (core % 16) i (v % 2 ^ 64) := if_neg hi

/-- Scalar register SCi reads what was written to it, unless it is SC0; the others read as before. -/
theorem State.sc_setSc {i j v : Nat} (hv : v < 2 ^ 64) :
    (s.setSc core i v).sc core j = if i = j ∧ i ≠ 0 then v else s.sc core j := by
  by_cases hi : i = 0
  · rw [hi, State.setSc_zero, if_neg (by omega)]
  by_cases hj : j = 0
  · rw [hj, State.sc_zero, State.sc_zero, if_neg (by omega)]
  have hloc : loc .SEQ_SC (core / 16) (core % 16) j = loc .SEQ_SC (core / 16) (core % 16) i ↔ i = j := by
    simp only [loc, Reg.row]
    omega
  simp only [s.setSc_pos core hi, State.sc, if_neg hj, State.rg_setRg, hloc, hi, ne_eq, not_false_eq_true, and_true,
    Nat.mod_eq_of_lt hv]
  rfl

theorem State.setSc_sameRegsBut (i v : Nat) : SameRegsBut [loc .SEQ_SC (core / 16) (core % 16) i] s (s.setSc core i v) := by
  by_cases hi : i = 0
  · rw [hi, State.setSc_zero]
    exact fun _ _ => rfl
  · rw [s.setSc_pos core hi]
    exact s.setRg_sameRegsBut _ _ _ _ _

theorem State.setSc_regsOnly (i v : Nat) : RegsOnly s (s.setSc core i v) := by
  by_cases hi : i = 0
  · rw [hi, State.setSc_zero]
    rfl
  · rw [s.setSc_pos core hi]
    rfl

/-! ### A command fault in its parts -/

/-- The first fault of a sequencer is recorded (R159). -/
def State.seqRecord (cause unit : Nat) : State :=
  if bit (s.rg .SEQ_FAULT (core / 16) (core % 16) 0) 63 then s
  else s.setRg .SEQ_FAULT (core / 16) (core % 16) 0 (2 ^ 63 + cause * 2 ^ 40 + unit * 2 ^ 36 + s.pc core)

/-- STATE FAULT, HOLD 0 and the flag of Table 5.10. -/
def faultStatus (v : Nat) : Nat := setBits (setBits (setBits v 0 3 4) 12 4 0) 9 1 1

theorem bits_faultStatus (v : Nat) : bits (faultStatus v % 2 ^ 32) 0 3 = 4 ∧ bits (faultStatus v % 2 ^ 32) 12 4 = 0 ∧
    bits (faultStatus v % 2 ^ 32) 9 1 = 1 := by
  simp only [faultStatus, bits, setBits]
  omega

/-- The sequencer is in FAULT. -/
def State.seqFails : State :=
  s.setRg .SEQ_STATUS (core / 16) (core % 16) 0 (faultStatus (s.rg .SEQ_STATUS (core / 16) (core % 16) 0))

/-- The sequencer waits for nothing. -/
def State.seqUnwaits : State :=
  ({ s with
    semWaits := s.semWaits.filter fun w => w.who != Waiter.seq core
    barHeld := s.barHeld.filter fun h => h.core != core } : State).setSeq core
      { s.seq core with waitLt := 0, barWait := none, hoopWait := none, cload := 0, sigSent := none }

/-- A fault records, stops the sequencer, ends its waits and reports. -/
theorem State.seqFaultCore_eq (cause unit : Nat) : s.seqFaultCore core cause unit =
    (((s.seqRecord core cause unit).seqFails core).seqUnwaits core).dieFault (core / 16) (0x10 + core % 16) unit cause := by
  unfold State.seqFaultCore
  extract_lets d u s1 v s2 s3 s4
  have h1 : s.seqRecord core cause unit = s1 := rfl
  have h2 : s1.seqFails core = s2 := rfl
  rw [h1, h2]
  clear_value s2
  rfl

theorem State.seqRecord_sameRegsBut (cause unit : Nat) :
    SameRegsBut [loc .SEQ_FAULT (core / 16) (core % 16) 0] s (s.seqRecord core cause unit) :=
  SameRegsBut.ite (s.setRg_sameRegsBut _ _ _ _ _)

/-- The record changes registers only. -/
theorem State.seqRecord_eq (cause unit : Nat) :
    s.seqRecord core cause unit = { s with regs := (s.seqRecord core cause unit).regs } := by
  unfold State.seqRecord
  split <;> rfl

theorem State.rg_seqUnwaits (r : Reg) (die i j : Nat) : (s.seqUnwaits core).rg r die i j = s.rg r die i j :=
  State.rg_setSeq ..

theorem State.seqRecord_fault {cause unit : Nat} (hc : cause < 256) (hu : unit < 16) (hpc : s.pc core ≤ 16383) :
    (s.seqRecord core cause unit).rg .SEQ_FAULT (core / 16) (core % 16) 0 =
      if bit (s.rg .SEQ_FAULT (core / 16) (core % 16) 0) 63 then s.rg .SEQ_FAULT (core / 16) (core % 16) 0
      else 2 ^ 63 + cause * 2 ^ 40 + unit * 2 ^ 36 + s.pc core := by
  have hfits : 2 ^ 63 + cause * 2 ^ 40 + unit * 2 ^ 36 + s.pc core ≤ Reg.SEQ_FAULT.max := by
    rw [show Reg.SEQ_FAULT.max = 2 ^ 64 - 1 from rfl]
    omega
  unfold State.seqRecord
  generalize 2 ^ 63 + cause * 2 ^ 40 + unit * 2 ^ 36 + s.pc core = v at hfits ⊢
  split
  · rfl
  · exact s.rg_setRg_same hfits

/-- The first fault of a die is recorded (R484). -/
def State.dieRecord (die block unit cause : Nat) : State :=
  if bit (s.rg .DIE_FAULT die 0 0) 63 then s
  else s.setRg .DIE_FAULT die 0 0 (2 ^ 63 + block * 2 ^ 40 + unit * 2 ^ 32 + cause)

/-- A unit fault records and is passed on (R395). -/
theorem State.dieFault_eq (die block unit cause : Nat) : s.dieFault die block unit cause =
    { s.dieRecord die block unit cause with
      faultQ := (s.dieRecord die block unit cause).faultQ ++ [⟨die, block, unit, cause⟩]
      outbox := (s.dieRecord die block unit cause).outbox ++ (s.dieRecord die block unit cause).faultIrqs } := rfl

/-- The record changes registers only. -/
theorem State.dieRecord_eq (die block unit cause : Nat) :
    s.dieRecord die block unit cause = { s with regs := (s.dieRecord die block unit cause).regs } := by
  unfold State.dieRecord
  split <;> rfl

theorem State.dieFault_rg_ne {r : Reg} {die i j d block unit cause : Nat} (h : loc r d i j ≠ loc .DIE_FAULT die 0 0) :
    (s.dieFault die block unit cause).rg r d i j = s.rg r d i j :=
  SameRegsBut.rg (s.dieFault_sameRegsBut die block unit cause) (by simpa using h)

theorem State.dieFault_record {die block unit cause : Nat} (hb : block < 256) (hu : unit < 256) (hc : cause < 256) :
    (s.dieFault die block unit cause).rg .DIE_FAULT die 0 0 =
      if bit (s.rg .DIE_FAULT die 0 0) 63 then s.rg .DIE_FAULT die 0 0
      else 2 ^ 63 + block * 2 ^ 40 + unit * 2 ^ 32 + cause := by
  have hfits : 2 ^ 63 + block * 2 ^ 40 + unit * 2 ^ 32 + cause ≤ Reg.DIE_FAULT.max := by
    rw [show Reg.DIE_FAULT.max = 2 ^ 64 - 1 from rfl]
    omega
  rw [State.dieFault_eq]
  change (s.dieRecord die block unit cause).rg _ _ _ _ = _
  unfold State.dieRecord
  generalize 2 ^ 63 + block * 2 ^ 40 + unit * 2 ^ 32 + cause = v at hfits ⊢
  split
  · rfl
  · exact s.rg_setRg_same hfits

theorem State.dieFault_frame (die block unit cause : Nat) :
    let t := s.dieFault die block unit cause
    t.seqs = s.seqs ∧ t.semWaits = s.semWaits ∧ t.faultQ = s.faultQ ++ [⟨die, block, unit, cause⟩] := by
  rw [State.dieFault_eq, State.dieRecord_eq]
  exact ⟨rfl, rfl, rfl⟩

theorem State.rg_seqFaultCore_eq_seqRecord (cause unit : Nat) {r : Reg} {die i j : Nat}
    (hd : loc r die i j ≠ loc .DIE_FAULT (core / 16) 0 0)
    (hst : loc r die i j ≠ loc .SEQ_STATUS (core / 16) (core % 16) 0) :
    (s.seqFaultCore core cause unit).rg r die i j = (s.seqRecord core cause unit).rg r die i j := by
  rw [State.seqFaultCore_eq, State.dieFault_rg_ne _ hd, State.rg_seqUnwaits]
  exact State.rg_setRg_ne _ _ hst

theorem State.seqFaultCore_status (cause unit : Nat) :
    (s.seqFaultCore core cause unit).rg .SEQ_STATUS (core / 16) (core % 16) 0 =
      faultStatus (s.rg .SEQ_STATUS (core / 16) (core % 16) 0) % 2 ^ 32 := by
  have hrec : (s.seqRecord core cause unit).rg .SEQ_STATUS (core / 16) (core % 16) 0 =
      s.rg .SEQ_STATUS (core / 16) (core % 16) 0 :=
    (s.seqRecord_sameRegsBut core cause unit).rg (by simp [loc, Reg.row])
  rw [State.seqFaultCore_eq, State.dieFault_rg_ne _ (by simp only [ne_eq, loc, Reg.row]; omega),
    State.rg_seqUnwaits, State.seqFails, State.rg_setRg, if_pos rfl, hrec]
  rfl

theorem State.seqFaultCore_pc (cause unit : Nat) : (s.seqFaultCore core cause unit).pc core = s.pc core := by
  refine (s.seqFaultCore_sameRegsBut core cause unit).rg ?_
  simp only [List.mem_cons, List.not_mem_nil, or_false, loc, Reg.row]
  omega

theorem State.seqFaultCore_seqState (cause unit : Nat) : (s.seqFaultCore core cause unit).seqState core = 4 := by
  rw [State.seqState, State.fld, State.seqFaultCore_status]
  exact (bits_faultStatus _).1

theorem State.seqFaultCore_faultRecord {cause unit : Nat} (hc : cause < 256) (hu : unit < 16) (hpc : s.pc core ≤ 16383) :
    (s.seqFaultCore core cause unit).rg .SEQ_FAULT (core / 16) (core % 16) 0 =
      if bit (s.rg .SEQ_FAULT (core / 16) (core % 16) 0) 63 then s.rg .SEQ_FAULT (core / 16) (core % 16) 0
      else 2 ^ 63 + cause * 2 ^ 40 + unit * 2 ^ 36 + s.pc core := by
  rw [State.rg_seqFaultCore_eq_seqRecord _ _ _ _ (by simp only [loc, Reg.row]; omega) (by simp [loc, Reg.row])]
  exact s.seqRecord_fault core hc hu hpc

theorem State.seqFaultCore_dieRecord {cause unit : Nat} (hc : cause < 256) (hu : unit < 16) :
    (s.seqFaultCore core cause unit).rg .DIE_FAULT (core / 16) 0 0 =
      if bit (s.rg .DIE_FAULT (core / 16) 0 0) 63 then s.rg .DIE_FAULT (core / 16) 0 0
      else 2 ^ 63 + (0x10 + core % 16) * 2 ^ 40 + unit * 2 ^ 32 + cause := by
  have hrec : (((s.seqRecord core cause unit).seqFails core).seqUnwaits core).rg .DIE_FAULT (core / 16) 0 0 =
      s.rg .DIE_FAULT (core / 16) 0 0 := by
    rw [State.rg_seqUnwaits, State.seqFails, State.rg_setRg_ne _ _ (by simp only [loc, Reg.row]; omega)]
    exact (s.seqRecord_sameRegsBut core cause unit).rg (by simp only [List.mem_singleton, loc, Reg.row]; omega)
  rw [State.seqFaultCore_eq, State.dieFault_record _ (by omega) (by omega) hc, hrec]

/-- A fault ends what the sequencer waited for, and is reported. -/
theorem State.seqFaultCore_waits (cause unit : Nat) :
    let t := s.seqFaultCore core cause unit
    t.faultQ = s.faultQ ++ [⟨core / 16, 0x10 + core % 16, unit, cause⟩] ∧
    t.semWaits = (s.semWaits.filter fun w => w.who != Waiter.seq core) ∧
    (t.seq core).barWait = none ∧ (t.seq core).hoopWait = none := by
  let z := (s.seqRecord core cause unit).seqFails core
  have hz : z.faultQ = s.faultQ ∧ z.semWaits = s.semWaits := by
    obtain ⟨regs, hregs⟩ : ∃ regs, s.seqRecord core cause unit = { s with regs := regs } :=
      ⟨_, s.seqRecord_eq core cause unit⟩
    unfold z State.seqFails
    rw [State.setRg_faultQ, State.setRg_semWaits, hregs]
    exact ⟨rfl, rfl⟩
  intro t
  have ht : t = (z.seqUnwaits core).dieFault (core / 16) (0x10 + core % 16) unit cause := s.seqFaultCore_eq core cause unit
  clear_value z t
  obtain ⟨hseqs, hwaits, hq⟩ := (z.seqUnwaits core).dieFault_frame (core / 16) (0x10 + core % 16) unit cause
  rw [← ht] at hseqs hwaits hq
  have hseq : t.seq core = (z.seqUnwaits core).seq core := by rw [State.seq, State.seq, hseqs]
  rw [hseq, hq, hwaits, ← hz.1, ← hz.2, State.seqUnwaits, State.seq_setSeq, if_pos rfl]
  exact ⟨rfl, rfl, rfl, rfl⟩

/-- Where no wait leaves, nothing else happens. -/
theorem State.dropWaits_none {p : SemWait → Bool} (h : ∀ w ∈ s.semWaits, p w = false) : s.dropWaits p = s := by
  have hgone : s.semWaits.filter p = [] := List.filter_eq_nil_iff.2 fun w hw => by simp [h w hw]
  have hstay : (s.semWaits.filter fun w => !p w) = s.semWaits := List.filter_eq_self.2 fun w hw => by simp [h w hw]
  rw [State.dropWaits, hgone, hstay]
  rfl

/-! ### Retiring a command -/

/-- The command is counted, the sequencer runs and waits for nothing. -/
def State.retired : State :=
  let z := (s.bump .SEQ_CMDS (core / 16) (core % 16) 0 1).setSeqState core 1 0
  z.setSeq core { z.seq core with waitLt := 0, barWait := none, hoopWait := none, sigSent := none }

/-- Retiring counts the command and goes on at an index, or faults past the last one (R138, R148). -/
theorem State.retireTo_eq (pc : Nat) : s.retireTo core pc =
    if pc ≤ 16383 then (s.retired core).setRg .SEQ_PC (core / 16) (core % 16) 0 pc
    else (s.retired core).seqFaultCore core 0x06 7 := rfl

theorem State.retired_seqState : (s.retired core).seqState core = 1 := by
  rw [State.retired, State.seqState, State.fld, State.rg_setSeq]
  exact State.seqState_setSeqState _ core 1 0

theorem State.retired_hold : (s.retired core).fld .SEQ_STATUS (core / 16) (core % 16) 0 12 4 = 0 := by
  rw [State.retired, State.fld, State.rg_setSeq]
  exact State.hold_setSeqState _ core 1 0

theorem State.retired_cmds : (s.retired core).rg .SEQ_CMDS (core / 16) (core % 16) 0 =
    Nat.min (s.rg .SEQ_CMDS (core / 16) (core % 16) 0 + 1) Reg.SEQ_CMDS.max := by
  rw [State.retired, State.rg_setSeq, State.setSeqState, State.rg_setRg_ne _ _ (by simp [loc, Reg.row])]
  exact State.rg_bump_same ..

theorem State.retired_sameRegsBut : SameRegsBut
    [loc .SEQ_STATUS (core / 16) (core % 16) 0, loc .SEQ_CMDS (core / 16) (core % 16) 0] s (s.retired core) :=
  (s.setRg_sameRegsBut_of_mem (r := .SEQ_CMDS) (die := core / 16) (i := core % 16) (j := 0) _ (by simp)).trans
    (State.setRg_sameRegsBut_of_mem _ (r := .SEQ_STATUS) (die := core / 16) (i := core % 16) (j := 0) _ (by simp))

theorem State.retired_seqOnly : SeqOnly s (s.retired core) := by
  have hregs : RegsOnly s ((s.bump .SEQ_CMDS (core / 16) (core % 16) 0 1).setSeqState core 1 0) :=
    (s.setRg_regsOnly ..).trans (State.setRg_regsOnly ..)
  rw [State.retired]
  generalize (s.bump .SEQ_CMDS (core / 16) (core % 16) 0 1).setSeqState core 1 0 = z at hregs ⊢
  rw [hregs]
  rfl

end

end Sys2Proof.Machine

namespace Sys2Proof.Proofs

open Sys2Proof.Machine

/-- Settles O4: what `State.setSc` leaves (`State.sc_setSc`, `State.setSc_sameRegsBut`). -/
theorem scalarRegisterWrite : Obligations.ScalarRegisterWrite := by
  intro s c i j v _ _ hv t
  have hframe := s.setSc_sameRegsBut c.ix i v
  rw [c.ix_div, c.ix_mod] at hframe
  exact ⟨s.sc_setSc c.ix hv, s.sc_zero c.ix, fun hi => by rw [← s.setSc_zero c.ix v, ← hi], hframe,
    s.setSc_regsOnly c.ix i v⟩

/-- Settles O5: `State.retireTo_eq` goes on at the index (`State.retired_seqState` and beside it) or faults. -/
theorem retirement : Obligations.Retirement := by
  intro s c pc t
  rw [← c.ix_div, ← c.ix_mod]
  have ht : t = _ := s.retireTo_eq c.ix pc
  refine ⟨fun hpc => ?goesOn, fun hpc => ?faults⟩
  case goesOn =>
    rw [if_pos hpc] at ht
    have hst : t.rg .SEQ_STATUS (c.ix / 16) (c.ix % 16) 0 = (s.retired c.ix).rg .SEQ_STATUS (c.ix / 16) (c.ix % 16) 0 :=
      ht ▸ State.rg_setRg_ne _ _ (by simp [loc, Reg.row])
    refine ⟨?pc, ?state, ?hold, ?cmds, ?frame, ?only⟩
    case pc => rw [ht]; exact State.rg_setRg_same _ (Nat.le_trans hpc (by decide))
    case state =>
      rw [State.seqState, State.fld, hst]
      exact s.retired_seqState c.ix
    case hold =>
      rw [State.fld, hst]
      exact s.retired_hold c.ix
    case cmds =>
      rw [ht, State.rg_setRg_ne _ _ (by simp [loc, Reg.row])]
      exact s.retired_cmds c.ix
    case frame =>
      rw [ht]
      exact ((s.retired_sameRegsBut c.ix).mono (by simp)).trans (State.setRg_sameRegsBut_of_mem _ _ (by simp))
    case only =>
      have honly := s.retired_seqOnly c.ix
      rw [ht]
      generalize s.retired c.ix = z at honly
      rw [honly]
      rfl
  case faults =>
    rw [if_neg (Nat.not_le.2 hpc)] at ht
    rw [ht]
    refine ⟨(State.seqFaultCore_pc ..).trans ?_, State.seqFaultCore_seqState ..⟩
    exact (s.retired_sameRegsBut c.ix).rg (by simp [loc, Reg.row])

/-- Settles O14: the fault of a sequencer that waits for no semaphore (`State.seqFaultCore_eq`), part by part. -/
theorem commandFault : Obligations.CommandFault := by
  intro s0 c cause unit hcause hunit d u s t hpc
  simp only [d, u]
  rw [← c.ix_div, ← c.ix_mod]
  have ht : t = s.seqFaultCore c.ix cause unit := rfl
  obtain ⟨hq, hwaits, hbar, hhoop⟩ := s.seqFaultCore_waits c.ix cause unit
  obtain ⟨-, hhold, hflag⟩ := bits_faultStatus (s.rg .SEQ_STATUS (c.ix / 16) (c.ix % 16) 0)
  rw [← State.seqFaultCore_status s c.ix cause unit] at hhold hflag
  rw [← ht] at hq hwaits hbar hhoop hhold hflag
  refine ⟨s0.dropWaits_mem _, fun h => s0.dropWaits_none fun w hw => by simpa using h w hw, ?_⟩
  clear_value s t
  subst ht
  refine ⟨s.seqFaultCore_seqState .., hhold, hflag, s.seqFaultCore_pc .., s.seqFaultCore_faultRecord _ hcause hunit hpc,
    s.seqFaultCore_dieRecord _ hcause hunit, hq, fun w hw => ?_, hbar, hhoop, s.seqFaultCore_mem ..,
    s.seqFaultCore_sameRegsBut _ _ _⟩
  rw [hwaits] at hw
  simpa using (List.mem_filter.1 hw).2

end Sys2Proof.Proofs

/-!
SUPPORT. A command of a sequencer with nothing against it answers what it runs (`State.seqStep_atCommand`).
-/

namespace Sys2Proof.Machine

/-- A command with nothing against it answers what it runs. -/
theorem next_atCommand {s : State} {c : CoreId} {x : BitVec 128} {opc : Nat} {fields : List (Nat × Nat)}
    {ok : BitVec 128 → Bool} {use : BitVec 128 → ScUse} {run : State → BitVec 128 → State}
    (h : s.atCommand c x opc fields (use x) = true) (hok : ok x = true) :
    (Host.Outcome.next (s.seqStep c.ix .none opc fields ok use run) : Host.Outcome State Fault Refusal) = .next (run s x) :=
  congrArg Host.Outcome.next (s.seqStep_atCommand c x opc fields ok use run h hok)

theorem State.identity_eq (s : State) (c : CoreId) :
    s.identity c.ix = (if s.twinB then 0x10000 else 0) + c.die.val * 0x100 + c.core.val := by
  rw [State.identity, c.ix_div, c.ix_mod, State.ownBit, b2n]
  split <;> omega

/-- A branch goes to its target where it is taken, and else to the next index. -/
theorem State.branch_eq (s : State) (core : Nat) (x : BitVec 128) (taken : Bool) :
    s.branch core x taken = s.retireTo core (if taken then cTgt x else s.pc core + 1) := by
  cases taken <;> rfl

end Sys2Proof.Machine

namespace Sys2Proof.Proofs

open Sys2Proof.Machine

/-- Settles O2: each command runs (`next_atCommand`). -/
theorem scalarCommandsGiveTheirResults : Obligations.ScalarCommandsGiveTheirResults := by
  intro s c x
  refine ⟨fun h => next_atCommand h rfl, fun h => next_atCommand h rfl, fun h hfn => next_atCommand h (bne_iff_ne.2 hfn),
    fun h hfn => next_atCommand h (bne_iff_ne.2 hfn), fun h => ?getid, fun h => next_atCommand h rfl⟩
  case getid =>
    rw [← s.identity_eq c]
    exact next_atCommand h rfl

/-- Settles O6: each branch runs (`next_atCommand`) and retires to its target or to the next index (`State.branch_eq`). -/
theorem branchesGoWhereTheTableSays : Obligations.BranchesGoWhereTheTableSays := by
  intro s c x
  refine ⟨fun h => next_atCommand h rfl, fun h hcond => ?cmp, fun h htest => ?sum, fun h => ?dec,
    fun h => next_atCommand h rfl, fun h hv => ?ret⟩
  case cmp =>
    rw [← State.branch_eq]
    exact next_atCommand h (decide_eq_true hcond)
  case sum =>
    rw [← State.branch_eq]
    exact next_atCommand h (bne_iff_ne.2 htest)
  case dec =>
    intro t
    simp only [← bne_iff_ne]
    rw [← State.branch_eq]
    exact next_atCommand h rfl
  case ret =>
    refine (next_atCommand h rfl).trans ?_
    exact congrArg _ (if_neg (Nat.not_lt.2 hv))

end Sys2Proof.Proofs

/-!
SUPPORT. What SYN.SIG, SYN.WAIT and SYN.BAR meet: messages on the way (R194), semaphores (R197, R198) and barriers (R202, R205).
-/

namespace Sys2Proof.Machine

section

variable (s : State)

/-- Within the module SYN.SIG waits while an earlier message of its die to that node is on its way (R194). -/
theorem State.synSig_module (core die sem n : Nat) : s.synSig core false die sem n =
    if s.msgOnWay (core / 16) die then s else (s.addSem die sem n).retire core := by
  cases hway : s.msgOnWay (core / 16) die <;> simp [State.synSig, State.signal, hway]

/-- To the twin the frame is sent once (R194). -/
theorem State.synSig_sends {core die sem n : Nat} {ticket : Nat × Nat} (hsent : (s.seq core).sigSent = none)
    (hticket : s.frameTicket = some ticket) :
    let z := s.sendFrame s.twinNode (.signal (BitVec.ofNat 8 die) (Fin.ofNat 4096 sem) (BitVec.ofNat 16 n))
    s.synSig core true die sem n = z.setSeq core { z.seq core with sigSent := some ticket } := by
  simp [State.synSig, State.signal, hsent, hticket]

/-- The command retires when the port's peer has accepted the frame (R194). -/
theorem State.synSig_awaits {core die sem n p q : Nat} (hsent : (s.seq core).sigSent = some (p, q)) :
    s.synSig core true die sem n = if s.frameTaken p q then s.retire core else s := by
  simp [State.synSig, hsent]

/-- A semaphore on which no wait stands gives an amount that its value covers (R197). -/
theorem State.takeSem_covers {die i n : Nat} (hfree : ∀ w ∈ s.semWaits, ¬ (w.die = die ∧ w.sem = i))
    (hn : n ≤ s.sem die i) : s.takeSem die i n = some (s.setRg .VETCH_SEM die 0 i (s.sem die i - n)) := by
  have hany : (s.semWaits.any fun w => w.die == die && w.sem == i) = false := by simpa using hfree
  rw [State.takeSem, hany, if_neg Bool.false_ne_true, if_pos hn]

/-- It gives nothing past an earlier wait, or where its value falls short (R198). -/
theorem State.takeSem_waits {die i n : Nat} (h : (∃ w ∈ s.semWaits, w.die = die ∧ w.sem = i) ∨ s.sem die i < n) :
    s.takeSem die i n = none := by
  unfold State.takeSem
  split
  · rfl
  · next hfree =>
    refine if_neg (Nat.not_le.2 (h.resolve_left ?_))
    simpa using hfree

/-- A refused arrival leaves the state (R202). -/
theorem State.arriveAt_refused {die ctx : Nat} (h : (s.arriveAt die ctx).2 = .refused) : (s.arriveAt die ctx).1 = s := by
  unfold State.arriveAt at h ⊢
  dsimp only at h ⊢
  split at h
  · rw [if_pos ‹_›]
  · split at h
    · cases h
    · split at h <;> cases h

end

section

variable {s : State} {c : CoreId} {x : BitVec 128}

section

variable (h : s.atCommand c x 0x21 [(96, 12), (80, 16)] ⟨[], []⟩ = true) (hn : cN x ≠ 0)
  (hnew : ∀ w ∈ s.semWaits, w.who ≠ Waiter.seq c.ix)
include h hn hnew

/-- SYN.WAIT that is given its amount retires (R197). -/
theorem execSynWait_takes {t : State} (htake : s.takeSem c.die.val (cSem x) (cN x) = some t) :
    exec (.synWait c .none) s = .next (t.retire c.ix) := by
  have hany : (s.semWaits.any fun w => w.who == Waiter.seq c.ix) = false := by simpa using hnew
  refine (next_atCommand h (by simpa using hn)).trans ?_
  simp [hany, htake]

/-- One that is not joins the waits of the die and is held (R198). -/
theorem execSynWait_waits (htake : s.takeSem c.die.val (cSem x) (cN x) = none) :
    let z : State := { s with semWaits := s.semWaits ++ [⟨c.die.val, cSem x, cN x, .seq c.ix, 0⟩] }
    exec (.synWait c .none) s = .next ((z.setSeq c.ix { z.seq c.ix with waitLt := 0 }).holdSeq c.ix 1) := by
  have hany : (s.semWaits.any fun w => w.who == Waiter.seq c.ix) = false := by simpa using hnew
  refine (next_atCommand h (by simpa using hn)).trans ?_
  simp [hany, htake]

end

section

variable (h : s.atCommand c x 0x22 [(104, 8), (103, 1)] ⟨[], []⟩ = true) (hbar : (s.seq c.ix).barWait = none)
  (hnew : ∀ h ∈ s.barHeld, h.core ≠ c.ix)
include h hbar hnew

/-- SYN.BAR whose arrival is counted goes on, or waits for the generation (R202). -/
theorem execSynBar_counted {gen : Nat} (hcount : (s.arriveAt c.die.val (cf x 104 8)).2 = .counted gen) :
    exec (.synBar c .none) s =
      .next ((s.arriveAt c.die.val (cf x 104 8)).1.arrived c.ix (cf x 104 8) gen (cf x 103 1 == 1)) := by
  have hany : (s.barHeld.any fun h => h.core == c.ix) = false := by simpa using hnew
  refine (next_atCommand h rfl).trans ?_
  rcases hr : s.arriveAt c.die.val (cf x 104 8) with ⟨z, ans⟩
  rw [hr] at hcount
  subst hcount
  simp [hbar, hany]

/-- One whose die takes no part is a command fault (R202). -/
theorem execSynBar_refused (href : (s.arriveAt c.die.val (cf x 104 8)).2 = .refused) :
    exec (.synBar c .none) s = .next (s.seqFault c.ix 0x01 7) := by
  have hany : (s.barHeld.any fun h => h.core == c.ix) = false := by simpa using hnew
  have hsame := s.arriveAt_refused href
  refine (next_atCommand h rfl).trans ?_
  rcases hr : s.arriveAt c.die.val (cf x 104 8) with ⟨z, ans⟩
  rw [hr] at href hsame
  subst href hsame
  simp [hbar, hany]

end

end

end Sys2Proof.Machine

namespace Sys2Proof.Proofs

open Sys2Proof.Machine

/-- Settles O8: each command runs; what it meets is said by `State.synSig_module`, `State.takeSem_covers`, `State.takeSem_waits`
and `execSynBar_counted`. -/
theorem synchronisationCommands : Obligations.SynchronisationCommands := by
  intro s c x
  refine ⟨fun h hn hdie => ?sig, fun h hn hfree => ?wait, fun h hbar hheld => ?bar, fun h => next_atCommand h rfl⟩
  case sig =>
    intro die
    have hok : (cN x != 0 && (cf x 112 8 == 0xFF || dieCode (cf x 112 8))) = true := by simpa [hn] using hdie
    have hrun : exec (.synSig c .none) s = .next (s.synSig c.ix (cf x 111 1 == 1) die (cSem x) (cN x)) := next_atCommand h hok
    refine ⟨fun htwin => ?_, fun t htwin hsent hticket => ?_, fun p q htwin hsent => ?_⟩
    · rw [hrun, htwin]
      exact congrArg _ (s.synSig_module ..)
    · rw [hrun, htwin]
      exact congrArg _ (s.synSig_sends hsent hticket)
    · rw [hrun, htwin]
      exact congrArg _ (s.synSig_awaits hsent)
  case wait =>
    intro v
    refine ⟨fun hnone hcov => execSynWait_takes h hn hfree (s.takeSem_covers hnone hcov),
      fun hblock => ⟨_, execSynWait_waits h hn hfree (s.takeSem_waits hblock), State.seqState_setSeqState .., ?_, rfl⟩⟩
    rw [← c.ix_div, ← c.ix_mod]
    exact State.hold_setSeqState ..
  case bar =>
    intro r
    refine ⟨fun gen hcount => ⟨fun hgo => ?_, fun hstay => ?_⟩, execSynBar_refused h hbar hheld⟩
    · rw [execSynBar_counted h hbar hheld hcount, hgo]
      rfl
    · rw [execSynBar_counted h hbar hheld hcount, hstay]
      rfl

end Sys2Proof.Proofs

/-!
SUPPORT. What a DMA channel answers its own core (R182, R185), and a DMA.CLOAD in one piece (R153).
-/

namespace Sys2Proof.Machine

section

variable {s : State} {die ch owner addr : Nat} {r : Requester}
  (hmine : s.dmaMine die ch owner = true) (hmode : (s.dma die ch).mode ≠ 2)
include hmine hmode

/-- A channel that holds eight descriptors takes no further one of its owner (R182). -/
theorem State.dmaSubmit_full (hfull : 8 ≤ (s.dma die ch).queue.length) (inside : Bool) :
    s.dmaSubmit die ch owner addr inside r = (s, .full) := by
  simp [State.dmaSubmit, hmode, hmine, hfull]

/-- A descriptor that can be read and passes the checks of R185 goes behind the queue. -/
theorem State.dmaSubmit_accepts {bs : List Nat} (hroom : (s.dma die ch).queue.length < 8) (hal : addr % 64 = 0)
    (hpop : s.populated addr 64 = true) (hread : s.memRead r addr 64 = (s, .ok bs))
    (hpass : s.dmaRefusal (BitVec.ofNat 512 (ofLeBytes bs)) = 0) :
    s.dmaSubmit die ch owner addr true r = (s.setDma die ch { s.dma die ch with
      queue := (s.dma die ch).queue ++ [⟨BitVec.ofNat 512 (ofLeBytes bs), false, 0⟩] }, .accepted) := by
  simp [State.dmaSubmit, hmode, Nat.not_le.2 hroom, hal, hpop, hread, State.dmaTake, hmine, hpass]

end

section

variable {s : State} {c : CoreId} {x : BitVec 128}

theorem execDmaSub_at (h : s.atCommand c x 0x40 [(115, 5), (114, 1), (109, 5)] ⟨[cf x 109 5], []⟩ = true) :
    exec (.dmaSub c .none) s = .next (match s.dmaSubmit c.die.val (cf x 115 5) c.core.val
        (s.spaceAddr c.ix (cf x 114 1) (s.sc c.ix (cf x 109 5)))
        (decide (s.sc c.ix (cf x 109 5) + 64 ≤ spaceSize (cf x 114 1))) (.core c) with
      | (z, .accepted) => z.retire c.ix
      | (z, .full) => z.holdSeq c.ix 7
      | (z, .refused) => z.seqFault c.ix 0x04 6) :=
  next_atCommand h rfl

/-- DMA.CLOAD that reads all its words at once copies them and retires (R153). -/
theorem execDmaCload_whole {n : Nat} {bs : List Nat}
    (h : s.atCommand c x 0x41 [(115, 5), (100, 14), (86, 14)] ⟨[cf x 115 5], []⟩ = true)
    (hin : cf x 100 14 + (cf x 86 14 + 1) ≤ 16384)
    (hpc : s.pc c.ix < cf x 100 14 ∨ cf x 100 14 + (cf x 86 14 + 1) ≤ s.pc c.ix) (hal : s.sc c.ix (cf x 115 5) % 16 = 0)
    (hsrc : s.sc c.ix (cf x 115 5) + 16 * (cf x 86 14 + 1) ≤ spSize) (hnew : (s.seq c.ix).cload = 0)
    (hn : cf x 86 14 + 1 ≤ n) (hread : s.spRead c.ix (s.sc c.ix (cf x 115 5)) (16 * (cf x 86 14 + 1)) = (s, .ok bs)) :
    let t := (s.writeRange (s.cmAddr c.ix (16 * cf x 100 14)) bs).1
    exec (.dmaCload c .none n) s = .next ((t.setSeq c.ix { t.seq c.ix with cload := 0 }).retire c.ix) := by
  have hwords : ¬ (16384 < cf x 100 14 + (cf x 86 14 + 1) ∨
      (cf x 100 14 ≤ s.pc c.ix ∧ s.pc c.ix < cf x 100 14 + (cf x 86 14 + 1))) := by omega
  have hbytes : ¬ (s.sc c.ix (cf x 115 5) % 16 ≠ 0 ∨ spSize < s.sc c.ix (cf x 115 5) + 16 * (cf x 86 14 + 1)) := by omega
  have hall : Nat.min n (cf x 86 14 + 1) = cf x 86 14 + 1 := Nat.min_eq_right hn
  refine (next_atCommand h rfl).trans ?_
  simp [hwords, hbytes, hnew, hall, hread]

end

end Sys2Proof.Machine

namespace Sys2Proof.Proofs

open Sys2Proof.Machine

/-- Settles O10: DMA.SUB by what its channel answers (`State.dmaSubmit_full`, `State.dmaSubmit_accepts`), DMA.CLOAD by
`execDmaCload_whole`. -/
theorem dmaCommandsOfASequencer : Obligations.DmaCommandsOfASequencer := by
  intro s c x
  refine ⟨fun h => ?sub, fun h => ?cload⟩
  case sub =>
    intro ch a addr q hmine hmode
    refine ⟨fun hfull => ?_, fun bs hroom hin hal hpop hread hpass => ?_⟩
    · rw [execDmaSub_at h, State.dmaSubmit_full hmine hmode hfull]
    · rw [execDmaSub_at h, decide_eq_true hin, State.dmaSubmit_accepts hmine hmode hroom hal hpop hread hpass]
  case cload => exact fun n bs hin hpc hal hsrc hnew hn hread => execDmaCload_whole h hin hpc hal hsrc hnew hn hread

end Sys2Proof.Proofs

/-!
SUPPORT. The loads of a vector engine's descriptor and chain slots (R150).
-/

namespace Sys2Proof.Machine

section

variable {s : State} {c : CoreId} {x : BitVec 128}

/-- VEC.LDS that no waiting command's slot holds back writes the words read (R150). -/
theorem execVecLds_loads {bs : List Nat}
    (h : s.atCommand c x 0x61 [(115, 5), (114, 1), (109, 5)] ⟨[cf x 109 5], []⟩ = true) (hok : s.vecFaulted c.ix = false)
    (hfree : ∀ w ∈ s.vecWaiting c.ix, cf x 115 5 ∉ [w.a, w.b, w.d, w.c0, w.c1, w.e])
    (hread : s.spaceRead c.ix (cf x 114 1) (s.sc c.ix (cf x 109 5)) 32 32 = (s, some bs)) :
    exec (.vecLds c .none) s = .next (((List.range 4).foldl (fun z i =>
      z.setRg .VE_SDESC c.die.val c.core.val (4 * cf x 115 5 + i) (bits (ofLeBytes bs) (64 * i) 64)) s).retire c.ix) := by
  have hany : ((s.vecWaiting c.ix).any fun f => [f.a, f.b, f.d, f.c0, f.c1, f.e].contains (cf x 115 5)) = false :=
    List.any_eq_false.2 fun w hw => by simpa using hfree w hw
  refine (next_atCommand h rfl).trans ?_
  simp only [hok, hany, hread, Bool.false_eq_true, if_false]

/-- VEC.LDC likewise (R150). -/
theorem execVecLdc_loads {bs : List Nat}
    (h : s.atCommand c x 0x62 [(115, 5), (114, 1), (109, 5)] ⟨[cf x 109 5], []⟩ = true) (hok : s.vecFaulted c.ix = false)
    (hfree : ∀ w ∈ s.vecWaiting c.ix, w.chain ≠ cf x 115 5)
    (hread : s.spaceRead c.ix (cf x 114 1) (s.sc c.ix (cf x 109 5)) 64 64 = (s, some bs)) :
    exec (.vecLdc c .none) s = .next (((List.range 16).foldl (fun z i =>
      z.setRg .VE_CHAIN c.die.val c.core.val (16 * cf x 115 5 + i) (bits (ofLeBytes bs) (32 * i) 32)) s).retire c.ix) := by
  have hany : ((s.vecWaiting c.ix).any fun f => f.chain == cf x 115 5) = false :=
    List.any_eq_false.2 fun w hw => by simpa using hfree w hw
  refine (next_atCommand h rfl).trans ?_
  simp only [hok, hany, hread, Bool.false_eq_true, if_false]

end

end Sys2Proof.Machine

namespace Sys2Proof.Proofs

open Sys2Proof.Machine

/-- Settles O11: no refusal stands against the command, so it is held by a full queue or joins it; the loads are
`execVecLds_loads` and `execVecLdc_loads`. -/
theorem matrixAndVectorCommands : Obligations.MatrixAndVectorCommands := by
  intro s c x
  refine ⟨fun h hok hparams hsnoop => ?pass, fun h hrop hrsrc hok href => ?run,
    fun bs h hok hfree hread => execVecLds_loads h hok hfree hread,
    fun bs h hok hfree hread => execVecLdc_loads h hok hfree hread, fun h hok hstarted => ?fill⟩
  case pass =>
    refine (next_atCommand h rfl).trans ?_
    simp only [hok, hparams, hsnoop, Bool.or_self, Bool.false_eq_true, if_false]
  case run =>
    refine (next_atCommand h (by simp [hrop, hrsrc])).trans ?_
    simp only [hok, href, Bool.or_self, Bool.false_eq_true, if_false]
  case fill =>
    refine (next_atCommand h rfl).trans ?_
    simp only [hok, hstarted, ne_eq, not_true_eq_false, Bool.false_eq_true, if_false]

end Sys2Proof.Proofs

/-!
SUPPORT. The checks before a command runs (R142, R143, R160), and SCL.HALT.
-/

namespace Sys2Proof.Machine

section

variable {s : State} {core opc : Nat} {p : Parity} {fields : List (Nat × Nat)} {ok : BitVec 128 → Bool}
  {use : BitVec 128 → ScUse} {run : State → BitVec 128 → State}

/-- A sequencer that does not run takes no command. -/
theorem State.seqStep_stopped (hstop : s.seqRuns core = false) : s.seqStep core p opc fields ok use run = s := by
  simp [State.seqStep, hstop]

/-- A parity error on the command word (R160). -/
theorem State.seqStep_badWord (hrun : s.seqRuns core = true) :
    s.seqStep core .command opc fields ok use run = s.seqFault core 0x0A 7 := by
  simp [State.seqStep, hrun]

/-- A reserved bit of the row's own command (R143). -/
theorem State.seqStep_reserved {x : BitVec 128} (hrun : s.seqRuns core = true) (hfetch : s.fetch core = (s, some x))
    (hopc : opcodeOf x = opc) (hset : reservedSet x fields = true) :
    s.seqStep core .none opc fields ok use run = s.seqFault core 0x01 7 := by
  simp [State.seqStep, hrun, hfetch, hopc, hset]

/-- A parity error on a scalar register that the command reads (R160). -/
theorem State.seqStep_badScalar {c : CoreId} {x : BitVec 128} (h : s.atCommand c x opc fields (use x) = true)
    (hok : ok x = true) (hreads : (use x).reads ≠ []) :
    s.seqStep c.ix .scalar opc fields ok use run = s.seqFault c.ix 0x0B 7 := by
  simp only [State.atCommand, Bool.and_eq_true, decide_eq_true_eq, beq_iff_eq, Bool.not_eq_true'] at h
  obtain ⟨⟨⟨⟨hrun, hfetch⟩, hopc⟩, hset⟩, hpend⟩ := h
  simp [State.seqStep, hrun, hfetch, hopc, hset, hpend, hok, hreads]

end

/-! ### SCL.HALT -/

/-- The sequencer goes one index further, counts the command and is HALTED (R144). -/
def State.seqHalts (s : State) (core : Nat) : State :=
  ((s.setRg .SEQ_PC (core / 16) (core % 16) 0 (Nat.min (s.pc core + 1) 16383)).bump
    .SEQ_CMDS (core / 16) (core % 16) 0 1).setSeqState core 5 0

section

variable (s : State) (core : Nat)

theorem State.seqHalts_pc : (s.seqHalts core).pc core = Nat.min (s.pc core + 1) 16383 := by
  rw [State.seqHalts, State.pc, State.setSeqState, State.rg_setRg_ne _ _ (by simp [loc, Reg.row]), State.bump,
    State.rg_setRg_ne _ _ (by simp [loc, Reg.row])]
  exact State.rg_setRg_same _ (Nat.le_trans (Nat.min_le_right _ _) (by decide))

theorem State.seqHalts_cmds : (s.seqHalts core).rg .SEQ_CMDS (core / 16) (core % 16) 0 =
    Nat.min (s.rg .SEQ_CMDS (core / 16) (core % 16) 0 + 1) Reg.SEQ_CMDS.max := by
  rw [State.seqHalts, State.setSeqState, State.rg_setRg_ne _ _ (by simp [loc, Reg.row]), State.rg_bump_same,
    State.rg_setRg_ne _ _ (by simp [loc, Reg.row])]

theorem State.seqHalts_sameRegsBut :
    SameRegsBut [loc .SEQ_PC (core / 16) (core % 16) 0, loc .SEQ_STATUS (core / 16) (core % 16) 0,
      loc .SEQ_CMDS (core / 16) (core % 16) 0] s (s.seqHalts core) :=
  ((s.setRg_sameRegsBut_of_mem (r := .SEQ_PC) (die := core / 16) (i := core % 16) (j := 0) _ (by simp)).trans
    (State.setRg_sameRegsBut_of_mem _ (r := .SEQ_CMDS) (die := core / 16) (i := core % 16) (j := 0) _ (by simp))).trans
      (State.setRg_sameRegsBut_of_mem _ (r := .SEQ_STATUS) (die := core / 16) (i := core % 16) (j := 0) _ (by simp))

theorem State.seqHalts_regsOnly : RegsOnly s (s.seqHalts core) :=
  ((s.setRg_regsOnly ..).trans (State.setRg_regsOnly ..)).trans (State.setRg_regsOnly ..)

end

theorem execSclHalt_halts {s : State} {c : CoreId} {x : BitVec 128} (h : s.atCommand c x 0x0F [] ⟨[], []⟩ = true)
    (hnone : ∀ i, i < 32 → s.pendingSum c.ix i = false) : exec (.sclHalt c .none) s = .next (s.seqHalts c.ix) := by
  have hany : (List.range 32).any (s.pendingSum c.ix) = false :=
    List.any_eq_false.2 fun i hi => by simp [hnone i (List.mem_range.1 hi)]
  refine (next_atCommand h rfl).trans ?_
  rw [State.seqHalts, c.ix_div, c.ix_mod]
  simp only [hany, Bool.false_eq_true, if_false]

/-! ### Opcodes that no command has -/

theorem execReservedOpcode_unlisted {s : State} {c : CoreId} {x : BitVec 128} (hrun : s.seqRuns c.ix = true)
    (hfetch : s.fetch c.ix = (s, some x)) (hopc : opcodeListed (opcodeOf x) = false) :
    exec (.reservedOpcode c .none) s = .next (s.seqFault c.ix 0x01 7) := by
  change execReservedOpcode c .none s = _
  simp [execReservedOpcode, hrun, hfetch, hopc]

theorem execReservedOpcode_stopped {s : State} {c : CoreId} (hstop : s.seqRuns c.ix = false) (p : Parity) :
    exec (.reservedOpcode c p) s = .next s := by
  change execReservedOpcode c p s = _
  simp [execReservedOpcode, hstop]

end Sys2Proof.Machine

namespace Sys2Proof.Proofs

open Sys2Proof.Machine

/-- Settles O13: SCL.HALT by `State.seqHalts` and what it leaves; a refusal by the check of `State.seqStep` that it meets. -/
theorem haltReservedOpcodesAndRefusals : Obligations.HaltReservedOpcodesAndRefusals := by
  intro s c x
  refine ⟨fun h hnone => ⟨s.seqHalts c.ix, execSclHalt_halts h hnone, State.seqState_setSeqState .., s.seqHalts_pc c.ix, ?cmds,
    ?frame, s.seqHalts_regsOnly c.ix⟩, fun hrun hfetch => ⟨execReservedOpcode_unlisted hrun hfetch,
      fun hopc hset => congrArg Host.Outcome.next (State.seqStep_reserved hrun hfetch hopc hset),
      fun hopc hset => congrArg Host.Outcome.next (State.seqStep_reserved hrun hfetch hopc hset),
      congrArg Host.Outcome.next (State.seqStep_badWord hrun), fun h hfn => ?scalar⟩,
    fun hstop p => ⟨congrArg Host.Outcome.next (State.seqStep_stopped hstop),
      congrArg Host.Outcome.next (State.seqStep_stopped hstop), congrArg Host.Outcome.next (State.seqStep_stopped hstop),
      congrArg Host.Outcome.next (State.seqStep_stopped hstop), execReservedOpcode_stopped hstop p⟩⟩
  case cmds =>
    rw [← c.ix_div, ← c.ix_mod]
    exact s.seqHalts_cmds c.ix
  case frame =>
    rw [← c.ix_div, ← c.ix_mod]
    exact s.seqHalts_sameRegsBut c.ix
  case scalar =>
    exact congrArg Host.Outcome.next (State.seqStep_badScalar (use := fun x => ⟨[cSrc1 x, cSrc2 x], [cDst x]⟩) h
      (bne_iff_ne.2 hfn) (List.cons_ne_nil _ _))

end Sys2Proof.Proofs

/-!
SUPPORT. What writes of VETCH_SIGNAL and VETCH_ARRIVE do (R200, R205), the automatic arrival of a die (R203) and expired waits
(R223).
-/

namespace Sys2Proof.Machine

/-! ### Register rows of Vetch -/

/-- A write that reaches its register's rules and is done there is answered ok. -/
theorem State.writeReg_done {s t : State} {w : Writer} {r : Reg} {die i j v : Nat} (h : s.reaches w r die i j v = true)
    (hact : s.regAct w r die i j v = wans (t, true)) : s.writeReg w r die i j v = t.answer .ok := by
  rw [State.writeReg, s.busWrite_reaches _ _ _ _ _ _ h, hact, State.wrote_wans, if_pos rfl]

/-- One that is refused there is answered with an access error. -/
theorem State.writeReg_refused {s t : State} {w : Writer} {r : Reg} {die i j v : Nat} (h : s.reaches w r die i j v = true)
    (hact : s.regAct w r die i j v = wans (t, false)) : s.writeReg w r die i j v = t.answer .accessError := by
  rw [State.writeReg, s.busWrite_reaches _ _ _ _ _ _ h, hact, State.wrote_wans, if_neg Bool.false_ne_true]

/-- A signal of this module adds its amount (R200). -/
theorem State.vetchSignalWrite_own (s : State) {die v : Nat} (hn : bits v 32 16 ≠ 0) :
    s.vetchSignalWrite none die v = (s.addSem die (bits v 0 12) (bits v 32 16), true) := if_neg hn

/-- One of another module does so with the peer-stop check (R395). -/
theorem State.vetchSignalWrite_far (s : State) (n : Nat) {die v : Nat} (hn : bits v 32 16 ≠ 0) :
    s.vetchSignalWrite (some n) die v = (s.signalFrom n die (bits v 0 12) (bits v 32 16), true) := if_neg hn

theorem State.vetchArriveWrite_counted {s : State} {die v g : Nat} (h : (s.arriveAt die (bits v 0 8)).2 = .counted g) :
    s.vetchArriveWrite die v = ((s.arriveAt die (bits v 0 8)).1, true) := by
  unfold State.vetchArriveWrite
  rcases hr : s.arriveAt die (bits v 0 8) with ⟨z, ans⟩
  rw [hr] at h
  subst h
  rfl

theorem State.vetchArriveWrite_refused {s : State} {die v : Nat}
    (h : (s.arriveAt die (bits v 0 8)).2 = .held ∨ (s.arriveAt die (bits v 0 8)).2 = .refused) :
    s.vetchArriveWrite die v = (s, false) := by
  unfold State.vetchArriveWrite
  rcases hr : s.arriveAt die (bits v 0 8) with ⟨z, ans⟩
  rw [hr] at h
  obtain rfl | rfl := h <;> rfl

/-! ### Automatic arrivals and timeouts -/

/-- Without a gate the automatic arrival has nothing to arm (R203). -/
theorem State.autoArm_ungated {s : State} {die : Nat} (h : bit (s.rg .VETCH_AUTO die 0 0) 30 = false) : s.autoArm die = s := by
  simp [State.autoArm, h]

/-- An arrival not yet made for its generation is made and noted (R203). -/
theorem State.autoArrive_counted {s : State} {die g : Nat} (hdie : DieSet.mx.has die = true)
    (hen : bit (s.rg .VETCH_AUTO die 0 0) 31 = true) (hgate : bit (s.rg .VETCH_AUTO die 0 0) 30 = false)
    (hnew : Sparse.get (fun _ => 0) s.autoGen die ≠ s.barGen die 0 + 1) (hcount : (s.arriveAt die 0).2 = .counted g) :
    s.autoArrive die = { (s.arriveAt die 0).1.useGrant die .auto with
      autoGen := Sparse.set (fun _ => 0) (s.arriveAt die 0).1.autoGen die (g + 1) } := by
  rcases hr : s.arriveAt die 0 with ⟨z, ans⟩
  rw [hr] at hcount
  subst hcount
  simp [State.autoArrive, hdie, hen, hgate, hnew, State.autoArm_ungated hgate, hr]

theorem expired_iff (lt limit : Nat) : expired lt limit = true ↔ limit ≠ 0 ∧ limit ≤ lt := by
  simp [expired]

end Sys2Proof.Machine

namespace Sys2Proof.Proofs

open Sys2Proof.Machine

/-- Settles O29: a write that reaches its rules does what they say (`State.writeReg_done`, `State.writeReg_refused`). -/
theorem vetchRegisterRows : Obligations.VetchRegisterRows := by
  intro s w d
  refine ⟨fun v h hn => ?signal, fun v h => ?arrive⟩
  case signal =>
    refine congrArg Host.Outcome.next (State.writeReg_done h ?_)
    change wans (s.vetchSignalWrite (s.farNode w) d.code v.toNat) = _
    cases s.farNode w with
    | none => exact congrArg wans (s.vetchSignalWrite_own hn)
    | some n => exact congrArg wans (s.vetchSignalWrite_far n hn)
  case arrive =>
    exact ⟨fun g hcount =>
        congrArg Host.Outcome.next (State.writeReg_done h (congrArg wans (State.vetchArriveWrite_counted hcount))),
      fun href => congrArg Host.Outcome.next (State.writeReg_refused h (congrArg wans (State.vetchArriveWrite_refused href)))⟩

/-- Settles O33: the automatic arrival is `State.autoArrive_counted`; a timeout acts where its wait has expired (`expired_iff`). -/
theorem automaticArrivalsAndTimeouts : Obligations.AutomaticArrivalsAndTimeouts := by
  intro s
  refine ⟨fun d g hdie hen hgate hnew hcount => congrArg Host.Outcome.next (State.autoArrive_counted hdie hen hgate hnew hcount),
    fun d w hw hto hlt => ?gate, fun c hheld hwait hto hlt => ?sem, fun c hheld hwait hto hlt => ?bar,
    fun h hund hready hlt => ?hoop⟩
  case gate =>
    change execAutoArrivalGateTimeout d s = _
    rw [execAutoArrivalGateTimeout, hw]
    exact if_pos ((expired_iff ..).2 ⟨hto, hlt⟩)
  case sem => exact if_pos ⟨hheld, by simpa using hwait, (expired_iff ..).2 ⟨hto, hlt⟩⟩
  case bar => exact if_pos ⟨hheld, .inl (Option.isSome_iff_ne_none.2 hwait), (expired_iff ..).2 ⟨hto, hlt⟩⟩
  case hoop => exact if_pos ⟨hund, hready, hlt⟩

end Sys2Proof.Proofs

/-!
SUPPORT. A fault of a DMA channel in its parts (R189).
-/

namespace Sys2Proof.Machine

section

variable (s : State) (die ch : Nat)

theorem dmaFields_tag_lt (x : BitVec 512) : (dmaFields x).tag < 2 ^ 32 := Nat.mod_lt _ (by decide)

/-- A fault of a channel at work records, empties the channel and is reported (R189). -/
theorem State.dmaFault_eq {e : DmaDesc} (h : (s.dma die ch).cur = some e) (cause : Nat) : s.dmaFault die ch cause =
    ((s.dmaRecord die ch cause (dmaFields e.word).tag).setDma die ch { DmaS.init with mode := 2 }).dieFault die 0x02 ch
      cause := by
  rw [State.dmaFault, h]

theorem State.dmaFault_idle (h : (s.dma die ch).cur = none) (cause : Nat) : s.dmaFault die ch cause = s := by
  rw [State.dmaFault, h]

theorem State.dmaRecord_sameRegsBut (cause tag : Nat) :
    SameRegsBut [loc .DMA_CH_FAULT die 0 ch] s (s.dmaRecord die ch cause tag) :=
  SameRegsBut.ite (s.setRg_sameRegsBut _ _ _ _ _)

/-- The record changes registers only. -/
theorem State.dmaRecord_eq (cause tag : Nat) :
    s.dmaRecord die ch cause tag = { s with regs := (s.dmaRecord die ch cause tag).regs } := by
  unfold State.dmaRecord
  split <;> rfl

/-- The first cause of a channel stays in its register, with the descriptor's TAG (R189). -/
theorem State.dmaRecord_fault {cause tag : Nat} (hc : cause < 256) (ht : tag < 2 ^ 32) :
    (s.dmaRecord die ch cause tag).rg .DMA_CH_FAULT die 0 ch =
      if bit (s.rg .DMA_CH_FAULT die 0 ch) 63 then s.rg .DMA_CH_FAULT die 0 ch else 2 ^ 63 + cause * 2 ^ 32 + tag := by
  have hfits : 2 ^ 63 + cause * 2 ^ 32 + tag ≤ Reg.DMA_CH_FAULT.max := by
    rw [show Reg.DMA_CH_FAULT.max = 2 ^ 64 - 1 from rfl]
    omega
  rw [State.dmaRecord, Nat.mod_eq_of_lt ht]
  generalize 2 ^ 63 + cause * 2 ^ 32 + tag = v at hfits ⊢
  split
  · rfl
  · exact s.rg_setRg_same hfits

theorem State.dieFault_dma (d block unit cause : Nat) : (s.dieFault d block unit cause).dma die ch = s.dma die ch := by
  rw [State.dieFault_eq, State.dieRecord_eq]
  rfl

/-- A fault writes the registers of its record and its report only. -/
theorem State.dmaFault_sameRegsBut (cause : Nat) :
    SameRegsBut [loc .DMA_CH_FAULT die 0 ch, loc .DIE_FAULT die 0 0] s (s.dmaFault die ch cause) := by
  cases h : (s.dma die ch).cur with
  | none => rw [s.dmaFault_idle die ch h]; exact fun _ _ => rfl
  | some e =>
    rw [s.dmaFault_eq die ch h]
    exact SameRegsBut.trans (SameRegsBut.mono (s.dmaRecord_sameRegsBut die ch _ _) (by simp))
      (SameRegsBut.mono (State.dieFault_sameRegsBut _ die _ _ _) (by simp))

end

end Sys2Proof.Machine

namespace Sys2Proof.Proofs

open Sys2Proof.Machine

/-- Settles O23: a channel at work by the parts of its fault (`State.dmaFault_eq`), one with nothing in progress by
`State.dmaFault_idle`. -/
theorem dmaFault : Obligations.DmaFault := by
  intro s d ch cause _ hc t
  refine ⟨fun e he => ?_, fun h => s.dmaFault_idle d.code ch h cause⟩
  let z := s.dmaRecord d.code ch cause (dmaFields e.word).tag
  have ht : t = (z.setDma d.code ch { DmaS.init with mode := 2 }).dieFault d.code 0x02 ch cause :=
    s.dmaFault_eq d.code ch he cause
  have hdma : t.dma d.code ch = { DmaS.init with mode := 2 } := by
    rw [ht, State.dieFault_dma, State.dma_setDma, if_pos rfl]
  refine ⟨by rw [hdma]; rfl, by rw [hdma]; rfl, ?record, ?report, s.dmaFault_mem d.code ch cause,
    s.dmaFault_sameRegsBut d.code ch cause⟩
  case record =>
    rw [ht, State.dieFault_rg_ne _ (by simp only [ne_eq, loc, Reg.row]; omega)]
    exact s.dmaRecord_fault d.code ch hc (dmaFields_tag_lt e.word)
  case report =>
    obtain ⟨-, -, hq⟩ := (z.setDma d.code ch { DmaS.init with mode := 2 }).dieFault_frame d.code 0x02 ch cause
    have hz : z.faultQ = s.faultQ := by rw [show z = { s with regs := z.regs } from s.dmaRecord_eq d.code ch ..]
    rw [ht, hq, State.setDma_faultQ, hz]

end Sys2Proof.Proofs

/-!
SUPPORT. Reads and writes of SRAM whose first word an access finds with no error mark, one wrong bit or two (R180).
-/

namespace Sys2Proof.Machine

section

variable {s : State} {r : Requester} {a n : Nat}

theorem State.isOwn_of_populated (h : s.populated a n = true) : s.isOwn a = true := by
  rw [State.populated, Bool.and_eq_true] at h
  exact h.1

theorem State.bytes_of_mem {t : State} (h : t.mem = s.mem) (a n : Nat) : t.bytes a n = s.bytes a n := by
  rw [State.bytes, State.bytes, h]

section

variable {t : State} (hpop : s.populated a n = true) (hreg : regionOf a = 2) (hgo : sramForbidden r a n = false)
include hpop hreg hgo

/-- A read of SRAM that its requester may reach delivers the bytes, once single wrong bits are corrected (R166, R180). -/
theorem State.memRead_sram_delivers (hwords : s.checkWords (s.markedWords a n) = (t, true)) :
    s.memRead r a n = (t, .ok (t.bytes a n)) := by
  simp [State.memRead, hgo, State.readRange, hpop, hreg, hwords]

/-- It is a read error where a word has two (R180). -/
theorem State.memRead_sram_fails (hwords : s.checkWords (s.markedWords a n) = (t, false)) :
    s.memRead r a n = (t, .error .readError) := by
  simp [State.memRead, hgo, State.readRange, hpop, hreg, hwords]

end

/-- The errors of the first word of an access alone. -/
def State.firstWrong (s : State) (a k : Nat) : State := { s with ecc := [(a / 8, k)] }

theorem State.markedWords_none (h : s.ecc = []) : s.markedWords a n = [] := by rw [State.markedWords, h]; rfl

/-- The first word lies in its range. -/
theorem State.markedWords_firstWrong (hn : 0 < n) (k : Nat) : (s.firstWrong a k).markedWords a n = [a / 8] := by
  have hin : a / 8 * 8 < a + n := by omega
  simp [State.markedWords, State.firstWrong, hin]

/-- One wrong bit is corrected and counted (R180). -/
theorem State.correctWord_firstWrong (hclean : s.ecc = []) {l : SramLoc} (hl : sramLoc (offOf (a / 8 * 8)) = some l) :
    (s.firstWrong a 1).correctWord (a / 8) = s.bump .SRAM_ECC_CORR l.die 0 0 1 := by
  have hmended : Sparse.set (fun _ => 0) [(a / 8, 1)] (a / 8) 0 = s.ecc := by simp [Sparse.set, Sparse.del, hclean]
  simp only [State.correctWord, hl, State.firstWrong, hmended]

theorem State.checkWords_single (hclean : s.ecc = []) {l : SramLoc} (hl : sramLoc (offOf (a / 8 * 8)) = some l) :
    (s.firstWrong a 1).checkWords [a / 8] = (s.bump .SRAM_ECC_CORR l.die 0 0 1, true) := by
  have hmark : Sparse.get (fun _ => 0) (s.firstWrong a 1).ecc (a / 8) = 1 := by
    simp [State.firstWrong, Sparse.get, Sparse.find?]
  simp only [State.checkWords, hmark, State.correctWord_firstWrong hclean hl]

theorem State.checkWords_double : (s.firstWrong a 2).checkWords [a / 8] = (s.firstWrong a 2, false) := by
  simp [State.checkWords, State.firstWrong, Sparse.get, Sparse.find?]

/-- A write to SRAM that its requester may reach and its destination does not refuse stores its bytes (R180). -/
theorem State.memWrite_sram {bs : List Nat} (hclean : s.ecc = []) (hpop : s.populated a bs.length = true) (hreg : regionOf a = 2)
    (hgo : sramForbidden r a bs.length = false) (hok : s.writeRefused r a bs.length = false) :
    s.memWrite r a bs = (s.putBytes a bs, none) := by
  have hsame : ({ s with ecc := [] } : State) = s := by rw [← hclean]
  rw [State.memWrite, if_neg (by simp [hgo]), if_neg (by simp [hok]), State.writeRange]
  by_cases hn : bs.length = 0
  · rw [if_pos hn, List.eq_nil_of_length_eq_zero hn]
    rfl
  · have hpart : (partialUnits 8 a bs.length).filter (fun w => (s.markedWords a bs.length).contains w) = [] := by
      rw [List.filter_eq_nil_iff, State.markedWords_none hclean]
      exact fun _ _ => Bool.false_ne_true
    simp only [if_neg hn, hpop, if_pos hreg, hpart, State.checkWords, hclean, List.filter_nil, hsame, Bool.not_true,
      Bool.false_eq_true, if_false]

theorem State.putBytes_stores (s : State) (a : Nat) (data : List (BitVec 8)) (i : Nat) (hi : i < data.length) :
    (s.putBytes a (data.map BitVec.toNat)).byte (a + i) = data[i].toNat := by
  rw [State.byte_putBytes_inside _ _ _ _ (by simpa using hi), List.getElem_map]
  exact Nat.mod_eq_of_lt data[i].isLt

end

section

variable {s t : State} {r : Requester} {addr : BitVec 44}

/-- An access outside SRAM is an access error (R164). -/
theorem execSramAccess_outside (hreg : regionOf addr.toNat ≠ 2) (acc : SramAcc) (err : Fin 3) :
    exec (.sramAccess r addr acc err) s = .next (s.answer .accessError) := if_pos hreg

/-- A read that meets no new error is answered by what memory delivers. -/
theorem execSramAccess_read {n : Fin 65} {x : Except MemErr (List Nat)} (hpop : s.populated addr.toNat n.val = true)
    (hreg : regionOf addr.toNat = 2) (hread : s.memRead r addr.toNat n.val = (t, x)) :
    exec (.sramAccess r addr (.read n) 0) s = .next (t.answer (readResp x)) := by
  change execSramAccess r addr (.read n) 0 s = _
  simp [execSramAccess, hreg, State.isOwn_of_populated hpop, hpop, hread]

/-- So is one whose first word then stores wrong bits. -/
theorem execSramAccess_wrong {n : Fin 65} {k : Fin 3} {x : Except MemErr (List Nat)} (hclean : s.ecc = []) (hk : k.val ≠ 0)
    (hpop : s.populated addr.toNat n.val = true) (hreg : regionOf addr.toNat = 2)
    (hread : (s.firstWrong addr.toNat k.val).memRead r addr.toNat n.val = (t, x)) :
    exec (.sramAccess r addr (.read n) k) s = .next (t.answer (readResp x)) := by
  rw [State.firstWrong] at hread
  change execSramAccess r addr (.read n) k s = _
  simp [execSramAccess, hreg, State.isOwn_of_populated hpop, hpop, hclean, Sparse.set, Sparse.put, hk, hread]

/-- A write without a new error is answered by what memory answers. -/
theorem execSramAccess_write {data : List (BitVec 8)} {x : Option MemErr} (hpop : s.populated addr.toNat data.length = true)
    (hreg : regionOf addr.toNat = 2) (hwrite : s.memWrite r addr.toNat (data.map BitVec.toNat) = (t, x)) :
    exec (.sramAccess r addr (.write data) 0) s = .next (t.answer (writeResp x)) := by
  change execSramAccess r addr (.write data) 0 s = _
  simp [execSramAccess, hreg, State.isOwn_of_populated hpop, hpop, hwrite]

end

end Sys2Proof.Machine

namespace Sys2Proof.Proofs

open Sys2Proof.Machine

/-- Settles O25: a read by the errors of its first word (`State.checkWords_single`, `State.checkWords_double`), a write by
`State.memWrite_sram`. -/
theorem sramAccesses : Obligations.SramAccesses := by
  intro s r addr hclean a
  refine ⟨fun n hn hpop hreg hgo => ⟨?clean, fun l hl => ?single, ?double⟩, fun data hpop hreg hgo hok => ?write,
    fun hreg acc e => execSramAccess_outside hreg acc e⟩
  case clean =>
    have hwords : s.checkWords (s.markedWords a n.val) = (s, true) := by rw [State.markedWords_none hclean]; rfl
    exact execSramAccess_read hpop hreg (State.memRead_sram_delivers hpop hreg hgo hwords)
  case single =>
    have hwords : (s.firstWrong a 1).checkWords ((s.firstWrong a 1).markedWords a n.val) =
        (s.bump .SRAM_ECC_CORR l.die 0 0 1, true) := by
      rw [State.markedWords_firstWrong hn, State.checkWords_single hclean hl]
    exact execSramAccess_wrong (k := 1) hclean (by decide) hpop hreg
      (State.memRead_sram_delivers (s := s.firstWrong a 1) hpop hreg hgo hwords)
  case double =>
    have hwords : (s.firstWrong a 2).checkWords ((s.firstWrong a 2).markedWords a n.val) = (s.firstWrong a 2, false) := by
      rw [State.markedWords_firstWrong hn, State.checkWords_double]
    exact execSramAccess_wrong (k := 2) hclean (by decide) hpop hreg
      (State.memRead_sram_fails (s := s.firstWrong a 2) hpop hreg hgo hwords)
  case write =>
    have hlen : (data.map BitVec.toNat).length = data.length := List.length_map _
    refine ⟨(s.putBytes a (data.map BitVec.toNat)).answer .ok, execSramAccess_write (x := none) hpop hreg ?_, rfl, rfl,
      fun i hi => s.putBytes_stores a data i hi, fun x hx => State.byte_putBytes_outside _ _ _ _ (by rwa [hlen])⟩
    rw [← hlen] at hpop hgo hok
    exact State.memWrite_sram hclean hpop hreg hgo hok

end Sys2Proof.Proofs

/-!
SUPPORT. The rows of a DMA channel: a submission through its register (R182, R185), the burst that the engine grants (R187).
-/

namespace Sys2Proof.Machine

section

variable {s t : State} {d : Die}

/-- The register of a die's channel stands for the engine of that die. -/
theorem State.regAct_dmaChSubmit {i j v : Nat} (w : Writer) (h : s.dmaRegSubmit d j v = (t, some .ok)) :
    s.regAct w .DMA_CH_SUBMIT d.code i j v = wans (t, true) := by
  cases d with
  | c n =>
    have hc : (Die.c n).code < 0x40 := n.isLt
    have hd : (⟨(Die.c n).code, hc⟩ : Fin 64) = n := rfl
    simp only [State.regAct, dif_pos hc, hd, h]
    rfl
  | m n =>
    have hc : ¬ (Die.m n).code < 0x40 := by simp only [Die.code]; omega
    have hm : (Die.m n).code < 0x50 := by simp only [Die.code]; omega
    have hd : Fin.ofNat 12 ((Die.m n).code - 0x40) = n := Fin.ext (by simp only [Die.code, Fin.ofNat]; omega)
    simp only [State.regAct, dif_neg hc, if_pos hm, hd, h]
    rfl
  | x n =>
    have hc : ¬ (Die.x n).code < 0x40 := by simp only [Die.code]; omega
    have hx : ¬ (Die.x n).code < 0x50 := by simp only [Die.code]; omega
    have hd : Fin.ofNat 4 ((Die.x n).code - 0x50) = n := Fin.ext (by simp only [Die.code, Fin.ofNat]; omega)
    simp only [State.regAct, dif_neg hc, if_neg hx, hd, h]
    rfl

/-- A descriptor of this module that the channel accepts is answered ok (R182). -/
theorem State.dmaRegSubmit_accepts {ch v : Nat} (hown : s.isOwn (bits v 0 44) = true)
    (hacc : s.dmaSubmit d.code ch 16 (bits v 0 44) true (.dma d) = (t, .accepted)) : s.dmaRegSubmit d ch v = (t, some .ok) := by
  simp [State.dmaRegSubmit, hown, hacc]

end

section

variable {s t : State} {d : Die} {ch : Nat} {f : DmaF} {b : Burst}

theorem Keeps.isOwn (h : Keeps s t) (a : Nat) : t.isOwn a = s.isOwn a := by
  obtain ⟨hstill, -⟩ := h
  have htwin : t.twinB = s.twinB := congrArg Still.twinB hstill
  rw [State.isOwn, State.isOwn, State.ownBit, State.ownBit, htwin]

/-- The bytes of a burst: the fill pattern, or what its source delivers, cut and rearranged (R186). -/
def State.BurstBytes (s : State) (d : Die) (f : DmaF) (b : Burst) (t : State) (bs : List Nat) : Prop :=
  f.op = 1 ∧ t = s ∧ bs = fillBytes f b.dstOff b.n ∨
    ∃ raw, f.op ≠ 1 ∧ outOfMemory b.src b.n = false ∧ s.isOwn (b.src.toNat - (b.units f.swap).1) = true ∧
      s.memRead (.dma d) (b.src.toNat - (b.units f.swap).1) (b.units f.swap).2 = (t, .ok raw) ∧ bs = b.cut f.swap raw

theorem State.BurstBytes.keeps {bs : List Nat} (h : s.BurstBytes d f b t bs) : Keeps s t := by
  obtain ⟨-, rfl, -⟩ | ⟨raw, -, -, -, hread, -⟩ := h
  · exact Keeps.refl _
  · exact KeepsP.of_eq (s.memRead_keeps ..) hread

/-- A burst with its bytes formed is stored. -/
theorem State.runBurst_stores {bs : List Nat} (h : s.BurstBytes d f b t bs) : s.runBurst d ch f b = t.burstStore d ch f b bs := by
  obtain ⟨hop, rfl, rfl⟩ | ⟨raw, hop, hin, hown, hread, rfl⟩ := h
  · rw [State.runBurst, if_pos hop]
  · simp [State.runBurst, hop, hin, hown, hread]

/-- A burst of this module that memory takes is done (R187, R188). -/
theorem State.burstStore_done {t1 t2 : State} {bs out : List Nat} (hin : outOfMemory b.dst b.n = false)
    (hown : s.isOwn b.dst.toNat = true) (hfree : s.overlapFree f b bs = (t1, out))
    (hwrite : t1.memWrite (.dma d) b.dst.toNat out = (t2, none)) : s.burstStore d ch f b bs = t2.burstDone d.code ch b.n := by
  simp [State.burstStore, hin, hfree, hown, hwrite]

/-- The burst that the engine grants runs, and the grant is noted (R187). -/
theorem State.dmaBurst_granted {level : Nat} (hready : s.readyBurst d.code ch = some (f, b))
    (hgrant : s.dmaChoice d.code = some (ch, level)) (bad : List (BitVec 44 × Fin 5)) :
    s.dmaBurst d ch bad =
      ((s.disturbAll bad).runBurst d ch f b).noteGrant d.code ch level ((s.dmaReady d.code).map Prod.fst) := by
  simp [State.dmaBurst, hready, hgrant]

/-- A burst that is done advances its descriptor, or under a stop request leaves the channel STOPPED (R188, R190). -/
theorem State.burstDone_advances {die n : Nat} {e : DmaDesc} {rest : List DmaDesc} (h : (s.dma die ch).queue = e :: rest) :
    s.burstDone die ch n = (s.setDma die ch (if (s.dma die ch).mode = 4 then { DmaS.init with mode := 3 }
      else { s.dma die ch with queue := { e with done := e.done + n } :: rest, progLt := 0, flight := none })).bump
        .DMA_CH_BYTES die 0 ch n := by
  simp [State.burstDone, h]

end

section

variable {s : State} {d : Die} {ch : Fin 32} {e : DmaDesc} {rest : List DmaDesc}

theorem execDmaDescriptorStart_starts (hq : (s.dma d.code ch.val).queue = e :: rest) (hnew : e.started = false)
    (hfault : (s.dma d.code ch.val).mode ≠ 2) (hstop : (s.dma d.code ch.val).mode ≠ 4) :
    exec (.dmaDescriptorStart d ch) s = .next (s.setDma d.code ch.val
      { s.dma d.code ch.val with queue := { e with started := true } :: rest, progLt := 0, mode := 0 }) := by
  change execDmaDescriptorStart d ch s = _
  simp [execDmaDescriptorStart, hq, hnew, hfault, hstop]

theorem execDmaDescriptorComplete_completes (hq : (s.dma d.code ch.val).queue = e :: rest) (hrun : e.started = true)
    (hmode : (s.dma d.code ch.val).mode = 0) (hall : (dmaFields e.word).total ≤ e.done) :
    let f := dmaFields e.word
    let t := s.setDma d.code ch.val { s.dma d.code ch.val with queue := rest, progLt := 0 }
    exec (.dmaDescriptorComplete d ch) s = .next (if f.sig then t.signal d.code f.stwin f.sdie f.sem f.sn else t) := by
  change execDmaDescriptorComplete d ch s = _
  simp [execDmaDescriptorComplete, hq, hrun, hmode, Nat.not_lt.2 hall]

end

end Sys2Proof.Machine

namespace Sys2Proof.Proofs

open Sys2Proof.Machine

/-- Settles O22: each clause is the rule of its row (`State.dmaSubmit_accepts` to `execDmaDescriptorComplete_completes`). -/
theorem dmaChannelRows : Obligations.DmaChannelRows := by
  intro s d ch q
  refine ⟨?submit, fun e rest hq hnew hfault hstop => execDmaDescriptorStart_starts hq hnew hfault hstop, ?burst,
    fun e rest hq hrun hmode hall => execDmaDescriptorComplete_completes hq hrun hmode hall,
    fun hcur hmode hlt => if_pos ⟨hcur, hmode, hlt⟩⟩
  case submit =>
    intro w v bs a h hmine hmode hroom hown hal hpop hread hpass
    exact congrArg Host.Outcome.next (State.writeReg_done h (State.regAct_dmaChSubmit w
      (State.dmaRegSubmit_accepts hown (State.dmaSubmit_accepts hmine hmode hroom hal hpop hread hpass))))
  case burst =>
    intro bad f b level s0 t0 t1 t2 bs out e rest hready hgrant hs0 hbytes hin hown hfree hwrite hq x y
    subst hs0
    rw [← (s.disturbAll_keeps bad).isOwn] at hbytes
    have hbytes : (s.disturbAll bad).BurstBytes d f b t0 bs := hbytes
    have hown0 : t0.isOwn b.dst.toNat = true := (((s.disturbAll_keeps bad).trans hbytes.keeps).isOwn _).trans hown
    refine congrArg Host.Outcome.next ?_
    rw [State.dmaBurst_granted hready hgrant, State.runBurst_stores hbytes, State.burstStore_done hin hown0 hfree hwrite,
      State.burstDone_advances hq]

end Sys2Proof.Proofs

/-!
SUPPORT. A block whose next read mismatches its sidecar, as a local tick announces it, is mended by the first read that meets it
(R173); two states with such a block.
-/

namespace Sys2Proof.Machine

section

variable {s : State} {b n : Nat}

/-- A mended block is no longer announced. -/
theorem State.mend_noise (s : State) (b : Nat) : (s.mend b).noise = s.noise.filter fun e => e.1 != b := by
  unfold State.mend
  split <;> rfl

theorem State.mend_sidecar (s : State) (b : Nat) : (s.mend b).sidecar = s.sidecar := by
  unfold State.mend
  split <;> rfl

/-- Where one block alone is announced and it is among those read, it is mended. -/
theorem State.mendBlocks_single {addrs : List Nat} {x : Nat} (hnoise : s.noise = [(b, n)]) (hside : s.sidecar = [])
    (hx : x ∈ addrs) (hb : x / 256 = b) : s.mendBlocks addrs = s.mend b := by
  have hread : addrs.any (fun a => a / 256 == b) = true := List.any_eq_true.2 ⟨x, hx, by simp [hb]⟩
  simp [State.mendBlocks, hnoise, hside, Sparse.get, Sparse.find?, hread]

theorem State.badBlock_unmarked (h : s.sidecar = []) (addrs : List Nat) : s.badBlock addrs = none := if_pos h

/-- A read of a tier that meets the announced block delivers, and mends it (R173). -/
theorem State.readRange_mends {a len x : Nat} (hpop : s.populated a len = true) (hreg : regionOf a ≠ 2)
    (hpairs : s.pairsMet a len = []) (hnoise : s.noise = [(b, n)]) (hside : s.sidecar = []) (hx : x < len)
    (hb : (a + x) / 256 = b) : ∃ bs, s.readRange a len = (s.mend b, .ok bs) := by
  have hmem : a + x ∈ (List.range len).map fun i => redirect [] (a + i) := List.mem_map.2 ⟨x, List.mem_range.2 hx, rfl⟩
  refine ⟨((List.range len).map fun i => redirect [] (a + i)).map (s.mend b).byte, ?_⟩
  simp only [State.readRange, hpop, Bool.not_true, Bool.false_eq_true, if_false, if_neg hreg, hpairs, hnoise, reduceCtorEq,
    and_false, State.mendBlocks_single hnoise hside hmem hb, State.badBlock_unmarked ((s.mend_sidecar b).trans hside)]

/-- A TIER_READ by another requester than a control core answers what the block's read delivers (R173). -/
theorem execTierRead_direct {t : State} {r : Requester} {addr : BitVec 44} {bad : Fin 5} {x : Except MemErr (List Nat)}
    (hr : ∀ e, r ≠ .cc e) (hreg : regionOf (addr.toNat / 256 * 256) < 2)
    (hpop : s.populated (addr.toNat / 256 * 256) 256 = true) (hread : s.tierBlock r (addr.toNat / 256 * 256) bad = (t, x)) :
    exec (.tierRead r addr bad) s = .next (t.answer (readResp x)) := by
  change execTierRead r addr bad s = _
  cases r with
  | cc e => exact absurd rfl (hr e)
  | _ => simp [execTierRead, Nat.not_le.2 hreg, State.isOwn_of_populated hpop, hpop, hread]

/-- A read that meets no further mismatch is the read of its range. -/
theorem State.tierBlock_undisturbed {r : Requester} {a : Nat} (hreg : regionOf a < 2) :
    s.tierBlock r a 0 = s.readRange a 256 := by
  have hgo : sramForbidden r a 256 = false := by simp [sramForbidden, Nat.ne_of_lt hreg]
  simp [State.tierBlock, State.disturb, State.memRead, hgo]

end

/-- The state after reset, but that the next read of the first block of the fast tier mismatches once. -/
def noisyBlock : State := { State.reset with noise := [(0, 1)] }

theorem noisyBlock_populated : noisyBlock.populated ((0 : BitVec 44).toNat / 256 * 256) 256 = true := by decide +kernel

/-- A read of that block by a DMA engine mends it. -/
theorem noisyBlock_tierRead : ∃ t, exec (.tierRead (.dma (.x 0)) 0 0) noisyBlock = .next t ∧ t.noise = [] := by
  have hreg : regionOf ((0 : BitVec 44).toNat / 256 * 256) < 2 := by simp [regionOf, bits]
  obtain ⟨bs, hread⟩ := State.readRange_mends (x := 0) noisyBlock_populated (Nat.ne_of_lt hreg) rfl rfl rfl (by decide) rfl
  rw [← State.tierBlock_undisturbed (r := .dma (.x 0)) hreg] at hread
  exact ⟨(noisyBlock.mend 0).answer (.data bs),
    execTierRead_direct (fun _ => Requester.noConfusion) hreg noisyBlock_populated hread, noisyBlock.mend_noise 0⟩

end Sys2Proof.Machine

namespace Sys2Proof.Proofs

open Sys2Proof.Machine

/-- Refutes O24: the statement takes every state with no sidecar marked, also one in which the next read of a block mismatches. A
TIER_READ with no mismatch of its own mends that block, and the statement's next state still announces it. -/
theorem not_tierAccesses : ¬ Obligations.TierAccesses := by
  intro h
  obtain ⟨-, hread, -⟩ := h noisyBlock (.dma (.x 0)) 0 rfl rfl (fun _ => Requester.noConfusion)
  obtain ⟨hplain, -⟩ := hread (by simp [regionOf, bits]) (State.isOwn_of_populated noisyBlock_populated) noisyBlock_populated
  obtain ⟨t, ht, hmended⟩ := noisyBlock_tierRead
  rw [hplain] at ht
  have hsame : t.noise = [(0, 1)] := by rw [← Host.Outcome.next.inj ht]; rfl
  rw [hmended] at hsame
  cases hsame

end Sys2Proof.Proofs

/-!
SUPPORT. The copy of a line whose block is announced to mismatch reads it again (R173, R177).
-/

namespace Sys2Proof.Machine

/-- Channel 0 of the fast tier on M-die 0 migrates, and the next read of its first line mismatches once. -/
def noisyLine : State := { State.reset with migs := [⟨0, 0, 0, 0, false⟩], noise := [(0, 1)] }

/-- The first block of the fast tier lies at that line. -/
theorem noisyLine_block : noisyLine.lineBlock 0 0 0 0 [0] = some 0 := by decide +kernel

theorem noisyLine_primary : 1 < noisyLine.primaryLines 0 := by decide +kernel

theorem execMigrationLineCopy_copies {s : State} {m : Fin 12} {slow : Bool} {g : Mig} (hg : s.migOf m.val (b2n slow) = some g)
    (hgo : g.stopped = false) (hgood : s.badLine m.val (b2n slow) g.ch g.line = none)
    (hmore : g.line + 1 < s.primaryLines (b2n slow)) : exec (.migrationLineCopy m slow) s =
      .next (((s.mendLine m.val (b2n slow) g.ch g.line).setRg .MC_MIG_PTR (0x40 + m.val) 0 0 (g.line + 1)).setMig
        { g with line := g.line + 1 }) := by
  change execMigrationLineCopy m slow s = _
  simp [execMigrationLineCopy, hg, hgo, hgood, hmore]

/-- The copy of the line mends the block. -/
theorem noisyLine_mended : (noisyLine.mendLine 0 0 0 0).noise = [] := by
  have hblock : noisyLine.lineBlock 0 0 0 0 (noisyLine.noise.map Prod.fst) = some 0 := noisyLine_block
  rw [State.mendLine, hblock]
  exact noisyLine.mend_noise 0

end Sys2Proof.Machine

namespace Sys2Proof.Proofs

open Sys2Proof.Machine

/-- Refutes O26: the statement takes every state, also one in which the next read of a block of the line mismatches. The copy of
the line reads that block again and so mends it, and the statement's next state still announces it. -/
theorem not_channelRetirementAndCaches : ¬ Obligations.ChannelRetirementAndCaches := by
  intro h
  obtain ⟨-, hcopy, -⟩ := h noisyLine
  obtain ⟨hmore, -⟩ := hcopy 0 false ⟨0, 0, 0, 0, false⟩ rfl rfl rfl
  have hnext := (hmore noisyLine_primary).symm.trans
    (execMigrationLineCopy_copies (s := noisyLine) (m := 0) (slow := false) rfl rfl rfl noisyLine_primary)
  have hnoise : [(0, 1)] = (noisyLine.mendLine 0 0 0 0).noise := congrArg State.noise (Host.Outcome.next.inj hnext)
  rw [noisyLine_mended] at hnoise
  cases hnoise

end Sys2Proof.Proofs

/-!
SUPPORT. A field of a register reads back as stored, and the fields beside it as before; what a signal does to its semaphore and the
waits on it (R197, R198, R200).
-/

namespace Sys2Proof.Machine

/-! ### Fields of a register -/

section

variable (v lo w x : Nat)

/-- Replacing a field leaves the bits below it. -/
theorem setBits_mod : setBits v lo w x % 2 ^ lo = v % 2 ^ lo := by
  have hle : bits v lo w * 2 ^ lo ≤ v :=
    Nat.le_trans (Nat.mul_le_mul_right _ (Nat.mod_le _ _)) (Nat.div_mul_le_self v (2 ^ lo))
  rw [setBits, Nat.add_mul_mod_self_right]
  conv => rhs; rw [← Nat.sub_add_cancel hle, Nat.add_mul_mod_self_right]

/-- From the field's place on stand its new value and what stood above it. -/
theorem setBits_div : setBits v lo w x / 2 ^ lo = x % 2 ^ w + 2 ^ w * (v / 2 ^ lo / 2 ^ w) := by
  have hsplit : bits v lo w + 2 ^ w * (v / 2 ^ lo / 2 ^ w) = v / 2 ^ lo := Nat.mod_add_div (v / 2 ^ lo) (2 ^ w)
  rw [setBits, Nat.add_mul_div_right _ _ (Nat.two_pow_pos lo), Nat.mul_comm (bits v lo w), Nat.sub_mul_div]
  omega

/-- The field reads back as stored. -/
theorem bits_setBits_same : bits (setBits v lo w x) lo w = x % 2 ^ w := by
  rw [bits, setBits_div, Nat.add_mul_mod_self_left, Nat.mod_mod]

/-- A field wholly below or above it reads as before. -/
theorem bits_setBits_ne {lo' w' : Nat} (h : lo' + w' ≤ lo ∨ lo + w ≤ lo') :
    bits (setBits v lo w x) lo' w' = bits v lo' w' := by
  obtain hbelow | habove := h
  · have hlow (u : Nat) : bits u lo' w' = u % 2 ^ lo % 2 ^ (lo' + w') / 2 ^ lo' := by
      rw [Nat.mod_mod_of_dvd _ (Nat.pow_dvd_pow 2 hbelow), bits, Nat.pow_add, Nat.mod_mul_right_div_self]
    rw [hlow, hlow, setBits_mod]
  · have hhigh (u : Nat) : bits u lo' w' = u / 2 ^ lo / 2 ^ w / 2 ^ (lo' - (lo + w)) % 2 ^ w' := by
      rw [bits, Nat.div_div_eq_div_mul, Nat.div_div_eq_div_mul, ← Nat.pow_add, ← Nat.pow_add]
      congr 3
      omega
    rw [hhigh, hhigh, setBits_div, Nat.add_mul_div_left _ _ (Nat.two_pow_pos w),
      Nat.div_eq_of_lt (Nat.mod_lt _ (Nat.two_pow_pos w)), Nat.zero_add]

/-- A field survives the cut to a width that holds it. -/
theorem bits_mod_of_le {n : Nat} (h : lo + w ≤ n) : bits (v % 2 ^ n) lo w = bits v lo w := by
  have hfield (u : Nat) : bits u lo w = u % 2 ^ (lo + w) / 2 ^ lo := by
    rw [bits, Nat.pow_add, Nat.mod_mul_right_div_self]
  rw [hfield, hfield, Nat.mod_mod_of_dvd _ (Nat.pow_dvd_pow 2 h)]

theorem bit_eq (i : Nat) : bit v i = (bits v i 1 == 1) := rfl

theorem bit_setBits_same (i : Nat) : bit (setBits v i 1 1) i = true := by rw [bit_eq, bits_setBits_same]; rfl

end

section

variable (s : State) {r : Reg} {die i j lo w : Nat} (x : Nat)

/-- A stored field of a 64-bit register reads back cut to its width. -/
theorem State.fld_setFld_same (hr : r.row.w64 = true) (hw : lo + w ≤ 64) :
    (s.setFld r die i j lo w x).fld r die i j lo w = x % 2 ^ w := by
  rw [State.fld, State.setFld, State.rg_setRg, if_pos rfl, if_pos hr, bits_mod_of_le _ _ _ hw, bits_setBits_same]

/-- A field beside it reads as before. -/
theorem State.fld_setFld_ne {lo' w' : Nat} (hr : r.row.w64 = true) (hw : lo' + w' ≤ 64) (h : lo' + w' ≤ lo ∨ lo + w ≤ lo') :
    (s.setFld r die i j lo w x).fld r die i j lo' w' = s.fld r die i j lo' w' := by
  rw [State.fld, State.setFld, State.rg_setRg, if_pos rfl, if_pos hr, bits_mod_of_le _ _ _ hw, bits_setBits_ne _ _ _ _ h,
    State.fld]

theorem State.setFld_sameRegsBut : SameRegsBut [loc r die i j] s (s.setFld r die i j lo w x) :=
  s.setRg_sameRegsBut _ _ _ _ _

theorem State.setFld_regsOnly : RegsOnly s (s.setFld r die i j lo w x) := s.setRg_regsOnly ..

end

/-! ### Signals (R197, R198, R200) -/

section

variable {s : State} {die i : Nat}

/-- The first wait on a semaphore that its value covers takes its amount and is woken; then the waits left are served (R198). -/
theorem State.serve_covers {w : SemWait} (hfirst : s.semWaits.find? (fun w => w.die == die && w.sem == i) = some w)
    (hn : w.n ≤ s.sem die i) (k : Nat) :
    s.serve die i (k + 1) = (({ s.setRg .VETCH_SEM die 0 i (s.sem die i - w.n) with
      semWaits := s.semWaits.erase w } : State).wake w).serve die i k := by
  rw [State.serve, hfirst]
  exact if_pos hn

/-- One that it does not cover stands, and the waits behind it with it (R198). -/
theorem State.serve_blocked
    (h : ∀ w, s.semWaits.find? (fun w => w.die == die && w.sem == i) = some w → s.sem die i < w.n) (k : Nat) :
    s.serve die i k = s := by
  cases k with
  | zero => rfl
  | succ k =>
    rw [State.serve]
    cases hfirst : s.semWaits.find? fun w => w.die == die && w.sem == i with
    | none => rfl
    | some w => exact if_neg (Nat.not_le.2 (h w hfirst))

/-- A signal below the limit adds its amount before the waits are served (R200). -/
theorem State.addSem_below {n : Nat} (h : s.sem die i + n < 2 ^ 32) :
    s.addSem die i n = (s.setRg .VETCH_SEM die 0 i (s.sem die i + n)).serve die i s.semWaits.length := by
  simp only [State.addSem, if_pos h, State.setRg_semWaits]

theorem State.sem_setSem {v : Nat} (hv : v < 2 ^ 32) : (s.setRg .VETCH_SEM die 0 i v).sem die i = v :=
  s.rg_setRg_same (r := .VETCH_SEM) (Nat.le_sub_one_of_lt hv)

/-- The first fault of a Vetch node is recorded (R225). -/
def State.vetchRecord (s : State) (die cause index : Nat) : State :=
  if bit (s.rg .VETCH_FAULT die 0 0) 63 then s else s.setRg .VETCH_FAULT die 0 0 (2 ^ 63 + cause * 2 ^ 32 + index)

/-- A Vetch fault records and is reported to the die control block. -/
theorem State.vetchFault_eq (s : State) (die cause index : Nat) :
    s.vetchFault die cause index = (s.vetchRecord die cause index).dieFault die 0x01 0 cause := rfl

/-- The record changes registers only. -/
theorem State.vetchRecord_eq (s : State) (die cause index : Nat) :
    s.vetchRecord die cause index = { s with regs := (s.vetchRecord die cause index).regs } := by
  unfold State.vetchRecord
  split <;> rfl

theorem State.vetchRecord_sameRegsBut (s : State) (die cause index : Nat) :
    SameRegsBut [loc .VETCH_FAULT die 0 0] s (s.vetchRecord die cause index) :=
  SameRegsBut.ite (s.setRg_sameRegsBut _ _ _ _ _)

theorem State.vetchRecord_fault (s : State) (die : Nat) {cause index : Nat} (hc : cause < 256) (hi : index < 2 ^ 32) :
    (s.vetchRecord die cause index).rg .VETCH_FAULT die 0 0 =
      if bit (s.rg .VETCH_FAULT die 0 0) 63 then s.rg .VETCH_FAULT die 0 0 else 2 ^ 63 + cause * 2 ^ 32 + index := by
  have hfits : 2 ^ 63 + cause * 2 ^ 32 + index ≤ Reg.VETCH_FAULT.max := by
    rw [show Reg.VETCH_FAULT.max = 2 ^ 64 - 1 from rfl]
    omega
  unfold State.vetchRecord
  generalize 2 ^ 63 + cause * 2 ^ 32 + index = v at hfits ⊢
  split
  · rfl
  · exact s.rg_setRg_same hfits

/-- VETCH_FAULT and DIE_FAULT after a Vetch fault: the first one stays (R225, R484). -/
theorem State.vetchFault_records (s : State) (die : Nat) {cause index : Nat} (hc : cause < 256) (hi : index < 2 ^ 32) :
    let t := s.vetchFault die cause index
    t.rg .VETCH_FAULT die 0 0 =
      (if bit (s.rg .VETCH_FAULT die 0 0) 63 then s.rg .VETCH_FAULT die 0 0 else 2 ^ 63 + cause * 2 ^ 32 + index) ∧
    t.rg .DIE_FAULT die 0 0 =
      (if bit (s.rg .DIE_FAULT die 0 0) 63 then s.rg .DIE_FAULT die 0 0 else 2 ^ 63 + 1 * 2 ^ 40 + cause) := by
  have hdie : (s.vetchRecord die cause index).rg .DIE_FAULT die 0 0 = s.rg .DIE_FAULT die 0 0 :=
    (s.vetchRecord_sameRegsBut die cause index).rg (by simp [loc, Reg.row])
  have hrec := (s.vetchRecord die cause index).dieFault_record (die := die) (block := 1) (unit := 0) (by decide) (by decide) hc
  rw [hdie, Nat.zero_mul, Nat.add_zero] at hrec
  exact ⟨(State.dieFault_rg_ne _ (by simp [loc, Reg.row])).trans (s.vetchRecord_fault die hc hi), hrec⟩

/-- A Vetch fault joins those on their way to the half in charge, and changes no wait (R395). -/
theorem State.vetchFault_frame (s : State) (die cause index : Nat) :
    let t := s.vetchFault die cause index
    t.semWaits = s.semWaits ∧ t.faultQ = s.faultQ ++ [⟨die, 0x01, 0, cause⟩] := by
  obtain ⟨-, hwaits, hq⟩ := (s.vetchRecord die cause index).dieFault_frame die 0x01 0 cause
  rw [s.vetchRecord_eq] at hwaits hq
  rw [s.vetchFault_eq, s.vetchRecord_eq]
  exact ⟨hwaits, hq⟩

theorem State.vetchFault_sameRegsBut (s : State) (die cause index : Nat) :
    SameRegsBut [loc .VETCH_FAULT die 0 0, loc .DIE_FAULT die 0 0] s (s.vetchFault die cause index) :=
  ((s.vetchRecord_sameRegsBut die cause index).mono (by simp)).trans
    (SameRegsBut.mono (State.dieFault_sameRegsBut _ die 0x01 0 cause) (by simp))

/-- A signal past the limit leaves the largest value, with Vetch fault 0x01, before the waits are served (R200). -/
theorem State.addSem_past {n : Nat} (h : 2 ^ 32 ≤ s.sem die i + n) :
    s.addSem die i n =
      ((s.setRg .VETCH_SEM die 0 i (2 ^ 32 - 1)).vetchFault die 0x01 i).serve die i s.semWaits.length := by
  obtain ⟨hwaits, -⟩ := (s.setRg .VETCH_SEM die 0 i (2 ^ 32 - 1)).vetchFault_frame die 0x01 i
  simp only [State.addSem, if_neg (Nat.not_lt.2 h), hwaits, State.setRg_semWaits]

/-- A signal of amount 0 is refused (R200). -/
theorem State.vetchSignalWrite_zero (remote : Option Nat) {v : Nat} (hn : bits v 32 16 = 0) :
    s.vetchSignalWrite remote die v = (s, false) := if_pos hn

end

end Sys2Proof.Machine

namespace Sys2Proof.Proofs

open Sys2Proof.Machine

/-- Settles O27: a signal adds its amount (`State.addSem_below`), or leaves the limit and a Vetch fault (`State.addSem_past`). -/
theorem signalsClampAtTheLimit : Obligations.SignalsClampAtTheLimit := by
  intro s d i n
  refine ⟨fun hlt => congrArg Host.Outcome.next (State.addSem_below hlt), fun hge => ?past, fun w v h hn => ?zero⟩
  case past =>
    let z := s.setRg .VETCH_SEM d.code 0 i.val (2 ^ 32 - 1)
    have hz : SameRegsBut [loc .VETCH_SEM d.code 0 i.val] s z := s.setRg_sameRegsBut _ _ _ _ _
    have hzsem : z.sem d.code i.val = 2 ^ 32 - 1 := State.sem_setSem (by decide)
    have hframe := z.vetchFault_sameRegsBut d.code 0x01 i.val
    obtain ⟨hfault, hdie⟩ := z.vetchFault_records d.code (cause := 0x01) (index := i.val) (by decide) (by omega)
    obtain ⟨hwaits, hq⟩ := z.vetchFault_frame d.code 0x01 i.val
    rw [hz.rg (by simp only [List.mem_singleton, loc, Reg.row]; omega)] at hfault
    rw [hz.rg (by simp only [List.mem_singleton, loc, Reg.row]; omega)] at hdie
    exact ⟨z.vetchFault d.code 0x01 i.val, congrArg Host.Outcome.next (State.addSem_past hge),
      (hframe.rg (by simp only [List.mem_cons, List.not_mem_nil, or_false, loc, Reg.row]; omega)).trans hzsem,
      hfault, hdie, hq, hwaits, z.vetchFault_mem .., (hz.mono (by simp)).trans (hframe.mono (by simp))⟩
  case zero => exact congrArg Host.Outcome.next (State.writeReg_refused h (congrArg wans (State.vetchSignalWrite_zero _ hn)))

/-- Settles O28: the first wait is served (`State.serve_covers`) or holds up the others (`State.serve_blocked`). -/
theorem waitsAreServedInOrder : Obligations.WaitsAreServedInOrder := by
  intro s d i n k hlt v on hk
  let z := s.setRg .VETCH_SEM d.code 0 i.val v
  have hz : z.sem d.code i.val = v := State.sem_setSem hlt
  have hsame : SameRegsBut [loc .VETCH_SEM d.code 0 i.val] s z := s.setRg_sameRegsBut _ _ _ _ _
  have hsig : exec (.signal .here d i n) s = .next (z.serve d.code i.val k) :=
    congrArg Host.Outcome.next (hk ▸ State.addSem_below hlt)
  refine ⟨fun w hfirst hn => ?serves, fun hshort => ?blocked⟩
  case serves =>
    obtain ⟨k, rfl⟩ : ∃ m, k = m + 1 :=
      Nat.exists_eq_succ_of_ne_zero (hk ▸ Nat.ne_of_gt (List.length_pos_of_mem (List.mem_of_find?_eq_some hfirst)))
    let u := z.setRg .VETCH_SEM d.code 0 i.val (z.sem d.code i.val - w.n)
    have husem : u.sem d.code i.val = v - w.n := by
      rw [← hz]
      exact State.sem_setSem (by omega)
    refine ⟨{ u with semWaits := z.semWaits.erase w }, ?_, husem, rfl, hsame.trans (z.setRg_sameRegsBut _ _ _ _ _), rfl⟩
    rw [hsig, State.serve_covers (s := z) hfirst (hz.symm ▸ hn) k]
    rfl
  case blocked =>
    refine ⟨z, ?_, hz, s.setRg_regsOnly .., hsame⟩
    rw [hsig, State.serve_blocked (s := z) (fun w hw => hz.symm ▸ hshort w hw) k]

end Sys2Proof.Proofs

/-!
SUPPORT. What an arrival at a die meets (R202, R205), and what completes a generation there (R204, R209).
-/

namespace Sys2Proof.Machine

section

variable {s : State} {die ctx : Nat}

/-- The arrivals counted for the current generation. -/
def State.barArrived (s : State) (die ctx : Nat) : Nat := s.fld .VETCH_BAR_STATUS die 0 ctx 0 8

/-- The arrivals counted ahead for the next generation. -/
def State.barNext (s : State) (die ctx : Nat) : Nat := s.fld .VETCH_BAR_STATUS die 0 ctx 8 8

/-- The message of a die that has become complete: its own COMPLETE at die scope, else an ARRIVE (R204, R209). -/
def State.completeMsg (s : State) (die ctx : Nat) : VMsg :=
  if s.barScope die ctx = 0 then .complete die ctx (s.barGen die ctx)
  else .arrive die ctx (s.barGen die ctx) 0 (if ctx = 0 then s.rg .STEP_NONFIN die 0 0 % 2 else 0)

theorem State.completeMsg_ofDie (h : s.barScope die ctx = 0) : s.completeMsg die ctx = .complete die ctx (s.barGen die ctx) :=
  if_pos h

theorem State.completeMsg_wider (h : s.barScope die ctx ≠ 0) :
    ∃ flags, s.completeMsg die ctx = .arrive die ctx (s.barGen die ctx) 0 flags := ⟨_, if_neg h⟩

theorem State.dieComplete_eq (s : State) (die ctx : Nat) :
    s.dieComplete die ctx = { s with vmsgs := s.vmsgs ++ [s.completeMsg die ctx] } := by
  unfold State.dieComplete State.completeMsg
  split <;> rfl

theorem State.dieComplete_regs (s : State) (die ctx : Nat) : (s.dieComplete die ctx).regs = s.regs := by
  rw [s.dieComplete_eq]

/-- A die without EXPECT takes no part (R202). -/
theorem State.arriveAt_noExpect (h : s.barExpect die ctx = 0) : s.arriveAt die ctx = (s, .refused) := if_pos h

/-- An arrival below EXPECT counts for the current generation, and the one that reaches it completes the die (R205). -/
theorem State.arriveAt_current (h : s.barArrived die ctx < s.barExpect die ctx) :
    let z := s.setFld .VETCH_BAR_STATUS die 0 ctx 0 8 (s.barArrived die ctx + 1)
    s.arriveAt die ctx = (if s.barArrived die ctx + 1 = s.barExpect die ctx then z.dieComplete die ctx else z,
      .counted (s.barGen die ctx)) :=
  (if_neg (Nat.ne_zero_of_lt h)).trans (if_pos h)

section

variable (hpart : 0 < s.barExpect die ctx) (hfull : s.barExpect die ctx ≤ s.barArrived die ctx)
include hpart hfull

/-- One after that counts ahead, but for context 0, while fewer than EXPECT do (R205). -/
theorem State.arriveAt_ahead (hctx : ctx ≠ 0) (hnext : s.barNext die ctx < s.barExpect die ctx) :
    s.arriveAt die ctx = (s.setFld .VETCH_BAR_STATUS die 0 ctx 8 8 (s.barNext die ctx + 1),
      .counted ((s.barGen die ctx + 1) % 2 ^ 32)) :=
  ((if_neg (Nat.ne_of_gt hpart)).trans (if_neg (Nat.not_lt.2 hfull))).trans (if_pos ⟨hctx, hnext⟩)

/-- Any other would have to wait (R205). -/
theorem State.arriveAt_held (h : ctx = 0 ∨ s.barExpect die ctx ≤ s.barNext die ctx) : s.arriveAt die ctx = (s, .held) :=
  ((if_neg (Nat.ne_of_gt hpart)).trans (if_neg (Nat.not_lt.2 hfull))).trans (if_neg fun hahead =>
    h.elim hahead.1 (Nat.not_le.2 hahead.2))

end

theorem State.barExpect_lt (s : State) (die ctx : Nat) : s.barExpect die ctx < 256 := Nat.mod_lt _ (by decide)

/-- Semaphores and the configuration of barriers lie apart from their status. -/
theorem State.sem_of_barStatus {t : State} (h : SameRegsBut [loc .VETCH_BAR_STATUS die 0 ctx] s t) (hctx : ctx < 256) (i : Nat) :
    t.sem die i = s.sem die i :=
  h.rg (by simp only [List.mem_singleton, loc, Reg.row]; omega)

theorem State.barScope_of_barStatus {t : State} (h : SameRegsBut [loc .VETCH_BAR_STATUS die 0 ctx] s t) (hctx : ctx < 256) :
    t.barScope die ctx = s.barScope die ctx := by
  rw [State.barScope, State.barScope, State.fld, State.fld, h.rg (by simp only [List.mem_singleton, loc, Reg.row]; omega)]

end

end Sys2Proof.Machine

namespace Sys2Proof.Proofs

open Sys2Proof.Machine

/-- Settles O30: an arrival is refused, counted for the current generation, counted ahead, or held (`State.arriveAt_noExpect` and the
lemmas beside it). -/
theorem barrierArrivals : Obligations.BarrierArrivals := by
  intro s d ctx v arrived next gen e t a
  have he : e < 256 := s.barExpect_lt d.code ctx.val
  refine ⟨fun hnone => ?refused, fun hlt => ?current, fun hpart hfull hctx hnext => ?ahead, fun hpart hfull hwait => ?held⟩
  case refused => exact Prod.mk.inj (State.arriveAt_noExpect hnone)
  case held => exact (Prod.mk.inj (State.arriveAt_held hpart hfull hwait)).symm
  case ahead =>
    have hans := State.arriveAt_ahead hpart hfull hctx hnext
    have ht : t = s.setFld .VETCH_BAR_STATUS d.code 0 ctx.val 8 8 (next + 1) := congrArg Prod.fst hans
    rw [ht]
    refine ⟨congrArg Prod.snd hans, State.setFld_regsOnly .., State.fld_setFld_ne _ _ rfl (by decide) (by decide), ?_,
      s.setFld_sameRegsBut _⟩
    exact (State.fld_setFld_same _ _ rfl (by decide)).trans (Nat.mod_eq_of_lt (Nat.lt_of_le_of_lt hnext he))
  case current =>
    let z := s.setFld .VETCH_BAR_STATUS d.code 0 ctx.val 0 8 (arrived + 1)
    have hans := State.arriveAt_current hlt
    have ht : t = if arrived + 1 = e then z.dieComplete d.code ctx.val else z := congrArg Prod.fst hans
    have ha : a = .counted gen := congrArg Prod.snd hans
    have hz : SameRegsBut [loc .VETCH_BAR_STATUS d.code 0 ctx.val] s z := s.setFld_sameRegsBut _
    have hregs : t.regs = z.regs := by
      rw [ht]
      split
      · exact z.dieComplete_regs ..
      · rfl
    have hfld (lo w : Nat) : t.fld .VETCH_BAR_STATUS d.code 0 ctx.val lo w = z.fld .VETCH_BAR_STATUS d.code 0 ctx.val lo w :=
      congrArg (bits · lo w) (State.rg_of_regs hregs ..)
    have hgen : z.barGen d.code ctx.val = gen := State.fld_setFld_ne _ _ rfl (by decide) (by decide)
    refine ⟨ha, ?count, ?next, (hfld 32 32).trans hgen, s.arriveAt_mem .., ?sems, fun hmore => ?stays, fun hlast => ?completes⟩
    case count =>
      exact (hfld 0 8).trans ((State.fld_setFld_same _ _ rfl (by decide)).trans (Nat.mod_eq_of_lt (Nat.lt_of_le_of_lt hlt he)))
    case next => exact (hfld 8 8).trans (State.fld_setFld_ne _ _ rfl (by decide) (by decide))
    case sems => exact fun i => (State.rg_of_regs hregs ..).trans (State.sem_of_barStatus hz ctx.isLt i)
    case stays => rw [ht, if_neg hmore]; rfl
    case completes =>
      have hscope : z.barScope d.code ctx.val = s.barScope d.code ctx.val := State.barScope_of_barStatus hz ctx.isLt
      refine ⟨z.completeMsg d.code ctx.val, ?_, fun hdie => ?_, fun hwide => ?_⟩
      · rw [ht, if_pos hlast, z.dieComplete_eq]
        rfl
      · rw [State.completeMsg_ofDie (hscope.trans hdie), hgen]
      · rw [← hgen]
        exact State.completeMsg_wider (hscope ▸ hwide)

end Sys2Proof.Proofs

/-!
SUPPORT. A commit semaphore whose index no die has (R197, R219): an epoch boundary that signals it.
-/

namespace Sys2Proof.Machine

/-- A commit semaphore past the 4,096 of a die: the register space has VETCH_EPOCH of M-die 1 where this one of M-die 0 would
stand. -/
def strayCommit : HItem := ⟨0x100, 0x3FF002, 0⟩

theorem reset_epochOf : State.reset.epochOf 0x41 = 0 := by decide +kernel

/-- The boundary of M-die 0 signals it, and the epoch of M-die 1 reads 1. -/
theorem advanceDie_strayCommit : (State.reset.advanceDie 0x40 0 [strayCommit]).epochOf 0x41 = 1 := by decide +kernel

end Sys2Proof.Machine

namespace Sys2Proof.Proofs

open Sys2Proof.Machine

/-- Refutes O32: the statement takes every list of items, also one with a commit semaphore past the 4,096 of a die. Where its index
comes to the place of another die's VETCH_EPOCH in the register space, the signal that it makes changes that epoch. -/
theorem not_epochBecomesVisible : ¬ Obligations.EpochBecomesVisible := by
  intro h
  obtain ⟨-, hother, -⟩ := h State.reset (.m 0) (.m 1) 0 0 [strayCommit] (by decide)
  have hsame : (State.reset.advanceDie 0x40 0 [strayCommit]).epochOf 0x41 = State.reset.epochOf 0x41 := hother (by decide)
  rw [advanceDie_strayCommit, reset_epochOf] at hsame
  cases hsame

end Sys2Proof.Proofs

/-!
SUPPORT. A message that nothing precedes on its path is taken (R194), and a frame next in sequence is delivered (R335, R336).
-/

namespace Sys2Proof.Machine

/-- The first message wanted is taken past those that neither are wanted nor must arrive before it. -/
theorem takeMsg_skips {want blocks : VMsg → Bool} {pre rest : List VMsg} {m : VMsg}
    (hpre : ∀ x ∈ pre, want x = false ∧ blocks x = false) (hm : want m = true) :
    takeMsg want blocks (pre ++ m :: rest) = some (m, pre ++ rest) := by
  induction pre with
  | nil => exact if_pos hm
  | cons x pre ih =>
    obtain ⟨hwant, hblocks⟩ := hpre x List.mem_cons_self
    have ih := ih fun y hy => hpre y (List.mem_cons_of_mem x hy)
    simp [takeMsg, hwant, hblocks, ih]

section

variable {s : State} {d : Die} {pre rest : List VMsg}

/-- ARRIVE that no earlier one of its die precedes reaches the module root (R194, R204). -/
theorem execArrive_takes {ctx : Fin 256} {gen : BitVec 32} {rd : BitVec 16} {fl : BitVec 8}
    (hs : s.vmsgs = pre ++ .arrive d.code ctx.val gen.toNat rd.toNat fl.toNat :: rest)
    (hpre : ∀ c g r f, VMsg.arrive d.code c g r f ∉ pre) :
    exec (.arrive .here d ctx gen rd fl) s =
      .next (({ s with vmsgs := pre ++ rest } : State).arriveDie d.code ctx.val gen.toNat rd.toNat fl.toNat).passSignals := by
  change execArrive .here d ctx gen rd fl s = _
  unfold execArrive
  dsimp only
  rw [hs, takeMsg_skips ?skips (by simp)]
  case skips =>
    intro x hx
    cases x with
    | arrive die c g r f =>
      have hdie : die ≠ d.code := by rintro rfl; exact hpre _ _ _ _ hx
      simp [hdie]
    | complete | advance | signal => exact ⟨rfl, rfl⟩

section

variable (hpre : ∀ c g, VMsg.complete d.code c g ∉ pre) (hadv : ∀ e k f is, VMsg.advance d.code e k f is ∉ pre)
include hpre hadv

/-- Without a COMPLETE or an ADVANCE of a die no message travels down to it. -/
theorem State.downTo_free (s : State) : ∀ x ∈ pre, s.downTo d.code x = false := by
  intro x hx
  cases x with
  | complete die c g =>
    have hdie : die ≠ d.code := by rintro rfl; exact hpre _ _ hx
    simp [State.downTo, hdie]
  | advance die e k f is =>
    have hdie : die ≠ d.code := by rintro rfl; exact hadv _ _ _ _ hx
    simp [State.downTo, hdie]
  | arrive | signal => rfl

/-- COMPLETE that no message down to its die precedes completes its context there (R194, R204). -/
theorem execComplete_takes {ctx : Fin 256} {gen : BitVec 32}
    (hs : s.vmsgs = pre ++ .complete d.code ctx.val gen.toNat :: rest) :
    exec (.complete .here d ctx gen) s =
      .next (({ s with vmsgs := pre ++ rest } : State).completeAt d.code ctx.val gen.toNat).passSignals := by
  change execComplete .here d ctx gen s = _
  unfold execComplete
  dsimp only
  rw [hs, takeMsg_skips ?skips (by simp)]
  case skips =>
    intro x hx
    refine ⟨?_, ?_⟩
    · cases x with
      | complete die c g =>
        have hdie : die ≠ d.code := by rintro rfl; exact hpre _ _ hx
        simp [hdie]
      | arrive | advance | signal => rfl
    · split
      · rfl
      · exact s.downTo_free hpre hadv x hx

/-- ADVANCE that no message down to its die precedes makes the die's boundary (R194, R210). -/
theorem execAdvance_takes {e : BitVec 64} {k f : Nat} {is : List HItem}
    (hs : s.vmsgs = pre ++ .advance d.code e.toNat k f is :: rest) (commits aborts : BitVec 16) (flags : BitVec 8) :
    exec (.advance .here d e commits aborts flags) s =
      .next (({ s with vmsgs := pre ++ rest } : State).advanceDie d.code e.toNat is).passSignals.heldAdvance := by
  change execAdvance .here d e commits aborts flags s = _
  unfold execAdvance
  dsimp only
  rw [hs, takeMsg_skips ?skips (by simp)]
  case skips =>
    intro x hx
    refine ⟨?_, s.downTo_free hpre hadv x hx⟩
    cases x with
    | advance die e k f is =>
      have hdie : die ≠ d.code := by rintro rfl; exact hadv _ _ _ _ hx
      simp [hdie]
    | arrive | complete | signal => rfl

end

end

/-- A frame that is next in sequence on the synchronisation lane of a port that is UP, of an admitted source that is no fenced twin,
and addressed to this module takes its effect here once it is acknowledged and accepted. -/
theorem State.rxFrame_delivers {s : State} {r : FRx} (hup : s.portState r.port.val = 2)
    (hlane : bit (s.portReg .SL_STATUS r.port.val) 4 = true) :
    let s1 := s.frameAcks r.port.val (r.ack.map BitVec.toNat) r.nak
    let s2 := s1.acceptFrame r.port.val
    r.seq.toNat = (s1.port r.port.val).fRx → s2.admitted r.src.toNat = true → s2.fenced r.src.toNat = false →
    r.dst.toNat = s2.node → ∀ b, s.rxFrame r b = s2.deliverFrame r.src.toNat b := by
  intro s1 s2 hseq hadm hfen hdst b
  simp only [State.rxFrame, State.takeFrame, hup, hlane, hseq, hadm, hfen, hdst, s1, s2]
  simp

theorem dieCode_toNat (d : Die) : (BitVec.ofNat 8 d.code).toNat = d.code := by
  refine Nat.mod_eq_of_lt ?_
  cases d <;> simp only [Die.code] <;> omega

end Sys2Proof.Machine

namespace Sys2Proof.Proofs

open Sys2Proof.Machine

/-- Settles O31: inside the module each message is taken (`execArrive_takes` and those beside it); as a frame it is delivered
(`State.rxFrame_delivers`). -/
theorem vetchMessagesTakeEffect : Obligations.VetchMessagesTakeEffect := by
  intro s d
  refine ⟨fun ctx gen rd fl pre rest hs hpre => execArrive_takes hs hpre, fun pre rest hpre hadv =>
    ⟨fun ctx gen hs => execComplete_takes hpre hadv hs, fun e k a f k' f' is hs => execAdvance_takes hpre hadv hs k a f⟩,
    fun r hup hlane => ?frames⟩
  case frames =>
    intro s1 s2 hseq hadm hfen hdst
    have hdel (b : Frame) : s.rxFrame r b = s2.deliverFrame r.src.toNat b :=
      State.rxFrame_delivers hup hlane hseq hadm hfen hdst b
    refine ⟨fun i n => ?_, fun ctx gen rd fl => congrArg Host.Outcome.next (hdel _),
      fun ctx gen => congrArg Host.Outcome.next (hdel _), fun e k a f => congrArg Host.Outcome.next (hdel _),
      fun h inst => congrArg Host.Outcome.next (hdel _)⟩
    have hsig := hdel (.signal (BitVec.ofNat 8 d.code) i n)
    rw [State.deliverFrame, dieCode_toNat] at hsig
    exact congrArg Host.Outcome.next hsig

end Sys2Proof.Proofs

/-!
SUPPORT. What opening, staging and READY do to a Hoop slot (R213 to R217), and the writes of Hoop registers that come to them.
-/

namespace Sys2Proof.Machine

section

variable (s : State) {h : Nat}

/-! ### HOOP_STATUS -/

theorem State.hoopSt_set_same {lo w : Nat} (x : Nat) (hw : lo + w ≤ 64) : (s.setHoopSt h lo w x).hoopSt h lo w = x % 2 ^ w :=
  s.fld_setFld_same x rfl hw

theorem State.hoopSt_set_ne {lo w lo' w' : Nat} (x : Nat) (hw : lo' + w' ≤ 64) (hne : lo' + w' ≤ lo ∨ lo + w ≤ lo') :
    (s.setHoopSt h lo w x).hoopSt h lo' w' = s.hoopSt h lo' w' := s.fld_setFld_ne x rfl hw hne

theorem State.hoopSt_setHoop (x : HoopS) (g lo w : Nat) : (s.setHoop h x).hoopSt g lo w = s.hoopSt g lo w :=
  congrArg (bits · lo w) (State.rg_of_regs (s.setHoop_regs h x) ..)

theorem State.hoop_setHoopSt (lo w x g : Nat) : (s.setHoopSt h lo w x).hoop g = s.hoop g := by
  rw [State.hoop, State.setHoopSt, State.setFld, State.setRg_hoops, State.hoop]

theorem State.setHoop_sameRegsBut (h : Nat) (x : HoopS) (ls : List Nat) : SameRegsBut ls s (s.setHoop h x) := by
  intro l _
  rw [State.setHoop_regs]

theorem State.setHoopSt_sameRegsBut (lo w x : Nat) : SameRegsBut [loc .HOOP_STATUS 0x60 0 h] s (s.setHoopSt h lo w x) :=
  s.setFld_sameRegsBut x

theorem State.hoopSt_lt (h lo w : Nat) : s.hoopSt h lo w < 2 ^ w := Nat.mod_lt _ (Nat.two_pow_pos w)

/-! ### Opening (R213, R221) -/

/-- HOOP_STATUS of a slot that opens: its number, OPEN, READY, CAUSE. -/
def openStatus (inst ready cause : Nat) : Nat := inst * 2 ^ 32 + 1 * 2 ^ 29 + ready * 2 ^ 28 + cause * 2 ^ 24

theorem bits_openStatus {inst ready cause : Nat} (hi : inst < 2 ^ 32) (hr : ready < 2) (hc : cause < 16) :
    bits (openStatus inst ready cause) 29 3 = 1 ∧ bits (openStatus inst ready cause) 0 9 = 0 ∧
    bits (openStatus inst ready cause) 32 32 = inst ∧ bits (openStatus inst ready cause) 28 1 = ready := by
  simp only [openStatus, bits]
  omega

/-- The number with which a slot opens next: 0 the first time (R221). -/
def State.hoopNext (s : State) (h : Nat) : Nat := if (s.hoop h).opened = 0 then 0 else (s.hoopInst h + 1) % 2 ^ 32

/-- Whether a slot is READY as it opens: CFG expects no declaration (R215). -/
def State.hoopReadyAtOnce (s : State) (h : Nat) : Bool := bits (s.rg .HOOP_CFG 0x60 0 h) 0 11 == 0

theorem State.hoopOpen_eq (h : Nat) : s.hoopOpen h =
    (s.setRg .HOOP_STATUS 0x60 0 h (openStatus (s.hoopNext h) (b2n (s.hoopReadyAtOnce h)) (s.hoopSt h 24 4))).setHoop h
      { s.hoop h with items := [], opened := (s.hoop h).opened + 1, ticks := 0, pend := 0 } := by
  simp only [State.hoopOpen, openStatus, State.hoopNext, State.hoopReadyAtOnce]

theorem State.hoopOpen_status (h lo w : Nat) (hw : lo + w ≤ 64) : (s.hoopOpen h).hoopSt h lo w =
    bits (openStatus (s.hoopNext h) (b2n (s.hoopReadyAtOnce h)) (s.hoopSt h 24 4)) lo w := by
  rw [s.hoopOpen_eq, State.hoopSt_setHoop, State.hoopSt, State.fld, State.rg_setRg, if_pos rfl,
    if_pos (show Reg.HOOP_STATUS.row.w64 = true from rfl), bits_mod_of_le _ _ _ hw]

theorem State.hoopOpen_sameRegsBut (h : Nat) : SameRegsBut [loc .HOOP_STATUS 0x60 0 h] s (s.hoopOpen h) := by
  rw [s.hoopOpen_eq]
  exact SameRegsBut.trans (s.setRg_sameRegsBut _ _ _ _ _) (State.setHoop_sameRegsBut _ _ _ _)

/-! ### Items and declarations (R214, R215) -/

/-- An item is appended and counted, and the slot is STAGING (R214). -/
def State.hoopAppend (s : State) (h : Nat) (x : HItem) : State :=
  ((s.setHoop h { s.hoop h with items := (s.hoop h).items ++ [x] }).setHoopSt h 0 9 (s.hoopSt h 0 9 + 1)).setHoopSt h 29 3 2

/-- A declaration is counted, and the slot is STAGING (R215). -/
def State.hoopDeclared (s : State) (h : Nat) : State := (s.setHoopSt h 9 11 (s.hoopSt h 9 11 + 1)).setHoopSt h 29 3 2

variable {s}

/-- A slot that is decided or ready takes no item (R214, R215). -/
theorem State.hoopStage_refused (hno : s.hoopUndecided h = false ∨ s.hoopSt h 28 1 = 1) (kind : Nat) (target value : BitVec 64) :
    s.hoopStage h kind target value = (s, 1) :=
  if_pos (by simpa using hno)

section

variable (hund : s.hoopUndecided h = true) (hnew : s.hoopSt h 28 1 = 0)
include hund hnew

/-- One that is neither takes an item that its target can take (R214). -/
theorem State.hoopStage_accepts {kind : Nat} {target value : BitVec 64} (hroom : s.hoopSt h 0 9 < 256)
    (hok : s.itemOk h kind target.toNat value.toNat = true) :
    s.hoopStage h kind target value = (s.hoopAppend h ⟨kind, target, value⟩, 0) := by
  have hopen : ¬ ((!s.hoopUndecided h || s.hoopSt h 28 1 == 1) = true) := by simp [hund, hnew]
  exact ((if_neg hopen).trans (if_neg (Nat.not_le.2 hroom))).trans (if_pos hok)

/-- It counts a declaration, and is ready with the last that CFG expects (R215). -/
theorem State.hoopReady_counts : s.hoopReady h =
    (if s.hoopSt h 9 11 + 1 = bits (s.rg .HOOP_CFG 0x60 0 h) 0 11 then (s.hoopDeclared h).setHoopSt h 28 1 1
      else s.hoopDeclared h, true) :=
  (if_neg (by simp [hund])).trans (if_neg (by omega))

end

variable (s)

theorem State.hoopAppend_sameRegsBut (h : Nat) (x : HItem) : SameRegsBut [loc .HOOP_STATUS 0x60 0 h] s (s.hoopAppend h x) :=
  ((s.setHoop_sameRegsBut h _ _).trans (State.setHoopSt_sameRegsBut _ 0 9 _)).trans (State.setHoopSt_sameRegsBut _ 29 3 2)

theorem State.hoopAppend_mem (h : Nat) (x : HItem) : (s.hoopAppend h x).mem = s.mem := by
  rw [State.hoopAppend, State.setHoopSt_mem, State.setHoopSt_mem, State.setHoop_mem]

theorem State.hoopAppend_items (h : Nat) (x : HItem) : ((s.hoopAppend h x).hoop h).items = (s.hoop h).items ++ [x] := by
  rw [State.hoopAppend, State.hoop_setHoopSt, State.hoop_setHoopSt, State.hoop_setHoop, if_pos rfl]

/-- An appended item leaves the slot STAGING with its number, and one more item counted. -/
theorem State.hoopAppend_status (x : HItem) (hroom : s.hoopSt h 0 9 < 256) :
    (s.hoopAppend h x).hoopSt h 0 9 = s.hoopSt h 0 9 + 1 ∧ (s.hoopAppend h x).hoopSt h 29 3 = 2 ∧
      (s.hoopAppend h x).hoopInst h = s.hoopInst h := by
  unfold State.hoopAppend State.hoopInst
  refine ⟨?_, State.hoopSt_set_same _ 2 (by decide), ?_⟩
  · rw [State.hoopSt_set_ne _ _ (by decide) (by decide), State.hoopSt_set_same _ _ (by decide), Nat.mod_eq_of_lt (by omega)]
  · rw [State.hoopSt_set_ne _ _ (by decide) (by decide), State.hoopSt_set_ne _ _ (by decide) (by decide),
      State.hoopSt_setHoop]

theorem State.hoopDeclared_sameRegsBut (h : Nat) : SameRegsBut [loc .HOOP_STATUS 0x60 0 h] s (s.hoopDeclared h) :=
  (s.setHoopSt_sameRegsBut 9 11 _).trans (State.setHoopSt_sameRegsBut _ 29 3 2)

/-- A declaration leaves the slot STAGING with one more counted, and READY as it was. -/
theorem State.hoopDeclared_status (hroom : s.hoopSt h 9 11 < 2047) :
    (s.hoopDeclared h).hoopSt h 9 11 = s.hoopSt h 9 11 + 1 ∧ (s.hoopDeclared h).hoopSt h 29 3 = 2 ∧
      (s.hoopDeclared h).hoopSt h 28 1 = s.hoopSt h 28 1 := by
  unfold State.hoopDeclared
  refine ⟨?_, State.hoopSt_set_same _ 2 (by decide), ?_⟩
  · rw [State.hoopSt_set_ne _ _ (by decide) (by decide), State.hoopSt_set_same _ _ (by decide), Nat.mod_eq_of_lt (by omega)]
  · rw [State.hoopSt_set_ne _ _ (by decide) (by decide), State.hoopSt_set_ne _ _ (by decide) (by decide)]

/-! ### Register rows of Hoop -/

section

variable {v : Nat}

/-- OPEN opens a slot that is not undecided (R213). -/
theorem State.hoopCtrlWrite_opens (hopen : bit v 0 = true) (habort : bit v 1 = false) (hfree : s.hoopUndecided h = false) :
    s.hoopCtrlWrite h v = (s.hoopOpen h, true) := by
  simp [State.hoopCtrlWrite, hopen, habort, hfree]

/-- It is refused on one that is (R213). -/
theorem State.hoopCtrlWrite_undecided (hopen : bit v 0 = true) (habort : bit v 1 = false) (hund : s.hoopUndecided h = true) :
    s.hoopCtrlWrite h v = (s, false) := by
  simp [State.hoopCtrlWrite, hopen, habort, hund]

/-- ABORT aborts what its slot has open (R217). -/
theorem State.hoopCtrlWrite_aborts (hopen : bit v 0 = false) (habort : bit v 1 = true) :
    s.hoopCtrlWrite h v = (s.hoopAbort h 3, true) := by
  simp [State.hoopCtrlWrite, hopen, habort]

/-- A window stages its item in the slot that the command names (R214). -/
theorem State.hoopStgWrite_stages {win : Nat} (hready : bit v 16 = false) (hlo : 1 ≤ bits v 8 8) (hhi : bits v 8 8 ≤ 6) :
    let r := s.hoopStage (bits v 0 4) (bits v 8 8) (BitVec.ofNat 64 (s.rg .HOOP_STG_TGT 0x60 0 win))
      (BitVec.ofNat 64 (s.rg .HOOP_STG_VAL 0x60 0 win))
    s.hoopStgWrite win v = r.1.setRg .HOOP_STG_RES 0x60 0 win r.2 := by
  simp [State.hoopStgWrite, hready, Nat.ne_zero_of_lt hlo, Nat.not_lt.2 hhi]

/-- An item type that Table 7.4 does not list is result 2 (R214). -/
theorem State.hoopStgWrite_unlisted {win : Nat} (hhi : 6 < bits v 8 8) :
    s.hoopStgWrite win v = s.setRg .HOOP_STG_RES 0x60 0 win 2 := by
  simp [State.hoopStgWrite, Nat.ne_zero_of_lt hhi, hhi]

/-- Without an item READY declares the slot ready (R215). -/
theorem State.hoopStgWrite_declares {win : Nat} (hready : bit v 16 = true) (hnone : bits v 8 8 = 0) :
    let r := s.hoopReady (bits v 0 4)
    s.hoopStgWrite win v = r.1.setRg .HOOP_STG_RES 0x60 0 win (if r.2 then 0 else 1) := by
  rcases hr : s.hoopReady (bits v 0 4) with ⟨z, ok⟩
  cases ok <;> simp [State.hoopStgWrite, hready, hnone, hr]

/-- A write of HOOP_STG_CMD that reaches its rules is answered ok, whatever the result (R214). -/
theorem State.writeReg_hoopStg {s t : State} {w : Writer} {die i win : Nat}
    (hreach : s.reaches w .HOOP_STG_CMD die i win v = true) (hact : s.hoopStgWrite win v = t) :
    s.writeReg w .HOOP_STG_CMD die i win v = t.answer .ok :=
  State.writeReg_done hreach (congrArg (fun z => wans (z, true)) hact)

end

/-! ### HOOP.WAIT (R220) -/

variable {s} {c : CoreId} {x : BitVec 128}

section

variable (hat : s.atCommand c x 0x32 [(116, 4), (111, 5), (106, 5)] ⟨[], [cf x 111 5, cf x 106 5]⟩ = true)
include hat

/-- Once decided it answers the outcome and the epoch of the decision. -/
theorem execHoopWait_decided {ok : Bool} {e : Nat} (hdec : s.hoopOutcome c.ix (cf x 116 4) = .decided ok e) :
    exec (.hoopWait c .none) s = .next
      (((s.setSc c.ix (cf x 111 5) (if ok then 1 else 2)).setSc c.ix (cf x 106 5) (if ok then e else 0)).retire c.ix) := by
  refine (next_atCommand hat rfl).trans ?_
  simp only [hdec]

/-- Before that it is held until the decision. -/
theorem execHoopWait_undecided {i : Nat} (hund : s.hoopOutcome c.ix (cf x 116 4) = .undecided i) :
    exec (.hoopWait c .none) s =
      .next ((s.setSeq c.ix { s.seq c.ix with hoopWait := some (cf x 116 4, i) }).holdSeq c.ix 3) := by
  refine (next_atCommand hat rfl).trans ?_
  simp only [hund]

end

end

end Sys2Proof.Machine

namespace Sys2Proof.Proofs

open Sys2Proof.Machine

/-- Settles O35: the fields of HOOP_STATUS after `State.hoopOpen_eq`, `State.hoopStage_accepts` and `State.hoopReady_counts`. -/
theorem hoopItemsAndDeclarations : Obligations.HoopItemsAndDeclarations := by
  intro s h kind tgt val o
  refine ⟨?opens, fun hund hnew hroom hok => ?stages, fun hno => State.hoopStage_refused hno kind tgt val,
    fun hund hnew hcount => ?declares⟩
  case opens =>
    have hinst : s.hoopNext h.val < 2 ^ 32 := by
      unfold State.hoopNext
      split <;> omega
    have hready : b2n (s.hoopReadyAtOnce h.val) < 2 := by
      unfold b2n
      split <;> decide
    obtain ⟨hopen, hnone, hnext, hrdy⟩ := bits_openStatus hinst hready (s.hoopSt_lt h.val 24 4)
    have hst := s.hoopOpen_status h.val
    refine ⟨(hst 29 3 (by decide)).trans hopen, ?_, (hst 0 9 (by decide)).trans hnone, (hst 32 32 (by decide)).trans hnext, ?_,
      s.hoopOpen_sameRegsBut h.val⟩
    · rw [show o = _ from s.hoopOpen_eq h.val, State.hoop_setHoop, if_pos rfl]
    · rw [hst 28 1 (by decide), hrdy]
      simp [b2n, State.hoopReadyAtOnce]
  case stages =>
    obtain ⟨hcount, hstaging, hinst⟩ := s.hoopAppend_status ⟨kind, tgt, val⟩ hroom
    rw [State.hoopStage_accepts hund hnew hroom hok]
    exact ⟨rfl, s.hoopAppend_items h.val _, hcount, hstaging, hinst, s.hoopAppend_sameRegsBut h.val _, s.hoopAppend_mem h.val _⟩
  case declares =>
    obtain ⟨hn, hstaging, hrdy⟩ := s.hoopDeclared_status hcount
    have hsame := s.hoopDeclared_sameRegsBut h.val
    rw [State.hoopReady_counts hund hnew]
    intro t n
    have ht : t = if n = bits (s.rg .HOOP_CFG 0x60 0 h.val) 0 11 then (s.hoopDeclared h.val).setHoopSt h.val 28 1 1
      else s.hoopDeclared h.val := rfl
    clear_value t
    by_cases hlast : n = bits (s.rg .HOOP_CFG 0x60 0 h.val) 0 11
    · rw [if_pos hlast] at ht
      rw [ht, State.hoopSt_set_ne (lo := 28) (w := 1) (lo' := 9) _ _ (by decide) (by decide),
        State.hoopSt_set_ne (lo := 28) (w := 1) (lo' := 29) _ _ (by decide) (by decide), State.hoopSt_set_same _ _ (by decide)]
      exact ⟨rfl, hn, hstaging, (if_pos hlast).symm, hsame.trans (State.setHoopSt_sameRegsBut _ _ _ _)⟩
    · rw [if_neg hlast] at ht
      rw [ht]
      exact ⟨rfl, hn, hstaging, (hrdy.trans hnew).trans (if_neg hlast).symm, hsame⟩

end Sys2Proof.Proofs

namespace Sys2Proof.Proofs

open Sys2Proof.Machine

/-- Settles O34: a write that reaches its rules does what they say (`State.hoopCtrlWrite_opens` and the lemmas beside it). -/
theorem hoopRegisterRows : Obligations.HoopRegisterRows := by
  intro s w h v opn abt rdy
  refine ⟨fun hreach hab => ⟨fun hfree => ?opens, fun hund => ?refused⟩, fun hreach hop => ?aborts,
    fun hreach hready hlo => ⟨fun hhi => ?stages, fun hhi => ?unlisted⟩, fun hreach hnone => ?declares⟩
  case opens =>
    exact congrArg Host.Outcome.next (State.writeReg_done hreach
      (congrArg wans (s.hoopCtrlWrite_opens (bit_setBits_same _ 0) hab hfree)))
  case refused =>
    exact congrArg Host.Outcome.next (State.writeReg_refused hreach
      (congrArg wans (s.hoopCtrlWrite_undecided (bit_setBits_same _ 0) hab hund)))
  case aborts =>
    exact congrArg Host.Outcome.next (State.writeReg_done hreach
      (congrArg wans (s.hoopCtrlWrite_aborts hop (bit_setBits_same _ 1))))
  case stages => exact congrArg Host.Outcome.next (State.writeReg_hoopStg hreach (s.hoopStgWrite_stages hready hlo hhi))
  case unlisted => exact congrArg Host.Outcome.next (State.writeReg_hoopStg hreach (s.hoopStgWrite_unlisted hhi))
  case declares =>
    exact congrArg Host.Outcome.next
      (State.writeReg_hoopStg hreach (s.hoopStgWrite_declares (bit_setBits_same _ 16) hnone))

/-- Settles O9: each command runs (`next_atCommand`); HOOP.WAIT by the outcome that it meets (`execHoopWait_decided`,
`execHoopWait_undecided`). -/
theorem hoopCommandsOfASequencer : Obligations.HoopCommandsOfASequencer := by
  intro s c x h n
  refine ⟨fun hat hlo hhi => ?stage, fun hat => next_atCommand hat rfl,
    fun hat => ⟨fun e hdec => execHoopWait_decided (ok := true) hat hdec,
      fun e hdec => execHoopWait_decided (ok := false) hat hdec, fun i hund => execHoopWait_undecided hat hund⟩⟩
  case stage =>
    have hlisted : (decide (1 ≤ cf x 108 8) && decide (cf x 108 8 ≤ 6)) = true := by simp [hlo, hhi]
    exact next_atCommand hat hlisted

end Sys2Proof.Proofs

/-!
SUPPORT. What TEA.SET does with a value that Table 8.4 allows, and with one that it does not (R229, R250).
-/

namespace Sys2Proof.Machine

/-! ### Writes of a configuration register -/

section

variable (s : State) (c : CoreId) {i : Nat} (v : Nat)

/-- A register that is no block register only takes its value, under its mask. -/
theorem State.teaWrite_plain (hin : i ≠ 5) (hout : i ≠ 6) :
    s.teaWrite c.ix i v = s.setRg .TEA_CFG c.die.val c.core.val i (v &&& teaMask i) := by
  rw [State.teaWrite, c.ix_div, c.ix_mod]
  exact if_neg (not_or.2 ⟨hin, hout⟩)

/-- A block register also ends its side's sweep and opens the next one (R229). -/
theorem State.teaWrite_block (hblk : i = 5 ∨ i = 6) :
    s.teaWrite c.ix i v = (s.setRg .TEA_CFG c.die.val c.core.val i (v &&& teaMask i)).setTea c.ix
      ((s.tea c.ix).block (i - 5) (bits v 0 16) (bits v 16 9)) := by
  rw [State.teaWrite, c.ix_div, c.ix_mod]
  exact if_pos hblk

end

/-! ### TEA.SET -/

section

variable {s : State} {c : CoreId} {x : BitVec 128} {blk : Bool}
  (h : s.atCommand c x 0x70 [(116, 4), (111, 5)] ⟨[cf x 111 5], []⟩ = true)
  (hrow : (cf x 116 4 == 5 || cf x 116 4 == 6) = blk)
include h hrow

/-- While the outputs are valid, a value in range is written and the command retires (R250). -/
theorem State.teaSetCmd_writes (hinv : s.teaInv c.ix = false)
    (hok : s.teaBad c.ix (cf x 116 4) (s.sc c.ix (cf x 111 5)) = false) :
    s.teaSetCmd c .none blk = (s.teaWrite c.ix (cf x 116 4) (s.sc c.ix (cf x 111 5))).retire c.ix := by
  refine (s.seqStep_atCommand c x _ _ _ (fun x => ⟨[cf x 111 5], []⟩) _ h rfl).trans ?_
  simp only [hrow, hinv, hok, bne_self_eq_false, Bool.or_self, Bool.false_eq_true, if_false]

/-- A value out of range is a command fault (R250). -/
theorem State.teaSetCmd_outOfRange (hbad : s.teaBad c.ix (cf x 116 4) (s.sc c.ix (cf x 111 5)) = true) :
    s.teaSetCmd c .none blk = s.seqFault c.ix 0x05 5 := by
  refine (s.seqStep_atCommand c x _ _ _ (fun x => ⟨[cf x 111 5], []⟩) _ h rfl).trans ?_
  simp only [hrow, hbad, bne_self_eq_false, Bool.or_true, Bool.false_eq_true, if_false, if_true]

end

/-- TEA.FLUSH that Teasel does not refuse is accepted and retires (R240). -/
theorem execTeaFlush_accepts {s : State} {c : CoreId} {x : BitVec 128}
    (h : s.atCommand c x 0x71 [(115, 5), (74, 1), (62, 12)] ⟨[cDst x], []⟩ = true)
    (href : s.flushRefused c.ix (s.sc c.ix (cDst x)) = false) :
    exec (.teaFlush c .none) s = .next
      ((s.flushAccept c.ix (s.sc c.ix (cDst x)) (cf x 74 1 == 1) (cf x 62 12)).retire c.ix) := by
  refine (next_atCommand h rfl).trans ?_
  simp only [href, Bool.false_eq_true, if_false]

end Sys2Proof.Machine

namespace Sys2Proof.Proofs

open Sys2Proof.Machine

/-- Settles O12: TEA.SET by the range of its value (`State.teaSetCmd_writes`, `State.teaSetCmd_outOfRange`) and the kind of its
register (`State.teaWrite_plain`, `State.teaWrite_block`), TEA.FLUSH by `execTeaFlush_accepts`. -/
theorem curvatureCommands : Obligations.CurvatureCommands := by
  intro s c x i v u
  refine ⟨fun h hinv => ?set, execTeaFlush_accepts⟩
  case set =>
    have hplain (hin : i ≠ 5) (hout : i ≠ 6) : (i == 5 || i == 6) = false := by simp [hin, hout]
    have hblock (hblk : i = 5 ∨ i = 6) : (i == 5 || i == 6) = true := by simpa using hblk
    refine ⟨fun hin hout hok => congrArg Host.Outcome.next ?plain, fun hblk hok => congrArg Host.Outcome.next ?block,
      fun hin hout hbad => congrArg Host.Outcome.next (State.teaSetCmd_outOfRange h (hplain hin hout) hbad),
      fun hblk hbad => congrArg Host.Outcome.next (State.teaSetCmd_outOfRange h (hblock hblk) hbad)⟩
    case plain =>
      exact (State.teaSetCmd_writes h (hplain hin hout) hinv hok).trans
        (congrArg (·.retire c.ix) (s.teaWrite_plain c v hin hout))
    case block =>
      exact (State.teaSetCmd_writes h (hblock hblk) hinv hok).trans (congrArg (·.retire c.ix) (s.teaWrite_block c v hblk))

end Sys2Proof.Proofs

/-!
SUPPORT. The rows of Teasel where nothing goes wrong: a capture (R231, R233), an update and its end (R235, R237, R238), and a flush
whose records all reach this module (R241, R242).
-/

namespace Sys2Proof.Machine

/-! ### Captures -/

/-- A pass with one more captured row: the bytes `bs` of its row `m`. -/
def Pass.capture (p : Pass) (n : Snoop) (m : Nat) (bs : List Nat) : Pass :=
  { p with snoop := some { n with captured := n.captured + 1, data := n.data ++ [(m, bs)] } }

/-- Scratchpad offset at which a pass of fields `f` captures its next row (R233). -/
def State.captureOff (s : State) (core : Nat) (f : MatF) (n : Snoop) : Nat :=
  let pr := s.teaCfg core (2 + f.side)
  bits pr 0 25 + (n.panel * bits pr 48 16 + n.captured) * bits pr 32 16 + n.cursor * f.sf.size

/-- Count the capture just written, and with the last row of its pass the pass (R231). -/
def State.countCapture (t : State) (core : Nat) (n : Snoop) : State :=
  (if n.captured + 1 = n.rows then t.setTea core ((t.tea core).passDone n.sweep) else t).bump
    .TEA_ROWS (core / 16) (core % 16) 0 1

section

variable {s t : State} {core a part i : Nat} {p : Pass} {n : Snoop} {bs : List Nat}

/-- A row that no older sweep holds up and that is read is written into its panel, kept for its pass and counted. -/
theorem State.teaCapture_writes (hfirst : firstUncaptured ((s.arr core a).part part).inflight 0 = some (i, p, n))
    (hfree : (s.tea core).captureWaits (matFields p.word).side n.panel n.sweep = false)
    (hrow : s.streamRow core p (firstSample n.tokBase n.sample + n.captured * n.sample) = (s, .ok bs))
    (hwrite : s.spWrite core (s.captureOff core (matFields p.word) n) bs = (t, none)) :
    s.teaCapture core a part false = (t.setArr core a ((s.arr core a).setPart part { (s.arr core a).part part with
      inflight := setAt ((s.arr core a).part part).inflight i
        (p.capture n (firstSample n.tokBase n.sample + n.captured * n.sample) bs) })).countCapture core n := by
  unfold State.captureOff at hwrite
  simp only [State.teaCapture, hfirst, hfree, hrow, hwrite, Bool.false_eq_true, if_false]
  rfl

end

/-! ### Updates -/

section

variable {s : State} {core : Nat} {w : Sweep} {rest : List Sweep} {hd : List Nat}

/-- Stream format of a sweep, which its first pass fixed (R232). -/
def Sweep.format (w : Sweep) : Nat := (w.first.map fun p => p.2.2.2).getD 2

/-- Twice the exponent of the loss scale that an update takes out: 0 on the input side (R235, R311). -/
def State.sweepScale (s : State) (w : Sweep) : Option Nat :=
  if w.side = 0 then some 0 else (s.brineExp w.step).map (2 * ·)

/-- Whether a slot's header is empty or agrees with the sweep that updates the slot (R237). -/
def Sweep.fits (w : Sweep) (h : Nat) : Prop :=
  bits h 128 64 = 0 ∨ (bits h 96 8 = w.side + 1 ∧ bits h 104 8 = w.format ∧ bits h 112 16 = w.width)

/-- Header of a slot in use after an update of sweep `w`: rows added, step and flags (R237, R238). -/
def Sweep.updatedHeader (w : Sweep) (h : Nat) : Nat :=
  let h1 := setBits (setBits h 128 64 (bits h 128 64 + w.rows)) 256 64 w.step
  setBits h1 320 32 (bits h1 320 32 ||| w.flags)

variable (hstop : s.stopping = false) (hclosed : (s.tea core).closed = w :: rest)
include hstop hclosed

/-- The oldest closed sweep runs its update when its captures are written, no flush holds it up, its scale is known and its
header fits. -/
theorem State.teaUpdate_runs {e2 : Nat} (hnew : w.updating = false) (hcap : w.passes ≤ w.passesDone)
    (hfree : (s.tea core).updateWaits w = false) (hscale : s.sweepScale w = some e2)
    (hread : s.spRead core (s.slotOff core w.slot) 256 = (s, .ok hd)) (hfits : w.fits (ofLeBytes hd)) :
    s.teaUpdate core false = s.teaUpdateRows core w ((matFmt w.format).getD .bf16) e2 rest blockTiles.zipIdx := by
  have hgo : ¬ (s.stopping = true ∨ w.updating = true ∨ w.passesDone < w.passes ∨ (s.tea core).updateWaits w = true) := by
    simp [hstop, hnew, hfree, hcap]
  have hsame : ¬ (bits (ofLeBytes hd) 128 64 ≠ 0 ∧ (!(bits (ofLeBytes hd) 96 8 == w.side + 1 &&
      bits (ofLeBytes hd) 104 8 == w.format && bits (ofLeBytes hd) 112 16 == w.width)) = true) := by
    rintro ⟨hused, hdiff⟩
    obtain hempty | ⟨hside, hfmt, hwidth⟩ := hfits
    · exact hused hempty
    · simp [hside, hfmt, hwidth] at hdiff
  unfold State.sweepScale at hscale
  unfold Sweep.format at hsame
  simp only [State.teaUpdate, hclosed, if_neg hgo, hscale, hread, if_neg hsame, Bool.false_eq_true, if_false]
  rfl

/-- An update that has run writes the header of its slot, in use, and its sweep leaves the queue. -/
theorem State.teaUpdateDone_writes {t : State} (hrun : w.updating = true)
    (hread : s.spRead core (s.slotOff core w.slot) 48 = (s, .ok hd)) (hused : bits (ofLeBytes hd) 96 8 ≠ 0)
    (hwrite : s.spWrite core (s.slotOff core w.slot + 12) (leBytes 36 (w.updatedHeader (ofLeBytes hd) >>> 96)) = (t, none)) :
    s.teaUpdateDone core false = ((t.raise (core / 16) (core % 16) w.flags).setTea core
      { t.tea core with closed := rest }).bump .TEA_UPDATES (core / 16) (core % 16) 0 1 := by
  unfold Sweep.updatedHeader at hwrite
  simp only [State.teaUpdateDone, hclosed, hrun, hstop, hread, if_neg hused, hwrite, Bool.not_true, Bool.false_eq_true,
    if_false]

end

/-! ### Flushes -/

/-- No sweep closed before the flush was accepted is left: the flush does not wait (R241). -/
theorem TeaS.flushWaits_eq_false {x : TeaS} {g : Flush} (h : ∀ w ∈ x.closed, g.mark ≤ w.closedAt) : x.flushWaits g = false :=
  List.any_eq_false.2 fun w hw => by simpa using h w hw

/-- The oldest flush ends once its records are all written to this module (R242). -/
theorem State.flushDone_ends {s t : State} {core : Nat} {g : Flush} {rest : List Flush} (hstop : s.stopping = false)
    (hfl : (s.tea core).flushes = g :: rest) (hnew : g.posted = false) (hwait : (s.tea core).flushWaits g = false)
    (hguard : s.guarded g.addr (slotBytes * g.count) = false)
    (hsent : s.freshVal.2.flushSlots core g g.count = (t, none)) (hown : t.flushAsked core = false) :
    s.flushDone core false = t.flushEnd core g rest := by
  simp only [State.flushDone, hfl, hnew, hwait, hguard, hstop, hsent, hown, Bool.or_self, Bool.false_and, Bool.false_eq_true,
    if_false]

end Sys2Proof.Machine

namespace Sys2Proof.Proofs

open Sys2Proof.Machine

/-- Settles O18: each clause is the rule of its row (`State.teaCapture_writes`, `State.teaUpdate_runs`,
`State.teaUpdateDone_writes`, `State.flushDone_ends`). -/
theorem curvatureUpdates : Obligations.CurvatureUpdates := by
  intro s c
  refine ⟨fun a part i p n bs t => ?capture, fun w rest e2 hd hstop hclosed => ⟨?update, ?complete⟩,
    fun g rest t hstop hfl hnew hmark hguard hsent hown => ?flush⟩
  case capture =>
    intro x q f hfirst hfree m hrow pr hwrite p1 t1
    rw [← c.ix_div, ← c.ix_mod]
    exact congrArg Host.Outcome.next (State.teaCapture_writes hfirst hfree hrow hwrite)
  case update =>
    exact fun hnew hcap hfree hscale hread hfits =>
      congrArg Host.Outcome.next (State.teaUpdate_runs hstop hclosed hnew hcap hfree hscale hread hfits)
  case complete =>
    intro hrun hread hused t h h1 hwrite t1
    subst t1
    rw [← c.ix_div, ← c.ix_mod]
    exact congrArg Host.Outcome.next (State.teaUpdateDone_writes hstop hclosed hrun hread hused hwrite)
  case flush =>
    rw [← c.ix_div]
    exact congrArg Host.Outcome.next
      (State.flushDone_ends hstop hfl hnew (TeaS.flushWaits_eq_false hmark) hguard hsent hown)

end Sys2Proof.Proofs

/-!
SUPPORT. The rows of Press where nothing goes wrong: the start of an update (R296, R301), its gate (R380), its directions (R284), its
tiles (R293), its end, and its arrival (R297).
-/

namespace Sys2Proof.Machine

theorem State.rg_setPress (s : State) (m e : Nat) (x : PressS) (r : Reg) (die i j : Nat) :
    (s.setPress m e x).rg r die i j = s.rg r die i j :=
  State.rg_of_regs (State.setPress_regs ..) r die i j

section

variable {s : State} {m : Fin 12} {e : Fin 8}

/-! ### Start -/

section

variable (hwait : s.prState m e = 1) (hact : s.prActive m e = true) (hen : bit (s.g .PR_CFG) 16 = true)
  (hrestart : bit (s.g .RESTART_CTRL) 0 = false)
include hwait hact hen hrestart

/-- A waiting engine discards a step whose verdict is overflow (R301). -/
theorem execUpdateStart_discards (hovf : s.brineOverflow (s.press m e).step = true) :
    exec (.updateStart m e) s = .next (s.pressBegin m e true) := by
  change execUpdateStart m e s = _
  simp [execUpdateStart, hwait, hact, hen, hrestart, hovf]

/-- A waiting engine begins the update of a step that neither aborted nor overflowed once its update slot is open and its epoch has
come (R296). -/
theorem execUpdateStart_begins (habort : ∀ b, ((s.press m e).step, b) ∉ (s.press m e).aborted)
    (hovf : s.brineOverflow (s.press m e).step = false) (hopen : s.updateOpen (s.press m e).step = true)
    (hdue : (if bits (s.g .PR_CFG) 4 3 < 2 then s.boundary ((s.press m e).step + 1)
      else s.boundary ((s.press m e).step + bits (s.g .PR_CFG) 4 3 - 1)) ≤ (s.epochOf (0x40 + m.val) : Int)) :
    exec (.updateStart m e) s = .next (s.pressBegin m e false) := by
  change execUpdateStart m e s = _
  simp only [execUpdateStart]
  rw [if_neg (by simp [hwait, hact, hen, hrestart]), if_neg (by simp [habort true, hovf]), if_neg (by simp [habort false]),
    if_pos ⟨hopen, hdue⟩]

end

/-- A granted gate lets its engine go on under its map, and may be the last that the map change waited for (R380). -/
theorem execShardGatePass_passes (hrun : s.prState m e = 2) (hgate : (s.press m e).gatePassed = false)
    (hgrant : s.granted (0x40 + m.val) (.gate e.val) = true) :
    exec (.shardGatePass m e) s = .next ((((s.useGrant (0x40 + m.val) (.gate e.val)).setPress m e
      { s.press m e with gatePassed := true, lastMap := some (s.press m e).map }).gateCheck).dirArm m e) := by
  change execShardGatePass m e s = _
  simp only [execShardGatePass]
  rw [if_neg (by simp [hrun, hgate, hgrant])]

/-! ### Directions -/

/-- An engine after `n` more bytes `bs` of its step's directions, from a ring of `chunks` chunks (R284, R301). -/
def PressS.tookChunk (p : PressS) (n chunks : Nat) (bs : List Nat) : PressS :=
  { p with dirBuf := if p.skip then [] else p.dirBuf ++ bs, dirTaken := p.dirTaken + n,
           ringPos := (p.ringPos + 1) % Nat.max chunks 1 }

/-- Bytes of the next chunk that the step has values for (R284). -/
def State.chunkLen (s : State) (m e : Nat) : Nat :=
  Nat.min (bits (s.rg .PR_DIR_RING (0x40 + m) 0 e) 26 22 * 1024) (s.dirTotal m e (s.press m e).map - (s.press m e).dirTaken)

/-- Staging offset of the next chunk (R284). -/
def State.chunkOff (s : State) (m e : Nat) : Nat :=
  let ring := s.rg .PR_DIR_RING (0x40 + m) 0 e
  bits ring 0 26 + (s.press m e).ringPos * (bits ring 26 22 * 1024)

/-- With FULL served the next chunk is read, the ring moves on, and FREE is signalled (R284). -/
theorem execDirChunk_reads {t : State} {bs : List Nat} (hrun : s.prState m e = 2) (hwant : s.dirWanted m e = true)
    (hgrant : s.granted (0x40 + m.val) (.dirRing e.val) = true)
    (hread : (s.useGrant (0x40 + m.val) (.dirRing e.val)).prRead m e
      ((s.useGrant (0x40 + m.val) (.dirRing e.val)).stAddr m (s.chunkOff m e)) (s.chunkLen m e) = (t, .ok bs))
    (hfree : dieCode (bits (t.rg .PR_DIR_SEM (0x40 + m.val) 0 e) 24 8) = true) :
    exec (.dirChunk m e) s = .next (((t.setPress m e ((s.press m e).tookChunk (s.chunkLen m e)
        (bits (s.rg .PR_DIR_RING (0x40 + m.val) 0 e) 48 16) bs)).signal (0x40 + m.val) false
      (bits (t.rg .PR_DIR_SEM (0x40 + m.val) 0 e) 24 8) (bits (t.rg .PR_DIR_SEM (0x40 + m.val) 0 e) 12 12) 1).dirArm m e) := by
  change execDirChunk m e s = _
  unfold State.chunkOff State.chunkLen at hread
  simp only [execDirChunk]
  rw [if_neg (by simp [hrun, hwant]), if_neg (by simp [hgrant]), hread]
  simp only [State.rg_setPress, hfree, if_true]
  rfl

/-- The wait for a direction chunk ends in a fault after VETCH_SEM_TO (R318). -/
theorem execDirRingWaitTimeout_faults {w : SemWait}
    (hw : s.semWaits.find? (fun w => w.die == 0x40 + m.val && w.who == Waiter.dirRing e.val) = some w)
    (hon : s.rg .VETCH_SEM_TO (0x40 + m.val) 0 0 ≠ 0) (hlt : s.rg .VETCH_SEM_TO (0x40 + m.val) 0 0 ≤ w.lt) :
    exec (.dirRingWaitTimeout m e) s = .next (s.pressFault m e 0x05 (s.press m e).entry) := by
  change execDirRingWaitTimeout m e s = _
  simp only [execDirRingWaitTimeout, hw]
  exact if_pos ⟨hon, hlt⟩

/-! ### Tiles and the end of an update -/

section

variable (hrun : s.prState m e = 2) (hskip : (s.press m e).skip = false) (hgate : (s.press m e).gatePassed = true)
include hrun hskip hgate

/-- A tile whose entry is read, whose directions are there and that no capture holds up runs (R293). -/
theorem execPressTile_runs {t : State} {x : PrEntry} (hleft : (s.press m e).entry < s.prCount m e (s.press m e).map)
    (hentry : s.prEntryAt m e (s.press m e).map (s.press m e).entry = (t, .ok x))
    (hdir : x.tile (s.press m e).elem * x.dirSize ≤ (s.press m e).dirBuf.length)
    (hfree : t.tileGuarded m e x (s.press m e).elem (x.tile (s.press m e).elem) = false) :
    exec (.pressTile m e false) s = .next (t.tileRun m e x (s.press m e).elem) := by
  change execPressTile m e false s = _
  simp only [execPressTile]
  rw [if_neg (by simp [hrun, hskip, hgate, hleft]), if_neg Bool.false_ne_true, hentry]
  simp only [if_neg (Nat.not_lt.2 hdir), hfree, Bool.false_eq_true, if_false]

/-- With no entry left the update is finished: it waits for its epoch and is counted (R296). -/
theorem execUpdateFinished_finishes (hstop : s.stopping = false) (hdone : s.prCount m e (s.press m e).map ≤ (s.press m e).entry) :
    exec (.updateFinished m e) s = .next ((((s.setPress m e { s.press m e with
        finished := some (s.press m e).step
        digest := if s.sorrelStep (s.press m e).step then some ((s.press m e).step, (s.press m e).engineDigest)
          else (s.press m e).digest }).setPrState m e 3).setFld .PR_STATUS (0x40 + m.val) 0 e 5 1 0).bump
      .PR_UPDATES (0x40 + m.val) 0 e 1) := by
  change execUpdateFinished m e s = _
  simp only [execUpdateFinished]
  rw [if_neg (by simp [hstop]), if_neg (by simp [hrun, hgate]), if_neg (by simp [hskip]), if_neg (Nat.not_lt.2 hdone)]

end

/-! ### Arrivals -/

/-- A finished update whose arrival is held stages its buffer and READY, and the arrival is counted (R297). -/
theorem execPressArrival_arrives {t u : State} {k : Nat} (hact : s.prActive m e = true) (hen : bit (s.g .PR_CFG) 16 = true)
    (hst : s.prState m e < 4) (hnew : (s.press m e).arrivedGen ≠ some (s.barGen (0x40 + m.val) 0))
    (hheld : s.arrivalHeld m e = some k) (hfin : (s.press m e).finished = some k)
    (hstage : s.hoopStage (bits (s.g .PR_CFG) 0 4) 2 (BitVec.ofNat 64 ((0x40 + m.val) * 256 + 8 + e.val))
      (BitVec.ofNat 64 (1 - s.rg .PR_WC_SEL (0x40 + m.val) 0 e)) = (t, 0))
    (hready : t.hoopReady (bits (s.g .PR_CFG) 0 4) = (u, true)) :
    exec (.pressArrival m e) s = .next ((u.setPrState m e 4).pressArrive m e) := by
  change execPressArrival m e s = _
  have hgoing : s.prState m e < 5 := Nat.lt_succ_of_lt hst
  simp only [execPressArrival]
  rw [if_neg (by simp [hact, hen, hnew, hgoing]), hheld]
  simp only [hfin, ne_eq, not_true_eq_false, if_false, if_neg (Nat.ne_of_lt hst), hstage, hready]

end

end Sys2Proof.Machine

namespace Sys2Proof.Proofs

open Sys2Proof.Machine

/-- Settles O37: each clause is the rule of its row (`execUpdateStart_discards` to `execPressArrival_arrives`). -/
theorem pressUpdates : Obligations.PressUpdates := by
  intro s m e d p cfg lag
  refine ⟨execUpdateStart_discards, execUpdateStart_begins, fun hrun hgate hgrant => ?gate,
    fun t bs hrun hwant hgrant => ?chunk, fun w => execDirRingWaitTimeout_faults,
    fun t x hrun hskip hgate => execPressTile_runs hrun hskip hgate,
    fun hstop hrun hskip hgate => execUpdateFinished_finishes hrun hskip hgate hstop,
    fun t u k => execPressArrival_arrives⟩
  case gate => exact execShardGatePass_passes hrun hgate hgrant
  case chunk => exact execDirChunk_reads hrun hwant hgrant

end Sys2Proof.Proofs

/-!
SUPPORT. The rows of a capture (R401, R402, R404), of the replica digests (R313, R314) and of a re-derivation (R408).
-/

namespace Sys2Proof.Machine

/-- An operation that answers true is its state with that answer. -/
theorem answers_true {p : State × Bool} (h : p.2 = true) : p = (p.1, true) := Prod.ext rfl h

section

variable {s : State}

/-! ### A chunk of a capture -/

/-- Bytes of the next chunk of range `i` (R401). -/
def Capture.chunkLen (c : Capture) (i : Nat) : Nat := Nat.min caveChunkBytes ((nth (0, 0) c.ranges i).2 - nth 0 c.done i)

/-- Address of the next chunk of range `i` (R401). -/
def Capture.chunkAddr (c : Capture) (i : Nat) : Nat := (nth (0, 0) c.ranges i).1 + nth 0 c.done i

/-- A capture after M-die `m` has copied the bytes `bs` of range `i`: they are folded into its digest, its pointer is past them, and
range `nxt` is the die's next (R401). -/
def Capture.copied (c : Capture) (m i nxt : Nat) (bs : List Nat) : Capture :=
  let f := c.fold i (nth 0 c.done i) bs
  { f with done := setAt f.done i (nth 0 c.done i + c.chunkLen i), next := setAt f.next m nxt, progLt := 0 }

/-- COMMIT = 0 is written before a capture's first chunk (R402). -/
def State.chunkFirst (s : State) (c : Capture) : State × Bool :=
  if c.done.all (· == 0) then s.slotWrite c.slot 48 (leBytes 8 0) else (s, true)

/-- Capture `c` goes on after M-die `m` has copied a chunk: the guards move, the ticket is given back, and the writes that now may
go on do (R400, R401). -/
def State.chunkDone (s : State) (c : Capture) (m : Nat) : State :=
  let u : State := { s with capture := some c, guards := c.guards }
  ((u.caveGive m).caveTakeFrom (m + 1)).serveHeld

section

variable {m : Fin 12}

theorem execCaveChunk_noCapture (hno : (s.caveTake m.val).capture = none) (accepted : Bool) :
    exec (.caveChunk m accepted) s = .next (s.caveTake m.val) := by
  change execCaveChunk m accepted s = _
  simp only [execCaveChunk, hno]

section

variable {c : Capture} {i nxt : Nat} (hcap : (s.caveTake m.val).capture = some c)
  (hnext : (s.caveTake m.val).caveNext c m.val = some (i, nxt))
include hcap hnext

/-- Without a ticket the M-die waits (R355, R401). -/
theorem execCaveChunk_noTicket (hno : c.held.contains m.val = false) (accepted : Bool) :
    exec (.caveChunk m accepted) s = .next (s.caveTake m.val) := by
  change execCaveChunk m accepted s = _
  simp only [execCaveChunk, hcap, hnext, hno, Bool.not_false, if_true]

section

variable (hheld : c.held.contains m.val = true)
include hheld

/-- A failed read abandons the capture (R406). -/
theorem execCaveChunk_readFails {s1 : State}
    (hread : (s.caveTake m.val).caveRead m.val (c.chunkAddr i) (c.chunkLen i) = (s1, none)) (accepted : Bool) :
    exec (.caveChunk m accepted) s = .next s1.caveAbandon := by
  change execCaveChunk m accepted s = _
  unfold Capture.chunkAddr Capture.chunkLen at hread
  simp only [execCaveChunk, hcap, hnext, hheld, hread, Bool.not_true, Bool.false_eq_true, if_false]

/-- A chunk whose writes a port takes goes on by the twin's answer: it is copied (R401), or the capture is abandoned (R406). -/
theorem execCaveChunk_sent {s1 z t : State} {bs : List Nat}
    (hread : (s.caveTake m.val).caveRead m.val (c.chunkAddr i) (c.chunkLen i) = (s1, some bs))
    (hfirst : s1.chunkFirst c = (z, true)) (hsent : z.slotWrite c.slot (c.place i + nth 0 c.done i) bs = (t, true))
    (hup : bit (t.g .TWIN_FENCE) 0 = false) (accepted : Bool) :
    exec (.caveChunk m accepted) s =
      .next (if accepted then t.chunkDone (c.copied m.val i nxt bs) m.val else t.caveAbandon) := by
  change execCaveChunk m accepted s = _
  unfold Capture.chunkAddr Capture.chunkLen at hread
  unfold State.chunkFirst at hfirst
  simp only [execCaveChunk, hcap, hnext, hheld, hread, hfirst, hsent, hup, Bool.not_true, Bool.false_or, Bool.or_false,
    Bool.false_eq_true, if_false, if_true]
  cases accepted <;> rfl

end

end

end

/-! ### The end of a capture -/

section

variable {c : Capture} (hcap : s.capture = some c)
include hcap

/-- A capture that makes no progress for CAVE_PROG_TO ticks is abandoned (R406). -/
theorem execCaveProgressTimeout_abandons (hlt : s.g .CAVE_PROG_TO ≤ c.progLt) :
    exec .caveProgressTimeout s = .next s.caveAbandon := by
  change execCaveProgressTimeout s = _
  simp only [execCaveProgressTimeout, hcap, if_pos hlt]

section

variable {s1 s2 s3 : State} (hdone : ((c.ranges.zip c.done).all fun e => e.2 == e.1.2) = true)
  (hdigests : s.slotWrite c.slot (c.place c.ranges.length) (c.digestList.flatMap (leBytes 8)) = (s1, true))
  (hhead : s1.slotWrite c.slot 0 (s.caveHeader c).1 = (s2, true))
  (hmap : s2.slotWrite c.slot 56 (s.caveHeader c).2 = (s3, true))
include hdone hdigests hhead hmap

/-- With every write taken and acknowledged, COMMIT = k ends the capture (R402). -/
theorem execCaveCommit_commits {s4 : State} (hcommit : s3.slotWrite c.slot 48 (leBytes 8 c.step) = (s4, true))
    (hup : bit (s4.g .TWIN_FENCE) 0 = false) : exec (.caveCommit true) s = .next (s4.caveCommitted c) := by
  change execCaveCommit true s = _
  simp only [execCaveCommit, hcap, hdone, hdigests, hhead, hmap, hcommit, hup, Bool.not_true, Bool.and_self, Bool.or_self,
    Bool.false_or, Bool.false_eq_true, if_false, if_true]
  rfl

/-- A refused write abandons the capture, before COMMIT is written or at it, as an open bit has it (R406, log entry 6). -/
theorem execCaveCommit_refused : exec (.caveCommit false) s = .next (if bit s3.freshVal.1.toNat 0 then s3.freshVal.2.caveAbandon
    else (s3.freshVal.2.slotWrite c.slot 48 (leBytes 8 c.step)).1.caveAbandon) := by
  change execCaveCommit false s = _
  simp only [execCaveCommit, hcap, hdone, hdigests, hhead, hmap, Bool.not_true, Bool.not_false, Bool.and_self, Bool.or_true,
    Bool.true_or, Bool.false_or, Bool.false_eq_true, if_false, if_true]
  split <;> rfl

end

end

/-- The slots with AGREED = `k` in one of them (R404). -/
def agreedSlots (slots : SlotInfo × SlotInfo) (slot k : Nat) : SlotInfo × SlotInfo :=
  if slot = 0 then (⟨slots.1.commit, k⟩, slots.2) else (slots.1, ⟨slots.2.commit, k⟩)

/-- AGREED is written for a step that is agreed, and stands if the twin takes it (R404). -/
theorem execCaveAgreed_writes {t : State} {k slot : Nat} (hagree : s.agree = some (k, slot))
    (hreached : bits (s.g .SORREL_CFG) 16 6 ≤ 1 ∨ k ≤ s.g .SORREL_AGREED)
    (hsent : s.slotWrite slot 56 (leBytes 8 k) = (t, true)) (hup : bit (t.g .TWIN_FENCE) 0 = false) (accepted : Bool) :
    exec (.caveAgreed accepted) s = .next (if accepted then { t with agree := none, slots := agreedSlots t.slots slot k }
      else { t with agree := none }) := by
  change execCaveAgreed accepted s = _
  simp only [execCaveAgreed, hagree, if_pos hreached, hsent, hup, Bool.true_and, Bool.not_false, Bool.and_true]
  cases accepted <;> rfl

/-! ### Replica digests -/

/-- The digest of a module's engines (R313). -/
def State.moduleDigest (s : State) : Nat :=
  crc64Of ((enginePairs 8).map fun q => if s.prActive q.1 q.2 then ((s.press q.1 q.2).digest.map Prod.snd).getD 0 else 0)

/-- The module shows its digest of step `k` (R313). -/
def State.digestShown (s : State) (k : Nat) : State := (s.clearDigests.setG .SORREL_MOD s.moduleDigest).setG .SORREL_STEP k

/-- Digest `md` of step `k` goes to member `i`'s slot for member `self` (R314). -/
def State.digestTo (u : State) (self md k : Nat) (z : State) (i : Nat) : State :=
  (z.sendReg (u.sorrelNode i) (loc .SORREL_RX 0x60 0 self) true md).sendReg (u.sorrelNode i)
    (loc .SORREL_RX_TAG 0x60 0 self) true k

/-- Digest `md` of step `k` goes to every other member (R314). -/
def State.digestSent (u : State) (md k : Nat) : State :=
  u.sorrelOthers.foldl (u.digestTo (bits (u.g .SORREL_CFG) 24 5) md k) u

section

variable {k : Nat} (hready : s.digestReady = some k)
include hready

/-- A single member agrees at once (R314). -/
theorem execSorrelModuleDigest_alone (hone : bits ((s.digestShown k).g .SORREL_CFG) 16 6 ≤ 1) :
    exec .sorrelModuleDigest s = .next ((s.digestShown k).setG .SORREL_AGREED k) := by
  change execSorrelModuleDigest s = _
  simp only [execSorrelModuleDigest, hready]
  exact if_pos hone

/-- Several members exchange their digests and compare what they have (R314). -/
theorem execSorrelModuleDigest_exchanges (hmany : 1 < bits ((s.digestShown k).g .SORREL_CFG) 16 6) :
    exec .sorrelModuleDigest s =
      let v : State := { (s.digestShown k).digestSent s.moduleDigest k with sorrelLt := 0 }
      .next ((v.setG .SORREL_STATUS (setBits (v.g .SORREL_STATUS) 2 1 1)).sorrelCompare) := by
  change execSorrelModuleDigest s = _
  simp only [execSorrelModuleDigest, hready]
  exact if_neg (Nat.not_le.2 hmany)

end

theorem execSorrelTimeout_faults (hbusy : bit (s.g .SORREL_STATUS) 2 = true) (hlt : s.g .SORREL_TO ≤ s.sorrelLt) :
    exec .sorrelTimeout s = .next (s.sorrelFault 2) :=
  if_pos ⟨hbusy, hlt⟩

/-! ### Re-derivation -/

/-- The state after an engine has re-derived its working copies of a map, which may be the last to do so (R408). -/
def State.rederiveDone (s : State) (m e map : Nat) : State :=
  let u := s.setPress m e { s.press m e with rederived := true }
  let all := (enginePairs 8).all fun q => u.prCount q.1 q.2 map == 0 || (u.press q.1 q.2).rederived
  if all then u.setG .RESTART_CTRL (setBits (u.g .RESTART_CTRL) 0 1 0) else u

/-- An engine with entries in the map in use re-derives them (R408). -/
theorem execRestartRederive_marks {m : Fin 12} {e : Fin 8} {t : State} (hctrl : bit (s.g .RESTART_CTRL) 0 = true)
    (hload : s.loaded = true) (hnew : (s.press m e).rederived = false) (hst : s.prState m e < 5)
    (hsome : s.prCount m e (s.g .SHARD_SEL % 2) ≠ 0)
    (hrun : s.rederiveRun m e (s.g .SHARD_SEL % 2) (s.prCount m e (s.g .SHARD_SEL % 2)) = (t, none)) :
    exec (.restartRederive m e) s = .next (t.rederiveDone m e (s.g .SHARD_SEL % 2)) := by
  change execRestartRederive m e s = _
  simp only [execRestartRederive]
  rw [if_neg (by simp [hctrl, hload, hnew, hst, hsome]), hrun]
  rfl

end

end Sys2Proof.Machine

namespace Sys2Proof.Proofs

open Sys2Proof.Machine

/-- Settles O46: each clause is the rule of its row (`execCaveChunk_noCapture` to `execRestartRederive_marks`). -/
theorem captureAndReplicaRows : Obligations.CaptureAndReplicaRows := by
  intro s
  refine ⟨fun m => ⟨fun hno => execCaveChunk_noCapture hno true, fun c i nxt hcap hnext => ?chunk⟩,
    fun c hcap hdone => ?commit, fun k slot hagree hreached => ?agreed, fun c => execCaveProgressTimeout_abandons,
    fun k hready => ⟨execSorrelModuleDigest_alone hready, execSorrelModuleDigest_exchanges hready⟩,
    execSorrelTimeout_faults, fun m e t => execRestartRederive_marks⟩
  case chunk =>
    refine ⟨fun hno => execCaveChunk_noTicket hcap hnext hno true, fun hheld =>
      ⟨fun s1 hread => execCaveChunk_readFails hcap hnext hheld hread true, fun s1 bs hread => ?copy⟩⟩
    intro p0 p1 f c2 u hfirst hsent hup
    have hfirst' := answers_true hfirst
    have hsent' := answers_true hsent
    have hanswer := execCaveChunk_sent hcap hnext hheld hread hfirst' hsent' hup
    exact ⟨hanswer true, hanswer false⟩
  case commit =>
    intro h p1 p2 p3 p4 q z i sl u hdigests hhead hmap hcommit hup
    have hdigests' := answers_true hdigests
    have hhead' := answers_true hhead
    have hmap' := answers_true hmap
    have hcommit' := answers_true hcommit
    have hcommits := execCaveCommit_commits hcap hdone hdigests' hhead' hmap' hcommit' hup
    have hrefused := execCaveCommit_refused hcap hdone hdigests' hhead' hmap'
    exact ⟨hcommits, hrefused⟩
  case agreed =>
    intro p a b sl u n hsent hup
    have hsent' := answers_true hsent
    have hanswer := execCaveAgreed_writes hagree hreached hsent' hup
    exact ⟨hanswer true, hanswer false⟩

end Sys2Proof.Proofs

/-!
SUPPORT. Requests in the modes that serve only some of them, and what firmware staging, attestation and the entry into test mode
come to for an open session (R418, R419, R429, R434, R448).
-/

namespace Sys2Proof.Machine

/-- The end of staging: DIGEST over the slot's body is written (R418). -/
def State.stagingEnded (s : State) (slot : Nat) : State :=
  { s.flashPut slot commitSector (shakeBytes (s.flashBytes slot 0 (Nat.min (s.slotBody slot) commitSector))) with
    staging := none }

/-! ### Requests that the mode does not serve -/

/-- The command ends in a reply to the request with another status than BAD_MODE. -/
def RepliesOther (q : Req) (typ : Nat) (o : Host.Outcome State Fault Refusal) : Prop :=
  ∃ (u : State) (st : Nat) (body : List Nat), st ≠ 0x3 ∧ o = .next (u.reply q typ st body)

theorem State.reply_repliesOther (u : State) (q : Req) (typ : Nat) {st : Nat} (body : List Nat) (h : st ≠ 0x3) :
    RepliesOther q typ (.next (u.reply q typ st body)) := ⟨u, st, body, h, rfl⟩

section

variable {s : State} {q : Req} (hopen : s.sessionOpen q.session.val = true)
include hopen

/-- In start-up mode and under fallback settings a request of the other modes is answered BAD_MODE (R448). -/
theorem State.asksNormal_badMode (hm : s.svc = .startup ∨ s.fallback = true) (typ : Nat) (serve : State) :
    s.asksNormal q typ serve = s.reply q typ 0x3 [] := by
  rw [State.asksNormal, s.asks_open q _ hopen, if_pos hm]

/-- FW_BEGIN is served in every mode: malformed, busy, of the running slot, too long, or accepted. -/
theorem execFwBegin_repliesOther (slot : BitVec 8) (len : BitVec 32) :
    RepliesOther q 0x40 (execFwBegin q slot len s) := by
  rw [execFwBegin, s.asks_open q _ hopen]
  split
  · exact s.reply_repliesOther q _ _ (by decide)
  split
  · exact s.reply_repliesOther q _ _ (by decide)
  split
  · exact s.reply_repliesOther q _ _ (by decide)
  split
  · exact s.reply_repliesOther q _ _ (by decide)
  · exact State.reply_repliesOther _ q _ _ (by decide)

/-- FW_DATA is served in every mode: with nothing staged, behind the offset, past the length, or written. -/
theorem execFwData_repliesOther (off : BitVec 32) (data : List (BitVec 8)) :
    RepliesOther q 0x41 (execFwData q off data s) := by
  rw [execFwData, s.asks_open q _ hopen]
  split
  · exact s.reply_repliesOther q _ _ (by decide)
  extract_lets end_ s1
  split
  · exact s.reply_repliesOther q _ _ (by decide)
  split
  · exact s.reply_repliesOther q _ _ (by decide)
  · exact State.reply_repliesOther _ q _ _ (by decide)

/-- FW_COMMIT is served in every mode: with nothing staged, failing verification, or committed. -/
theorem execFwCommit_repliesOther : RepliesOther q 0x42 (execFwCommit q s) := by
  rw [execFwCommit, s.asks_open q _ hopen]
  split
  · exact s.reply_repliesOther q _ _ (by decide)
  extract_lets digest put s1 c
  split
  · exact s1.reply_repliesOther q _ _ (by decide)
  · exact State.reply_repliesOther _ q _ _ (by decide)

/-! ### Firmware staging -/

/-- A slot that is not running is erased and staged for (R418). -/
theorem execFwBegin_stages {slot : BitVec 8} {len : BitVec 32} (hslot : slot.toNat ≤ 1) (hnone : s.staging = none)
    (hrun : bits (s.rg .BOOT_SLOT s.headDie 0 0) 0 1 ≠ slot.toNat) (hlen : len.toNat ≤ commitSector) :
    execFwBegin q slot len s = .next
      (({ s.flashErase slot.toNat with staging := some ⟨slot.toNat, len.toNat, 0⟩ } : State).reply q 0x40 0 []) := by
  simp only [execFwBegin, s.asks_open q _ hopen, if_neg (Nat.not_lt.2 hslot), hnone, Option.isSome_none, Bool.false_eq_true,
    if_false, if_neg hrun, if_neg (Nat.not_lt.2 hlen)]

section

variable {g : Staging} (hstage : s.staging = some g)
include hstage

/-- Bytes at an ascending offset inside the length are written as given (R418). -/
theorem execFwData_writes {off : BitVec 32} {data : List (BitVec 8)} (hlo : g.off ≤ off.toNat)
    (hhi : off.toNat + data.length ≤ g.len) :
    execFwData q off data s = .next
      (({ s.flashPut g.slot off.toNat (data.map BitVec.toNat) with
          staging := some { g with off := off.toNat + data.length } } : State).reply q 0x41 0 []) := by
  simp only [execFwData, s.asks_open q _ hopen, hstage, if_neg (Nat.not_lt.2 hlo), if_neg (Nat.not_lt.2 hhi)]

/-- COMMIT is written only for a slot that verifies against the staging floor (R418, R419). -/
theorem execFwCommit_verifies : execFwCommit q s = .next
    (let u := s.stagingEnded g.slot
     let c := u.verifySlot g.slot u.stagingFloor
     if c = 0 then (u.flashPut g.slot (commitSector + 2048) (leBytes 8 commitWord)).reply q 0x42 0 []
     else u.reply q 0x42 0xA [c]) := by
  rw [execFwCommit, s.asks_open q _ hopen, hstage]
  exact congrArg Host.Outcome.next (ite_not _ _ _)

end

/-! ### Attestation and test mode -/

/-- ATTEST is answered with a report for its nonce in every mode (R429). -/
theorem execAttest_reports (nonce : BitVec 256) : execAttest q nonce s =
    .next ((s.report (leBytes 32 nonce.toNat)).1.reply q 0x50 0 (s.report (leBytes 32 nonce.toNat)).2) :=
  congrArg Host.Outcome.next (s.asks_open q _ hopen)

section

variable (hs : s.svc ≠ .startup) (hf : s.fallback = false)
include hs hf

/-- A valid nonce is used up; the signature over serial and nonce decides whether test mode is entered (R434). -/
theorem execTestEnter_verifies {sig : List (BitVec 8)} {k nonce : BitVec 256} (hm : s.svc ≠ .test) (hkey : s.testKey = some k)
    (hnonce : s.nonceOf q.session.val = some nonce) : execTestEnter q sig s = .next
      (let msg := leBytes 8 (s.rg .SEC_SERIAL s.headDie 0 0) ++ leBytes 32 nonce.toNat
       let used := s.onSession q.session.val fun a => { a with nonce := none }
       if Config.verify (Config.keyOf k) ((ascii "Abrath-TEST").map (BitVec.ofNat 8)) (msg.map (BitVec.ofNat 8)) sig then
         (used.enterTest 0x02 ((shakeBytes msg).take 32)).reply q 0x52 0 []
       else used.reply q 0x52 0x2 []) := by
  simp only [execTestEnter, s.asksNormal_open q _ _ hopen hs hf, if_neg hm, hkey, hnonce]

end

end

end Sys2Proof.Machine

namespace Sys2Proof.Proofs

open Sys2Proof.Machine

/-- Settles O51: the mode refuses the request (`State.asksNormal_badMode`), or it is one of the six that every mode serves. -/
theorem requestsThatTheModeDoesNotServe : Obligations.RequestsThatTheModeDoesNotServe := by
  intro s q hopen hm bad
  have hbad (typ : Nat) (serve : State) : Host.Outcome.next (s.asksNormal q typ serve) = bad typ :=
    congrArg Host.Outcome.next (State.asksNormal_badMode hopen hm typ serve)
  refine ⟨fun l => hbad 0x02 _, fun l => hbad 0x03 _, fun l x => hbad 0x10 _, hbad 0x11 _, hbad 0x12 _, hbad 0x13 _,
    fun a b l => hbad 0x20 _, fun a b l => hbad 0x21 _, fun a => hbad 0x23 _, fun a l => hbad 0x30 _, hbad 0x51 _,
    fun l => hbad 0x52 _, fun a n r => hbad 0x60 _, fun a l r => hbad 0x61 _,
    ⟨_, congrArg Host.Outcome.next (s.asks_open q _ hopen)⟩, fun n => ⟨_, _, execAttest_reports hopen n⟩,
    execFwBegin_repliesOther hopen, execFwData_repliesOther hopen, execFwCommit_repliesOther hopen,
    fun hjob f => execReset_unloaded hopen f hjob,
    fun hjob => ⟨execReset_loaded hopen false hjob, execReset_loaded hopen true hjob⟩⟩

/-- Settles O48: each clause is the rule of its request for an open session (`execFwBegin_stages` to
`execTestEnter_verifies`). -/
theorem firmwareAndAttestationMessages : Obligations.FirmwareAndAttestationMessages := by
  intro s q hopen
  exact ⟨fun slot len hslot hnone hrun hlen => execFwBegin_stages hopen hslot hnone hrun hlen,
    fun off data g hstage hlo hhi => execFwData_writes hopen hstage hlo hhi,
    fun g hstage => execFwCommit_verifies hopen hstage,
    execAttest_reports hopen,
    fun hs hf => ⟨congrArg Host.Outcome.next (s.asksNormal_open q _ _ hopen hs hf),
      fun sig k nonce hm hkey hnonce => execTestEnter_verifies hopen hs hf hm hkey hnonce⟩⟩

end Sys2Proof.Proofs

/-!
SUPPORT. What the registers of the security block, a finished report and the scan instructions come to (R423, R430, R434, R464).
-/

namespace Sys2Proof.Machine

section

variable {s : State}

/-! ### The floor and reports asked for -/

/-- An SVN above both floors is fused, in normal mode and with the FLOOR flag (R423, log entry 62). -/
theorem State.raiseFloor_fuses (hm : s.svc = .normal) (hflag : s.floorFlag = true)
    (hsvn : Nat.max s.floor s.floorFused < bits (s.rg .BOOT_SLOT s.headDie 0 0) 8 8) :
    s.raiseFloor = ({ s with floorFused := bits (s.rg .BOOT_SLOT s.headDie 0 0) 8 8 }, true) := if_pos ⟨hm, hflag, hsvn⟩

theorem State.raiseFloor_refused (h : s.svc ≠ .normal ∨ s.floorFlag = false ∨
    bits (s.rg .BOOT_SLOT s.headDie 0 0) 8 8 ≤ Nat.max s.floor s.floorFused) : s.raiseFloor = (s, false) := by
  refine if_neg fun ⟨hm, hflag, hsvn⟩ => ?_
  obtain h | h | h := h
  · exact h hm
  · exact Bool.false_ne_true (h.symm.trans hflag)
  · exact Nat.not_lt.2 h hsvn

theorem State.attCtrlWrite_busy {die : Nat} (h : s.attBusy die = true) (v : Nat) : s.attCtrlWrite die v = (s, false) := if_pos h

/-- GO latches a report of the half's nonce with its destination and semaphore, and sets BUSY (R430). -/
theorem State.attCtrlWrite_latches {die v : Nat} (hidle : s.attBusy die = false) (hgo : bit v 31 = true)
    (hgiven : s.reportsGiven = true) : s.attCtrlWrite die v =
      (let p := s.report ((List.range 4).flatMap fun w => leBytes 8 (s.rg .ATT_NONCE die 0 w))
       ({ p.1.setFld .ATT_STATUS die 0 0 0 1 1 with
          att := some (takePad 0 4096 p.2, bits (s.rg .ATT_DST die 0 0) 0 44, bits v 12 8, bits v 0 12) }, true)) := by
  rw [State.attCtrlWrite, if_neg (by simp [hidle]), if_neg (by simp [hgo]), if_neg (by simp [hgiven])]

/-! ### A finished report -/

section

variable {bs : List Nat} {dst die sem : Nat} {t : State} (hatt : s.att = some (bs, dst, die, sem))
include hatt

/-- A report to this module's memory ends with its semaphore, or with ERR where the write is refused (R430, log entry 63). -/
theorem execAttestReportDone_own (hown : s.isOwn dst = true) {e : Option MemErr}
    (hwrite : s.memWrite .mgmt dst bs = (t, e)) (accepted : Bool) : execAttestReportDone accepted s = .next
      (if e.isNone then (t.attEnd false).signal s.headDie false die sem 1 else t.attEnd true) := by
  simp only [execAttestReportDone, hatt, hown, hwrite, if_true, Bool.not_true]

/-- A report that a port takes to the twin's memory ends as the twin answers. -/
theorem execAttestReportDone_twin (hfar : s.isOwn dst = false)
    (hsent : s.sendWrites .unit (blockPieces 4096 dst bs) = (t, true)) (accepted : Bool) :
    execAttestReportDone accepted s = .next
      (if accepted then (({ t with asked := s.asked } : State).attEnd false).signal s.headDie true die sem 1
       else ({ t with asked := s.asked } : State).attEnd true) := by
  simp only [execAttestReportDone, hatt, hfar, hsent, Bool.false_eq_true, if_false, Bool.true_and, Bool.not_false]

end

/-! ### Scan instructions -/

theorem State.setDigest_job (s : State) (r : Reg) (n : Nat) (bs : List Nat) : (s.setDigest r n bs).job = s.job :=
  List.foldlRecOn (motive := fun z : State => z.job = s.job) (List.range 8) _ rfl
    fun z hz w _ => (State.setRg_job _ r 0x52 n w _).trans ((z.setRg_job r 0x50 n w _).trans hz)

/-- Measurements change no job. -/
theorem State.mrEvent_job (s : State) (code : Nat) (data : List Nat) : (s.mrEvent code data).job = s.job := by
  rw [State.mrEvent, State.mrExtend, State.setDigest_job]

/-- Test mode is entered with its event in MR7; a loaded job stops by a fault of the security block (R434). -/
theorem State.enterTest_eq (s : State) (code : Nat) (data : List Nat) : s.enterTest code data =
    (let y := ({ s with svc := .test, testEntered := true } : State).mrEvent code data
     if s.loaded then y.dieFault y.headDie 0x50 0 0x01 else y) := by
  unfold State.enterTest State.loaded
  simp only [State.mrEvent_job]

section

variable {ir : ScanIr} (hir : ir = .extest ∨ ir = .other)
include hir

theorem execScanTestEntry_enters (hm : s.svc ≠ .test) : execScanTestEntry ir s = .next (s.enterTest 0x01 []) := by
  obtain rfl | rfl := hir
  · exact congrArg Host.Outcome.next (if_neg hm)
  · exact congrArg Host.Outcome.next (if_neg hm)

theorem execScanTestEntry_inTest (hm : s.svc = .test) : execScanTestEntry ir s = .next s := by
  obtain rfl | rfl := hir
  · exact congrArg Host.Outcome.next (if_pos hm)
  · exact congrArg Host.Outcome.next (if_pos hm)

end

end

end Sys2Proof.Machine

namespace Sys2Proof.Proofs

open Sys2Proof.Machine

/-- Settles O47: a write that reaches its rules does what they say (`State.raiseFloor_fuses` to `State.attCtrlWrite_latches`), a
report ends as its write does, and a scan instruction enters test mode (`State.enterTest_eq`) or changes nothing. -/
theorem securityRows : Obligations.SecurityRows := by
  intro s d
  refine ⟨fun w hreach => ⟨fun hm hflag hsvn => ?fuses, fun href => ?refused⟩,
    fun w v hreach => ⟨fun hbusy => ?busy, fun hidle hgiven => ?latches⟩,
    fun bs dst die sem t hatt hown => ⟨fun hwrite => execAttestReportDone_own hatt hown hwrite true,
      fun e hwrite => execAttestReportDone_own hatt hown hwrite true⟩,
    fun bs dst die sem t hatt hfar hsent =>
      ⟨execAttestReportDone_twin hatt hfar hsent true, execAttestReportDone_twin hatt hfar hsent false⟩,
    fun ir hir hm => ⟨fun hjob => ?idle, fun hjob => ?stops⟩, rfl, rfl,
    fun ir hir hm => execScanTestEntry_inTest hir hm, rfl⟩
  case fuses =>
    exact congrArg Host.Outcome.next (State.writeReg_done hreach (congrArg wans (State.raiseFloor_fuses hm hflag hsvn)))
  case refused =>
    exact congrArg Host.Outcome.next (State.writeReg_refused hreach (congrArg wans (State.raiseFloor_refused href)))
  case busy =>
    exact congrArg Host.Outcome.next (State.writeReg_refused hreach (congrArg wans (State.attCtrlWrite_busy hbusy _)))
  case latches =>
    exact congrArg Host.Outcome.next (State.writeReg_done hreach
      (congrArg wans (State.attCtrlWrite_latches hidle (bit_setBits_same _ 31) hgiven)))
  case idle =>
    exact (execScanTestEntry_enters hir hm).trans
      (congrArg Host.Outcome.next ((s.enterTest_eq _ _).trans (if_neg (Bool.eq_false_iff.1 hjob))))
  case stops =>
    exact (execScanTestEntry_enters hir hm).trans (congrArg Host.Outcome.next ((s.enterTest_eq _ _).trans (if_pos hjob)))

end Sys2Proof.Proofs

/-!
SUPPORT. The Rind port's cycles and words, and a fence command by its key (R388, R453, R456, R457).
-/

namespace Sys2Proof.Machine

section

variable {s : State}

/-! ### Cycles and fence commands -/

/-- With MAIN_GOOD released a cycle is counted and served (R454, R468). -/
theorem State.rindCycle_served (h : s.mainGood = true) (serve : State → State) :
    s.rindCycle serve = serve (s.bump .RIND_CYCLES s.headDie 0 0 1) := if_pos h

theorem State.rindCycle_unserved (h : s.mainGood = false) (serve : State → State) : s.rindCycle serve = s :=
  if_neg (by simp [h])

/-- A stale key is result 2, whatever the command (R457). -/
theorem State.fence_staleKey {key : Nat} (h : key ≠ bits (s.g .BOARD_LEASE) 0 12) (code : Nat)
    (act : State → Option State) : s.fence code key act = s.fenceResult code 2 := if_pos h.symm

section

variable {key code : Nat} {act : State → Option State} (hkey : key = bits (s.g .BOARD_LEASE) 0 12)
include hkey

/-- With the key a command that takes effect is result 1. -/
theorem State.fence_executed {t : State} (hact : act s = some t) : s.fence code key act = t.fenceResult code 1 := by
  rw [State.fence, if_neg (not_not_intro hkey.symm), hact]

/-- One that this module may not execute is result 3. -/
theorem State.fence_refused (hact : act s = none) : s.fence code key act = s.fenceResult code 3 := by
  rw [State.fence, if_neg (not_not_intro hkey.symm), hact]

end

/-! ### The fence of the twin -/

/-- The board-lease holder sets the fence, and clears it while no job uses the twin (R388). -/
theorem State.twinFenceWrite_holder {on : Bool} (hold : s.boardHolder = true) (hfree : on = true ∨ s.usesTwin = false) :
    s.twinFenceWrite on = (s.setFence on, true) := by
  obtain rfl | hfree := hfree
  · simp [State.twinFenceWrite, hold]
  · simp [State.twinFenceWrite, hold, hfree]

theorem State.twinFenceWrite_refused {on : Bool} (h : s.boardHolder = false ∨ (on = false ∧ s.usesTwin = true)) :
    s.twinFenceWrite on = (s, false) := by
  obtain hno | ⟨rfl, huse⟩ := h
  · simp [State.twinFenceWrite, hno]
  · simp [State.twinFenceWrite, huse]

theorem State.actFenceTwin_holder (hold : s.boardHolder = true) : s.actFenceTwin = some (s.setFence true) := if_pos hold

theorem State.actFenceTwin_refused (hno : s.boardHolder = false) : s.actFenceTwin = none := if_neg (by simp [hno])

theorem State.actUnfenceTwin_holder (hold : s.boardHolder = true) (hfree : s.usesTwin = false) :
    s.actUnfenceTwin = some (s.setFence false) := by
  rw [State.actUnfenceTwin, State.twinFenceWrite_holder hold (.inr hfree)]

theorem State.actUnfenceTwin_refused (h : s.boardHolder = false ∨ s.usesTwin = true) : s.actUnfenceTwin = none := by
  rw [State.actUnfenceTwin, State.twinFenceWrite_refused (h.imp_right fun huse => ⟨rfl, huse⟩)]

/-! ### The stop, and what a result records -/

/-- STOP_JOB stops a job that can be stopped, with cause 8 (R395). -/
theorem State.actStopJob_running (h : s.canStop = true) : s.actStopJob = some (s.modFault s.headDie 0x08).stopJob :=
  congrArg some (if_pos h)

theorem State.actStopJob_atRest (h : s.canStop = false) : s.actStopJob = some s := congrArg some (if_neg (by simp [h]))

/-- A fence command leaves its code, its result and a count one higher. -/
theorem State.fenceResult_rind (s : State) (code n : Nat) : (s.fenceResult code n).rind =
    { s.rind with last := code, result := n, count := (s.rind.count + 1) % 256 } := by
  unfold State.fenceResult
  split <;> rfl

/-- A write of word 0x0F commits LEASE_IN (R456). The renewal is named so that the kernel has no need to unfold it. -/
theorem State.rindPut_commits (s : State) (v : Nat) : s.rindPut (0x0F : BitVec 6).toNat v = s.leaseIn v := by
  obtain ⟨t, ht⟩ : ∃ t, s.leaseIn v = t := ⟨_, rfl⟩
  unfold State.rindPut
  rw [ht]
  rfl

/-- A held word of LEASE_IN takes its place among the 48 bits (R456). -/
theorem State.rindPut_held (s : State) (i : Fin 3) (v : Nat) : s.rindPut (BitVec.ofNat 6 (0x0C + i.val)).toNat v =
    { s with rind := { s.rind with inLow := BitVec.ofNat 48 (setBits s.rind.inLow.toNat (16 * i.val) 16 v) } } := by
  match i with
  | 0 => rfl
  | 1 => rfl
  | 2 => rfl

end

end Sys2Proof.Machine

namespace Sys2Proof.Proofs

open Sys2Proof.Machine

/-- Settles O53: a cycle is served or not (`State.rindCycle_served`); a fence command goes by its key (`State.fence_staleKey`,
`State.fence_executed`, `State.fence_refused`). -/
theorem rindRows : Obligations.RindRows := by
  intro s c r key
  refine ⟨fun hmain => ?unserved, fun hmain => ?served⟩
  case unserved =>
    have hno (serve : State → State) : (.next (s.rindCycle serve) : Host.Outcome State Fault Refusal) = .next s :=
      congrArg Host.Outcome.next (State.rindCycle_unserved hmain serve)
    exact ⟨hno _, fun v => hno _, fun a v => hno _, fun k => hno _⟩
  case served =>
    have hcycle (serve : State → State) : (.next (s.rindCycle serve) : Host.Outcome State Fault Refusal) = .next (serve c) :=
      congrArg Host.Outcome.next (State.rindCycle_served hmain serve)
    have hfence {code key : Nat} {act : State → Option State} {u : State} (h : c.fence code key act = u) :
        (.next (s.rindCycle fun z => z.fence code key act) : Host.Outcome State Fault Refusal) = .next u :=
      (hcycle _).trans (congrArg Host.Outcome.next h)
    have hmem : c.mem = s.mem := s.bump_mem ..
    clear_value c
    refine ⟨hcycle _, fun v => hcycle _, fun v => ?commits, fun i v => ?holds, fun v => hcycle _, fun v => hcycle _,
      fun v => hcycle _, fun k hk => ?stale, fun k hk => ?keyed, fun code n => ?record⟩
    case commits =>
      have hput := c.rindPut_commits v.toNat
      exact (hcycle _).trans ((congrArg Host.Outcome.next hput).trans (hcycle fun z => z.leaseIn v.toNat).symm)
    case holds => exact (hcycle _).trans (congrArg Host.Outcome.next (c.rindPut_held i v.toNat))
    case stale =>
      have hstale (code : Nat) (act : State → Option State) := hfence (State.fence_staleKey hk code act)
      exact ⟨hstale 1 _, hstale 2 _, hstale 3 _, hstale 4 _, hstale 5 _⟩
    case keyed =>
      have hdone {code : Nat} {act : State → Option State} {t : State} (hact : act c = some t) :=
        hfence (State.fence_executed (code := code) hk hact)
      have href {code : Nat} {act : State → Option State} (hact : act c = none) :=
        hfence (State.fence_refused (code := code) hk hact)
      exact ⟨fun hold => hdone (State.actFenceTwin_holder hold), fun hno => href (State.actFenceTwin_refused hno),
        fun hold hfree => hdone (State.actUnfenceTwin_holder hold hfree), fun h => href (State.actUnfenceTwin_refused h),
        hdone rfl, hdone rfl, fun hstop => hdone (State.actStopJob_running hstop),
        fun hstop => hdone (State.actStopJob_atRest hstop)⟩
    case record =>
      intro u
      have hrind : u.rind = _ := c.fenceResult_rind code n
      refine ⟨by rw [hrind], by rw [hrind], by rw [hrind], ?_⟩
      exact (c.fenceResult_mem code n).trans hmem

end Sys2Proof.Proofs

/-!
SUPPORT. The leases of dies, halves and the board: their writes, renewals and takeovers (R387 to R391, R412, R432, R482).
-/

namespace Sys2Proof.Machine

section

variable {s : State}

/-! ### Writes of DIE_LEASE and LEASE_CTRL -/

/-- A write of DIE_LEASE that is not the new holder's stores the larger value only (R391). -/
theorem State.leaseWrite_stores {holder : Bool} (h : (holder && s.leases.changing) = false) (die v : Nat) :
    s.leaseWrite holder die v = s.setRg .DIE_LEASE die 0 0 (Nat.max v (s.rg .DIE_LEASE die 0 0)) :=
  if_neg (Bool.eq_false_iff.1 h)

/-- The new holder's write takes its die off those still to be written (R482, log entry 13). -/
theorem State.leaseWrite_marks {holder : Bool} (h : (holder && s.leases.changing) = true) (die v : Nat) :
    s.leaseWrite holder die v =
      (let left := s.leases.unwritten.filter (· != die)
       { s.setRg .DIE_LEASE die 0 0 (Nat.max v (s.rg .DIE_LEASE die 0 0)) with
         leases := { s.leases with unwritten := left, changing := !left.isEmpty } }) := if_pos h

theorem State.writeReg_dieLease {t : State} {w : Writer} {d v : Nat} (h : s.reaches w .DIE_LEASE d 0 0 v = true)
    (hact : s.leaseWrite (s.holds w) d v = t) : s.writeReg w .DIE_LEASE d 0 0 v = t.answer .ok :=
  State.writeReg_done h (congrArg (·, WAns.done) hact)

theorem State.writeReg_leaseCtrl {t : State} {w : Writer} {v : Nat} (h : s.reaches w .LEASE_CTRL 0x60 0 0 v = true)
    (hact : s.leaseCtrlWrite v = t) : s.writeReg w .LEASE_CTRL 0x60 0 0 v = t.answer .ok :=
  State.writeReg_done h (congrArg (·, WAns.done) hact)

/-- YIELD leaves the handover pending (R412). -/
theorem State.leaseCtrlWrite_yields (s : State) : s.leaseCtrlWrite 1 = s.yieldWrite := by
  rw [State.leaseCtrlWrite, if_neg (by decide), if_pos (by decide)]

theorem State.leaseCtrlWrite_reloads (s : State) : s.leaseCtrlWrite 2 = s.reloadWatcher := by
  rw [State.leaseCtrlWrite, if_pos (by decide), if_neg (by decide)]

/-- The watching half runs the slot's manifest: its SVN and FLOOR flag, and its measurement in MR7 (R432). -/
def State.watcherLoaded (s : State) (slot : Nat) : State :=
  let m := s.slotSection slot 1
  let d := s.watchDie
  let flag := bit (nth 0 m 33) 0
  let x := s.setRg .BOOT_SLOT d 0 0 (setBits (s.rg .BOOT_SLOT d 0 0) 8 8 (nth 0 m 32))
  let y : State := { x with floorFlags := if d = 0x52 then (s.floorFlags.1, flag) else (flag, s.floorFlags.2) }
  y.mrEvent 0x03 ((shakeBytes m).take 32)

/-- Only a newest committed slot that verifies is loaded into the watching half (R432, log entry 62). -/
theorem State.reloadWatcher_newest {slot : Nat} {rest : List Nat} (h : s.slotOrder = slot :: rest) :
    s.reloadWatcher = if s.verifySlot slot s.floor = 0 then s.watcherLoaded slot else s := by
  unfold State.reloadWatcher
  rw [h]
  exact ite_not _ _ _

/-! ### Renewals of the half lease -/

/-- The job stops because the half in charge has lost control (cause 5). -/
def State.controlLost (s : State) : State := { s with faultQ := s.faultQ ++ [⟨s.headDie, 0xFD, 0, 5⟩] }

/-- A tie of the halves fences the east half (R390, log entry 52). -/
def State.eastFenced (s : State) : State :=
  let x := s.setG .LEASE_STATUS (setBits (s.g .LEASE_STATUS) 4 1 1)
  { x with leases := { x.leases with fencedEast := some true } }

/-- From the holder a renewal reaches the watcher, which takes no epoch older than its own (R390). -/
theorem execHalfLeaseRenewal_holder (e : BitVec 64) : execHalfLeaseRenewal (bit (s.g .LEASE_STATUS) 0) e s = .next
    (if s.leases.watcherEpoch ≤ e.toNat then { s with leases := { s.leases with watcherEpoch := e.toNat, halfLt := 0 } }
     else s) := by
  rw [execHalfLeaseRenewal, if_pos rfl]
  split <;> rfl

/-- From the other half a higher epoch takes the lease (R390). -/
theorem execHalfLeaseRenewal_higher {e : BitVec 64} (h : s.g .HALF_LEASE < e.toNat) :
    execHalfLeaseRenewal (!bit (s.g .LEASE_STATUS) 0) e s =
      .next (s.loseGlobals.halfChange (!bit (s.g .LEASE_STATUS) 0) e.toNat 0x05 false).controlLost := by
  rw [execHalfLeaseRenewal, if_neg (Bool.not_ne_self _), if_pos h]
  rfl

section

variable {e : BitVec 64} (h : s.g .HALF_LEASE = e.toNat)
include h

/-- At equal epochs the west half keeps the lease (R390, log entry 52). -/
theorem execHalfLeaseRenewal_tie_west (hwest : bit (s.g .LEASE_STATUS) 0 = false) :
    execHalfLeaseRenewal true e s = .next (s.eastFenced.alert 3) := by
  rw [execHalfLeaseRenewal, if_neg (by simp [hwest]), if_neg (Nat.not_lt.2 h.ge), if_pos h]
  rfl

/-- At equal epochs the east half gives the lease up (R390, log entry 52). -/
theorem execHalfLeaseRenewal_tie_east (heast : bit (s.g .LEASE_STATUS) 0 = true) : execHalfLeaseRenewal false e s =
    .next (s.eastFenced.loseGlobals.halfChange false e.toNat 0x05 false).controlLost := by
  rw [execHalfLeaseRenewal, if_neg (by simp [heast]), if_neg (Nat.not_lt.2 h.ge), if_pos h]
  rfl

end

/-! ### Renewals sent, and takeovers -/

/-- After 1,000 lt the holder renews its half lease, and the board lease where the module holds it (R389). -/
theorem execLeaseRenew_due (h : 1000 ≤ s.leases.renewLt) : execLeaseRenew s = .next
    (let y : State := { s with leases := { s.leases with renewLt := 0 }, outbox := s.outbox ++ [.lease (s.g .HALF_LEASE)] }
     if s.boardHolder then y.boardRenew else y) := if_neg (Nat.not_lt.2 h)

/-- A watching half that is not fenced and has heard nothing for 3,000 lt takes the lease under the next epoch (R390). -/
theorem State.halfTakeover_takes (hlt : 3000 ≤ s.leases.halfLt)
    (hfree : s.leases.fencedEast ≠ some (!bit (s.g .LEASE_STATUS) 0)) : s.halfTakeover =
      (s.loseGlobals.halfChange (!bit (s.g .LEASE_STATUS) 0) ((s.leases.watcherEpoch + 1) % 2 ^ 64) 0x05 true).controlLost := by
  rw [State.halfTakeover, if_neg (not_or.2 ⟨Nat.not_lt.2 hlt, hfree⟩)]
  rfl

/-- The holder of the board lease from a takeover on: under the next epoch, with the twin fenced, and renewing at once. -/
def State.boardTaken (s : State) : State :=
  ((((s.setG .BOARD_LEASE ((s.g .BOARD_LEASE + 1) % 2 ^ 64)).setG .LEASE_STATUS
    (setBits (s.g .LEASE_STATUS) 3 1 1)).setFence true).alert 3).boardRenew

/-- A watcher of the board lease takes it over, and its job goes on where it does not use the twin (R390, Table 13.2). -/
theorem State.boardTakeover_takes (hlt : 3000 ≤ s.leases.boardLt) (hno : s.boardHolder = false)
    (hheld : bit (s.g .LEASE_STATUS) 5 = false) (huse : s.boardTaken.usesTwin = false) : s.boardTakeover = s.boardTaken := by
  have hmay : ¬ (s.boardHolder = true ∨ s.leases.boardLt < 3000 ∨ bit (s.g .LEASE_STATUS) 5 = true) := by
    simp [hno, hheld, hlt]
  rw [State.boardTakeover, if_neg hmay]
  exact if_neg (Bool.eq_false_iff.1 huse)

end

end Sys2Proof.Machine

namespace Sys2Proof.Proofs

open Sys2Proof.Machine

/-- Settles O44: a write that reaches its rules does what they say (`State.leaseWrite_stores` and the lemmas beside it), and
each renewal and takeover is the rule of its row (`execHalfLeaseRenewal_holder` to `State.boardTakeover_takes`). -/
theorem leaseRows : Obligations.LeaseRows := by
  intro s ls st
  refine ⟨fun w d v hreach h => ?stores, fun w d v hreach h => ?marks,
    fun e => ⟨fun hnew => ?renewed, fun hold => ?stale⟩,
    fun e h => execHalfLeaseRenewal_higher h,
    fun e h => ⟨execHalfLeaseRenewal_tie_west h, execHalfLeaseRenewal_tie_east h⟩,
    fun hdue => ⟨fun hno => ?half, fun hold => ?both⟩,
    fun hlt hfree => congrArg Host.Outcome.next (State.halfTakeover_takes hlt hfree),
    fun hlt hno hheld huse => congrArg Host.Outcome.next (State.boardTakeover_takes hlt hno hheld huse),
    fun w v hreach => ⟨fun hold hfree => ?fence, fun href => ?refused⟩, fun w hreach => ?yields,
    fun w slot rest hreach hslot => ?reloads⟩
  case stores => exact congrArg Host.Outcome.next (State.writeReg_dieLease hreach (State.leaseWrite_stores h _ _))
  case marks => exact congrArg Host.Outcome.next (State.writeReg_dieLease hreach (State.leaseWrite_marks h _ _))
  case renewed => exact (execHalfLeaseRenewal_holder e).trans (congrArg Host.Outcome.next (if_pos hnew))
  case stale => exact (execHalfLeaseRenewal_holder e).trans (congrArg Host.Outcome.next (if_neg (Nat.not_le.2 hold)))
  case half => exact (execLeaseRenew_due hdue).trans (congrArg Host.Outcome.next (if_neg (Bool.eq_false_iff.1 hno)))
  case both => exact (execLeaseRenew_due hdue).trans (congrArg Host.Outcome.next (if_pos hold))
  case fence =>
    exact congrArg Host.Outcome.next (State.writeReg_done hreach (congrArg wans (State.twinFenceWrite_holder hold hfree)))
  case refused =>
    exact congrArg Host.Outcome.next (State.writeReg_refused hreach (congrArg wans (State.twinFenceWrite_refused href)))
  case yields =>
    intro y
    exact congrArg Host.Outcome.next (State.writeReg_leaseCtrl hreach s.leaseCtrlWrite_yields)
  case reloads =>
    intro m d flag x y
    exact congrArg Host.Outcome.next
      (State.writeReg_leaseCtrl hreach (s.leaseCtrlWrite_reloads.trans (State.reloadWatcher_newest hslot)))

end Sys2Proof.Proofs

/-!
SUPPORT. A Rennet fault in its parts (R278), and one whose withdrawn wait stands on a semaphore that no die has (R197).
-/

namespace Sys2Proof.Machine

/-! ### A field of a 32-bit register -/

section

variable (s : State) {r : Reg} {die i j lo w : Nat} (x : Nat)

/-- A stored field of a 32-bit register reads back cut to its width. -/
theorem State.fld_setFld_same32 (hr : r.row.w64 = false) (hw : lo + w ≤ 32) :
    (s.setFld r die i j lo w x).fld r die i j lo w = x % 2 ^ w := by
  rw [State.fld, State.setFld, State.rg_setRg, if_pos rfl, if_neg (Bool.eq_false_iff.1 hr), bits_mod_of_le _ _ _ hw,
    bits_setBits_same]

/-- A field beside it reads as before. -/
theorem State.fld_setFld_ne32 {lo' w' : Nat} (hr : r.row.w64 = false) (hw : lo' + w' ≤ 32) (h : lo' + w' ≤ lo ∨ lo + w ≤ lo') :
    (s.setFld r die i j lo w x).fld r die i j lo' w' = s.fld r die i j lo' w' := by
  rw [State.fld, State.setFld, State.rg_setRg, if_pos rfl, if_neg (Bool.eq_false_iff.1 hr), bits_mod_of_le _ _ _ hw,
    bits_setBits_ne _ _ _ _ h, State.fld]

end

theorem State.renState_setRenState (s : State) (m e st : Nat) : (s.setRenState m e st).renState m e = st % 8 :=
  s.fld_setFld_same32 (r := .RN_STATUS) st rfl (by decide)

/-! ### The parts of a Rennet fault -/

/-- The first fault of an engine is recorded (R278). -/
def State.rennetRecord (s : State) (m e cause entry : Nat) : State :=
  if bit (s.rg .RN_FAULT (0x40 + m) 0 e) 31 then s
  else s.setRg .RN_FAULT (0x40 + m) 0 e (2 ^ 31 + entry % 4096 * 2 ^ 16 + cause)

/-- RN_STATUS of an engine in FAULT (Table 9.11). -/
def State.rennetStopped (s : State) (m e entry : Nat) : State :=
  ((s.setRenState m e 6).setFld .RN_STATUS (0x40 + m) 0 e 11 1 1).setFld .RN_STATUS (0x40 + m) 0 e 16 16 entry

/-- A Rennet fault abandons the refresh, records, stops the engine, withdraws its wait and reports. -/
theorem State.rennetFault_eq (s : State) (m e cause entry : Nat) : s.rennetFault m e cause entry =
    ((((s.rnDrop m e).rennetRecord m e cause entry).rennetStopped m e entry).dropWait (0x40 + m) (.rennet e)).dieFault
      (0x40 + m) 0x20 e cause := rfl

theorem State.rennetRecord_semWaits (s : State) (m e cause entry : Nat) :
    (s.rennetRecord m e cause entry).semWaits = s.semWaits := by
  unfold State.rennetRecord
  split
  · rfl
  · exact s.setRg_semWaits ..

theorem State.renState_rennetStopped (s : State) (m e entry : Nat) : (s.rennetStopped m e entry).renState m e = 6 :=
  ((State.fld_setFld_ne32 _ _ rfl (by decide) (.inl (by decide))).trans
    (State.fld_setFld_ne32 _ _ rfl (by decide) (.inl (by decide)))).trans (s.renState_setRenState m e 6)

/-! ### A fault that does not leave its engine in FAULT -/

/-- The trigger wait of Rennet engine 0 of M-die 0, on semaphore 0x7B000 of a die that has 4,096: the register space has RN_STATUS of
the engine where it would stand. -/
def strayTriggerWait : SemWait := ⟨0x40, 0x7B000, 0, .rennet 0, 0⟩

/-- The wait of the die's automatic arrival behind it. -/
def strayAutoWait : SemWait := ⟨0x40, 0x7B000, 2, .auto, 0⟩

theorem loc_strayAutoWait : loc .RN_STATUS 0x40 0 0 = loc .VETCH_SEM strayAutoWait.die 0 strayAutoWait.sem := rfl

/-- The engine is in WAIT_TRIG. -/
def strayTrigger : State :=
  { State.reset with regs := [(loc .RN_STATUS 0x40 0 0, 1)], semWaits := [strayTriggerWait, strayAutoWait] }

theorem strayTrigger_rnDrop : strayTrigger.rnDrop 0 0 = strayTrigger := by
  have hst : strayTrigger.renState 0 0 = 1 := rfl
  simp [State.rnDrop, hst]

/-- The withdrawal of the engine's wait lets the other one take its amount from RN_STATUS. -/
theorem State.dropWait_stray {z : State} (hz : z.semWaits = [strayTriggerWait, strayAutoWait]) (hst : z.renState 0 0 = 6) :
    (z.dropWait 0x40 (.rennet 0)).renState 0 0 = 4 := by
  let y : State := { z with grants := z.grants.filter fun g => g != (0x40, .rennet 0) }
  have hdrop : z.dropWait 0x40 (.rennet 0) = y.dropWaits fun w => w.die == 0x40 && w.who == .rennet 0 := rfl
  have hread : y.sem strayAutoWait.die strayAutoWait.sem = z.rg .RN_STATUS 0x40 0 0 := rfl
  have hfield : z.rg .RN_STATUS 0x40 0 0 / 2 ^ 0 % 2 ^ 3 = 6 := hst
  have hcovers : strayAutoWait.n ≤ z.rg .RN_STATUS 0x40 0 0 := by
    change 2 ≤ _
    omega
  have hserved := y.dropWaits_serves_auto (p := fun w => w.die == 0x40 && w.who == .rennet 0) hz rfl rfl rfl rfl rfl
    (hread ▸ hcovers)
  rw [hread] at hserved
  rw [hdrop, State.renState, State.fld, State.rg_of_regs hserved, State.rg_setRg, if_pos loc_strayAutoWait,
    if_neg (Bool.eq_false_iff.1 (rfl : Reg.VETCH_SEM.row.w64 = false))]
  change (z.rg .RN_STATUS 0x40 0 0 - 2) % 2 ^ 32 / 2 ^ 0 % 2 ^ 3 = 4
  omega

/-- After its fault the engine is not in FAULT. -/
theorem renState_strayTrigger : (strayTrigger.rennetFault 0 0 1 0).renState 0 0 = 4 := by
  have hwaits : ((strayTrigger.rennetRecord 0 0 1 0).rennetStopped 0 0 0).semWaits = [strayTriggerWait, strayAutoWait] :=
    strayTrigger.rennetRecord_semWaits ..
  have hdrop := State.dropWait_stray hwaits (State.renState_rennetStopped ..)
  rw [State.rennetFault_eq, strayTrigger_rnDrop]
  refine Eq.trans ?_ hdrop
  exact congrArg (bits · 0 3) ((State.dieFault_sameRegsBut _ 0x40 0x20 0 1).rg (by simp [loc, Reg.row]))

end Sys2Proof.Machine

namespace Sys2Proof.Proofs

open Sys2Proof.Machine

/-- Refutes O38: the statement takes every state, also one that lists waits on a semaphore index past 4,095. Where such an index
comes to the place of RN_STATUS in the register space, the fault, which withdraws the engine's trigger wait, serves the wait
behind it, and that takes its amount from RN_STATUS: the engine is not in FAULT. -/
theorem not_engineFaults : ¬ Obligations.EngineFaults := by
  intro h
  obtain ⟨hrennet, -⟩ := h strayTrigger 0 1 0 (by decide)
  obtain ⟨-, hfault, -⟩ := hrennet 0
  exact absurd (hfault.symm.trans renState_strayTrigger) (by decide)

end Sys2Proof.Proofs

/-!
SUPPORT. What the checks before a flit's own effect answer: sequence, admission, fence and destination (R332, R338, R339, R388).
-/

namespace Sys2Proof.Machine

section

variable {s : State} {r : Rx} (f : Flit) (deliver : State → State)

/-- A port that is not UP takes no flit (R326). -/
theorem State.rxFlit_down (h : s.portState r.port.val ≠ 2) : s.rxFlit r f deliver = s := if_pos h

section

variable (h : s.portState r.port.val = 2)
include h

/-- A flit that is not next in sequence is answered with a NAK (R332). -/
theorem State.rxFlit_outOfSequence
    (hseq : r.seq.toNat ≠ ((s.flitsAcked r.port.val (r.ack.map BitVec.toNat)).port r.port.val).rxSeq) :
    s.rxFlit r f deliver = (s.flitsAcked r.port.val (r.ack.map BitVec.toNat)).nakFlit r.port.val :=
  (if_neg (not_not_intro h)).trans (if_pos hseq)

section

variable {f}
variable (hseq : r.seq.toNat = ((s.flitsAcked r.port.val (r.ack.map BitVec.toNat)).port r.port.val).rxSeq) (ht : f.typ ≠ 0x20)
include hseq ht

/-- One that is next, and carries no frame, meets admission, fence and routing once it is accepted. -/
theorem State.rxFlit_inSequence :
    let z := (s.flitsAcked r.port.val (r.ack.map BitVec.toNat)).acceptFlit r.port.val (vcOf f.typ)
    s.rxFlit r f deliver =
      if z.admitted f.src = false then z.bumpPort .SL_ADMIT_DROP r.port.val 1
      else if z.fenced f.src = true then z.refuseTwin f
      else if f.dst ≠ z.node then z.forward r.port.val f
      else deliver z := by
  simp only [State.rxFlit, h, hseq, ht, ne_eq, not_true_eq_false, if_false, Bool.not_eq_true']

end

end

/-! ### What a refused flit leaves -/

/-- A NAK is pending, and only what is sent and the port itself have changed (R332). -/
theorem State.nakFlit_frame (s : State) (p : Nat) : (s.nakFlit p).regs = s.regs ∧ ((s.nakFlit p).port p).nak = true := by
  unfold State.nakFlit
  dsimp only
  split
  · next h => exact ⟨rfl, h⟩
  · exact ⟨rfl, congrArg PortS.nak (s.port_setPort_self p _)⟩

/-- A port's counter that is advanced reads its sum, or its largest value. -/
theorem State.portReg_bumpPort (s : State) (r : Reg) (p n : Nat) :
    (s.bumpPort r p n).portReg r p = Nat.min (s.portReg r p + n) r.max := s.rg_bump_same ..

/-- A WR of a fenced twin is answered with an error WR_ACK (R388). -/
theorem State.refuseTwin_wr {f : Flit} (ht : f.typ = 0x01) (s : State) : s.refuseTwin f = s.respond 0x04 f.src f.tag true [] :=
  if_pos (.inl ht)

/-- A flit in transit goes to the port that its entry picks, its hop count one higher (R338). -/
theorem State.forward_picks {s : State} {f : Flit} {q : Nat} (hhops : f.hops ≠ 15) (hpick : s.pickPort f.dst f.spread = some q)
    (p : Nat) : s.forward p f = s.enqueue q { f with hops := f.hops + 1 } := by
  rw [State.forward, if_neg hhops, hpick]

/-- One that no port takes, or that has hopped 15 times, is dropped and counted (R338). -/
theorem State.forward_drops {s : State} {f : Flit} (h : f.hops = 15 ∨ s.pickPort f.dst f.spread = none) (p : Nat) :
    s.forward p f = s.bumpPort .SL_ROUTE_DROP p 1 := by
  have hnone : (if f.hops = 15 then none else s.pickPort f.dst f.spread) = none := by
    obtain hhops | hpick := h
    · exact if_pos hhops
    · rw [hpick, ite_self]
  rw [State.forward, hnone]

end

end Sys2Proof.Machine

namespace Sys2Proof.Proofs

open Sys2Proof.Machine

/-- Settles O41: the checks of a flit in their order (`State.rxFlit_down`, `State.rxFlit_outOfSequence`,
`State.rxFlit_inSequence`), and what a refused flit leaves. -/
theorem flitsOutOfSequence : Obligations.FlitsOutOfSequence := by
  intro s r a data
  extract_lets p s1 z f
  have hwr (t : State) (h : ∀ deliver, s.rxFlit r f deliver = t) : exec (.wr r a data) s = .next t := by
    change Host.Outcome.next (s.rxFlit r (rxAsFlit r 0x01 ((data.map BitVec.toNat).length - 1) a.toNat _) _) = _
    rw [List.length_map]
    exact congrArg Host.Outcome.next (h _)
  have hmem : s1.mem = s.mem := s.flitsAcked_mem ..
  refine ⟨fun hdown => hwr s fun g => State.rxFlit_down f g hdown, fun hup hseq => ?gap, fun hup hseq => ?next⟩
  case gap =>
    obtain ⟨hregs, hnak⟩ := s1.nakFlit_frame p
    exact ⟨hwr _ fun g => State.rxFlit_outOfSequence f g hup hseq, (s1.nakFlit_mem p).trans hmem, hregs, hnak⟩
  case next =>
    have hnext (g : State → State) := State.rxFlit_inSequence (f := f) g hup hseq (by decide : (0x01 : Nat) ≠ 0x20)
    have hz : z.mem = s.mem := (s1.acceptFlit_mem p 0).trans hmem
    have htransit (hadm : z.admitted r.src.toNat = true) (hfen : z.fenced r.src.toNat = false) (hdst : r.dst.toNat ≠ z.node)
        (g : State → State) : s.rxFlit r f g = z.forward p f :=
      (hnext g).trans ((if_neg (ne_false_of_eq_true hadm)).trans ((if_neg (ne_true_of_eq_false hfen)).trans (if_pos hdst)))
    refine ⟨fun hout => ?admission, fun hadm hfen => ?fence,
      fun hadm hfen hdst => ⟨fun q hhops hpick => ?forwarded, fun h => ?dropped⟩⟩
    case admission =>
      exact ⟨z.bumpPort .SL_ADMIT_DROP p 1, hwr _ fun g => (hnext g).trans (if_pos hout), (z.bumpPort_mem ..).trans hz,
        z.portReg_bumpPort ..⟩
    case fence =>
      exact hwr _ fun g => (hnext g).trans
        ((if_neg (ne_false_of_eq_true hadm)).trans ((if_pos hfen).trans (z.refuseTwin_wr rfl)))
    case forwarded => exact hwr _ fun g => (htransit hadm hfen hdst g).trans (State.forward_picks hhops hpick p)
    case dropped => exact hwr _ fun g => (htransit hadm hfen hdst g).trans (State.forward_drops h p)

end Sys2Proof.Proofs

/-!
SUPPORT. The rows of Rennet where nothing goes wrong: the start of a refresh, its intake, its jobs (R255 to R259, R270), and the
timeout of its trigger (R279).
-/

namespace Sys2Proof.Machine

/-! ### The start of a refresh -/

/-- The served trigger is used up and the refresh counted (R255). -/
def State.refreshCounted (s : State) (m e : Nat) : State :=
  (s.useGrant (0x40 + m) (.rennet e)).bump .RN_REFRESH (0x40 + m) 0 e 1

/-- An engine that has latched what publication slot `h` shows and the arithmetic control, at entry 0 (R63, R255). -/
def State.refreshLatched (s : State) (m e h : Nat) (done : Bool) : RenS :=
  { s.ren m e with inst := s.hoopInst h, next := 0, decided := done, committed := done, arith := s.arith (0x40 + m) }

/-- RN_STATUS of an engine that begins its intake (Table 9.11). -/
def State.refreshStatus (s : State) (m e : Nat) : State :=
  ((s.setFld .RN_STATUS (0x40 + m) 0 e 16 16 0).setFld .RN_STATUS (0x40 + m) 0 e 9 1 0).setRenState m e 2

/-- REFRESH of an engine whose trigger is served begins its intake (R255). -/
theorem execRefresh_begins {s : State} {m : Fin 12} {e : Fin 4} (hwait : s.renState m e = 1) (hlist : s.rnCount m e ≠ 0)
    (hgrant : s.granted (0x40 + m.val) (.rennet e.val) = true) :
    let h := bits (s.g .ROOT_CFG) 0 4
    let s1 := s.refreshCounted m e
    exec (.refresh m e) s = .next ((s1.setRen m e
      (s1.refreshLatched m e h (!(s.hoopUndecided h || (s.hoop h).opened == 0)))).refreshStatus m e) := by
  intro h s1
  refine (if_neg ?_ : execRefresh m e s = _)
  simp [hwait, hlist, hgrant]

theorem State.refreshCounted_sameRegsBut (s : State) (m e : Nat) :
    SameRegsBut [loc .RN_REFRESH (0x40 + m) 0 e] s (s.refreshCounted m e) :=
  (s.useGrant (0x40 + m) (.rennet e)).setRg_sameRegsBut _ _ _ _ _

theorem State.refreshStatus_sameRegsBut (s : State) (m e : Nat) :
    SameRegsBut [loc .RN_STATUS (0x40 + m) 0 e] s (s.refreshStatus m e) :=
  ((s.setFld_sameRegsBut _).trans (State.setFld_sameRegsBut _ _)).trans (State.setFld_sameRegsBut _ _)

theorem State.refreshStatus_rens (s : State) (m e : Nat) : (s.refreshStatus m e).rens = s.rens :=
  (State.setRg_rens ..).trans ((State.setRg_rens ..).trans (s.setRg_rens ..))

theorem State.refreshStatus_ren (s : State) (m e k l : Nat) : (s.refreshStatus m e).ren k l = s.ren k l := by
  rw [State.ren, s.refreshStatus_rens m e, State.ren]

theorem State.refreshStatus_mem (s : State) (m e : Nat) : (s.refreshStatus m e).mem = s.mem := by
  simp only [State.refreshStatus, State.setRenState, State.setFld_mem]

theorem State.refreshCounted_mem (s : State) (m e : Nat) : (s.refreshCounted m e).mem = s.mem :=
  ((s.useGrant (0x40 + m) (.rennet e)).bump_mem ..).trans (s.useGrant_mem ..)

/-- Counting a refresh touches neither what a slot shows nor a die's arithmetic control. -/
theorem State.refreshCounted_latches (s : State) (m : Fin 12) (e : Fin 4) (h : Nat) :
    (s.refreshCounted m e).hoopInst h = s.hoopInst h ∧
      (s.refreshCounted m e).arith (0x40 + m.val) = s.arith (0x40 + m.val) := by
  have hsame := s.refreshCounted_sameRegsBut m e
  have hhoop : (s.refreshCounted m e).rg .HOOP_STATUS 0x60 0 h = s.rg .HOOP_STATUS 0x60 0 h :=
    hsame.rg (by simp [loc, Reg.row]; omega)
  have harith : (s.refreshCounted m e).rg .ARITH_CTRL (0x40 + m.val) 0 0 = s.rg .ARITH_CTRL (0x40 + m.val) 0 0 :=
    hsame.rg (by simp [loc, Reg.row]; omega)
  refine ⟨congrArg (bits · 32 32) hhoop, ?_⟩
  rw [State.arith, harith]
  rfl

/-! ### Intake and jobs -/

section

variable {s : State} {m : Fin 12} {e : Fin 4}

/-- An intake that takes in every entry of a refresh that has not aborted ends in RUN, with the control of the jobs latched
(R258). -/
theorem execIntakeComplete_runs {t : State} (hst : s.renState m e = 2) (hfree : s.intakeGuarded m e = false)
    (htaken : s.intakeRun m e (s.rnCount m e) = (t, none))
    (hopen : (t.ren m e).decided = false ∨ (t.ren m e).committed = true) :
    exec (.intakeComplete m e none) s =
      .next ((t.setRen m e { t.ren m e with arith := t.arith (0x40 + m.val) }).setRenState m e 3) := by
  change execIntakeComplete m e none s = _
  have hgo : ¬ ((t.ren m e).decided && !(t.ren m e).committed) = true := by
    obtain h | h := hopen <;> simp [h]
  simp only [execIntakeComplete]
  rw [if_neg (by simp [hst, hfree]), htaken]
  exact if_neg hgo

/-- A result whose copy and result bytes are written is counted (R256, R270). -/
theorem State.rnDeliver_counts {v w : State} {i len : Nat} {x : RnEntry} {res : RnResult}
    (hcopy : s.rnCopy m e x len res = (v, none)) (hres : v.rnResult m e i res = (w, none)) :
    s.rnDeliver m e i x len res = w.rnCounted m e i res := by
  rw [State.rnDeliver, hcopy]
  dsimp only
  rw [hres]

section

variable {t : State} {x : RnEntry} (hentry : s.rnEntryAt m e (s.ren m e).next = (t, .ok x))
include hentry

/-- The job of a root entry takes the inverse root of its factor (R259, R260). -/
theorem State.rnJob_root {u : State} {b : List Nat} (hmode : x.mode = 1) (hfree : t.rnGuarded m e x (x.outLen none) = false)
    (hread : t.rnRead m e x.src slotBytes = (u, .ok b)) :
    s.rnJob m e = u.rnDeliver m e (s.ren m e).next x (x.outLen none) (rootJob (rnArith (s.ren m e).arith) x b) := by
  simp only [State.rnJob, hentry]
  rw [if_pos hmode, if_neg (Bool.eq_false_iff.1 hfree), hread]

/-- The job of another entry solves its problem (R259, R266 to R269). -/
theorem State.rnJob_solve {u v : State} {p : LdltP} {b : List Nat} {res : RnResult} {wk : LdltW} {k : Int} {valid : Bool}
    (hmode : x.mode ≠ 1) (hprob : t.ldltProblem m e x = (u, .ok p))
    (hfits : x.outOff + x.outLen (some p) ≤ u.rg .RN_BUF_LEN (0x40 + m.val) 0 e)
    (hfree : u.rnGuarded m e x (x.outLen (some p)) = false)
    (hrhs : (if x.solves ∧ p.r ≠ 0 then u.rnRead m e p.rhs (256 * p.t * p.r) else (u, .ok [])) = (v, .ok b))
    (hjob : ldltJob (rnArith (s.ren m e).arith) (s.ren m e) (bit (v.rg .RN_STATUS (0x40 + m.val) 0 e) 8)
      ((s.ren m e).skipped.contains (s.ren m e).next) x p b = .done res wk k valid) :
    s.rnJob m e = ((v.setRen m e { s.ren m e with
        f := wk.f, piv := wk.piv, y := wk.y, m := k
        skipped := if x.mode = 3 then (s.ren m e).skipped else (s.ren m e).skipped.filter (· != (s.ren m e).next) }).setFld
      .RN_STATUS (0x40 + m.val) 0 e 8 1 (b2n valid)).rnDeliver m e (s.ren m e).next x (x.outLen (some p)) res := by
  simp only [State.rnJob, hentry]
  rw [if_neg hmode, hprob]
  dsimp only
  rw [if_neg (Nat.not_lt.2 hfits), if_neg (Bool.eq_false_iff.1 hfree), hrhs]
  dsimp only
  rw [hjob]

end

/-- A job without a parity error is that of the next entry (R259). -/
theorem execRennetJobComplete_runs (hst : s.renState m e = 3) : exec (.rennetJobComplete m e none) s = .next (s.rnJob m e) :=
  (if_neg (not_not_intro hst) : execRennetJobComplete m e none s = _)

/-- The wait for a trigger ends in a fault after VETCH_SEM_TO (R279). -/
theorem execRennetTriggerTimeout_faults {w : SemWait}
    (hw : s.semWaits.find? (fun w => w.die == 0x40 + m.val && w.who == Waiter.rennet e.val) = some w) (hst : s.renState m e = 1)
    (hon : s.rg .VETCH_SEM_TO (0x40 + m.val) 0 0 ≠ 0) (hlt : s.rg .VETCH_SEM_TO (0x40 + m.val) 0 0 ≤ w.lt) :
    exec (.rennetTriggerTimeout m e) s =
      .next (s.rennetFault m e 0x08 (bits (s.rg .RN_STATUS (0x40 + m.val) 0 e) 16 16)) := by
  change execRennetTriggerTimeout m e s = _
  simp only [execRennetTriggerTimeout, hw]
  exact if_pos ⟨hst, hon, hlt⟩

end

end Sys2Proof.Machine

namespace Sys2Proof.Proofs

open Sys2Proof.Machine

/-- Settles O36: each clause is the rule of its row (`execRefresh_begins` to `execRennetTriggerTimeout_faults`); a job's result is
delivered by `State.rnDeliver_counts`. -/
theorem rennetRefreshes : Obligations.RennetRefreshes := by
  intro s m e d r
  refine ⟨fun hwait hlist hgrant => ?refresh, fun t => execIntakeComplete_runs, fun hrun x t hentry =>
    ⟨fun u b v w hmode hfree hread => ?root, fun u p v b res wk k valid y z hmode hprob hfits hfree hrhs hjob => ?solve⟩,
    fun w => execRennetTriggerTimeout_faults⟩
  case refresh =>
    have hexec := execRefresh_begins hwait hlist hgrant
    extract_lets h s1 at hexec
    generalize (!(s.hoopUndecided h || (s.hoop h).opened == 0)) = done at hexec
    let s2 := s1.setRen m e (s1.refreshLatched m e h done)
    obtain ⟨hinst, harith⟩ := s.refreshCounted_latches m e h
    have hstat : SameRegsBut [loc .RN_STATUS d 0 e] s1 (s2.refreshStatus m e) := s2.refreshStatus_sameRegsBut m e
    have hren : (s2.refreshStatus m e).ren m e = s1.refreshLatched m e h done :=
      (s2.refreshStatus_ren m e m e).trans ((s1.ren_setRen ..).trans (if_pos rfl))
    refine ⟨s2.refreshStatus m e, hexec, State.renState_setRenState _ m e 2, ?next, ?inst, ?arith, ?count, ?regs, ?mem⟩
    case next => rw [hren]; rfl
    case inst => rw [hren]; exact hinst
    case arith => rw [hren]; exact harith
    case count =>
      exact (hstat.rg (by simp [loc, Reg.row])).trans ((s.useGrant d (.rennet e.val)).rg_bump_same ..)
    case regs =>
      exact (SameRegsBut.mono (s.refreshCounted_sameRegsBut m e) (by simp [d])).trans (SameRegsBut.mono hstat (by simp))
    case mem => exact (s2.refreshStatus_mem m e).trans (s.refreshCounted_mem m e)
  case root =>
    intro res hcopy hres
    exact (execRennetJobComplete_runs hrun).trans
      (congrArg Host.Outcome.next ((State.rnJob_root hentry hmode hfree hread).trans (State.rnDeliver_counts hcopy hres)))
  case solve =>
    intro left q hcopy hres
    exact (execRennetJobComplete_runs hrun).trans (congrArg Host.Outcome.next
      ((State.rnJob_solve hentry hmode hprob hfits hfree hrhs hjob).trans (State.rnDeliver_counts hcopy hres)))

end Sys2Proof.Proofs

/-!
SUPPORT. The rows of a Sadom port where their conditions hold: its enable (R326), training (R326, R327), loss of lanes (R327),
replay timeouts (R332, R336) and LINKCTL (R330, R332).
-/

namespace Sys2Proof.Machine

/-! ### Enable -/

/-- A port whose EN is set anew trains afresh (R326). -/
def State.portStarted (s : State) (p : Nat) : State :=
  (((s.setPortReg .SL_CFG p (setBits (s.portReg .SL_CFG p) 31 1 1)).setPortReg .SL_STATUS p 1).setPortReg .SL_PEER p 0).setPort p
    PortS.init

theorem portOf_portAt (p : Fin 36) : portOf (portAt p.val).1 (portAt p.val).2 = p.val := by
  revert p
  decide

section

variable {s : State} {p v : Nat} (hheld : s.fabricHeld = false) (hoff : bit (s.portReg .SL_CFG p) 31 = false)
  (hon : bit v 31 = true)
include hheld hoff hon

/-- A write that changes EN to 1 starts a port that is not held (R326, R457). -/
theorem State.portEnableWrite_starts : s.portEnableWrite p v = (s.portStarted p, true) := by
  have hbits : bits v 31 1 = 1 := beq_iff_eq.1 hon
  simp [State.portEnableWrite, hheld, hoff, hon, hbits, State.portStarted]

/-- After start-up a write of SL_CFG that leaves the locked bits as they are does that and is no access error (R15, log entry
84). -/
theorem State.slCfgWrite_starts (hsvc : s.svc ≠ .startup)
    (hlock : (s.portReg .SL_CFG p &&& (Reg.row .SL_CFG).lock) = (v &&& (Reg.row .SL_CFG).lock)) :
    s.slCfgWrite p v = (s.portStarted p, true) := by
  rw [State.slCfgWrite, if_neg hsvc, State.portEnableWrite_starts hheld hoff hon, hlock]
  simp

end

/-! ### Training and lanes -/

section

variable {s : State} {p : Fin 36}

/-- SL_STATUS of a port that comes UP on lanes `use` (Table 11.8). -/
def upStatus (st use : Nat) (half : Bool) : Nat := setBits (setBits (setBits (setBits st 0 3 2) 3 1 (b2n half)) 4 1 1) 16 8 use

/-- A port in TRAINING, or in RETRAIN with the peer it had, comes UP on the lanes that it may run on (R326, R327). -/
theorem execPortTrained_up {lanes node : BitVec 8} {port : BitVec 6} {use : Nat} {half : Bool} {peer : Nat}
    (hp : 2 ^ 31 + port.toNat * 2 ^ 8 + node.toNat = peer)
    (hst : s.portState p.val = 1 ∨ (s.portState p.val = 3 ∧ s.portReg .SL_PEER p.val = peer))
    (hlanes : lanesInUse lanes.toNat (bit (s.portReg .SL_STATUS p.val) 3) (bit (s.portReg .SL_CFG p.val) 29) =
      some (use, half)) :
    exec (.portTrained p lanes node port) s = .next ((((s.setPortReg .SL_STATUS p.val
      (upStatus (s.portReg .SL_STATUS p.val) use half)).setPortReg .SL_PEER p.val peer).resendAll p.val).leaveFallback p.val) := by
  have htrains : ¬ (s.portState p.val ≠ 1 ∧ s.portState p.val ≠ 3) := by
    rintro ⟨h1, h3⟩
    exact hst.elim h1 fun h => h3 h.1
  have hsame : ¬ (s.portState p.val = 3 ∧ s.portReg .SL_PEER p.val ≠ peer) := by
    rintro ⟨h3, hne⟩
    exact hst.elim (fun h1 => absurd (h1.symm.trans h3) (by decide)) fun h => hne h.2
  change execPortTrained p lanes node port s = _
  simp only [execPortTrained, hp]
  rw [if_neg htrains, hlanes]
  exact if_neg hsame

/-- The loss of a lane in use makes the port retrain on half of its lanes, or fail (R327). -/
theorem execLaneLockLoss_used {lanes : BitVec 8} (hup : s.portState p.val = 2)
    (hused : lanes.toNat &&& bits (s.portReg .SL_STATUS p.val) 16 8 ≠ 0) :
    exec (.laneLockLoss p lanes) s = .next (if bit (s.portReg .SL_CFG p.val) 29
      then (s.setPortBit p.val 3 true).portRetrain p.val else s.portFail p.val 0x04) := by
  refine (if_neg (not_or.2 ⟨not_not_intro hup, hused⟩) : execLaneLockLoss p lanes s = _).trans ?_
  split <;> rfl

/-! ### Replay -/

/-- Without acknowledgement progress for 4 lt a port resends from its oldest flit (R332). -/
theorem execReplayTimeout_flits {e : Nat × Nat × Flit} {es : List (Nat × Nat × Flit)} (hup : s.portState p.val = 2)
    (hold : (s.port p.val).replay = e :: es) (hlt : 4 ≤ (s.port p.val).ackLt) :
    exec (.replayTimeout p false) s = .next (s.resendFlits p.val e.1) := by
  change execReplayTimeout p false s = _
  simp [execReplayTimeout, hup, hold, hlt]

/-- Likewise from its oldest frame (R336). -/
theorem execReplayTimeout_frames {e : Nat × Nat × FrameMsg} {es : List (Nat × Nat × FrameMsg)} (hup : s.portState p.val = 2)
    (hold : (s.port p.val).freplay = e :: es) (hlt : 4 ≤ (s.port p.val).fAckLt) :
    exec (.replayTimeout p true) s = .next (s.resendFrames p.val e.1) := by
  change execReplayTimeout p true s = _
  simp [execReplayTimeout, hup, hold, hlt]

/-- The port after a LINKCTL's acknowledgement and credits: flits that waited for a credit may go (R330, R332). -/
def State.linkctlTaken (s : State) (p : Nat) (ack : Option Nat) (cr : List Nat) : State :=
  let t := s.flitsAcked p ack
  (t.setPort p { t.port p with ret := takePad 0 4 cr }).pump p ((t.port p).queue.length + 1)

/-- LINKCTL is taken, and a NAK in it resends from the flit asked for (R332). -/
theorem execLinkctl_up (hup : s.portState p.val = 2) (ack nak : Option (BitVec 32)) (cr : List (BitVec 16)) :
    exec (.linkctl p ack nak cr) s = .next
      (let u := s.linkctlTaken p.val (ack.map BitVec.toNat) (cr.map BitVec.toNat)
       match nak with
       | some q => u.resendFlits p.val q.toNat
       | none => u) := by
  refine (if_neg (not_not_intro hup) : execLinkctl p ack nak cr s = _).trans ?_
  cases nak <;> rfl

end

end Sys2Proof.Machine

namespace Sys2Proof.Proofs

open Sys2Proof.Machine

/-- Settles O39: the write that enables a port does what `State.slCfgWrite_starts` says; every other clause is the rule of its
row. -/
theorem portEvents : Obligations.PortEvents := by
  intro s p x st cfg
  refine ⟨fun w v hreach hsvc hheld hoff hon hlock => ?enable, fun lanes node port use half => execPortTrained_up rfl,
    fun hst hlt => if_pos ⟨hst, hlt⟩, fun hup => ?up⟩
  case enable =>
    refine congrArg Host.Outcome.next (State.writeReg_done hreach (congrArg wans ?_))
    rw [portOf_portAt]
    exact State.slCfgWrite_starts hheld hoff hon hsvc hlock
  case up =>
    have hgo {α : Type} (a b : α) : (if s.portState p.val ≠ 2 then a else b) = b := if_neg (not_not_intro hup)
    refine ⟨fun lanes => execLaneLockLoss_used hup, fun e es => execReplayTimeout_flits hup,
      fun e es => execReplayTimeout_frames hup, fun ack nak cr => ⟨execLinkctl_up hup ack none cr, ?nak⟩,
      hgo .., hgo .., hgo .., hgo .., hgo .., hgo .., fun ack nak hlane => ?idle⟩
    case nak =>
      rintro q rfl
      exact execLinkctl_up hup ack (some q) cr
    case idle => exact if_neg (by simp [hup, show bit (s.portReg .SL_STATUS p.val) 4 = true from hlane])

end Sys2Proof.Proofs

/-!
SUPPORT. The rows of a Vat where nothing goes wrong: submission (R345, R346), start (R346), reduction (R349, R353) and completion
(R358) of a collective; and its timeouts (R360).
-/

namespace Sys2Proof.Machine

/-! ### Submission -/

/-- A write of VAT_SUBMIT that names a descriptor of bytes `bs` with the member nodes `nodes` and the send list `ls`, all of them
read without an error, which passes every check (R345). -/
def State.Submits (s : State) (x : Fin 4) (val : Nat) (bs nodes ls : List Nat) : Prop :=
  let a := bits val 0 44
  let d := vatDesc bs
  let p := fieldAt bs 8 2
  let mtab := fieldAt bs 16 8
  (s.vatFaulted x = false ∧ (s.vat x).queue.length < 64 ∧ a % 64 = 0 ∧ s.inFast a 64 = true ∧
    s.memRead (.vat x) a 64 = (s, .ok bs)) ∧
  (vatFieldsOk bs d p = true ∧ bits d.cid 10 2 = x.val) ∧
  (s.inFast mtab p = true ∧ (d.op = 3 → s.inFast d.list (16 * d.count) = true) ∧ s.memRead (.vat x) mtab p = (s, .ok nodes) ∧
    (if d.op = 3 ∧ d.count ≠ 0 then s.memRead (.vat x) d.list (16 * d.count) else (s, .ok [])) = (s, .ok ls)) ∧
  nodes[d.self]? = some s.node ∧ (∀ i j, i < p → j < i → nth 0 nodes i ≠ nth 0 nodes j) ∧
  s.vatPlacesOk d p mtab (sendSegs p ls) = true

/-- A descriptor joins the queue of a Vat. -/
def State.vatQueued (s : State) (x : Nat) (d : VatDesc) : State :=
  s.setVat x { s.vat x with queue := (s.vat x).queue ++ [d] }

/-- No node stands twice in a member table whose first `p` entries differ. -/
theorem memberTable_once {nodes : List Nat} {p : Nat} (h : ∀ i j, i < p → j < i → nth 0 nodes i ≠ nth 0 nodes j) :
    ((List.range p).any fun i => (List.range i).any fun j => nth 0 nodes i == nth 0 nodes j) = false := by
  simp only [List.any_eq_false, List.mem_range, List.any_eq_true, beq_iff_eq, not_exists, not_and]
  exact fun i hi j => h i j hi

/-- Such a submission joins the queue with its nodes, and begins its trigger wait if it is first (R345, R346). -/
theorem State.vatSubmitWrite_queues {s : State} {x : Fin 4} {val : Nat} {bs nodes ls : List Nat}
    (h : s.Submits x val bs nodes ls) :
    s.vatSubmitWrite x val =
      (let t := s.vatQueued x { vatDesc bs with nodes := nodes }
       if (s.vat x).queue.isEmpty then t.vatArm x else t, true) := by
  obtain ⟨⟨hok, hroom, halign, hplace, hread⟩, ⟨hfields, hhome⟩, ⟨htab, hlist, htable, hls⟩, hown, honce, hplaces⟩ := h
  simp only [State.vatSubmitWrite]
  rw [if_neg (by simp [hok, hroom, halign, hplace]), hread]
  dsimp only
  rw [if_neg (by simp [hfields, hhome]), if_neg (by simpa [htab] using hlist), htable]
  dsimp only
  rw [hls]
  dsimp only
  rw [if_neg (by simp [hown, memberTable_once honce, hplaces])]
  rfl

/-! ### Start -/

section

variable {s : State} {x : Fin 4}

/-- The trigger of the head is used up once it is served (R346). -/
def State.headGranted (s : State) (x : Fin 4) : State :=
  if (s.vat x).granted then s else (s.useGrant (0x50 + x.val) .vat).setVat x { s.vat x with granted := true }

/-- The head of the queue begins once its trigger is served and there is room among the active collectives and tickets (R346). -/
theorem execCollectiveStart_begins {d : VatDesc} {rest : List VatDesc} {spill : Bool} {need : Nat}
    (hq : (s.vat x).queue = d :: rest) (hgrant : (s.vat x).granted = true ∨ s.granted (0x50 + x.val) .vat = true)
    (hroom : (s.vat x).active.length < 8) (hnew : ∀ c ∈ (s.vat x).active, c.desc.cid ≠ d.cid)
    (hadm : (s.headGranted x).vatAdmit x d = some (spill, need)) :
    exec (.collectiveStart x) s = .next ((s.headGranted x).vatBegin x d rest spill need) := by
  have hserved : ¬ ((!(s.vat x).granted) = true ∧ (!s.granted (0x50 + x.val) .vat) = true) := by
    rintro ⟨hv, hs⟩
    rw [Bool.not_eq_true'] at hv hs
    obtain h | h := hgrant
    · rw [hv] at h; cases h
    · rw [hs] at h; cases h
  change execCollectiveStart x s = _
  simp only [State.headGranted, hq] at hadm
  simp only [execCollectiveStart, State.headGranted, hq]
  rw [if_neg hserved, if_neg (by simpa [hroom] using hnew), hadm]

/-! ### Reduction and completion -/

section

variable {cid : BitVec 12} {c : Coll} (hc : s.coll x cid.toNat = some c) (hopen : c.opened = true)
include hc hopen

/-- The next contribution of a chunk is added where neither a stop that comes first nor a capture holds it up (R349,
R353, R360). -/
theorem execChunkReduce_adds {k : BitVec 16} (hop : c.desc.op = 1) (hleft : (c.redOf k.toNat).done = false)
    (hk : k.toNat < chunkCount (c.recvLen c.desc.self)) (hstop : s.stopping = false ∨ (c.redOf k.toNat).next ≠ 0)
    (hacc : ∀ g ∈ c.accPieces k.toNat, s.guarded g.1 g.2 = false)
    (hout : s.guarded (c.desc.dst + chunkBytes * k.toNat / c.desc.size * c.desc.outSize) (2 * chunkBytes) = false) :
    exec (.chunkReduce x cid k) s = .next (s.reduceNext x c k.toNat (c.redOf k.toNat)) := by
  have hgo : ¬ (s.stopping = true ∧ (c.redOf k.toNat).next = 0) := by
    rintro ⟨hs, hn⟩
    exact hstop.elim (ne_false_of_eq_true hs) fun h => h hn
  have hfree : ((c.accPieces k.toNat).any fun g => s.guarded g.1 g.2) = false :=
    List.any_eq_false.2 fun g hg => ne_true_of_eq_false (hacc g hg)
  change execChunkReduce x cid k s = _
  simp only [execChunkReduce, hc]
  rw [if_neg (not_not_intro hop), if_neg]
  simp [hopen, hleft, Nat.not_le.2 hk, hgo, hfree, hout]

/-- A collective that ends is no longer active, and its spill bytes are free (R354, R358). -/
def State.vatEnded (s : State) (x : Nat) (c : Coll) : State :=
  s.setVat x { s.vat x with
    active := (s.vat x).active.filter fun a => a.desc.cid != c.desc.cid
    spillUse := if c.spill then (s.vat x).spillUse - c.tickets * chunkBytes else (s.vat x).spillUse }

/-- Its tickets are given back, and it is counted (R355, R358). -/
def State.vatSettled (s : State) (x : Nat) (c : Coll) : State :=
  let u := s.vatEnded x c
  (if c.spill then u else u.setFld .VAT_OCC (0x50 + x) 0 0 0 11 (u.fld .VAT_OCC (0x50 + x) 0 0 0 11 - c.tickets)).bump
    .VAT_COLLS (0x50 + x) 0 0 1

/-- A collective whose chunks are all in and out ends with its own part copied, and signals where it is asked to (R356 to R358). -/
theorem execCollectiveComplete_ends {t : State} (hin : c.allIn = true) (hout : c.allOut = true)
    (hfree : c.desc.op ≠ 1 → s.guarded (c.placeOf c.desc.self) (c.sendLen c.desc.self) = false)
    (hcopy : s.ownCopy x c = (t, none)) :
    exec (.collectiveComplete x cid) s = .next
      (let q := t.vatSettled x c
       if bit c.desc.flags 2 then q.signal (0x50 + x.val) false c.desc.doneDie c.desc.doneSem 1 else q) := by
  change execCollectiveComplete x cid s = _
  simp only [execCollectiveComplete, hc]
  rw [if_neg (by simpa [hopen, hin, hout] using hfree), hcopy]
  rfl

end

/-! ### Timeouts -/

/-- A collective without progress for VAT_PROG_TO is a fault (R360). -/
theorem execVatProgressTimeout_faults {c : Coll}
    (hc : (s.vat x).active.find? (fun c => decide (s.rg .VAT_PROG_TO (0x50 + x.val) 0 0 ≤ c.progLt)) = some c) :
    exec (.vatProgressTimeout x) s = .next (s.vatFault x 0x06 c.desc.cid 0) := by
  change execVatProgressTimeout x s = _
  simp only [execVatProgressTimeout, hc]

/-- The wait for the head's trigger ends in a fault after VETCH_SEM_TO (R360). -/
theorem execVatTriggerTimeout_faults {w : SemWait} {d : VatDesc} {rest : List VatDesc}
    (hw : s.semWaits.find? (fun w => w.die == 0x50 + x.val && w.who == Waiter.vat) = some w) (hq : (s.vat x).queue = d :: rest)
    (hon : s.rg .VETCH_SEM_TO (0x50 + x.val) 0 0 ≠ 0) (hlt : s.rg .VETCH_SEM_TO (0x50 + x.val) 0 0 ≤ w.lt) :
    exec (.vatTriggerTimeout x) s = .next (s.vatFault x 0x0A d.cid 0) := by
  change execVatTriggerTimeout x s = _
  simp only [execVatTriggerTimeout, hw, hq]
  exact if_pos ⟨hon, hlt⟩

end

end Sys2Proof.Machine

namespace Sys2Proof.Proofs

open Sys2Proof.Machine

/-- Settles O42: a submission that passes its checks is queued (`State.vatSubmitWrite_queues`); every other clause is the rule of
its row. -/
theorem collectivesBeginAndEnd : Obligations.CollectivesBeginAndEnd := by
  intro s x dx v
  refine ⟨fun w val bs nodes ls => ?submit, fun d rest spill need => execCollectiveStart_begins,
    fun cid c hc hopen => ⟨fun k => execChunkReduce_adds hc hopen, fun t => execCollectiveComplete_ends hc hopen⟩,
    fun c => execVatProgressTimeout_faults, fun w d rest => execVatTriggerTimeout_faults⟩
  case submit =>
    intro a d p mtab hreach hok hroom halign hplace hread hfields hhome htab hlist htable hls hown honce hplaces t
    have hx : Fin.ofNat 4 (0x50 + x.val - 0x50) = x := by simp
    refine congrArg Host.Outcome.next (State.writeReg_done hreach (congrArg wans ?_))
    rw [hx]
    exact State.vatSubmitWrite_queues
      ⟨⟨hok, hroom, halign, hplace, hread⟩, ⟨hfields, hhome⟩, ⟨htab, hlist, htable, hls⟩, hown, honce, hplaces⟩

end Sys2Proof.Proofs

/-!
SUPPORT. What a collective's flit meets at its Vat (R347, R353, R356 to R360).
-/

namespace Sys2Proof.Machine

/-- A flit that its port takes for this module: next in sequence on a port that is UP, of an admitted source that is no fenced
twin, and addressed to this module (R332, R338, R339, R388). -/
def State.TakesFlit (s : State) (r : Rx) : Prop :=
  s.portState r.port.val = 2 ∧ r.seq.toNat = (s.port r.port.val).rxSeq ∧ s.admitted r.src.toNat = true ∧
    s.fenced r.src.toNat = false ∧ r.dst.toNat = s.node

/-- The state at which a collective's flit has its own effect: acknowledged and accepted (R330, R332). -/
def State.collAccepted (s : State) (r : Rx) : State :=
  (s.flitsAcked r.port.val (r.ack.map BitVec.toNat)).acceptFlit r.port.val 2

/-- The place among the members of the node that a flit comes from, if it is another member. -/
def Coll.sender (c : Coll) (r : Rx) : Option Nat := c.others.find? fun i => nth 0x100 c.desc.nodes i == r.src.toNat

section

variable {s : State} {r : Rx} (h : s.TakesFlit r) {cid : BitVec 12}
include h

/-- Of a CID that is not active, or from no other member, it is dropped and counted (R360). -/
theorem State.collFlit_lost
    (hlost : s.coll (Fin.ofNat 4 (cid.toNat / 1024)) cid.toNat = none ∨
      ∃ c, s.coll (Fin.ofNat 4 (cid.toNat / 1024)) cid.toNat = some c ∧ c.sender r = none)
    {typ : Nat} (hv : vcOf typ = 2) (addr : Nat) (bs : List Nat) (f : Fin 4 → Coll → Nat → State → State) :
    s.collFlit r typ cid addr bs f = (s.collAccepted r).bumpPort .SL_ROUTE_DROP r.port.val 1 := by
  obtain ⟨hup, hseq, hadm, hfen, hdst⟩ := h
  rw [s.collFlit_delivers r typ cid addr bs f hv hup hseq hadm hfen hdst]
  obtain hnone | ⟨c, hc, hi⟩ := hlost
  · have hnone : s.coll (cid.toNat / 1024 % 4) cid.toNat = none := hnone
    rw [hnone]
    rfl
  · have hc : s.coll (cid.toNat / 1024 % 4) cid.toNat = some c := hc
    rw [hc]
    dsimp only
    rw [show (c.others.find? fun i => nth 0x100 c.desc.nodes i == r.src.toNat) = none from hi]
    rfl

/-- Else it comes to its collective (R347). -/
theorem State.collFlit_taken {c : Coll} {i : Nat} (hc : s.coll (Fin.ofNat 4 (cid.toNat / 1024)) cid.toNat = some c)
    (hi : c.sender r = some i) {typ : Nat} (hv : vcOf typ = 2) (addr : Nat) (bs : List Nat)
    (f : Fin 4 → Coll → Nat → State → State) :
    s.collFlit r typ cid addr bs f = f (Fin.ofNat 4 (cid.toNat / 1024)) c i (s.collAccepted r) := by
  obtain ⟨hup, hseq, hadm, hfen, hdst⟩ := h
  have hc : s.coll (cid.toNat / 1024 % 4) cid.toNat = some c := hc
  rw [s.collFlit_delivers r typ cid addr bs f hv hup hseq hadm hfen hdst, hc]
  dsimp only
  rw [show (c.others.find? fun i => nth 0x100 c.desc.nodes i == r.src.toNat) = some i from hi]
  rfl

end

/-! ### What the chunks of a stream have come to -/

/-- The test for a chunk of the stream to member `i` that has been credited (R353). -/
theorem Coll.credited_iff (c : Coll) (i k : Nat) :
    (c.tx.any fun t => t.dst == i && t.chunk == k) = true ↔ ∃ t ∈ c.tx, t.dst = i ∧ t.chunk = k := by
  simp

/-- The test for one that has been sent and not confirmed (R359). -/
theorem Coll.owed_iff (c : Coll) (i k : Nat) :
    (c.tx.any fun t => t.dst == i && t.chunk == k && t.sent && !t.confirmed) = true ↔
      ∃ t ∈ c.tx, t.dst = i ∧ t.chunk = k ∧ t.sent = true ∧ t.confirmed = false := by
  simp [and_assoc]

end Sys2Proof.Machine

namespace Sys2Proof.Proofs

open Sys2Proof.Machine

/-- Settles O43: a flit that is taken is dropped or comes to its collective (`State.collFlit_lost`, `State.collFlit_taken`), whose
rule for it then goes by the clause's condition. -/
theorem collectiveFlits : Obligations.CollectiveFlits := by
  intro s r cid k j data crc n b final hup hseq hadm hfen hdst
  have h : s.TakesFlit r := ⟨hup, hseq, hadm, hfen, hdst⟩
  intro z x lost sender
  refine ⟨fun hlost => ?lost, fun c i hc hi => ?taken⟩
  case lost =>
    have hdrop {typ : Nat} (hv : vcOf typ = 2) (addr : Nat) (bs : List Nat) (f : Fin 4 → Coll → Nat → State → State) :
        Host.Outcome.next (s.collFlit r typ cid addr bs f) = lost :=
      congrArg Host.Outcome.next (State.collFlit_lost h hlost hv addr bs f)
    exact ⟨hdrop rfl _ _ _, hdrop rfl _ _ _, hdrop rfl _ _ _, hdrop rfl _ _ _, hdrop rfl _ _ _⟩
  case taken =>
    intro agrees credited e bs good
    have htake {typ : Nat} (hv : vcOf typ = 2) {addr : Nat} {bs : List Nat} {f : Fin 4 → Coll → Nat → State → State}
        {t : State} (ht : f x c i z = t) :
        (Host.Outcome.next (s.collFlit r typ cid addr bs f) : Host.Outcome State Fault Refusal) = .next t :=
      congrArg Host.Outcome.next ((State.collFlit_taken h hc hi hv addr bs f).trans ht)
    have hdiffer : (b.inst.toNat ≠ c.inst ∨ b.op.toNat ≠ c.desc.op ∨ b.fmt.toNat ≠ c.desc.fmt ∨
        b.ofmt.toNat ≠ c.desc.ofmt ∨ b.flags.toNat ≠ c.desc.flags ∨ b.p.toNat ≠ c.desc.p ∨
        (c.desc.op = 1 ∧ b.n.toNat ≠ c.desc.count)) ↔ ¬ agrees := by
      simp only [agrees, not_and_or, Classical.not_imp]
    refine ⟨fun hag => ?agrees, fun hno => ?disagrees, fun hold => ?oldCredit, fun hnew hk => ?newCredit, ?confirmed,
      fun hok => ⟨?dataTwice, ?endTwice⟩, fun hopen => ⟨?data, fun hgood => ?completes, fun hbad htries => ?faults,
        fun hbad htries => ?asksAgain⟩, fun howed => ?resends, fun hnone => ?nothingOwed⟩
    case agrees => exact htake rfl (if_neg fun hd => hdiffer.1 hd hag)
    case disagrees => exact htake rfl (if_pos (hdiffer.2 hno))
    case oldCredit => exact htake rfl ((if_neg Bool.false_ne_true).trans (if_pos (hold.imp_left (c.credited_iff i _).2)))
    case newCredit =>
      have hgo := not_or.2 ⟨fun ha => hnew ((c.credited_iff i _).1 ha), Nat.not_le.2 hk⟩
      exact htake rfl ((if_neg Bool.false_ne_true).trans (if_neg hgo))
    case confirmed => exact htake rfl (if_pos rfl)
    case dataTwice => exact htake rfl (if_pos hok)
    case endTwice => exact htake rfl (if_pos hok)
    case data => exact htake rfl (if_neg (ne_true_of_eq_false hopen))
    case completes => exact htake rfl ((if_neg (ne_true_of_eq_false hopen)).trans (if_pos hgood))
    case faults =>
      exact htake rfl ((if_neg (ne_true_of_eq_false hopen)).trans ((if_neg hbad).trans (if_pos htries)))
    case asksAgain =>
      exact htake rfl ((if_neg (ne_true_of_eq_false hopen)).trans ((if_neg hbad).trans (if_neg htries)))
    case resends => exact htake rfl (if_pos ((c.owed_iff i _).2 howed))
    case nothingOwed => exact htake rfl (if_neg fun ha => hnone ((c.owed_iff i _).1 ha))

end Sys2Proof.Proofs
